-- ==== Sys2Proof/Word.lean ====
section
/-!
DEFINITION. The word types: all registers and engine registers are 32 bits (14, Register conventions; R128), memories are
bytes.
-/
namespace Sys2Proof

/-- A register or an engine register. -/
abbrev Word := BitVec 32
/-- One byte of a memory window. -/
abbrev Byte := BitVec 8

end Sys2Proof
end

