-- ==== Sys2Proof/Syntax.lean ====
section
/-!
DEFINITION. The commands of the block and the types of their operands.
-/
namespace Sys2Proof

/-- An operand of an engine instruction: a general register, or the literal word that follows the instruction (R128). -/
inductive Src where
  | reg (r : Fin 32)
  | lit (w : BitVec 32)
  deriving DecidableEq, Repr

namespace Machine

/-- A chain frame: header words and payload words (R406). -/
structure ChainFrame where
  w0 : Word
  w1 : Word
  w2 : Word
  payload : List Word
  deriving DecidableEq, Repr

end Machine


/-- The commands of the block: one constructor per row of the table of operations (spec/opcode_table.json).
`t` is the instant of the command in taps since the timebase epoch E (log entry 1). -/
inductive Instr where
  /-- R424: A write to a register field that has no behaviour of its own sets the value or shadow, or is discarded under the access-code and LOCK rules. -/
  | registerWrite (a : BitVec 20) (port : Fin 24) (w : Word) (t : Nat)
  /-- R425: A write of 1s to IRQ_CLR clears the named IRQ_RAW bits, unless an event of the same bit lands in the same handshake. -/
  | irqClr (p : Fin 256) (w ev : Word) (t : Nat)
  /-- R427: A write to LOCK arms, opens or closes a page's lock; on SAFE, closing it is a start and needs SAFE_PERMIT to open. -/
  | lockWrite (p : Fin 256) (port : Fin 24) (w : Word) (t : Nat)
  /-- R138: A read of SLACK_MIN returns the smallest slack since the last read and restarts the minimum. -/
  | slackMinRead (n : Fin 15) (t : Nat)
  /-- R281: A read of PORT_STAT returns WAIT_MAX and restarts the maximum for that port. -/
  | waitMaxRead (b : Fin 16) (k : Fin 24) (t : Nat)
  /-- R400: A read of NT_LO returns the low word of network time and captures NT_HI. -/
  | ntLoRead (t : Nat)
  /-- R335: A read of a ledger counter low word captures its high word from the same instant. -/
  | ledgerCounterRead (k : Fin 6) (t : Nat)
  /-- R49: A write to GFM.COMMIT checks the shadow set and latches it for the next triad tick. -/
  | gfmCommit (t : Nat)
  /-- R54: A write of CTRL.SNAP copies the latest voted sample's values into the OBS, SET and SAMPLE_NO registers at once. -/
  | gfmSnap (t : Nat)
  /-- R61: At each triad tick every triad holder runs one sample: sequencer, profile generator, forming law and ride-through tests. -/
  | triadTick (ups : List (Fin 3 × Fin 32 × Word)) (t : Nat)
  /-- R44: An input held beyond HOLD_MAX samples starts the controlled shutdown of the formed output. -/
  | holdExpired (t : Nat)
  /-- R45: The eighth consecutive non-finite sample starts the controlled shutdown. -/
  | nonfiniteLimit (t : Nat)
  /-- R44: At the end of the 20 ms reference ramp of a controlled shutdown all legs go off and TRANSIT enters IDLE. -/
  | shutdownRampEnd (t : Nat)
  /-- R65: A write to PROFILE.COMMIT checks and latches the targets, limits and following-error settings for the next triad tick. -/
  | profileCommit (t : Nat)
  /-- R69: A following-error timer reaches FE_CYC, sets FE_P_EXPIRED or FE_V_EXPIRED and, with FE_ACTION, starts the controlled shutdown. -/
  | feExpired (t : Nat)
  /-- R100: A write to TRANSIT.COMMIT checks and latches the TRANSIT RWS set for the next triad tick. -/
  | transitCommit (t : Nat)
  /-- R77: TRANSIT command BLACK_START latches; when presented in IDLE the unit checks the dead bus, closes the contactor and energises. -/
  | blackStart (t : Nat)
  /-- R78: TRANSIT command ARM_START latches a phase-aligned start at T_START with angle THETA0. -/
  | armStart (t : Nat)
  /-- R80: TRANSIT command ATTACH latches; when presented the unit measures the live far side, starts the law on it and synchronises across OUT_BRK. -/
  | attach (t : Nat)
  /-- R73: TRANSIT command RECONNECT latches; when presented in ISLAND the unit synchronises across PCC_BRK. -/
  | reconnect (t : Nat)
  /-- R85: TRANSIT command ISLAND latches; when presented in GRID the unit releases PCC_BRK and enters OPEN_PCC. -/
  | island (t : Nat)
  /-- R73: TRANSIT command STOP latches; when presented the unit enters STOPPING, or IDLE at once if the law is not running. -/
  | stop (t : Nat)
  /-- R73: TRANSIT command ABORT_SYNC latches; when presented in SYNC the unit returns to ISLAND or goes to STOPPING. -/
  | abortSync (t : Nat)
  /-- R77: The bus stays dead for DEAD_MS in DEADBUS; OUT_BRK is asserted and the sequencer enters CLOSE_OUT. -/
  | deadMsExpired (t : Nat)
  /-- R74: Breaker feedback does not reach the commanded position within FB_MS; the close command is released and BRK_FAIL set. -/
  | brkFbTimeout (t : Nat)
  /-- R78: The first triad tick at or after T_START takes an armed unit into ENERGISE with the extrapolated THETA0. -/
  | startInstant (t : Nat)
  /-- R79: The lead unit of a trigger-wire fallback reaches its wire instant and drives the trigger wire low. -/
  | leadWireInstant (t : Nat)
  /-- R80: The far-side measurement settles 100 ms after it begins; the dead-far-side test runs and ATTACH starts the law. -/
  | farSideSettled (t : Nat)
  /-- R82: The dwell counter reaches DWELL with the close conditions met; the breaker is commanded closed and CLOSE_BRK entered. -/
  | syncClose (t : Nat)
  /-- R83: SYNC, or a sequential live-bus wait, lasts TIMEOUT_S without a close and ends with cause 0x08. -/
  | syncTimeout (t : Nat)
  /-- R90: I_SAT_P set in SAT_N consecutive samples decides ride-through entry by saturation. -/
  | rtSatCount (t : Nat)
  /-- R93: Ride-through time exceeds TMAX_MS and trips the unit with cause 0x0E. -/
  | rtTmaxExpired (t : Nat)
  /-- R94: EXIT_N consecutive samples within the exit band decide exit; RECOVER reloads the power filters and channel P. -/
  | rtExit (t : Nat)
  /-- R102: A write to FRT.COMMIT checks the ride-through settings and curves and latches them for the next triad tick. -/
  | frtCommit (t : Nat)
  /-- R106: At the triad commit deadline the voter compares the counted records, writes the voted record and renews leases. -/
  | voterStep (done : List (Fin 3 × Nat)) (t : Nat)
  /-- R115: The ninth consecutive no-majority sample starts the controlled shutdown with the held record scaled to zero. -/
  | holdShutdown (t : Nat)
  /-- R108: A position lease reaches its expiry sample and the holder stops being counted. -/
  | leaseExpiry (k : Fin 3) (t : Nat)
  /-- R111: A candidate finishes loading the triad program and its checkpoint-ring copy. -/
  | spareLoadDone (k : Fin 3) (t : Nat)
  /-- R116: An engine completes a self-test pass; PASS_RUN increments, or returns to zero on failure. -/
  | selftestPassDone (n : Fin 15) (fail : Option (Fin 4)) (t : Nat)
  /-- R117: The recovering home member reaches 64 passes and the voter stops renewing the spare so the home member regains its position. -/
  | failback (k : Fin 3) (t : Nat)
  /-- R124: A write of VOTER.CTRL.TEST starts the voter comparator test while the law is not running. -/
  | voterTest (t : Nat)
  /-- R124: The voter comparator test completes and TEST_PASS reports the result. -/
  | voterTestDone (pass : Bool) (t : Nat)
  /-- R124: A write of VOTER.CTRL.CLR_CNT zeroes the DISAGREE counts. -/
  | voterClrCnt (t : Nat)
  /-- R121: An error-free role frame from another unit resets the silence count and abandons a pending claim. -/
  | roleFrameRx (pc : Bool) (addr : BitVec 20) (rank : Option (Fin 16)) (reclaim : Bool) (t : Nat)
  /-- R121: The holder's role frame is sent without error and its role lease is renewed. -/
  | roleFrameTx (pc : Bool) (t : Nat)
  /-- R121: An eligible unit of rank r sees no role frame for 5 + r cycles and sends its claim. -/
  | roleClaim (pc : Bool) (t : Nat)
  /-- R121: A role lease reaches the end of cycle c + 3 and the holder stops acting in the role. -/
  | roleLeaseExpiry (pc : Bool) (t : Nat)
  /-- R122: A lower-ranked eligible unit sends a reclaim frame after 64 cycles and the holder falls silent. -/
  | roleReclaim (pc : Bool) (t : Nat)
  /-- R129: A control engine's tick writes the tick descriptor and starts a sample at address 0 with cleared registers. -/
  | engineTick (n : Fin 12) (t : Nat)
  /-- R131: At the commit deadline a complete sample commits its state window, mailbox and leg writes. -/
  | sampleDeadline (n : Fin 12) (arrival : Option Nat) (t : Nat)
  /-- R133: The third consecutive miss forces all legs of the engine off. -/
  | missOff (n : Fin 12) (t : Nat)
  /-- R134: A write of CTRL.LEG_RESUME, if CLEAN_RUN is at least 64, reloads the state window at the next tick and releases the legs. -/
  | legResume (n : Fin 12) (t : Nat)
  /-- R151: A write of CTRL.RUN = 1 while OFF starts the engine at its next tick, or is refused. -/
  | engineRun (n : Fin 12) (t : Nat)
  /-- R151: A write of CTRL.RUN = 0 stops the engine as a cut and forces its legs off. -/
  | engineStop (n : Fin 12) (t : Nat)
  /-- R153: A write of CTRL.RESTART, or an engine fault with AUTO_RESTART, restarts the engine. -/
  | restart (n : Fin 15) (t : Nat)
  /-- R153: The engine restart completes and the engine waits for its next tick with FIRST set. -/
  | restartDone (n : Fin 15) (t : Nat)
  /-- R143: A write to CEnn.COMMIT latches the inactive inbound mailbox half for a flip at the next sample tick. -/
  | ceCommit (n : Fin 12) (t : Nat)
  /-- R148: The vendor leg program holds an input beyond HOLD_MAX and faults the leg's group. -/
  | legHoldExpired (n : Fin 12) (k : Fin 8) (t : Nat)
  /-- R148: Eight consecutive non-finite duties for a leg make the vendor leg program fault its group. -/
  | legNonfiniteLimit (n : Fin 12) (k : Fin 8) (t : Nat)
  /-- R159: MP receives a housekeeping tick every HK_PERIOD µs. -/
  | hkTick (t : Nat)
  /-- R159: A write of HK_DONE ends MP's housekeeping round. -/
  | hkDone (t : Nat)
  /-- R159: Three consecutive overruns set MP_OVERLOAD and shedding level 1. -/
  | mpOverloadSet (t : Nat)
  /-- R159: 64 ticks without overrun clear MP_OVERLOAD and shedding returns to 0. -/
  | mpOverloadClear (t : Nat)
  /-- R275: Three more consecutive overruns raise the shedding level by one. -/
  | shedLevelUp (t : Nat)
  /-- R136: Engine instruction ADD. -/
  | add (n : Fin 15) (rd : Fin 32) (a b : Src)
  /-- R136: Engine instruction SUB. -/
  | sub (n : Fin 15) (rd : Fin 32) (a b : Src)
  /-- R136: Engine instruction AND. -/
  | and (n : Fin 15) (rd : Fin 32) (a b : Src)
  /-- R136: Engine instruction OR. -/
  | or (n : Fin 15) (rd : Fin 32) (a b : Src)
  /-- R136: Engine instruction XOR. -/
  | xor (n : Fin 15) (rd : Fin 32) (a b : Src)
  /-- R136: Engine instruction SHL, shift left. -/
  | shl (n : Fin 15) (rd : Fin 32) (a b : Src)
  /-- R136: Engine instruction SHR, logical shift right. -/
  | shr (n : Fin 15) (rd : Fin 32) (a b : Src)
  /-- R136: Engine instruction SAR, arithmetic shift right. -/
  | sar (n : Fin 15) (rd : Fin 32) (a b : Src)
  /-- R136: Engine instruction CMP, integer compare. -/
  | cmp (n : Fin 15) (rd : Fin 32) (a b : Src)
  /-- R136: Engine instruction SEL, select. -/
  | sel (n : Fin 15) (rd : Fin 32) (c a b : Src)
  /-- R136: Engine instruction MUL, low 32 bits of the product. -/
  | mul (n : Fin 15) (rd : Fin 32) (a b : Src)
  /-- R136: Engine instruction MULH, high 32 bits of the product. -/
  | mulh (n : Fin 15) (rd : Fin 32) (a b : Src)
  /-- R139: Engine instruction FMIN under the deterministic rules. -/
  | fmin (n : Fin 15) (rd : Fin 32) (a b : Src)
  /-- R139: Engine instruction FMAX under the deterministic rules. -/
  | fmax (n : Fin 15) (rd : Fin 32) (a b : Src)
  /-- R136: Engine instruction FABS. -/
  | fabs (n : Fin 15) (rd : Fin 32) (a : Src)
  /-- R136: Engine instruction FNEG. -/
  | fneg (n : Fin 15) (rd : Fin 32) (a : Src)
  /-- R139: Engine instruction FCLAMP under the deterministic rules. -/
  | fclamp (n : Fin 15) (rd : Fin 32) (a lo hi : Src)
  /-- R139: Engine instruction FCMP; NaN operands compare unordered. -/
  | fcmp (n : Fin 15) (rd : Fin 32) (a b : Src)
  /-- R139: Engine instruction FADD, correctly rounded binary32 addition. -/
  | fadd (n : Fin 15) (rd : Fin 32) (a b : Src)
  /-- R139: Engine instruction FSUB, correctly rounded binary32 subtraction. -/
  | fsub (n : Fin 15) (rd : Fin 32) (a b : Src)
  /-- R139: Engine instruction FMUL, correctly rounded binary32 multiplication. -/
  | fmul (n : Fin 15) (rd : Fin 32) (a b : Src)
  /-- R139: Engine instruction FMA with a single rounding. -/
  | fma (n : Fin 15) (rd : Fin 32) (a b c : Src)
  /-- R139: Engine instruction FCVT, saturating conversion between float and integer. -/
  | fcvt (n : Fin 15) (toInt : Bool) (rd : Fin 32) (a : Src)
  /-- R139: Engine instruction FDIV, correctly rounded division. -/
  | fdiv (n : Fin 15) (rd : Fin 32) (a b : Src)
  /-- R139: Engine instruction FSQRT, correctly rounded square root. -/
  | fsqrt (n : Fin 15) (rd : Fin 32) (a : Src)
  /-- R140: Engine instruction SINCOS returns the table-interpolated sine and cosine of a turn fraction. -/
  | sincos (n : Fin 15) (rs rc : Fin 32) (a : Src)
  /-- R136: Engine instruction LD, load from local memory. -/
  | ld (n : Fin 15) (prog : Bool) (rd : Fin 32) (addr : Src)
  /-- R136: Engine instruction ST, store to local memory. -/
  | st (n : Fin 15) (prog : Bool) (addr value : Src)
  /-- R136: Engine instruction CRD issues a one-word Canvas read; a use of the result stalls until it arrives. -/
  | crd (n : Fin 15) (rd : Fin 32) (addr : Src)
  /-- R136: Engine instruction CBR issues a block read of up to 64 bytes into data memory. -/
  | cbr (n : Fin 15) (dst addr : Src) (len : Fin 65)
  /-- R136: Engine instruction CWR posts a Canvas word write. -/
  | cwr (n : Fin 15) (addr value : Src)
  /-- R136: Engine instruction CBW posts a Canvas block write. -/
  | cbw (n : Fin 15) (addr frm : Src) (len : Fin 65)
  /-- R176: Engine instruction LWR stages a write to a leg's DUTY_FRAC, DUTY, PERIOD or PHASE shadow. -/
  | lwr (n : Fin 15) (target value : Fin 32)
  /-- R136: Engine instruction BR, unconditional branch. -/
  | br (n : Fin 15) (target : Src)
  /-- R136: Engine instruction BRZ, branch if zero. -/
  | brz (n : Fin 15) (c target : Src)
  /-- R136: Engine instruction BRNZ, branch if not zero. -/
  | brnz (n : Fin 15) (c target : Src)
  /-- R136: Engine instruction CALL pushes the return stack. -/
  | call (n : Fin 15) (target : Src)
  /-- R136: Engine instruction RET pops the return stack. -/
  | ret (n : Fin 15)
  /-- R130: Engine instruction DONE waits for posted writes to be acknowledged and signals sample completion. -/
  | done (n : Fin 15) (arrival t : Nat)
  /-- R141: Engine instruction TICKSTAMP reads the present timebase stamp; it faults in a triad position. -/
  | tickstamp (n : Fin 15) (rd : Fin 32) (t : Nat)
  /-- R141: Engine instruction CPOLL makes a non-blocking Canvas read; it faults in a triad position. -/
  | cpoll (n : Fin 15) (rd : Fin 32) (addr : Src) (t : Nat)
  /-- R174: A write to LEGnn.COMMIT latches PERIOD, DUTY and PHASE together for the next update boundary. -/
  | legCommit (n : Fin 48) (port : Fin 24) (t : Nat)
  /-- R175: A write to DUTY sets the shadow and, in auto mode, latches the set. -/
  | dutyWrite (n : Fin 48) (port : Fin 24) (w : Word) (t : Nat)
  /-- R177: A write to DUTY_FRAC converts the binary32 fraction against the period shadow and, in auto mode, latches. -/
  | dutyFracWrite (n : Fin 48) (port : Fin 24) (w : Word) (t : Nat)
  /-- R172: At a period start or peak a latched leg set applies whole, or a transitional period begins. -/
  | updateBoundary (n : Fin 48) (t : Nat)
  /-- R181: The switching function rises; the low side turns off and the high-side turn-on is scheduled after DT_LH. -/
  | switchRise (n : Fin 48) (t : Nat)
  /-- R181: The switching function falls; the high side turns off and the low-side turn-on is scheduled after DT_HL. -/
  | switchFall (n : Fin 48) (t : Nat)
  /-- R202: A dead time ends and the scheduled turn-on is placed, or waits for the opposite feedback to read off. -/
  | deadTimeEnd (n : Fin 48) (t : Nat)
  /-- R183: A write of CTRL.FORCE = 0b01 turns both switches off within 2 ticks. -/
  | forceOff (n : Fin 48) (t : Nat)
  /-- R183: A write of CTRL.FORCE = 0b10 turns the high side off and holds the low side on. -/
  | forceLow (n : Fin 48) (t : Nat)
  /-- R183: A write of CTRL.FORCE = 0b00 releases the override from the next period start. -/
  | forceRelease (n : Fin 48) (t : Nat)
  /-- R184: A write of CTRL.INVERT exchanges s and its complement from the next period start. -/
  | legInvert (n : Fin 48) (on : Bool) (t : Nat)
  /-- R191: A write of CTRL.EN = 1 keeps the leg off until its first period start at least 100 ns later. -/
  | legEnable (n : Fin 48) (t : Nat)
  /-- R191: A write of CTRL.EN = 0 turns both switches off within 2 ticks. -/
  | legDisable (n : Fin 48) (t : Nat)
  /-- R187: The high side has been on for INTERVAL_US and a bootstrap refresh sequence is inserted. -/
  | refresh (n : Fin 48) (t : Nat)
  /-- R189: With refresh disabled, a high side on for INTERVAL_US turns both switches off and trips the leg with cause 0x16. -/
  | bootUvFullDuty (n : Fin 48) (t : Nat)
  /-- R168: A write of PWMTB.CTRL.CAL starts a full delay-line calibration. -/
  | cal (t : Nat)
  /-- R168: A full calibration completes; TAPS_VALID sets, or CAL_ERR is reported. -/
  | calDone (us : Fin 401) (code : Fin 64) (err : Option (Fin 3 × Fin 128)) (t : Nat)
  /-- R178: A write of ASSIGN0 or ASSIGN1 changes a group's legs, or is refused whole. -/
  | assignWrite (g : Fin 4) (half : Fin 2) (w : Word) (t : Nat)
  /-- R179: A write to GROUP.COMMIT latches GPERIOD and BASE_PHASE for the counted legs. -/
  | groupCommit (g : Fin 4) (t : Nat)
  /-- R179: The latched group set becomes active when the last counted leg has taken it, or 40 ticks after the latch when none is counted. -/
  | groupSetActive (g : Fin 4) (t : Nat)
  /-- R192: Chain command DEBUG_HALT, if DBG_EN = 1, freezes legs and engines. -/
  | debugHalt (f : Machine.ChainFrame) (fromUp : Bool) (arrived ready t : Nat)
  /-- R194: Chain command DEBUG_RESUME leaves debug halt; legs turn off and resume at a period start. -/
  | debugResume (f : Machine.ChainFrame) (fromUp : Bool) (arrived ready t : Nat)
  /-- R432: A write of SYS.DBG_CTRL.HALT = 1 enters debug halt, or is refused with cause 0x3. -/
  | dbgCtrlHalt (t : Nat)
  /-- R432: A write of SYS.DBG_CTRL.HALT = 0 leaves debug halt. -/
  | dbgCtrlResume (t : Nat)
  /-- R201: A gate-state input's filter accepts a new level. -/
  | gsLevelAccepted (n : Fin 48) (hsPin level : Bool) (since t : Nat)
  /-- R203: A switch's feedback still reads on at its off-report deadline and the leg trips with cause 0x13. -/
  | gsOffDeadline (n : Fin 48) (high : Bool) (t : Nat)
  /-- R209: The SC_HI comparator becomes active and trips the leg with cause 0x12. -/
  | scHiActive (n : Fin 48) (v : Int) (t : Nat)
  /-- R208: SC_LO becomes active after blanking; layer 1 ends the on-interval, or the leg trips with cause 0x11. -/
  | scLoActive (n : Fin 48) (v : Int) (t : Nat)
  /-- R208: A blanking window ends and SC_LO is sampled; if active the leg trips with cause 0x10. -/
  | blankingEnd (n : Fin 48) (t : Nat)
  /-- R228: A write of LEG CTRL.TRIP is a software trip of the leg with cause 0x1A. -/
  | trip (n : Fin 48) (t : Nat)
  /-- R214: A write of LEG CTRL.TRIP_CLR clears the latch if every recorded source has been quiet for TRIP_QUIET. -/
  | tripClr (n : Fin 48) (t : Nat)
  /-- R218: A write of group CTRL.GFAULT trips the group with cause 0x12. -/
  | gfault (g : Fin 4) (port : Fin 24) (t : Nat)
  /-- R218: A write of group CTRL.TRIP trips the group with cause 0x13. -/
  | groupTrip (g : Fin 4) (t : Nat)
  /-- R220: A write of group CTRL.TRIP_CLR clears the group latch if its sources are quiet. -/
  | groupTripClr (g : Fin 4) (t : Nat)
  /-- R219: A write of SYS.DEV_TRIP.TRIP trips the device with cause 0x5. -/
  | devTrip (t : Nat)
  /-- R220: A write of SYS.DEV_TRIP.CLEAR clears the device latch if its sources are quiet. -/
  | devTripClear (t : Nat)
  /-- R221: A write of RPS_CTRL.ARM = 1 arms the reverse-polarity switch and clears REVERSE. -/
  | rpsArm (t : Nat)
  /-- R221: A write of RPS_CTRL.ARM = 0 releases RPS_CMD. -/
  | rpsDisarm (t : Nat)
  /-- R221: The polarity input stays valid and above RPS_VMIN for DWELL_MS and RPS_CMD is asserted. -/
  | rpsDwellDone (t : Nat)
  /-- R222: The filtered RPS feedback differs from the command for longer than FB_MS and the command is released. -/
  | rpsFbFail (level : Bool) (since t : Nat)
  /-- R224: A write of BRK_CMD sets the unowned breaker commands; a change to an owned bit is discarded. -/
  | brkCmdWrite (w : Word) (t : Nat)
  /-- R223: A breaker feedback accepts a new level after FILT_MS of stable level. -/
  | brkFbChange (k : Fin 8) (level : Bool) (since t : Nat)
  /-- R225: A breaker feedback differs from its command for longer than TO_10MS and sets MISMATCH and BRK_FB_FAIL. -/
  | brkMismatch (k : Fin 8) (t : Nat)
  /-- R234: A sigma-delta chain completes a final sample at its instant, with flags, and writes a frame at written instants. -/
  | finalSample (i : Fin 64) (bits : List Bool) (t : Nat)
  /-- R245: After N settling samples the first valid sample completes and SETTLED is set. -/
  | settled (i : Fin 64) (t : Nat)
  /-- R239: STUCK_LEN equal bits mark the input stuck and every sample invalid. -/
  | stuckDetected (i : Fin 64) (bits : List Bool) (t : Nat)
  /-- R242: A write to SDFj.COMMIT checks all eight shadow sets and latches them for each input's next synchronising reset. -/
  | sdfCommit (j : Fin 8) (t : Nat)
  /-- R244: A write of SDF CTRL.SYNC bit i resets input i's chain at the next tick. -/
  | sdfSync (j : Fin 8) (mask : BitVec 8) (t : Nat)
  /-- R244: An accepted write of FSRC sets the source and link and resets the chain. -/
  | fsrcWrite (i : Fin 64) (w : Word) (t : Nat)
  /-- R255: A requester port issues a transaction on a free tag, or stalls until one frees. -/
  | feltRequest (p : Fin 24) (data : Option (List (BitVec 8))) (addr : BitVec 32) (len : Fin 65) (t : Nat)
  /-- R260: A free bank with waiting requests grants by slot table or background ranking and advances its pointer. -/
  | arbiterDecision (b : Fin 16) (t : Nat)
  /-- R256: One granted handshake moves up to 16 bytes and fills or empties a landing register. -/
  | feltHandshake (k : Fin 48) (tokenErr : Bool) (t : Nat)
  /-- R261: A grant uses its BURST units and the arbiter preempts the owner, keeping its progress. -/
  | preempt (b : Fin 16) (t : Nat)
  /-- R267: A handshake not complete 2 µs after its grant is aborted and the transaction follows the port's retry policy. -/
  | hsTimeout (k : Fin 48) (t : Nat)
  /-- R268: A transaction not complete 20 µs after issue is aborted and the transaction follows the port's retry policy. -/
  | txTimeout (t : Nat)
  /-- R265: A write to ARBnn.COMMIT checks and latches the slot table, TABLE_LEN and BURST for the next decision. -/
  | arbCommit (b : Fin 16) (t : Nat)
  /-- R280: A write of ARB CTRL.CLR_CNT zeroes the bank's counters. -/
  | arbClrCnt (b : Fin 16) (t : Nat)
  /-- R277: A write of FELT CTRL.CLR_CNT zeroes the FELT counters and DROPS fields. -/
  | feltClrCnt (t : Nat)
  /-- R287: A write of ACQ CTRL.ARM runs the arm checks and enters FILL or STREAM. -/
  | acqArm (t : Nat)
  /-- R287: A write of ACQ CTRL.STOP enters IDLE; a record in POST completes short. -/
  | acqStop (t : Nat)
  /-- R283: At each capture instant channels are captured, stored at the rate in force and triggers decided. -/
  | captureInstant (buf : Fin 2049) (fails : List (Fin 16)) (t : Nat)
  /-- R287: PRE stored samples have been written since FILL and the record is READY. -/
  | acqReady (t : Nat)
  /-- R287: POST samples after the trigger are written, the header is written and hold-off begins. -/
  | recordDone (t : Nat)
  /-- R290: Hold-off ends by time or trigger count and the record cycle goes to IDLE, FILL or FULL. -/
  | holdoffEnd (t : Nat)
  /-- R291: No trigger within AUTO_MS of READY forces a trigger at the next capture instant. -/
  | autoTrigger (t : Nat)
  /-- R304: A write of SEG_RELEASE frees a full segment, and FULL moves to FILL with it. -/
  | segRelease (seg : Fin 64) (t : Nat)
  /-- R292: A write of TRIG CTRL.SOFT registers a software trigger at the next tick. -/
  | soft (t : Nat)
  /-- R300: A low level held on TRIG_WIRE for FILT + 1 ticks registers a falling-edge trigger. -/
  | wireEdge (since t : Nat)
  /-- R294: PULSE_US after the drive began the wire is released and, with no edge seen, the record is placed at the cause instant. -/
  | wirePulseEnd (t : Nat)
  /-- R301: A trigger frame is sent at the next idle trigger bus, or lost in arbitration. -/
  | tbFrameTx (won : Bool) (t : Nat)
  /-- R302: A received trigger-bus frame is checked and accepted as a trigger, or discarded. -/
  | tbFrameRx (addr : BitVec 20) (type : BitVec 4) (crc : BitVec 8) (lo hi : Word) (t : Nat)
  /-- R305: A block of stored samples with its prefix is pushed upstream in STREAM fragments when credit allows. -/
  | streamBlock (t : Nat)
  /-- R312: An integration window ends and the next begins with the next input or PCS. -/
  | windowBoundary (t : Nat)
  /-- R317: A converter result completes and is written to its Canvas ring and LAST registers. -/
  | pcResult (c : Fin 2) (num : Int) (den : Nat) (t : Nat)
  /-- R315: A write of PC CTRL.RUN = 1 starts conversions at the next window boundary. -/
  | pcRun (c : Fin 2) (t : Nat)
  /-- R315: A write of PC CTRL.RUN = 0 ends the conversion in progress without a result. -/
  | pcStop (c : Fin 2) (t : Nat)
  /-- R324: The metering engine's AC_FEED write is staged and added to the AC counters at its commit. -/
  | acFeed (port : Fin 24) (w : Word) (t : Nat)
  /-- R324: No AC_FEED applied for FEED_TO_MS clears FEED_OK and logs code 0x04. -/
  | feedLost (t : Nat)
  /-- R327: Every PERIOD_S the AC and DC gains are compared against the loss model and band. -/
  | plausPeriodEnd (t : Nat)
  /-- R328: A tamper input accepts a change after 10 ms; its count and CHANGED latch update. -/
  | tamperChange (k : Fin 4) (high : Bool) (since t : Nat)
  /-- R328: A sealed write of CTRL.TAMPER_ACK clears the logged CHANGED bits. -/
  | tamperAck (port : Fin 24) (t : Nat)
  /-- R329: A sealed write of LOG_IN_CODE appends an MP log entry with LOG_IN_DATA. -/
  | logInCode (port : Fin 24) (w : Word) (t : Nat)
  /-- R329: A sealed write of LOG_RELEASE frees log entries below the given sequence number. -/
  | logRelease (port : Fin 24) (w : Word) (t : Nat)
  /-- R323: A sealed write of RESTORE_GO 0 to 5 adds the restore value once to that counter after POR. -/
  | restoreGo (port : Fin 24) (k : Fin 8) (t : Nat)
  /-- R323: A sealed write of RESTORE_GO = 7 sets every DONE bit and closes the restore. -/
  | restoreClose (port : Fin 24) (t : Nat)
  /-- R343: A safety input channel's filter accepts a new level. -/
  | safeInputAccepted (i : Fin 8) (chanB high : Bool) (since ft t : Nat)
  /-- R345: A discrepancy timer reaches DISC_MS before both channels agree and a lock-out with cause 0x1 follows. -/
  | discrepancyFault (i : Fin 8) (ft t : Nat)
  /-- R348: A write of SAFE CTRL.PI_ON turns a pulse-inhibit output on if permitted and enabled. -/
  | piOn (k : Fin 2) (t : Nat)
  /-- R348: A write of SAFE CTRL.PI_OFF turns a pulse-inhibit output off. -/
  | piOff (k : Fin 2) (t : Nat)
  /-- R349: A pulse-inhibit pin differs from its command for 32 filter ticks and a lock-out with cause 0x2 follows. -/
  | piReadbackFault (k : Fin 2) (chanB high : Bool) (ticks t : Nat)
  /-- R351: The timebase has run 100 µs without a gap and the stall monitor arms. -/
  | stallMonitorArmed (since t : Nat)
  /-- R351: An armed monitor sees no timebase edge for 10 µs; legs and outputs go off and a lock-out follows. -/
  | stall (last t : Nat)
  /-- R352: A 320-filter-tick comparison window ends; two deviations beyond 8 % cause a lock-out. -/
  | oscWindow (ticks t : Nat)
  /-- R354: An accepted SAFE_RST pulse clears a lock-out if its length and causes qualify, or is rejected. -/
  | safeRstPulse (len fallAt : Nat) (pinsLow : Bool) (t : Nat)
  /-- R356: An accepted release of SAFE_PERMIT closes the SAFE LOCK at once. -/
  | safePermitRelease (since ft t : Nat)
  /-- R361: A write of PBUS CTRL.ON = 1 starts the controller, which integrates after 11 recessive bits. -/
  | pbOn (t : Nat)
  /-- R358: A write of PBUS CTRL.ON = 0 takes the controller off the bus and raises PB_STBY. -/
  | pbOff (t : Nat)
  /-- R361: The controller sees 11 consecutive recessive bits and joins bus traffic. -/
  | pbSynced (since t : Nat)
  /-- R373: A TX_REQ bit moves a transmit buffer to PENDING and starts its expiry. -/
  | txReq (n : Fin 64) (t : Nat)
  /-- R374: A TX_ABORT bit moves a buffer not ACTIVE to ABORTED, or an ACTIVE one after its attempt. -/
  | txAbort (n : Fin 64) (t : Nat)
  /-- R397: A write of PBUS CTRL.ABORT_ALL aborts all 64 transmit buffers. -/
  | abortAll (t : Nat)
  /-- R376: An RX_RELEASE bit clears FULL of the buffer's active half. -/
  | rxRelease (n : Fin 64) (t : Nat)
  /-- R373: At a start opportunity in an arbitrating window the lowest-identifier fitting buffer is read and started. -/
  | pbStartOpportunity (readFail lost : Bool) (t : Nat)
  /-- R373: A transmission ends without error and the buffer completes, or stays PENDING with REPEAT. -/
  | pbFrameTxDone (loop : BitVec 16) (t : Nat)
  /-- R367: A frame is committed at the end of EOF and routed to a receive buffer or BUS_Q. -/
  | pbFrameRx (typ : Fin 8) (ident : BitVec 29) (seq : BitVec 8) (data : List (BitVec 8)) (crc : BitVec 17) (sof t : Nat)
  /-- R376: At the first instant the active half is not FULL, the written shadow half becomes active and RX_NEW sets. -/
  | rxBufferFlip (n : Fin 64) (t : Nat)
  /-- R367: A detected bus error sends an error flag and updates TEC or REC. -/
  | pbError (code : Fin 4) (rx : Bool) (ack : Option Nat) (t : Nat)
  /-- R380: The 16th consecutive acknowledgement error sets ALONE. -/
  | pbAlone (t : Nat)
  /-- R381: A write of PBUS CTRL.RECOVER while bus-off starts counting recessive sequences for recovery. -/
  | recover (t : Nat)
  /-- R381: The 128th occurrence of 11 recessive bits makes the node error-active with cleared counters. -/
  | busoffRecovered (since t : Nat)
  /-- R374: A buffer reaches EXP_MS without a successful transmission and moves to EXPIRED. -/
  | txExpiry (n : Fin 64) (t : Nat)
  /-- R384: A basic cycle begins at a network-time multiple and selects its matrix row. -/
  | cycleBoundary (idle lost : Bool) (t : Nat)
  /-- R387: An exclusive window starts and its slot buffer is sent once, or TT_MISS is reported. -/
  | exclusiveWindow (idle readFail lost : Bool) (t : Nat)
  /-- R389: A write to PBUS_SCHED.COMMIT checks and latches the column starts and matrix for the next cycle 0. -/
  | pbusSchedCommit (t : Nat)
  /-- R392: A received REF frame is checked and, if accepted, corrects network time and rate. -/
  | refRx (ident : BitVec 29) (seq : BitVec 8) (data : List (BitVec 8)) (crc : BitVec 17) (sof t : Nat)
  /-- R393: LOCK_N consecutive accepted REFs within LOCK_ERR lock network time. -/
  | ntLockGained (t : Nat)
  /-- R394: MISS_N cycles without an accepted REF lose lock and network time enters holdover. -/
  | ntLockLost (t : Nat)
  /-- R394: Three consecutive REFs rejected for a consistent large offset step network time. -/
  | ntStep (t : Nat)
  /-- R391: A write of PBUS_TIME CTRL.MASTER makes the unit the time master and starts REF frames. -/
  | master (on : Bool) (t : Nat)
  /-- R391: A write of PBUS_TIME CTRL.SET on the master applies NT_SET at the next cycle boundary. -/
  | set (t : Nat)
  /-- R403: A chain port receives 256 clean aligned characters and declares its link up. -/
  | linkUp (up : Bool) (chars t : Nat)
  /-- R403: A chain port receives nothing for 100 µs and declares its link lost. -/
  | linkLost (up : Bool) (ka t : Nat)
  /-- R403: A port that has sent nothing for 10 µs sends a keep-alive ordered set. -/
  | keepaliveSend (up : Bool) (t : Nat)
  /-- R404: An ACK ordered set releases frames up to its sequence and returns their credit. -/
  | ack (up : Bool) (seq : Fin 64) (t : Nat)
  /-- R405: A NAK ordered set makes the port retransmit from the named frame; 16 retransmissions lose the link. -/
  | nak (up : Bool) (seq : Fin 64) (t : Nat)
  /-- R402: Four received RATE ordered sets switch the link rate and start retraining. -/
  | rate (up full : Bool) (t : Nat)
  /-- R405: A whole chain frame is received, its header checked, and it is acknowledged or NAKed. -/
  | chainFrameRx (up : Bool) (f : Machine.ChainFrame) (eof : Bool) (bad : List Nat) (t : Nat)
  /-- R409: A received frame leaves towards its destination once credit is available. -/
  | chainFrameForward (up : Bool) (t : Nat)
  /-- R416: A chain READ is executed word by word through port 0x17 and answered with READ_RSP. -/
  | read (f : Machine.ChainFrame) (arrived ready : Nat) (felt : Option Nat) (t : Nat)
  /-- R416: A chain WRITE is executed word by word through port 0x17 and answered with WRITE_RSP. -/
  | write (f : Machine.ChainFrame) (arrived ready : Nat) (felt : Option Nat) (t : Nat)
  /-- R417: A request not begun within its time limit is dropped without a response. -/
  | requestTimeout (f : Machine.ChainFrame) (arrived t : Nat)
  /-- R419: Chain command CHAIN_RESET causes a CHAIN reset within 10 µs. -/
  | chainReset (f : Machine.ChainFrame) (fromUp : Bool) (arrived ready t : Nat)
  /-- R419: Chain command ENGINE_RESET restarts the named engine. -/
  | engineReset (f : Machine.ChainFrame) (fromUp : Bool) (arrived ready t : Nat)
  /-- R299: Chain command ARM arms acquisition on every unit of the chain in the named arming group. -/
  | arm (f : Machine.ChainFrame) (fromUp : Bool) (arrived ready t : Nat)
  /-- R471: Chain command CLEAR_RETRY, with DL_GOOD, ends Muslin mode and boots the downloaded image. -/
  | clearRetry (f : Machine.ChainFrame) (fromUp : Bool) (arrived ready t : Nat)
  /-- R412: A received ENUM gives the unit its position and epoch and is passed on or answered with ENUM_DONE. -/
  | enum (f : Machine.ChainFrame) (t : Nat)
  /-- R412: A returning ENUM_DONE sets LENGTH and, at the originator, may start a second pass or EVENT TOPOLOGY. -/
  | enumDone (f : Machine.ChainFrame) (t : Nat)
  /-- R420: An EVENT frame is forwarded upstream, or sent when its link returns. -/
  | event (f : Machine.ChainFrame) (t : Nat)
  /-- R411: A MAIL frame for this unit is placed in CHAIN_Q, or credit is withheld while it is full. -/
  | mail (f : Machine.ChainFrame) (t : Nat)
  /-- R430: A write of CHAIN CTRL.RE_ENUM sends ENUM downstream with a new epoch. -/
  | reEnum (t : Nat)
  /-- R430: A write of CHAIN CTRL.CLOSE_DN closes the downstream port, or reopens it as R415. -/
  | closeDn (close : Bool) (t : Nat)
  /-- R430: A write of CHAIN CTRL.CLR_CNT zeroes the chain counters. -/
  | chainClrCnt (t : Nat)
  /-- R432: A write of SYS.CMD_OUT sends a broadcast ARM command, or is refused for another code. -/
  | cmdOut (w : Word) (t : Nat)
  /-- R422: A request frame shifted in on the local SPI port is executed and its response shifted out. -/
  | spiRequest (f : Machine.ChainFrame) (felt : Option Nat) (t : Nat)
  /-- R425: The OR of page interrupt requests rises and MP is interrupted or EVENT IRQ is sent. -/
  | eventIrq (t : Nat)
  /-- R434: A write of CLK CTRL.PLL_EN = 1 starts a band search. -/
  | pllEnable (t : Nat)
  /-- R436: A write of CLK CTRL.PLL_EN = 0 stops the PLL and enters bypass without action. -/
  | pllDisable (t : Nat)
  /-- R434: A write of CLK CTRL.RESEARCH restarts the band search. -/
  | research (t : Nat)
  /-- R434: A band's count window completes and the band is taken or the next tried. -/
  | bandWindow (count : BitVec 16) (t : Nat)
  /-- R434: 10 ms after a failed band search the search is repeated. -/
  | searchRetry (t : Nat)
  /-- R435: A lock count window ends and lock is gained or lost. -/
  | pllWindow (count : BitVec 16) (t : Nat)
  /-- R436: No VCO divider edge for 8 oscillator periods declares the VCO stopped. -/
  | vcoStopped (t : Nat)
  /-- R436: No reference edge for 8 oscillator periods declares loss of reference. -/
  | refLost (t : Nat)
  /-- R436: 16 good reference windows declare the reference back and the PLL search restarts. -/
  | refBack (counts : List (BitVec 16)) (t : Nat)
  /-- R437: The timebase switches to the bypass clock and BYPASS_ACTION applies. -/
  | bypassEntry (t : Nat)
  /-- R438: After RETURN_MS of lock the timebase returns to the PLL, calibrates and releases the hold. -/
  | bypassReturn (t : Nat)
  /-- R440: A write of TB_EN bit k = 1 starts a timebase-class output at its next rising edge. -/
  | tbOutEnable (k : Fin 8) (t : Nat)
  /-- R440: A write of TB_EN bit k = 0 ends the output after its high phase. -/
  | tbOutDisable (k : Fin 8) (t : Nat)
  /-- R448: VDD_SAFE falls below its threshold; the whole device is reset. -/
  | por (since t : Nat)
  /-- R448: A core or I/O supply falls below its threshold; the core is reset. -/
  | bor (k : Fin 4) (since t : Nat)
  /-- R448: RST_N held low resets the core. -/
  | pin (low t : Nat)
  /-- R449: A core reset releases; the timebase restarts, pins are sampled and MP boots. -/
  | resetRelease (bootSrc bench : Bool) (t : Nat)
  /-- R460: No authenticated download within 30 s fails the attempt with cause 0x2. -/
  | downloadWaitExpired (t : Nat)
  /-- R451: A write of RST.CTRL.WDOG_KICK restarts the 10 ms watchdog. -/
  | wdogKick (t : Nat)
  /-- R451: 2 ms before expiry the watchdog sets WDOG_WARN. -/
  | wdogWarn (t : Nat)
  /-- R451: The watchdog expires and causes a WDOG reset. -/
  | wdogExpiry (t : Nat)
  /-- R466: A write of BOOT.CTRL.RUN_READY from MP ends a start and clears the attempt count. -/
  | runReady (port : Fin 24) (t : Nat)
  /-- R466: A write of BOOT.CTRL.FAIL before RUN_READY fails the attempt with cause 0x6. -/
  | fail (t : Nat)
  /-- R468: A write of BOOT.CTRL.ROLLBACK_ADV starts burning the rollback counter up to SEC_VER. -/
  | rollbackAdv (t : Nat)
  /-- R468: The rollback counter burn completes. -/
  | rollbackDone (t : Nat)
  /-- R469: A write of BOOT.CTRL.DL_CHECK checks the image in acquisition memory. -/
  | dlCheck (t : Nat)
  /-- R469: The download check finishes with DL_GOOD or DL_BAD. -/
  | dlDone (t : Nat)
  /-- R469: A write of BOOT.CTRL.DL_PROG erases, programs and verifies the named flash slot. -/
  | dlProg (t : Nat)
  /-- R469: Slot programming completes with PROG_DONE or PROG_FAIL. -/
  | progDone (ok : Bool) (t : Nat)
  /-- R454: A write of PWR.CTRL.IDLE = 1 enters IDLE; engines wait and legs are forced off. -/
  | idle (t : Nat)
  /-- R455: A write of PWR.CTRL.IDLE = 0 leaves IDLE and restarts running engines. -/
  | idleExit (t : Nat)
  /-- R456: A write of PWR.CTRL.GAUZE enters Gauze: legs off, engines stopped, core power gated. -/
  | gauze (t : Nat)
  /-- R458: A write of PWR.CTRL.WAKE over the chain leaves Gauze. -/
  | wake (t : Nat)
  /-- R458: WAKE_N held low for 1 ms, if enabled, leaves Gauze. -/
  | wakeN (since t : Nat)
  /-- R458: The wake timer reaching WAKE_S, if enabled, leaves Gauze. -/
  | wakeTimer (t : Nat)
  /-- R458: Core power is restored after a wake event, the timebase starts and MP resumes. -/
  | gauzeExit (t : Nat)
  /-- R204: GS_WAIT after a switch's turn-on its feedback must read on; if it still reads off, the leg trips with cause 0x17 or 0x15. -/
  | gsOnDeadline (n : Fin 48) (high : Bool) (t : Nat)
  /-- R187: The low-side refresh pulse ends after REFRESH.WIDTH ticks and the low side turns off, with DT_LH running to step 4. -/
  | refreshPulseEnd (n : Fin 48) (t : Nat)
  /-- R206: A shunt comparator releases when V_shunt falls back inside its window by the hysteresis. -/
  | scRelease (n : Fin 48) (hi : Bool) (v : Int) (t : Nat)
  /-- R356: The filtered SAFE_PERMIT input accepts a high level, and PERMIT_PIN becomes 1 so that the SAFE LOCK may be opened. -/
  | safePermitAsserted (since ft t : Nat)
  /-- R306: The filtered TRIG_WIRE level returns high, clearing WIRE_LOW and re-arming falling-edge detection. -/
  | wireRise (t : Nat)
  /-- R456: Gauze entry completes: core power is gated and PWR.STATUS.STATE reads GAUZE. -/
  | gauzeEntryDone (t : Nat)
  /-- R445: A supply that crossed its threshold stays above the threshold plus 3 % and counts as returned, starting the release time of its reset. -/
  | supplyReturn (k : Fin 5) (t : Nat)
  /-- R448: RST_N returns high and the 100 µs release time of the PIN reset starts. -/
  | rstNRelease (t : Nat)
  /-- R274: The MP stack takes a frame from CHAIN_Q or BUS_Q, freeing room so that chain credit can return. -/
  | backlogFrameTaken (chain : Bool) (t : Nat)
  deriving DecidableEq, Repr

end Sys2Proof
end

