-- ==== Sys2Proof/Machine/F32.lean ====
section
/-!
DEFINITION. The deterministic arithmetic of R139 and the turn sine and cosine of R140: binary32, round to nearest even,
subnormals flushed, one canonical NaN, sticky flags. Every operation takes and gives an `FV`, a word together with the
flags raised on the way to it, so a formula carries its flags to its result.
-/
namespace Sys2Proof.Machine

/-- The sticky flags of R139 item 8, in the bit order of `FP_FLAGS` (R162). -/
structure FFlags where
  invalid : Bool
  divZero : Bool
  overflow : Bool
  flushed : Bool
  cvtSat : Bool
  deriving DecidableEq, Repr

/-- No flag. -/
def FFlags.none : FFlags := ⟨false, false, false, false, false⟩

/-- The flags of both. -/
def FFlags.union (a b : FFlags) : FFlags :=
  ⟨a.invalid || b.invalid, a.divZero || b.divZero, a.overflow || b.overflow, a.flushed || b.flushed, a.cvtSat || b.cvtSat⟩

/-- `FP_FLAGS` bits [4:0] (R162). -/
def FFlags.bits (a : FFlags) : Nat :=
  a.invalid.toNat * 16 + a.divZero.toNat * 8 + a.overflow.toNat * 4 + a.flushed.toNat * 2 + a.cvtSat.toNat

/-- A word and the flags raised in computing it. -/
structure FV where
  w : Word
  fl : FFlags
  deriving DecidableEq, Repr

/-- A word that no operation made. -/
def FV.of (w : Word) : FV := ⟨w, FFlags.none⟩

/-- The canonical quiet NaN (R139 item 4). -/
def canonNaN : Word := 0x7FC00000

def FFlags.onlyInvalid : FFlags := ⟨true, false, false, false, false⟩
def FFlags.onlyDivZero : FFlags := ⟨false, true, false, false, false⟩
def FFlags.onlyOverflow : FFlags := ⟨false, false, true, false, false⟩
def FFlags.onlyFlushed : FFlags := ⟨false, false, false, true, false⟩
def FFlags.onlyCvtSat : FFlags := ⟨false, false, false, false, true⟩

/-- What a binary32 word stands for, a subnormal read as zero of its sign (R139 item 3): a finite number is
(-1)^neg * man * 2^exp. -/
inductive FNum where
  | nan
  | inf (neg : Bool)
  | fin (neg : Bool) (man : Nat) (exp : Int)
  deriving DecidableEq, Repr

/-- Bit 31. -/
def fSign (w : Word) : Bool := w.toNat / 2 ^ 31 % 2 = 1
/-- Bits [30:23]. -/
def fExp (w : Word) : Nat := w.toNat / 2 ^ 23 % 256
/-- Bits [22:0]. -/
def fFrac (w : Word) : Nat := w.toNat % 2 ^ 23

/-- Reading an operand (R139 items 1 and 3). -/
def fDecode (w : Word) : FNum :=
  if fExp w = 255 then (if fFrac w = 0 then .inf (fSign w) else .nan)
  else if fExp w = 0 then .fin (fSign w) 0 0
  else .fin (fSign w) (2 ^ 23 + fFrac w) ((fExp w : Int) - 150)

def signBit (neg : Bool) : Nat := if neg then 2 ^ 31 else 0
def fZero (neg : Bool) : Word := BitVec.ofNat 32 (signBit neg)
def fInf (neg : Bool) : Word := BitVec.ofNat 32 (signBit neg + 255 * 2 ^ 23)

/-- `m / 2^k` rounded to nearest, ties to even; `sticky` says that the exact value lies above `m` by less than one unit. -/
def roundShift (m k : Nat) (sticky : Bool) : Nat :=
  if k = 0 then m
  else
    let q := m / 2 ^ k
    let r := m % 2 ^ k
    let half := 2 ^ (k - 1)
    if half < r || (r = half && (sticky || q % 2 = 1)) then q + 1 else q

/-- The binary32 nearest to (-1)^neg * (m plus a trifle when sticky) * 2^e, ties to even (R139 items 2 and 3). A result
that would be subnormal is a zero of its sign with FLUSHED; above the largest finite number it is an infinity with OVERFLOW.
`m` of 0 is a zero. -/
def fRound (neg : Bool) (m : Nat) (e : Int) (sticky : Bool) : FV :=
  if m = 0 then .of (fZero neg)
  else
    let n := Nat.log2 m + 1
    let q0 := if n ≤ 24 then m * 2 ^ (24 - n) else roundShift m (n - 24) sticky
    let e0 := e + (n : Int) - 24
    let q := if q0 = 2 ^ 24 then 2 ^ 23 else q0
    let e1 := if q0 = 2 ^ 24 then e0 + 1 else e0
    let field := e1 + 150
    if 255 ≤ field then ⟨fInf neg, .onlyOverflow⟩
    else if 1 ≤ e0 + 150 then .of (BitVec.ofNat 32 (signBit neg + field.toNat * 2 ^ 23 + (q - 2 ^ 23)))
    else if roundShift m (-149 - e).toNat sticky = 2 ^ 23 then .of (BitVec.ofNat 32 (signBit neg + 2 ^ 23))
    else ⟨fZero neg, .onlyFlushed⟩

/-- Signed mantissa. -/
def sMan (neg : Bool) (m : Nat) : Int := if neg then -(m : Int) else (m : Int)

/-- A signed exact sum rounded; `zneg` is the sign of an exact zero. -/
def fRoundInt (v : Int) (e : Int) (zneg : Bool) : FV :=
  if v = 0 then .of (fZero zneg) else fRound (decide (v < 0)) v.natAbs e false

/-- Exact sum of two finite numbers, rounded once; an exact zero is +0 unless both operands are negative zeros. -/
def fAddFin (n1 : Bool) (m1 : Nat) (e1 : Int) (n2 : Bool) (m2 : Nat) (e2 : Int) : FV :=
  if m1 = 0 && m2 = 0 then .of (fZero (n1 && n2))
  else if m1 = 0 then fRound n2 m2 e2 false
  else if m2 = 0 then fRound n1 m1 e1 false
  else
    let e := min e1 e2
    let v := sMan n1 m1 * 2 ^ (e1 - e).toNat + sMan n2 m2 * 2 ^ (e2 - e).toNat
    fRoundInt v e false

/-- Sum of two numbers (R139 items 4 and 5). -/
def fAddNum (a b : FNum) : FV :=
  match a, b with
  | .nan, _ => .of canonNaN
  | _, .nan => .of canonNaN
  | .inf s, .inf t => if s = t then .of (fInf s) else ⟨canonNaN, .onlyInvalid⟩
  | .inf s, .fin _ _ _ => .of (fInf s)
  | .fin _ _ _, .inf t => .of (fInf t)
  | .fin n1 m1 e1, .fin n2 m2 e2 => fAddFin n1 m1 e1 n2 m2 e2

def FNum.negate : FNum → FNum
  | .nan => .nan
  | .inf s => .inf (!s)
  | .fin n m e => .fin (!n) m e

/-- Exact product of two numbers; `none` is the invalid 0 times infinity. -/
def fMulNum (a b : FNum) : Option FNum :=
  match a, b with
  | .nan, _ => some .nan
  | _, .nan => some .nan
  | .inf s, .inf t => some (.inf (s != t))
  | .inf s, .fin n m _ => if m = 0 then none else some (.inf (s != n))
  | .fin n m _, .inf t => if m = 0 then none else some (.inf (n != t))
  | .fin n1 m1 e1, .fin n2 m2 e2 => some (.fin (n1 != n2) (m1 * m2) (e1 + e2))

/-- A number rounded to binary32. -/
def fOfNum : FNum → FV
  | .nan => .of canonNaN
  | .inf s => .of (fInf s)
  | .fin n m e => fRound n m e false

/-- FADD on words. -/
def faddW (a b : Word) : FV := fAddNum (fDecode a) (fDecode b)
/-- FSUB on words. -/
def fsubW (a b : Word) : FV := fAddNum (fDecode a) (fDecode b).negate

/-- FMUL on words. -/
def fmulW (a b : Word) : FV :=
  match fMulNum (fDecode a) (fDecode b) with
  | none => ⟨canonNaN, .onlyInvalid⟩
  | some p => fOfNum p

/-- FMA on words: a * b + c rounded once (R139 item 5). 0 times infinity with a NaN addend returns the NaN and sets no flag
(R139 item 8). -/
def ffmaW (a b c : Word) : FV :=
  match fMulNum (fDecode a) (fDecode b), fDecode c with
  | _, .nan => .of canonNaN
  | none, _ => ⟨canonNaN, .onlyInvalid⟩
  | some p, n => fAddNum p n

/-- FDIV on words. -/
def fdivW (a b : Word) : FV :=
  match fDecode a, fDecode b with
  | .nan, _ => .of canonNaN
  | _, .nan => .of canonNaN
  | .inf _, .inf _ => .of canonNaN
  | .inf s, .fin n m _ => ⟨fInf (s != n), if m = 0 then .onlyDivZero else .none⟩
  | .fin n _ _, .inf t => .of (fZero (n != t))
  | .fin n1 m1 e1, .fin n2 m2 e2 =>
    if m2 = 0 then (if m1 = 0 then ⟨canonNaN, .onlyInvalid⟩ else ⟨fInf (n1 != n2), .onlyDivZero⟩)
    else if m1 = 0 then .of (fZero (n1 != n2))
    else fRound (n1 != n2) (m1 * 2 ^ 50 / m2) (e1 - e2 - 50) (m1 * 2 ^ 50 % m2 != 0)

/-- Integer square root by restoring bits from `2^(k-1)` down; `r` holds the bits found. -/
def isqrtAux : Nat → Nat → Nat → Nat
  | 0, r, _ => r
  | k + 1, r, m => if (r + 2 ^ k) * (r + 2 ^ k) ≤ m then isqrtAux k (r + 2 ^ k) m else isqrtAux k r m

/-- Largest r below 2^40 with r * r ≤ m. -/
def isqrt (m : Nat) : Nat := isqrtAux 40 0 m

/-- FSQRT on words; the square root of -0 is -0. -/
def fsqrtW (a : Word) : FV :=
  match fDecode a with
  | .nan => .of canonNaN
  | .inf s => if s then ⟨canonNaN, .onlyInvalid⟩ else .of (fInf false)
  | .fin n m e =>
    if m = 0 then .of (fZero n)
    else if n then ⟨canonNaN, .onlyInvalid⟩
    else
      let k : Nat := if e % 2 = 0 then 40 else 41
      let v := m * 2 ^ k
      let r := isqrt v
      fRound false r ((e - (k : Int)) / 2) (r * r != v)

/-- Is the word a NaN? -/
def isNaN (w : Word) : Bool := fExp w = 255 && fFrac w ≠ 0
/-- NaN or infinite. -/
def isNonFinite (w : Word) : Bool := fExp w = 255
/-- A subnormal operand as the zero of its sign, every other word itself (R139 item 3). -/
def flushOp (w : Word) : Word := if fExp w = 0 then fZero (fSign w) else w

/-- Order key of a number that is not a NaN: monotone in its value, with -0 below +0 (R139 item 4). -/
def ordKey (w : Word) : Int :=
  let m : Nat := (flushOp w).toNat % 2 ^ 31
  if fSign w then -(m : Int) - 1 else (m : Int)

/-- a < b in the order of FMIN, FMAX and FCLAMP. -/
def ordLt (a b : Word) : Bool := ordKey a < ordKey b

/-- FMIN. -/
def fminW (a b : Word) : Word :=
  if isNaN a || isNaN b then canonNaN else if ordLt b a then flushOp b else flushOp a
/-- FMAX. -/
def fmaxW (a b : Word) : Word :=
  if isNaN a || isNaN b then canonNaN else if ordLt a b then flushOp b else flushOp a
/-- FCLAMP of x to lo..hi: the larger of x and lo, then the smaller of that and hi. -/
def fclampW (x lo hi : Word) : Word := fminW (fmaxW x lo) hi
/-- FABS. -/
def fabsW (a : Word) : Word := if isNaN a then canonNaN else BitVec.ofNat 32 ((flushOp a).toNat % 2 ^ 31)
/-- FNEG. -/
def fnegW (a : Word) : Word :=
  if isNaN a then canonNaN else BitVec.ofNat 32 ((flushOp a).toNat % 2 ^ 31 + signBit (!fSign a))

/-- The four outcomes of FCMP (R139 item 4); -0 equals +0. -/
inductive FOrder where
  | less | equal | greater | unordered
  deriving DecidableEq, Repr

/-- Value key: as `ordKey` with both zeros equal. -/
def valKey (w : Word) : Int :=
  let m : Nat := (flushOp w).toNat % 2 ^ 31
  if fSign w then -(m : Int) else (m : Int)

/-- FCMP. -/
def fcmpW (a b : Word) : FOrder :=
  if isNaN a || isNaN b then .unordered
  else if valKey a < valKey b then .less
  else if valKey a = valKey b then .equal
  else .greater

/-- a < b as FCMP reports it. -/
def fLt (a b : Word) : Bool := fcmpW a b = .less
/-- a ≤ b as FCMP reports it. -/
def fLe (a b : Word) : Bool := fcmpW a b = .less || fcmpW a b = .equal

/-- FCVT, signed integer to float (log entry 11). -/
def fOfInt (v : Int) : FV := fRoundInt v 0 false
def fOfNat (n : Nat) : FV := fOfInt n

/-- The integer nearest to a finite number, ties to even. -/
def roundFin (neg : Bool) (m : Nat) (e : Int) : Int :=
  let q : Nat := if 0 ≤ e then m * 2 ^ e.toNat else roundShift m (-e).toNat false
  if neg then -(q : Int) else q

/-- FCVT, float to signed 32-bit integer: nearest even, saturating with CVT_SAT, NaN to 0 with CVT_SAT (R139 item 6). -/
def fToIntW (a : Word) : Int × FFlags :=
  match fDecode a with
  | .nan => (0, .onlyCvtSat)
  | .inf s => (if s then -(2 ^ 31) else 2 ^ 31 - 1, .onlyCvtSat)
  | .fin n m e =>
    let v := roundFin n m e
    if v < -(2 ^ 31) then (-(2 ^ 31), .onlyCvtSat)
    else if 2 ^ 31 - 1 < v then (2 ^ 31 - 1, .onlyCvtSat)
    else (v, .none)

/-- Round to an integer modulo 2^32, for the angle sums of R34 and R47 (R139 item 7, R48; log entry 11): no saturation. -/
def fToTurnW (a : Word) : Word × FFlags :=
  match fDecode a with
  | .nan => (0, .onlyCvtSat)
  | .inf _ => (0, .onlyCvtSat)
  | .fin n m e => (BitVec.ofInt 32 (roundFin n m e), .none)

/-! The same operations on words with flags. -/

def FV.join (a b r : FV) : FV := ⟨r.w, (a.fl.union b.fl).union r.fl⟩
def FV.add (a b : FV) : FV := FV.join a b (faddW a.w b.w)
def FV.sub (a b : FV) : FV := FV.join a b (fsubW a.w b.w)
def FV.mul (a b : FV) : FV := FV.join a b (fmulW a.w b.w)
def FV.div (a b : FV) : FV := FV.join a b (fdivW a.w b.w)
def FV.fma (a b c : FV) : FV := FV.join (FV.join a b c) a (ffmaW a.w b.w c.w)
def FV.sqrt (a : FV) : FV := FV.join a a (fsqrtW a.w)
def FV.fmin (a b : FV) : FV := FV.join a b (.of (fminW a.w b.w))
def FV.fmax (a b : FV) : FV := FV.join a b (.of (fmaxW a.w b.w))
def FV.clamp (x lo hi : FV) : FV := FV.join x (FV.join lo hi lo) (.of (fclampW x.w lo.w hi.w))
def FV.abs (a : FV) : FV := ⟨fabsW a.w, a.fl⟩
def FV.neg (a : FV) : FV := ⟨fnegW a.w, a.fl⟩
/-- A magnitude of two components (R494 item 6). -/
def FV.mag (a b : FV) : FV := ((a.mul a).add (b.mul b)).sqrt
/-- FCVT to an integer, as the 32-bit word it leaves. -/
def FV.toInt (a : FV) : Int × FFlags := ((fToIntW a.w).1, a.fl.union (fToIntW a.w).2)
/-- An angle increment modulo one turn. -/
def FV.toTurn (a : FV) : Word × FFlags := ((fToTurnW a.w).1, a.fl.union (fToTurnW a.w).2)

/-- The binary32 nearest to p / q, ties to even: a written constant (R494 item 3). -/
def fRat (p q : Nat) : Word := (fRound false (p * 2 ^ 80 / q) (-80) (p * 2 ^ 80 % q != 0)).w

/-- Entry i of the table of R140, 0 ≤ i ≤ 1,024, by its symmetries. -/
def sinTable (i : Nat) : Word :=
  if i ≤ 256 then sinQuarter.getD i 0
  else if i ≤ 512 then sinQuarter.getD (512 - i) 0
  else if i ≤ 768 then (let s := sinQuarter.getD (i - 512) 0; if s = 0 then 0 else fnegW s)
  else (let s := sinQuarter.getD (1024 - i) 0; if s = 0 then 0 else fnegW s)

/-- The sine of a turn fraction (R140 steps 1 to 3). -/
def fsin (phi : Word) : FV :=
  let i := phi.toNat / 2 ^ 22
  let f := (fOfNat (phi.toNat % 2 ^ 22)).mul (.of (fRat 1 (2 ^ 22)))
  let s0 := FV.of (sinTable i)
  f.fma ((FV.of (sinTable (i + 1))).sub s0) s0

/-- The cosine: the same steps a quarter turn on (R140 step 4). -/
def fcos (phi : Word) : FV := fsin (phi + 0x40000000)

end Sys2Proof.Machine
end

