-- ==== Sys2Proof/Config.lean ====
section
/-!
DEFINITION. What the spec leaves open. Every constant here is opaque: it has no body, so nothing proved rests on a value of
it. `free n` values are drawn with the counter `State.free`; the others are functions of the operands they depend on.
-/
namespace Sys2Proof.Config

/-- A fresh open word: the n-th one drawn (log entry 3). -/
opaque freeWord : Nat → BitVec 32
/-- A fresh open choice of one of two outcomes the spec allows (log entry 3). -/
opaque freeBool : Nat → Bool

/-- The angle of a vector with no direction: zero or not finite (R80; log entry 12). -/
opaque angleOpen : BitVec 32 → BitVec 32 → BitVec 32
/-- What CMP leaves for a pair of operands (R136; log entry 10). -/
opaque cmpResult : BitVec 32 → BitVec 32 → BitVec 32
/-- What FCMP leaves for an outcome: less 0, equal 1, greater 2, unordered 3 (R139; log entry 10). -/
opaque fcmpResult : Nat → BitVec 32
/-- A shift by 32 or more: operation (0 SHL, 1 SHR, 2 SAR), value, amount (R136; log entry 10). -/
opaque wideShift : Nat → BitVec 32 → BitVec 32 → BitVec 32
/-- Whether MULH multiplies signed operands (R136; log entry 10). -/
opaque mulhSigned : Bool
/-- A byte of a member state block or checkpoint state buffer, whose layout the spec does not give: address and sample
(R105; log entry 13). -/
opaque stateBlockByte : Nat → Nat → BitVec 8
/-- A half-band output of R236, whose coefficients the spec does not give: the 15 inputs of its window (log entry 34). -/
opaque halfBand : List Int → Int

/-- The check word of an engine image, whose form the spec does not give: the section read back agrees (R152, R465; log
entry 40). -/
opaque imageCheckOk : List (BitVec 8) → Bool
/-- The contents of a flash slot whose programming was cut off or failed (R475; log entry 40): the n-th time. -/
opaque slotOpen : Nat → List (BitVec 8)

end Sys2Proof.Config
end

