-- ==== Sys2Proof/Machine/RegTable.lean ====
section
/-!
DEFINITION. The register tables of the spec, one entry per field: offset, bits, access code, reset value, and
for a repeated register the count and the stride (R423 to R432 and the page tables of each chapter).
A bit that no entry names is reserved (R10). Field values that the spec resets per page or per index are 0 here and
given by `regReset` (Machine/Regs.lean).
-/
namespace Sys2Proof.Machine

/-- The access codes of R424; `woSeal` is the ledger's "WO, SEAL". -/
inductive Acc where
  | rw | ro | w1c | wo | rws | rwl | seal | woSeal
  deriving DecidableEq, Repr

/-- One field of a register: byte offset in its page, bits hi..lo, access, reset value, and repetition. -/
structure FieldSpec where
  off : Nat
  hi : Nat
  lo : Nat
  acc : Acc
  reset : Nat
  count : Nat
  stride : Nat
  deriving DecidableEq, Repr

/-! Page HDR: the register tables of R423. -/
def HDR.PAGE_ID_TYPE : FieldSpec := ⟨0x000, 23, 16, .ro, 0, 1, 4⟩
def HDR.PAGE_ID_INSTANCE : FieldSpec := ⟨0x000, 15, 8, .ro, 0, 1, 4⟩
def HDR.PAGE_ID_PAGE : FieldSpec := ⟨0x000, 7, 0, .ro, 0, 1, 4⟩
def HDR.PAGE_REV_REV : FieldSpec := ⟨0x004, 15, 0, .ro, 1, 1, 4⟩
def HDR.IRQ_EN_EN : FieldSpec := ⟨0x014, 31, 0, .rw, 0, 1, 4⟩
def HDR.IRQ_CLR_CLR : FieldSpec := ⟨0x018, 31, 0, .wo, 0, 1, 4⟩
def HDR.LOCK_ARMED : FieldSpec := ⟨0x01C, 1, 1, .ro, 0, 1, 4⟩
def HDR.LOCK_OPEN : FieldSpec := ⟨0x01C, 0, 0, .ro, 0, 1, 4⟩
def HDR.COMMIT : FieldSpec := ⟨0x020, 31, 0, .wo, 0, 1, 4⟩

/-- All fields of the HDR page. -/
def HDR.fields : List FieldSpec :=
  [HDR.PAGE_ID_TYPE, HDR.PAGE_ID_INSTANCE, HDR.PAGE_ID_PAGE, HDR.PAGE_REV_REV, HDR.IRQ_EN_EN, HDR.IRQ_CLR_CLR, HDR.LOCK_ARMED, HDR.LOCK_OPEN, HDR.COMMIT]

/-! Page SYS: the register tables of R231, R432. -/
def SYS.STATUS_MUSLIN : FieldSpec := ⟨0x00C, 1, 1, .ro, 0, 1, 4⟩
def SYS.STATUS_HALTED : FieldSpec := ⟨0x00C, 0, 0, .ro, 0, 1, 4⟩
def SYS.IRQ_RAW_REFUSED : FieldSpec := ⟨0x010, 1, 1, .ro, 0, 1, 4⟩
def SYS.IRQ_RAW_ADDR_CHANGED : FieldSpec := ⟨0x010, 0, 0, .ro, 0, 1, 4⟩
def SYS.FAULT_CODE_CAUSE : FieldSpec := ⟨0x024, 19, 16, .ro, 0, 1, 4⟩
def SYS.DEVICE_ID_ORDER : FieldSpec := ⟨0x040, 31, 16, .ro, 0x4816, 1, 4⟩
def SYS.DEVICE_ID_SILICON : FieldSpec := ⟨0x040, 15, 8, .ro, 1, 1, 4⟩
def SYS.PLANT_ADDR_ZONE : FieldSpec := ⟨0x044, 19, 18, .rwl, 0, 1, 4⟩
def SYS.PLANT_ADDR_SEGMENT : FieldSpec := ⟨0x044, 17, 15, .rwl, 0, 1, 4⟩
def SYS.PLANT_ADDR_CHAIN : FieldSpec := ⟨0x044, 14, 12, .rwl, 0, 1, 4⟩
def SYS.PLANT_ADDR_POSITION : FieldSpec := ⟨0x044, 11, 6, .ro, 0, 1, 4⟩
def SYS.PLANT_ADDR_LEG : FieldSpec := ⟨0x044, 5, 0, .ro, 0x3F, 1, 4⟩
def SYS.PAGE_IRQ_REQ : FieldSpec := ⟨0x048, 31, 0, .ro, 0, 6, 4⟩
def SYS.IRQ_ROUTE_HOST : FieldSpec := ⟨0x060, 1, 1, .rw, 0, 1, 4⟩
def SYS.IRQ_ROUTE_MP : FieldSpec := ⟨0x060, 0, 0, .rw, 1, 1, 4⟩
def SYS.CMD_OUT_ADDR : FieldSpec := ⟨0x064, 31, 0, .wo, 0, 1, 4⟩
def SYS.DBG_CTRL_HALT : FieldSpec := ⟨0x068, 1, 1, .rw, 0, 1, 4⟩
def SYS.DBG_CTRL_DBG_EN : FieldSpec := ⟨0x068, 0, 0, .rwl, 0, 1, 4⟩
def SYS.BENCH_SPI_ON : FieldSpec := ⟨0x06C, 0, 0, .ro, 0, 1, 4⟩
def SYS.DEV_TRIP_QUIET_US : FieldSpec := ⟨0x200, 29, 20, .rw, 0xA, 1, 4⟩
def SYS.DEV_TRIP_CAUSE : FieldSpec := ⟨0x200, 19, 16, .ro, 0, 1, 4⟩
def SYS.DEV_TRIP_GROUP : FieldSpec := ⟨0x200, 9, 8, .ro, 0, 1, 4⟩
def SYS.DEV_TRIP_CLEAR : FieldSpec := ⟨0x200, 3, 3, .wo, 0, 1, 4⟩
def SYS.DEV_TRIP_TRIP : FieldSpec := ⟨0x200, 2, 2, .wo, 0, 1, 4⟩
def SYS.DEV_TRIP_SRC_ACTIVE : FieldSpec := ⟨0x200, 1, 1, .ro, 0, 1, 4⟩
def SYS.DEV_TRIP_TRIPPED : FieldSpec := ⟨0x200, 0, 0, .ro, 0, 1, 4⟩
def SYS.DEV_TRIP_STAMP : FieldSpec := ⟨0x204, 31, 0, .ro, 0, 1, 4⟩
def SYS.PSI_IRQ_RAW_BRK_CMD_DISCARD : FieldSpec := ⟨0x208, 8, 8, .w1c, 0, 1, 4⟩
def SYS.PSI_IRQ_RAW_BRK_FB_CHANGE : FieldSpec := ⟨0x208, 7, 7, .w1c, 0, 1, 4⟩
def SYS.PSI_IRQ_RAW_BRK_FB_FAIL : FieldSpec := ⟨0x208, 6, 6, .w1c, 0, 1, 4⟩
def SYS.PSI_IRQ_RAW_RPS_FB_FAIL : FieldSpec := ⟨0x208, 5, 5, .w1c, 0, 1, 4⟩
def SYS.PSI_IRQ_RAW_RPS_REVERSE : FieldSpec := ⟨0x208, 4, 4, .w1c, 0, 1, 4⟩
def SYS.PSI_IRQ_RAW_RPS_CLOSED : FieldSpec := ⟨0x208, 3, 3, .w1c, 0, 1, 4⟩
def SYS.PSI_IRQ_RAW_DEV_CLEAR_REFUSED : FieldSpec := ⟨0x208, 2, 2, .w1c, 0, 1, 4⟩
def SYS.PSI_IRQ_RAW_DEV_CLEARED : FieldSpec := ⟨0x208, 1, 1, .w1c, 0, 1, 4⟩
def SYS.PSI_IRQ_RAW_DEV_TRIP : FieldSpec := ⟨0x208, 0, 0, .w1c, 0, 1, 4⟩
def SYS.PSI_IRQ_EN_EN : FieldSpec := ⟨0x20C, 31, 0, .rw, 0, 1, 4⟩
def SYS.RPS_CFG_DWELL_MS : FieldSpec := ⟨0x210, 27, 16, .rwl, 0x64, 1, 4⟩
def SYS.RPS_CFG_FB_MS : FieldSpec := ⟨0x210, 15, 8, .rwl, 0x32, 1, 4⟩
def SYS.RPS_CFG_FB_INV : FieldSpec := ⟨0x210, 7, 7, .rwl, 0, 1, 4⟩
def SYS.RPS_CFG_SRC : FieldSpec := ⟨0x210, 5, 0, .rwl, 0, 1, 4⟩
def SYS.RPS_VMIN_COUNTS : FieldSpec := ⟨0x214, 23, 0, .rwl, 0x7FFFFF, 1, 4⟩
def SYS.RPS_VNEG_COUNTS : FieldSpec := ⟨0x218, 23, 0, .rwl, 0, 1, 4⟩
def SYS.RPS_CTRL_ARM : FieldSpec := ⟨0x21C, 0, 0, .rw, 0, 1, 4⟩
def SYS.RPS_STATUS_REVERSE : FieldSpec := ⟨0x220, 3, 3, .ro, 0, 1, 4⟩
def SYS.RPS_STATUS_POL_OK : FieldSpec := ⟨0x220, 2, 2, .ro, 0, 1, 4⟩
def SYS.RPS_STATUS_FB_CLOSED : FieldSpec := ⟨0x220, 1, 1, .ro, 0, 1, 4⟩
def SYS.RPS_STATUS_CMD : FieldSpec := ⟨0x220, 0, 0, .ro, 0, 1, 4⟩
def SYS.BRK_CMD_OWNED : FieldSpec := ⟨0x224, 15, 8, .ro, 0, 1, 4⟩
def SYS.BRK_CMD_CMD : FieldSpec := ⟨0x224, 7, 0, .rw, 0, 1, 4⟩
def SYS.BRK_FB_MISMATCH : FieldSpec := ⟨0x228, 15, 8, .ro, 0, 1, 4⟩
def SYS.BRK_FB_STATE : FieldSpec := ⟨0x228, 7, 0, .ro, 0, 1, 4⟩
def SYS.BRK_CFG_TO_10MS : FieldSpec := ⟨0x22C, 31, 24, .rwl, 0x14, 1, 4⟩
def SYS.BRK_CFG_FILT_MS : FieldSpec := ⟨0x22C, 23, 16, .rwl, 0xA, 1, 4⟩
def SYS.BRK_CFG_FB_INV : FieldSpec := ⟨0x22C, 7, 0, .rwl, 0, 1, 4⟩

/-- All fields of the SYS page. -/
def SYS.fields : List FieldSpec :=
  [SYS.STATUS_MUSLIN, SYS.STATUS_HALTED, SYS.IRQ_RAW_REFUSED, SYS.IRQ_RAW_ADDR_CHANGED, SYS.FAULT_CODE_CAUSE, SYS.DEVICE_ID_ORDER, SYS.DEVICE_ID_SILICON, SYS.PLANT_ADDR_ZONE, SYS.PLANT_ADDR_SEGMENT, SYS.PLANT_ADDR_CHAIN, SYS.PLANT_ADDR_POSITION, SYS.PLANT_ADDR_LEG, SYS.PAGE_IRQ_REQ, SYS.IRQ_ROUTE_HOST, SYS.IRQ_ROUTE_MP, SYS.CMD_OUT_ADDR, SYS.DBG_CTRL_HALT, SYS.DBG_CTRL_DBG_EN, SYS.BENCH_SPI_ON, SYS.DEV_TRIP_QUIET_US, SYS.DEV_TRIP_CAUSE, SYS.DEV_TRIP_GROUP, SYS.DEV_TRIP_CLEAR, SYS.DEV_TRIP_TRIP] ++
  [SYS.DEV_TRIP_SRC_ACTIVE, SYS.DEV_TRIP_TRIPPED, SYS.DEV_TRIP_STAMP, SYS.PSI_IRQ_RAW_BRK_CMD_DISCARD, SYS.PSI_IRQ_RAW_BRK_FB_CHANGE, SYS.PSI_IRQ_RAW_BRK_FB_FAIL, SYS.PSI_IRQ_RAW_RPS_FB_FAIL, SYS.PSI_IRQ_RAW_RPS_REVERSE, SYS.PSI_IRQ_RAW_RPS_CLOSED, SYS.PSI_IRQ_RAW_DEV_CLEAR_REFUSED, SYS.PSI_IRQ_RAW_DEV_CLEARED, SYS.PSI_IRQ_RAW_DEV_TRIP, SYS.PSI_IRQ_EN_EN, SYS.RPS_CFG_DWELL_MS, SYS.RPS_CFG_FB_MS, SYS.RPS_CFG_FB_INV, SYS.RPS_CFG_SRC, SYS.RPS_VMIN_COUNTS, SYS.RPS_VNEG_COUNTS, SYS.RPS_CTRL_ARM, SYS.RPS_STATUS_REVERSE, SYS.RPS_STATUS_POL_OK, SYS.RPS_STATUS_FB_CLOSED, SYS.RPS_STATUS_CMD] ++
  [SYS.BRK_CMD_OWNED, SYS.BRK_CMD_CMD, SYS.BRK_FB_MISMATCH, SYS.BRK_FB_STATE, SYS.BRK_CFG_TO_10MS, SYS.BRK_CFG_FILT_MS, SYS.BRK_CFG_FB_INV]

/-! Page BOOT: the register tables of R476. -/
def BOOT.CTRL_ROLLBACK_ADV : FieldSpec := ⟨0x008, 4, 4, .wo, 0, 1, 4⟩
def BOOT.CTRL_DL_PROG : FieldSpec := ⟨0x008, 3, 3, .wo, 0, 1, 4⟩
def BOOT.CTRL_DL_CHECK : FieldSpec := ⟨0x008, 2, 2, .wo, 0, 1, 4⟩
def BOOT.CTRL_FAIL : FieldSpec := ⟨0x008, 1, 1, .wo, 0, 1, 4⟩
def BOOT.CTRL_RUN_READY : FieldSpec := ⟨0x008, 0, 0, .wo, 0, 1, 4⟩
def BOOT.STATUS_MUSLIN : FieldSpec := ⟨0x00C, 6, 6, .ro, 0, 1, 4⟩
def BOOT.STATUS_DL_BUSY : FieldSpec := ⟨0x00C, 5, 5, .ro, 0, 1, 4⟩
def BOOT.STATUS_DL_GOOD : FieldSpec := ⟨0x00C, 4, 4, .ro, 0, 1, 4⟩
def BOOT.STATUS_RUN_READY : FieldSpec := ⟨0x00C, 3, 3, .ro, 0, 1, 4⟩
def BOOT.STATUS_SOURCE : FieldSpec := ⟨0x00C, 2, 1, .ro, 3, 1, 4⟩
def BOOT.STATUS_BOOT_SRC : FieldSpec := ⟨0x00C, 0, 0, .ro, 0, 1, 4⟩
def BOOT.IRQ_RAW_ROLLBACK_DONE : FieldSpec := ⟨0x010, 4, 4, .ro, 0, 1, 4⟩
def BOOT.IRQ_RAW_PROG_FAIL : FieldSpec := ⟨0x010, 3, 3, .ro, 0, 1, 4⟩
def BOOT.IRQ_RAW_PROG_DONE : FieldSpec := ⟨0x010, 2, 2, .ro, 0, 1, 4⟩
def BOOT.IRQ_RAW_DL_BAD : FieldSpec := ⟨0x010, 1, 1, .ro, 0, 1, 4⟩
def BOOT.IRQ_RAW_DL_DONE : FieldSpec := ⟨0x010, 0, 0, .ro, 0, 1, 4⟩
def BOOT.FAULT_CODE_CAUSE : FieldSpec := ⟨0x024, 19, 16, .ro, 0, 1, 4⟩
def BOOT.FAULT_CODE_OFFSET : FieldSpec := ⟨0x024, 11, 0, .ro, 0, 1, 4⟩
def BOOT.ATTEMPTS_IN_ATTEMPT : FieldSpec := ⟨0x040, 2, 2, .ro, 0, 1, 4⟩
def BOOT.ATTEMPTS_COUNT : FieldSpec := ⟨0x040, 1, 0, .ro, 0, 1, 4⟩
def BOOT.HIST : FieldSpec := ⟨0x044, 23, 0, .ro, 0, 1, 4⟩
def BOOT.SLOT_RES_DL : FieldSpec := ⟨0x048, 11, 8, .ro, 6, 1, 4⟩
def BOOT.SLOT_RES_B : FieldSpec := ⟨0x048, 7, 4, .ro, 6, 1, 4⟩
def BOOT.SLOT_RES_A : FieldSpec := ⟨0x048, 3, 0, .ro, 6, 1, 4⟩
def BOOT.IMG_VER : FieldSpec := ⟨0x04C, 31, 0, .ro, 0, 1, 4⟩
def BOOT.SEC_FUSE_CNT : FieldSpec := ⟨0x050, 13, 8, .ro, 0, 1, 4⟩
def BOOT.SEC_IMG_SEC : FieldSpec := ⟨0x050, 5, 0, .ro, 0, 1, 4⟩
def BOOT.BOOT_CFG_DL_SLOT : FieldSpec := ⟨0x054, 1, 1, .rw, 0, 1, 4⟩
def BOOT.BOOT_CFG_PREF : FieldSpec := ⟨0x054, 0, 0, .rw, 0, 1, 4⟩
def BOOT.DL_LEN_BYTES : FieldSpec := ⟨0x058, 22, 0, .rw, 0, 1, 4⟩
def BOOT.KEY_HASH : FieldSpec := ⟨0x060, 31, 0, .ro, 0, 8, 4⟩

/-- All fields of the BOOT page. -/
def BOOT.fields : List FieldSpec :=
  [BOOT.CTRL_ROLLBACK_ADV, BOOT.CTRL_DL_PROG, BOOT.CTRL_DL_CHECK, BOOT.CTRL_FAIL, BOOT.CTRL_RUN_READY, BOOT.STATUS_MUSLIN, BOOT.STATUS_DL_BUSY, BOOT.STATUS_DL_GOOD, BOOT.STATUS_RUN_READY, BOOT.STATUS_SOURCE, BOOT.STATUS_BOOT_SRC, BOOT.IRQ_RAW_ROLLBACK_DONE, BOOT.IRQ_RAW_PROG_FAIL, BOOT.IRQ_RAW_PROG_DONE, BOOT.IRQ_RAW_DL_BAD, BOOT.IRQ_RAW_DL_DONE, BOOT.FAULT_CODE_CAUSE, BOOT.FAULT_CODE_OFFSET, BOOT.ATTEMPTS_IN_ATTEMPT, BOOT.ATTEMPTS_COUNT, BOOT.HIST, BOOT.SLOT_RES_DL, BOOT.SLOT_RES_B, BOOT.SLOT_RES_A] ++
  [BOOT.IMG_VER, BOOT.SEC_FUSE_CNT, BOOT.SEC_IMG_SEC, BOOT.BOOT_CFG_DL_SLOT, BOOT.BOOT_CFG_PREF, BOOT.DL_LEN_BYTES, BOOT.KEY_HASH]

/-! Page CLK: the register tables of R443, R444. -/
def CLK.CTRL_RESEARCH : FieldSpec := ⟨0x008, 1, 1, .wo, 0, 1, 4⟩
def CLK.CTRL_PLL_EN : FieldSpec := ⟨0x008, 0, 0, .rw, 0, 1, 4⟩
def CLK.STATUS_EVER_LOCKED : FieldSpec := ⟨0x00C, 7, 7, .ro, 0, 1, 4⟩
def CLK.STATUS_PLL_STATE : FieldSpec := ⟨0x00C, 6, 5, .ro, 0, 1, 4⟩
def CLK.STATUS_HOLD : FieldSpec := ⟨0x00C, 4, 4, .ro, 0, 1, 4⟩
def CLK.STATUS_REF_OK : FieldSpec := ⟨0x00C, 3, 3, .ro, 0, 1, 4⟩
def CLK.STATUS_BYP_SRC : FieldSpec := ⟨0x00C, 2, 2, .ro, 0, 1, 4⟩
def CLK.STATUS_BYPASS : FieldSpec := ⟨0x00C, 1, 1, .ro, 1, 1, 4⟩
def CLK.STATUS_LOCKED : FieldSpec := ⟨0x00C, 0, 0, .ro, 0, 1, 4⟩
def CLK.IRQ_RAW_WRITE_IGNORED : FieldSpec := ⟨0x010, 7, 7, .ro, 0, 1, 4⟩
def CLK.IRQ_RAW_SEARCH_FAIL : FieldSpec := ⟨0x010, 6, 6, .ro, 0, 1, 4⟩
def CLK.IRQ_RAW_BYPASS_EXIT : FieldSpec := ⟨0x010, 5, 5, .ro, 0, 1, 4⟩
def CLK.IRQ_RAW_BYPASS_ENTER : FieldSpec := ⟨0x010, 4, 4, .ro, 0, 1, 4⟩
def CLK.IRQ_RAW_REF_BACK : FieldSpec := ⟨0x010, 3, 3, .ro, 0, 1, 4⟩
def CLK.IRQ_RAW_REF_LOST : FieldSpec := ⟨0x010, 2, 2, .ro, 0, 1, 4⟩
def CLK.IRQ_RAW_LOCK_LOST : FieldSpec := ⟨0x010, 1, 1, .ro, 0, 1, 4⟩
def CLK.IRQ_RAW_LOCK_GAINED : FieldSpec := ⟨0x010, 0, 0, .ro, 0, 1, 4⟩
def CLK.FAULT_CODE_CAUSE : FieldSpec := ⟨0x024, 19, 16, .ro, 0, 1, 4⟩
def CLK.FAULT_CODE_OUTPUT : FieldSpec := ⟨0x024, 3, 0, .ro, 0, 1, 4⟩
def CLK.CLK_CFG_RETURN_MS : FieldSpec := ⟨0x040, 15, 8, .rw, 0xA, 1, 4⟩
def CLK.CLK_CFG_BYPASS_ACTION : FieldSpec := ⟨0x040, 1, 1, .rw, 0, 1, 4⟩
def CLK.CLK_CFG_REF_SEL : FieldSpec := ⟨0x040, 0, 0, .rw, 0, 1, 4⟩
def CLK.LOCK_CFG_LOCK_N : FieldSpec := ⟨0x044, 19, 16, .rw, 8, 1, 4⟩
def CLK.LOCK_CFG_UNLOCK_TOL : FieldSpec := ⟨0x044, 15, 8, .rw, 8, 1, 4⟩
def CLK.LOCK_CFG_LOCK_TOL : FieldSpec := ⟨0x044, 7, 0, .rw, 2, 1, 4⟩
def CLK.BAND_TOL_COUNTS : FieldSpec := ⟨0x048, 15, 0, .rw, 0x1EC, 1, 4⟩
def CLK.FB_COUNT_BAND : FieldSpec := ⟨0x04C, 19, 16, .ro, 0, 1, 4⟩
def CLK.FB_COUNT_COUNT : FieldSpec := ⟨0x04C, 15, 0, .ro, 0, 1, 4⟩
def CLK.BYP_STAT_ENTRIES : FieldSpec := ⟨0x050, 31, 16, .ro, 0, 1, 4⟩
def CLK.BYP_STAT_LAST_MS : FieldSpec := ⟨0x050, 15, 0, .ro, 0, 1, 4⟩
def CLK.BAND_VALID : FieldSpec := ⟨0x080, 31, 31, .rw, 0, 16, 4⟩
def CLK.BAND_CODE : FieldSpec := ⟨0x080, 7, 0, .rw, 0, 16, 4⟩
def CLK.TB_DIV_DIV : FieldSpec := ⟨0x0C0, 15, 0, .rw, 0x14, 8, 8⟩
def CLK.TB_DLY_DLY : FieldSpec := ⟨0x0C4, 15, 0, .rw, 0, 8, 8⟩
def CLK.TB_EN_EN : FieldSpec := ⟨0x100, 7, 0, .rw, 0, 1, 4⟩
def CLK.LK_CFG_DIV : FieldSpec := ⟨0x110, 15, 8, .rw, 0x10, 4, 4⟩
def CLK.LK_CFG_FMT : FieldSpec := ⟨0x110, 5, 4, .rw, 0, 4, 4⟩
def CLK.LK_CFG_SRC : FieldSpec := ⟨0x110, 1, 1, .rw, 0, 4, 4⟩
def CLK.LK_CFG_EN : FieldSpec := ⟨0x110, 0, 0, .rw, 0, 4, 4⟩

/-- All fields of the CLK page. -/
def CLK.fields : List FieldSpec :=
  [CLK.CTRL_RESEARCH, CLK.CTRL_PLL_EN, CLK.STATUS_EVER_LOCKED, CLK.STATUS_PLL_STATE, CLK.STATUS_HOLD, CLK.STATUS_REF_OK, CLK.STATUS_BYP_SRC, CLK.STATUS_BYPASS, CLK.STATUS_LOCKED, CLK.IRQ_RAW_WRITE_IGNORED, CLK.IRQ_RAW_SEARCH_FAIL, CLK.IRQ_RAW_BYPASS_EXIT, CLK.IRQ_RAW_BYPASS_ENTER, CLK.IRQ_RAW_REF_BACK, CLK.IRQ_RAW_REF_LOST, CLK.IRQ_RAW_LOCK_LOST, CLK.IRQ_RAW_LOCK_GAINED, CLK.FAULT_CODE_CAUSE, CLK.FAULT_CODE_OUTPUT, CLK.CLK_CFG_RETURN_MS, CLK.CLK_CFG_BYPASS_ACTION, CLK.CLK_CFG_REF_SEL, CLK.LOCK_CFG_LOCK_N, CLK.LOCK_CFG_UNLOCK_TOL] ++
  [CLK.LOCK_CFG_LOCK_TOL, CLK.BAND_TOL_COUNTS, CLK.FB_COUNT_BAND, CLK.FB_COUNT_COUNT, CLK.BYP_STAT_ENTRIES, CLK.BYP_STAT_LAST_MS, CLK.BAND_VALID, CLK.BAND_CODE, CLK.TB_DIV_DIV, CLK.TB_DLY_DLY, CLK.TB_EN_EN, CLK.LK_CFG_DIV, CLK.LK_CFG_FMT, CLK.LK_CFG_SRC, CLK.LK_CFG_EN]

/-! Page PWR: the register tables of R477. -/
def PWR.CTRL_WAKE : FieldSpec := ⟨0x008, 2, 2, .wo, 0, 1, 4⟩
def PWR.CTRL_GAUZE : FieldSpec := ⟨0x008, 1, 1, .wo, 0, 1, 4⟩
def PWR.CTRL_IDLE : FieldSpec := ⟨0x008, 0, 0, .rw, 0, 1, 4⟩
def PWR.STATUS_SUPPLY_OK : FieldSpec := ⟨0x00C, 11, 8, .ro, 0xF, 1, 4⟩
def PWR.STATUS_STATE : FieldSpec := ⟨0x00C, 2, 0, .ro, 0, 1, 4⟩
def PWR.IRQ_RAW_REFUSED : FieldSpec := ⟨0x010, 3, 3, .ro, 0, 1, 4⟩
def PWR.IRQ_RAW_WOKE : FieldSpec := ⟨0x010, 2, 2, .ro, 0, 1, 4⟩
def PWR.IRQ_RAW_IDLE_EXIT : FieldSpec := ⟨0x010, 1, 1, .ro, 0, 1, 4⟩
def PWR.IRQ_RAW_IDLE_ENTRY : FieldSpec := ⟨0x010, 0, 0, .ro, 0, 1, 4⟩
def PWR.FAULT_CODE_CAUSE : FieldSpec := ⟨0x024, 19, 16, .ro, 0, 1, 4⟩
def PWR.GAUZE_CFG_PC_ON : FieldSpec := ⟨0x040, 8, 8, .rw, 0, 1, 4⟩
def PWR.GAUZE_CFG_WAKE_EN : FieldSpec := ⟨0x040, 2, 0, .rw, 1, 1, 4⟩
def PWR.WAKE_S_SECONDS : FieldSpec := ⟨0x044, 31, 0, .rw, 0, 1, 4⟩
def PWR.WAKE_CAUSE_CAUSE : FieldSpec := ⟨0x048, 2, 0, .ro, 0, 1, 4⟩
def PWR.GAUZE_CNT_ENTRIES : FieldSpec := ⟨0x04C, 15, 0, .ro, 0, 1, 4⟩

/-- All fields of the PWR page. -/
def PWR.fields : List FieldSpec :=
  [PWR.CTRL_WAKE, PWR.CTRL_GAUZE, PWR.CTRL_IDLE, PWR.STATUS_SUPPLY_OK, PWR.STATUS_STATE, PWR.IRQ_RAW_REFUSED, PWR.IRQ_RAW_WOKE, PWR.IRQ_RAW_IDLE_EXIT, PWR.IRQ_RAW_IDLE_ENTRY, PWR.FAULT_CODE_CAUSE, PWR.GAUZE_CFG_PC_ON, PWR.GAUZE_CFG_WAKE_EN, PWR.WAKE_S_SECONDS, PWR.WAKE_CAUSE_CAUSE, PWR.GAUZE_CNT_ENTRIES]

/-! Page RST: the register tables of R478. -/
def RST.CTRL_WDOG_KICK : FieldSpec := ⟨0x008, 0, 0, .wo, 0, 1, 4⟩
def RST.STATUS_BOR_SRC : FieldSpec := ⟨0x00C, 11, 8, .ro, 0, 1, 4⟩
def RST.STATUS_BOOT_END : FieldSpec := ⟨0x00C, 3, 3, .ro, 0, 1, 4⟩
def RST.STATUS_LAST_KIND : FieldSpec := ⟨0x00C, 2, 0, .ro, 0, 1, 4⟩
def RST.IRQ_RAW_WDOG_WARN : FieldSpec := ⟨0x010, 0, 0, .ro, 0, 1, 4⟩
def RST.KIND_SEEN_KINDS : FieldSpec := ⟨0x040, 5, 0, .w1c, 1, 1, 4⟩
def RST.COUNTS_BOR : FieldSpec := ⟨0x044, 31, 24, .ro, 0, 1, 4⟩
def RST.COUNTS_PIN : FieldSpec := ⟨0x044, 23, 16, .ro, 0, 1, 4⟩
def RST.COUNTS_CHAIN : FieldSpec := ⟨0x044, 15, 8, .ro, 0, 1, 4⟩
def RST.COUNTS_WDOG : FieldSpec := ⟨0x044, 7, 0, .ro, 0, 1, 4⟩
def RST.WDOG_LEFT_US : FieldSpec := ⟨0x048, 13, 0, .ro, 0x2710, 1, 4⟩

/-- All fields of the RST page. -/
def RST.fields : List FieldSpec :=
  [RST.CTRL_WDOG_KICK, RST.STATUS_BOR_SRC, RST.STATUS_BOOT_END, RST.STATUS_LAST_KIND, RST.IRQ_RAW_WDOG_WARN, RST.KIND_SEEN_KINDS, RST.COUNTS_BOR, RST.COUNTS_PIN, RST.COUNTS_CHAIN, RST.COUNTS_WDOG, RST.WDOG_LEFT_US]

/-! Page FELT: the register tables of R277, R278. -/
def FELT.CTRL_CLR_CNT : FieldSpec := ⟨0x008, 0, 0, .wo, 0, 1, 4⟩
def FELT.STATUS_SHED : FieldSpec := ⟨0x00C, 1, 0, .ro, 0, 1, 4⟩
def FELT.IRQ_RAW_SHED_CHANGE : FieldSpec := ⟨0x010, 6, 6, .ro, 0, 1, 4⟩
def FELT.IRQ_RAW_BACKLOG_DROP : FieldSpec := ⟨0x010, 5, 5, .ro, 0, 1, 4⟩
def FELT.IRQ_RAW_REGION_DISCARD : FieldSpec := ⟨0x010, 4, 4, .ro, 0, 1, 4⟩
def FELT.IRQ_RAW_TX_FAILED : FieldSpec := ⟨0x010, 3, 3, .ro, 0, 1, 4⟩
def FELT.IRQ_RAW_TOKEN_ERR : FieldSpec := ⟨0x010, 2, 2, .ro, 0, 1, 4⟩
def FELT.IRQ_RAW_TX_TIMEOUT : FieldSpec := ⟨0x010, 1, 1, .ro, 0, 1, 4⟩
def FELT.IRQ_RAW_HS_TIMEOUT : FieldSpec := ⟨0x010, 0, 0, .ro, 0, 1, 4⟩
def FELT.FAULT_CODE_CAUSE : FieldSpec := ⟨0x024, 19, 16, .ro, 0, 1, 4⟩
def FELT.FAULT_CODE_PORT : FieldSpec := ⟨0x024, 15, 8, .ro, 0, 1, 4⟩
def FELT.FAULT_CODE_TAG : FieldSpec := ⟨0x024, 5, 0, .ro, 0, 1, 4⟩
def FELT.TO_CNT_TX_TO_CNT : FieldSpec := ⟨0x040, 31, 16, .ro, 0, 1, 4⟩
def FELT.TO_CNT_HS_TO_CNT : FieldSpec := ⟨0x040, 15, 0, .ro, 0, 1, 4⟩
def FELT.ERR_CNT_FAIL_CNT : FieldSpec := ⟨0x044, 31, 16, .ro, 0, 1, 4⟩
def FELT.ERR_CNT_TOKEN_CNT : FieldSpec := ⟨0x044, 15, 0, .ro, 0, 1, 4⟩
def FELT.RETRY_CNT_REGION_DISCARDS : FieldSpec := ⟨0x048, 31, 16, .ro, 0, 1, 4⟩
def FELT.RETRY_CNT_RETRIES : FieldSpec := ⟨0x048, 15, 0, .ro, 0, 1, 4⟩
def FELT.TAG_BUSY0_BUSY : FieldSpec := ⟨0x04C, 31, 0, .ro, 0, 1, 4⟩
def FELT.TAG_BUSY1_BUSY : FieldSpec := ⟨0x050, 15, 0, .ro, 0, 1, 4⟩
def FELT.CHAIN_Q_DROPS : FieldSpec := ⟨0x054, 31, 16, .ro, 0, 1, 4⟩
def FELT.CHAIN_Q_DEPTH : FieldSpec := ⟨0x054, 5, 0, .ro, 0, 1, 4⟩
def FELT.BUS_Q_DROPS : FieldSpec := ⟨0x058, 31, 16, .ro, 0, 1, 4⟩
def FELT.BUS_Q_DEPTH : FieldSpec := ⟨0x058, 6, 0, .ro, 0, 1, 4⟩
def FELT.SHED_CNT : FieldSpec := ⟨0x05C, 15, 0, .ro, 0, 1, 4⟩

/-- All fields of the FELT page. -/
def FELT.fields : List FieldSpec :=
  [FELT.CTRL_CLR_CNT, FELT.STATUS_SHED, FELT.IRQ_RAW_SHED_CHANGE, FELT.IRQ_RAW_BACKLOG_DROP, FELT.IRQ_RAW_REGION_DISCARD, FELT.IRQ_RAW_TX_FAILED, FELT.IRQ_RAW_TOKEN_ERR, FELT.IRQ_RAW_TX_TIMEOUT, FELT.IRQ_RAW_HS_TIMEOUT, FELT.FAULT_CODE_CAUSE, FELT.FAULT_CODE_PORT, FELT.FAULT_CODE_TAG, FELT.TO_CNT_TX_TO_CNT, FELT.TO_CNT_HS_TO_CNT, FELT.ERR_CNT_FAIL_CNT, FELT.ERR_CNT_TOKEN_CNT, FELT.RETRY_CNT_REGION_DISCARDS, FELT.RETRY_CNT_RETRIES, FELT.TAG_BUSY0_BUSY, FELT.TAG_BUSY1_BUSY, FELT.CHAIN_Q_DROPS, FELT.CHAIN_Q_DEPTH, FELT.BUS_Q_DROPS, FELT.BUS_Q_DEPTH] ++
  [FELT.SHED_CNT]

/-! Page ARBCFG: the register tables of R279. -/
def ARBCFG.RANK0 : FieldSpec := ⟨0x040, 31, 0, .rw, 0x44444444, 1, 4⟩
def ARBCFG.RANK1_MP : FieldSpec := ⟨0x044, 31, 28, .ro, 0xF, 1, 4⟩
def ARBCFG.RANK1_LOW : FieldSpec := ⟨0x044, 27, 0, .rw, 0x2224444, 1, 4⟩
def ARBCFG.RANK2 : FieldSpec := ⟨0x048, 31, 0, .rw, 0x98611110, 1, 4⟩
def ARBCFG.STARVE_THR_ROUNDS : FieldSpec := ⟨0x04C, 15, 0, .rw, 0x100, 1, 4⟩

/-- All fields of the ARBCFG page. -/
def ARBCFG.fields : List FieldSpec :=
  [ARBCFG.RANK0, ARBCFG.RANK1_MP, ARBCFG.RANK1_LOW, ARBCFG.RANK2, ARBCFG.STARVE_THR_ROUNDS]

/-! Page ARB: the register tables of R280, R281. -/
def ARB.CTRL_CLR_CNT : FieldSpec := ⟨0x008, 0, 0, .wo, 0, 1, 4⟩
def ARB.STATUS_OWNER : FieldSpec := ⟨0x00C, 23, 16, .ro, 0xFF, 1, 4⟩
def ARB.STATUS_COMMIT_PENDING : FieldSpec := ⟨0x00C, 15, 15, .ro, 0, 1, 4⟩
def ARB.STATUS_POINTER : FieldSpec := ⟨0x00C, 6, 0, .ro, 0, 1, 4⟩
def ARB.IRQ_RAW_PREEMPT : FieldSpec := ⟨0x010, 3, 3, .ro, 0, 1, 4⟩
def ARB.IRQ_RAW_STARVE : FieldSpec := ⟨0x010, 2, 2, .ro, 0, 1, 4⟩
def ARB.IRQ_RAW_COMMIT_REFUSED : FieldSpec := ⟨0x010, 1, 1, .ro, 0, 1, 4⟩
def ARB.IRQ_RAW_COMMIT_DONE : FieldSpec := ⟨0x010, 0, 0, .ro, 0, 1, 4⟩
def ARB.FAULT_CODE_CAUSE : FieldSpec := ⟨0x024, 19, 16, .ro, 0, 1, 4⟩
def ARB.FAULT_CODE_ENTRY : FieldSpec := ⟨0x024, 6, 0, .ro, 0, 1, 4⟩
def ARB.ARB_CFG_BURST : FieldSpec := ⟨0x040, 15, 8, .rws, 4, 1, 4⟩
def ARB.ARB_CFG_TABLE_LEN : FieldSpec := ⟨0x040, 7, 0, .rws, 0x80, 1, 4⟩
def ARB.ROUNDS : FieldSpec := ⟨0x044, 31, 0, .ro, 0, 1, 4⟩
def ARB.HANDSHAKES : FieldSpec := ⟨0x048, 31, 0, .ro, 0, 1, 4⟩
def ARB.ARB_CNT_BG_GRANTS : FieldSpec := ⟨0x04C, 31, 16, .ro, 0, 1, 4⟩
def ARB.ARB_CNT_PREEMPTS : FieldSpec := ⟨0x04C, 15, 0, .ro, 0, 1, 4⟩
def ARB.PORT_STAT_WAIT_MAX : FieldSpec := ⟨0x080, 31, 16, .ro, 0, 24, 4⟩
def ARB.PORT_STAT_STARVE : FieldSpec := ⟨0x080, 15, 0, .ro, 0, 24, 4⟩
def ARB.SLOTS : FieldSpec := ⟨0x100, 31, 0, .rws, 0, 32, 4⟩

/-- All fields of the ARB page. -/
def ARB.fields : List FieldSpec :=
  [ARB.CTRL_CLR_CNT, ARB.STATUS_OWNER, ARB.STATUS_COMMIT_PENDING, ARB.STATUS_POINTER, ARB.IRQ_RAW_PREEMPT, ARB.IRQ_RAW_STARVE, ARB.IRQ_RAW_COMMIT_REFUSED, ARB.IRQ_RAW_COMMIT_DONE, ARB.FAULT_CODE_CAUSE, ARB.FAULT_CODE_ENTRY, ARB.ARB_CFG_BURST, ARB.ARB_CFG_TABLE_LEN, ARB.ROUNDS, ARB.HANDSHAKES, ARB.ARB_CNT_BG_GRANTS, ARB.ARB_CNT_PREEMPTS, ARB.PORT_STAT_WAIT_MAX, ARB.PORT_STAT_STARVE, ARB.SLOTS]

/-! Page CE: the register tables of R161, R162. -/
def CE.CTRL_LEG_RESUME : FieldSpec := ⟨0x008, 2, 2, .wo, 0, 1, 4⟩
def CE.CTRL_RESTART : FieldSpec := ⟨0x008, 1, 1, .wo, 0, 1, 4⟩
def CE.CTRL_RUN : FieldSpec := ⟨0x008, 0, 0, .rw, 0, 1, 4⟩
def CE.STATUS_VENDOR : FieldSpec := ⟨0x00C, 7, 7, .ro, 0, 1, 4⟩
def CE.STATUS_OUT_ACTIVE : FieldSpec := ⟨0x00C, 6, 6, .ro, 0, 1, 4⟩
def CE.STATUS_IN_ACTIVE : FieldSpec := ⟨0x00C, 5, 5, .ro, 0, 1, 4⟩
def CE.STATUS_COMMIT_PENDING : FieldSpec := ⟨0x00C, 4, 4, .ro, 0, 1, 4⟩
def CE.STATUS_LEGS_FORCED_OFF : FieldSpec := ⟨0x00C, 3, 3, .ro, 0, 1, 4⟩
def CE.STATUS_STATE : FieldSpec := ⟨0x00C, 2, 0, .ro, 0, 1, 4⟩
def CE.IRQ_RAW_FP_FLAG : FieldSpec := ⟨0x010, 9, 9, .ro, 0, 1, 4⟩
def CE.IRQ_RAW_MBOX_DROP : FieldSpec := ⟨0x010, 8, 8, .ro, 0, 1, 4⟩
def CE.IRQ_RAW_COMMIT_DONE : FieldSpec := ⟨0x010, 7, 7, .ro, 0, 1, 4⟩
def CE.IRQ_RAW_RESUME_REFUSED : FieldSpec := ⟨0x010, 6, 6, .ro, 0, 1, 4⟩
def CE.IRQ_RAW_START_REFUSED : FieldSpec := ⟨0x010, 5, 5, .ro, 0, 1, 4⟩
def CE.IRQ_RAW_WRITE_IGNORED : FieldSpec := ⟨0x010, 4, 4, .ro, 0, 1, 4⟩
def CE.IRQ_RAW_RESTARTED : FieldSpec := ⟨0x010, 3, 3, .ro, 0, 1, 4⟩
def CE.IRQ_RAW_ENGINE_FAULT : FieldSpec := ⟨0x010, 2, 2, .ro, 0, 1, 4⟩
def CE.IRQ_RAW_MISS_OFF : FieldSpec := ⟨0x010, 1, 1, .ro, 0, 1, 4⟩
def CE.IRQ_RAW_DEADLINE_MISS : FieldSpec := ⟨0x010, 0, 0, .ro, 0, 1, 4⟩
def CE.FAULT_CODE_CAUSE : FieldSpec := ⟨0x024, 19, 16, .ro, 0, 1, 4⟩
def CE.FAULT_CODE_ADDR : FieldSpec := ⟨0x024, 14, 0, .ro, 0, 1, 4⟩
def CE.ENG_CFG_AUTO_RESTART : FieldSpec := ⟨0x040, 1, 1, .rwl, 1, 1, 4⟩
def CE.ENG_CFG_VENDOR_PROG : FieldSpec := ⟨0x040, 0, 0, .rwl, 1, 1, 4⟩
def CE.TICK_PERIOD_TICKS : FieldSpec := ⟨0x044, 18, 0, .rwl, 0x320, 1, 4⟩
def CE.TICK_PHASE_TICKS : FieldSpec := ⟨0x048, 18, 0, .rwl, 0x64, 1, 4⟩
def CE.DEADLINE_TICKS : FieldSpec := ⟨0x04C, 18, 0, .rwl, 0x1B8, 1, 4⟩
def CE.LEG_LIST0_SLOTS : FieldSpec := ⟨0x050, 31, 0, .rwl, 0, 1, 4⟩
def CE.LEG_LIST1_SLOTS : FieldSpec := ⟨0x054, 31, 0, .rwl, 0, 1, 4⟩
def CE.MISS_STAT_TOTAL : FieldSpec := ⟨0x058, 31, 16, .ro, 0, 1, 4⟩
def CE.MISS_STAT_CONSEC : FieldSpec := ⟨0x058, 1, 0, .ro, 0, 1, 4⟩
def CE.CLEAN_RUN : FieldSpec := ⟨0x05C, 15, 0, .ro, 0, 1, 4⟩
def CE.SLACK_MIN_TICKS : FieldSpec := ⟨0x060, 15, 0, .ro, 0xFFFF, 1, 4⟩
def CE.SLACK_LAST_TICKS : FieldSpec := ⟨0x064, 15, 0, .ro, 0xFFFF, 1, 4⟩
def CE.SAMPLES : FieldSpec := ⟨0x068, 31, 0, .ro, 0, 1, 4⟩
def CE.RESTARTS : FieldSpec := ⟨0x06C, 15, 0, .ro, 0, 1, 4⟩
def CE.FP_FLAGS_INVALID : FieldSpec := ⟨0x070, 4, 4, .w1c, 0, 1, 4⟩
def CE.FP_FLAGS_DIV_ZERO : FieldSpec := ⟨0x070, 3, 3, .w1c, 0, 1, 4⟩
def CE.FP_FLAGS_OVERFLOW : FieldSpec := ⟨0x070, 2, 2, .w1c, 0, 1, 4⟩
def CE.FP_FLAGS_FLUSHED : FieldSpec := ⟨0x070, 1, 1, .w1c, 0, 1, 4⟩
def CE.FP_FLAGS_CVT_SAT : FieldSpec := ⟨0x070, 0, 0, .w1c, 0, 1, 4⟩

/-- All fields of the CE page. -/
def CE.fields : List FieldSpec :=
  [CE.CTRL_LEG_RESUME, CE.CTRL_RESTART, CE.CTRL_RUN, CE.STATUS_VENDOR, CE.STATUS_OUT_ACTIVE, CE.STATUS_IN_ACTIVE, CE.STATUS_COMMIT_PENDING, CE.STATUS_LEGS_FORCED_OFF, CE.STATUS_STATE, CE.IRQ_RAW_FP_FLAG, CE.IRQ_RAW_MBOX_DROP, CE.IRQ_RAW_COMMIT_DONE, CE.IRQ_RAW_RESUME_REFUSED, CE.IRQ_RAW_START_REFUSED, CE.IRQ_RAW_WRITE_IGNORED, CE.IRQ_RAW_RESTARTED, CE.IRQ_RAW_ENGINE_FAULT, CE.IRQ_RAW_MISS_OFF, CE.IRQ_RAW_DEADLINE_MISS, CE.FAULT_CODE_CAUSE, CE.FAULT_CODE_ADDR, CE.ENG_CFG_AUTO_RESTART, CE.ENG_CFG_VENDOR_PROG, CE.TICK_PERIOD_TICKS] ++
  [CE.TICK_PHASE_TICKS, CE.DEADLINE_TICKS, CE.LEG_LIST0_SLOTS, CE.LEG_LIST1_SLOTS, CE.MISS_STAT_TOTAL, CE.MISS_STAT_CONSEC, CE.CLEAN_RUN, CE.SLACK_MIN_TICKS, CE.SLACK_LAST_TICKS, CE.SAMPLES, CE.RESTARTS, CE.FP_FLAGS_INVALID, CE.FP_FLAGS_DIV_ZERO, CE.FP_FLAGS_OVERFLOW, CE.FP_FLAGS_FLUSHED, CE.FP_FLAGS_CVT_SAT]

/-! Page TE: the register tables of R161, R162. -/
def TE.CTRL_RESTART : FieldSpec := ⟨0x008, 1, 1, .wo, 0, 1, 4⟩
def TE.STATUS_STATE : FieldSpec := ⟨0x00C, 2, 0, .ro, 0, 1, 4⟩
def TE.IRQ_RAW_FP_FLAG : FieldSpec := ⟨0x010, 9, 9, .ro, 0, 1, 4⟩
def TE.IRQ_RAW_WRITE_IGNORED : FieldSpec := ⟨0x010, 4, 4, .ro, 0, 1, 4⟩
def TE.IRQ_RAW_RESTARTED : FieldSpec := ⟨0x010, 3, 3, .ro, 0, 1, 4⟩
def TE.IRQ_RAW_ENGINE_FAULT : FieldSpec := ⟨0x010, 2, 2, .ro, 0, 1, 4⟩
def TE.IRQ_RAW_DEADLINE_MISS : FieldSpec := ⟨0x010, 0, 0, .ro, 0, 1, 4⟩
def TE.FAULT_CODE_CAUSE : FieldSpec := ⟨0x024, 19, 16, .ro, 0, 1, 4⟩
def TE.FAULT_CODE_ADDR : FieldSpec := ⟨0x024, 14, 0, .ro, 0, 1, 4⟩
def TE.ENG_CFG_AUTO_RESTART : FieldSpec := ⟨0x040, 1, 1, .rwl, 1, 1, 4⟩
def TE.TICK_PERIOD_TICKS : FieldSpec := ⟨0x044, 18, 0, .ro, 0x1F40, 1, 4⟩
def TE.TICK_PHASE_TICKS : FieldSpec := ⟨0x048, 18, 0, .rwl, 0x64, 1, 4⟩
def TE.DEADLINE_TICKS : FieldSpec := ⟨0x04C, 18, 0, .rwl, 0xE10, 1, 4⟩
def TE.MISS_STAT_TOTAL : FieldSpec := ⟨0x058, 31, 16, .ro, 0, 1, 4⟩
def TE.SLACK_MIN_TICKS : FieldSpec := ⟨0x060, 15, 0, .ro, 0xFFFF, 1, 4⟩
def TE.SLACK_LAST_TICKS : FieldSpec := ⟨0x064, 15, 0, .ro, 0xFFFF, 1, 4⟩
def TE.SAMPLES : FieldSpec := ⟨0x068, 31, 0, .ro, 0, 1, 4⟩
def TE.RESTARTS : FieldSpec := ⟨0x06C, 15, 0, .ro, 0, 1, 4⟩
def TE.FP_FLAGS_INVALID : FieldSpec := ⟨0x070, 4, 4, .w1c, 0, 1, 4⟩
def TE.FP_FLAGS_DIV_ZERO : FieldSpec := ⟨0x070, 3, 3, .w1c, 0, 1, 4⟩
def TE.FP_FLAGS_OVERFLOW : FieldSpec := ⟨0x070, 2, 2, .w1c, 0, 1, 4⟩
def TE.FP_FLAGS_FLUSHED : FieldSpec := ⟨0x070, 1, 1, .w1c, 0, 1, 4⟩
def TE.FP_FLAGS_CVT_SAT : FieldSpec := ⟨0x070, 0, 0, .w1c, 0, 1, 4⟩

/-- All fields of the TE page. -/
def TE.fields : List FieldSpec :=
  [TE.CTRL_RESTART, TE.STATUS_STATE, TE.IRQ_RAW_FP_FLAG, TE.IRQ_RAW_WRITE_IGNORED, TE.IRQ_RAW_RESTARTED, TE.IRQ_RAW_ENGINE_FAULT, TE.IRQ_RAW_DEADLINE_MISS, TE.FAULT_CODE_CAUSE, TE.FAULT_CODE_ADDR, TE.ENG_CFG_AUTO_RESTART, TE.TICK_PERIOD_TICKS, TE.TICK_PHASE_TICKS, TE.DEADLINE_TICKS, TE.MISS_STAT_TOTAL, TE.SLACK_MIN_TICKS, TE.SLACK_LAST_TICKS, TE.SAMPLES, TE.RESTARTS, TE.FP_FLAGS_INVALID, TE.FP_FLAGS_DIV_ZERO, TE.FP_FLAGS_OVERFLOW, TE.FP_FLAGS_FLUSHED, TE.FP_FLAGS_CVT_SAT]

/-! Page VOTER: the register tables of R124, R125. -/
def VOTER.CTRL_TEST : FieldSpec := ⟨0x008, 1, 1, .wo, 0, 1, 4⟩
def VOTER.CTRL_CLR_CNT : FieldSpec := ⟨0x008, 0, 0, .wo, 0, 1, 4⟩
def VOTER.STATUS_TEST_PASS : FieldSpec := ⟨0x00C, 3, 3, .ro, 0, 1, 4⟩
def VOTER.STATUS_TEST_BUSY : FieldSpec := ⟨0x00C, 2, 2, .ro, 0, 1, 4⟩
def VOTER.STATUS_SPARE_READY : FieldSpec := ⟨0x00C, 1, 1, .ro, 0, 1, 4⟩
def VOTER.STATUS_HOLD : FieldSpec := ⟨0x00C, 0, 0, .ro, 0, 1, 4⟩
def VOTER.IRQ_RAW_WRITE_IGNORED : FieldSpec := ⟨0x010, 9, 9, .ro, 0, 1, 4⟩
def VOTER.IRQ_RAW_SELFTEST_FAIL : FieldSpec := ⟨0x010, 8, 8, .ro, 0, 1, 4⟩
def VOTER.IRQ_RAW_ROLE_CHANGE : FieldSpec := ⟨0x010, 7, 7, .ro, 0, 1, 4⟩
def VOTER.IRQ_RAW_SPARE_HAS_LEGS : FieldSpec := ⟨0x010, 6, 6, .ro, 0, 1, 4⟩
def VOTER.IRQ_RAW_SPARE_NOT_READY : FieldSpec := ⟨0x010, 5, 5, .ro, 0, 1, 4⟩
def VOTER.IRQ_RAW_HOLD_SHUTDOWN : FieldSpec := ⟨0x010, 4, 4, .ro, 0, 1, 4⟩
def VOTER.IRQ_RAW_NO_MAJORITY : FieldSpec := ⟨0x010, 3, 3, .ro, 0, 1, 4⟩
def VOTER.IRQ_RAW_FAILBACK : FieldSpec := ⟨0x010, 2, 2, .ro, 0, 1, 4⟩
def VOTER.IRQ_RAW_TAKEOVER : FieldSpec := ⟨0x010, 1, 1, .ro, 0, 1, 4⟩
def VOTER.IRQ_RAW_OUTVOTED : FieldSpec := ⟨0x010, 0, 0, .ro, 0, 1, 4⟩
def VOTER.FAULT_CODE_CAUSE : FieldSpec := ⟨0x024, 19, 16, .ro, 0, 1, 4⟩
def VOTER.FAULT_CODE_POSITION : FieldSpec := ⟨0x024, 13, 12, .ro, 0, 1, 4⟩
def VOTER.FAULT_CODE_ENGINE : FieldSpec := ⟨0x024, 11, 8, .ro, 0, 1, 4⟩
def VOTER.FAULT_CODE_WORD : FieldSpec := ⟨0x024, 4, 0, .ro, 0, 1, 4⟩
def VOTER.VOTE_CFG_FAILBACK_EN : FieldSpec := ⟨0x040, 9, 9, .rwl, 1, 1, 4⟩
def VOTER.VOTE_CFG_SPARE_EN : FieldSpec := ⟨0x040, 8, 8, .rwl, 1, 1, 4⟩
def VOTER.VOTE_CFG_SPARE : FieldSpec := ⟨0x040, 3, 0, .rwl, 0xB, 1, 4⟩
def VOTER.LEASE_HOLDER : FieldSpec := ⟨0x044, 27, 24, .ro, 0xF, 3, 4⟩
def VOTER.LEASE_POS_STATE : FieldSpec := ⟨0x044, 17, 16, .ro, 3, 3, 4⟩
def VOTER.LEASE_EXPIRY : FieldSpec := ⟨0x044, 15, 0, .ro, 0, 3, 4⟩
def VOTER.VOTE_STAT_HOLD_CNT : FieldSpec := ⟨0x050, 23, 20, .ro, 0, 1, 4⟩
def VOTER.VOTE_STAT_MODE : FieldSpec := ⟨0x050, 17, 16, .ro, 0, 1, 4⟩
def VOTER.LAST_SAMPLE : FieldSpec := ⟨0x054, 31, 0, .ro, 0, 1, 4⟩
def VOTER.DISAGREE_POS2 : FieldSpec := ⟨0x058, 29, 20, .ro, 0, 1, 4⟩
def VOTER.DISAGREE_POS1 : FieldSpec := ⟨0x058, 19, 10, .ro, 0, 1, 4⟩
def VOTER.DISAGREE_POS0 : FieldSpec := ⟨0x058, 9, 0, .ro, 0, 1, 4⟩
def VOTER.EVENTS_TAKEOVERS : FieldSpec := ⟨0x05C, 31, 16, .ro, 0, 1, 4⟩
def VOTER.EVENTS_FAILBACKS : FieldSpec := ⟨0x05C, 15, 0, .ro, 0, 1, 4⟩
def VOTER.ROLE_CFG_PC_EN : FieldSpec := ⟨0x060, 12, 12, .rw, 0, 1, 4⟩
def VOTER.ROLE_CFG_PC_RANK : FieldSpec := ⟨0x060, 11, 8, .rw, 0xF, 1, 4⟩
def VOTER.ROLE_CFG_TM_EN : FieldSpec := ⟨0x060, 4, 4, .rw, 0, 1, 4⟩
def VOTER.ROLE_CFG_TM_RANK : FieldSpec := ⟨0x060, 3, 0, .rw, 0xF, 1, 4⟩
def VOTER.ROLE_STATUS_PC_STATE : FieldSpec := ⟨0x064, 5, 4, .ro, 0, 1, 4⟩
def VOTER.ROLE_STATUS_TM_STATE : FieldSpec := ⟨0x064, 1, 0, .ro, 0, 1, 4⟩
def VOTER.TM_HOLDER_ADDR : FieldSpec := ⟨0x068, 19, 0, .ro, 0, 1, 4⟩
def VOTER.PC_HOLDER_ADDR : FieldSpec := ⟨0x06C, 19, 0, .ro, 0, 1, 4⟩
def VOTER.HEALTH_ROLE : FieldSpec := ⟨0x080, 31, 28, .ro, 0, 15, 4⟩
def VOTER.HEALTH_LAST_FAIL : FieldSpec := ⟨0x080, 27, 24, .ro, 0, 15, 4⟩
def VOTER.HEALTH_FAIL_CNT : FieldSpec := ⟨0x080, 23, 16, .ro, 0, 15, 4⟩
def VOTER.HEALTH_PASS_RUN : FieldSpec := ⟨0x080, 15, 0, .ro, 0, 15, 4⟩

/-- All fields of the VOTER page. -/
def VOTER.fields : List FieldSpec :=
  [VOTER.CTRL_TEST, VOTER.CTRL_CLR_CNT, VOTER.STATUS_TEST_PASS, VOTER.STATUS_TEST_BUSY, VOTER.STATUS_SPARE_READY, VOTER.STATUS_HOLD, VOTER.IRQ_RAW_WRITE_IGNORED, VOTER.IRQ_RAW_SELFTEST_FAIL, VOTER.IRQ_RAW_ROLE_CHANGE, VOTER.IRQ_RAW_SPARE_HAS_LEGS, VOTER.IRQ_RAW_SPARE_NOT_READY, VOTER.IRQ_RAW_HOLD_SHUTDOWN, VOTER.IRQ_RAW_NO_MAJORITY, VOTER.IRQ_RAW_FAILBACK, VOTER.IRQ_RAW_TAKEOVER, VOTER.IRQ_RAW_OUTVOTED, VOTER.FAULT_CODE_CAUSE, VOTER.FAULT_CODE_POSITION, VOTER.FAULT_CODE_ENGINE, VOTER.FAULT_CODE_WORD, VOTER.VOTE_CFG_FAILBACK_EN, VOTER.VOTE_CFG_SPARE_EN, VOTER.VOTE_CFG_SPARE, VOTER.LEASE_HOLDER] ++
  [VOTER.LEASE_POS_STATE, VOTER.LEASE_EXPIRY, VOTER.VOTE_STAT_HOLD_CNT, VOTER.VOTE_STAT_MODE, VOTER.LAST_SAMPLE, VOTER.DISAGREE_POS2, VOTER.DISAGREE_POS1, VOTER.DISAGREE_POS0, VOTER.EVENTS_TAKEOVERS, VOTER.EVENTS_FAILBACKS, VOTER.ROLE_CFG_PC_EN, VOTER.ROLE_CFG_PC_RANK, VOTER.ROLE_CFG_TM_EN, VOTER.ROLE_CFG_TM_RANK, VOTER.ROLE_STATUS_PC_STATE, VOTER.ROLE_STATUS_TM_STATE, VOTER.TM_HOLDER_ADDR, VOTER.PC_HOLDER_ADDR, VOTER.HEALTH_ROLE, VOTER.HEALTH_LAST_FAIL, VOTER.HEALTH_FAIL_CNT, VOTER.HEALTH_PASS_RUN]

/-! Page MP: the register tables of R165. -/
def MP.STATUS_MP_OVERLOAD : FieldSpec := ⟨0x00C, 0, 0, .ro, 0, 1, 4⟩
def MP.IRQ_RAW_OVERLOAD_CLEAR : FieldSpec := ⟨0x010, 2, 2, .ro, 0, 1, 4⟩
def MP.IRQ_RAW_OVERLOAD_SET : FieldSpec := ⟨0x010, 1, 1, .ro, 0, 1, 4⟩
def MP.IRQ_RAW_OVERRUN : FieldSpec := ⟨0x010, 0, 0, .ro, 0, 1, 4⟩
def MP.HK_PERIOD_US : FieldSpec := ⟨0x040, 13, 0, .rw, 0x3E8, 1, 4⟩
def MP.HK_DONE_DONE : FieldSpec := ⟨0x044, 0, 0, .wo, 0, 1, 4⟩
def MP.HK_STAT_OVERRUNS : FieldSpec := ⟨0x048, 31, 16, .ro, 0, 1, 4⟩
def MP.HK_STAT_CONSEC : FieldSpec := ⟨0x048, 1, 0, .ro, 0, 1, 4⟩

/-- All fields of the MP page. -/
def MP.fields : List FieldSpec :=
  [MP.STATUS_MP_OVERLOAD, MP.IRQ_RAW_OVERLOAD_CLEAR, MP.IRQ_RAW_OVERLOAD_SET, MP.IRQ_RAW_OVERRUN, MP.HK_PERIOD_US, MP.HK_DONE_DONE, MP.HK_STAT_OVERRUNS, MP.HK_STAT_CONSEC]

/-! Page LEG: the register tables of R198, R199, R229. -/
def LEG.CTRL_TRIP_CLR : FieldSpec := ⟨0x008, 17, 17, .wo, 0, 1, 4⟩
def LEG.CTRL_TRIP : FieldSpec := ⟨0x008, 16, 16, .wo, 0, 1, 4⟩
def LEG.CTRL_INVERT : FieldSpec := ⟨0x008, 4, 4, .rw, 0, 1, 4⟩
def LEG.CTRL_FORCE : FieldSpec := ⟨0x008, 3, 2, .rw, 0, 1, 4⟩
def LEG.CTRL_EN : FieldSpec := ⟨0x008, 0, 0, .rw, 0, 1, 4⟩
def LEG.STATUS_SC_HI_NOW : FieldSpec := ⟨0x00C, 22, 22, .ro, 0, 1, 4⟩
def LEG.STATUS_SC_LO_NOW : FieldSpec := ⟨0x00C, 21, 21, .ro, 0, 1, 4⟩
def LEG.STATUS_GS_HS_NOW : FieldSpec := ⟨0x00C, 20, 20, .ro, 0, 1, 4⟩
def LEG.STATUS_GS_LS_NOW : FieldSpec := ⟨0x00C, 19, 19, .ro, 0, 1, 4⟩
def LEG.STATUS_BOOT_UV : FieldSpec := ⟨0x00C, 18, 18, .ro, 0, 1, 4⟩
def LEG.STATUS_SRC_ACTIVE : FieldSpec := ⟨0x00C, 17, 17, .ro, 0, 1, 4⟩
def LEG.STATUS_TRIP_ACTIVE : FieldSpec := ⟨0x00C, 16, 16, .ro, 0, 1, 4⟩
def LEG.STATUS_TAPS_OFF : FieldSpec := ⟨0x00C, 11, 11, .ro, 1, 1, 4⟩
def LEG.STATUS_OWNER : FieldSpec := ⟨0x00C, 10, 7, .ro, 0xF, 1, 4⟩
def LEG.STATUS_OWNED : FieldSpec := ⟨0x00C, 6, 6, .ro, 0, 1, 4⟩
def LEG.STATUS_FULL_DUTY : FieldSpec := ⟨0x00C, 5, 5, .ro, 0, 1, 4⟩
def LEG.STATUS_PAIR_STALE : FieldSpec := ⟨0x00C, 4, 4, .ro, 0, 1, 4⟩
def LEG.STATUS_COMMIT_PENDING : FieldSpec := ⟨0x00C, 3, 3, .ro, 0, 1, 4⟩
def LEG.STATUS_LSTATE : FieldSpec := ⟨0x00C, 2, 0, .ro, 0, 1, 4⟩
def LEG.IRQ_RAW_CLEAR_REFUSED : FieldSpec := ⟨0x010, 23, 23, .ro, 0, 1, 4⟩
def LEG.IRQ_RAW_CLEARED : FieldSpec := ⟨0x010, 22, 22, .ro, 0, 1, 4⟩
def LEG.IRQ_RAW_BOOT_UV : FieldSpec := ⟨0x010, 21, 21, .ro, 0, 1, 4⟩
def LEG.IRQ_RAW_GS_FAULT : FieldSpec := ⟨0x010, 20, 20, .ro, 0, 1, 4⟩
def LEG.IRQ_RAW_SC_HI_TRIP : FieldSpec := ⟨0x010, 19, 19, .ro, 0, 1, 4⟩
def LEG.IRQ_RAW_SC_LO_TRIP : FieldSpec := ⟨0x010, 18, 18, .ro, 0, 1, 4⟩
def LEG.IRQ_RAW_CBC : FieldSpec := ⟨0x010, 17, 17, .ro, 0, 1, 4⟩
def LEG.IRQ_RAW_TRIP : FieldSpec := ⟨0x010, 16, 16, .ro, 0, 1, 4⟩
def LEG.IRQ_RAW_PULSE_DROP : FieldSpec := ⟨0x010, 8, 8, .ro, 0, 1, 4⟩
def LEG.IRQ_RAW_WRITE_IGNORED : FieldSpec := ⟨0x010, 7, 7, .ro, 0, 1, 4⟩
def LEG.IRQ_RAW_REFRESH : FieldSpec := ⟨0x010, 6, 6, .ro, 0, 1, 4⟩
def LEG.IRQ_RAW_FOREIGN_WRITE : FieldSpec := ⟨0x010, 5, 5, .ro, 0, 1, 4⟩
def LEG.IRQ_RAW_NAN_DUTY : FieldSpec := ⟨0x010, 4, 4, .ro, 0, 1, 4⟩
def LEG.IRQ_RAW_PERIOD_CLAMP : FieldSpec := ⟨0x010, 3, 3, .ro, 0, 1, 4⟩
def LEG.IRQ_RAW_DUTY_CLAMP : FieldSpec := ⟨0x010, 2, 2, .ro, 0, 1, 4⟩
def LEG.IRQ_RAW_PAIR_STALE : FieldSpec := ⟨0x010, 1, 1, .ro, 0, 1, 4⟩
def LEG.IRQ_RAW_COMMIT_DONE : FieldSpec := ⟨0x010, 0, 0, .ro, 0, 1, 4⟩
def LEG.FAULT_CODE_CAUSE : FieldSpec := ⟨0x024, 23, 16, .ro, 0, 1, 4⟩
def LEG.FAULT_CODE_SOURCE : FieldSpec := ⟨0x024, 15, 8, .ro, 0, 1, 4⟩
def LEG.PERIOD_INT : FieldSpec := ⟨0x040, 20, 5, .rws, 0x4E20, 1, 4⟩
def LEG.PERIOD_FR : FieldSpec := ⟨0x040, 4, 0, .rws, 0, 1, 4⟩
def LEG.DUTY_INT : FieldSpec := ⟨0x044, 20, 5, .rws, 0, 1, 4⟩
def LEG.DUTY_FR : FieldSpec := ⟨0x044, 4, 0, .rws, 0, 1, 4⟩
def LEG.PHASE_INT : FieldSpec := ⟨0x048, 20, 5, .rws, 0, 1, 4⟩
def LEG.PHASE_FR : FieldSpec := ⟨0x048, 4, 0, .rws, 0, 1, 4⟩
def LEG.DUTY_FRAC : FieldSpec := ⟨0x04C, 31, 0, .wo, 0, 1, 4⟩
def LEG.CFG_MIN_PULSE : FieldSpec := ⟨0x050, 15, 8, .rwl, 0x28, 1, 4⟩
def LEG.CFG_REFRESH_EN : FieldSpec := ⟨0x050, 7, 7, .rwl, 1, 1, 4⟩
def LEG.CFG_PIN_SWAP : FieldSpec := ⟨0x050, 6, 6, .rwl, 0, 1, 4⟩
def LEG.CFG_PRESCALE : FieldSpec := ⟨0x050, 5, 4, .rwl, 0, 1, 4⟩
def LEG.CFG_COMMIT_MODE : FieldSpec := ⟨0x050, 3, 3, .rwl, 0, 1, 4⟩
def LEG.CFG_UPD : FieldSpec := ⟨0x050, 2, 1, .rwl, 0, 1, 4⟩
def LEG.CFG_CMODE : FieldSpec := ⟨0x050, 0, 0, .rwl, 0, 1, 4⟩
def LEG.DEADTIME_DT_HL : FieldSpec := ⟨0x054, 31, 16, .rwl, 0xA00, 1, 4⟩
def LEG.DEADTIME_DT_LH : FieldSpec := ⟨0x054, 15, 0, .rwl, 0xA00, 1, 4⟩
def LEG.REFRESH_INTERVAL_US : FieldSpec := ⟨0x058, 25, 16, .rwl, 0x64, 1, 4⟩
def LEG.REFRESH_WIDTH : FieldSpec := ⟨0x058, 9, 0, .rwl, 0xC8, 1, 4⟩
def LEG.PHASE_EFF_INT : FieldSpec := ⟨0x05C, 20, 5, .ro, 0, 1, 4⟩
def LEG.PHASE_EFF_FR : FieldSpec := ⟨0x05C, 4, 0, .ro, 0, 1, 4⟩
def LEG.EFF_DUTY_TICKS : FieldSpec := ⟨0x060, 23, 5, .ro, 0, 1, 4⟩
def LEG.EFF_DUTY_TAPS : FieldSpec := ⟨0x060, 4, 0, .ro, 0, 1, 4⟩
def LEG.REFRESH_CNT : FieldSpec := ⟨0x064, 31, 0, .ro, 0, 1, 4⟩
def LEG.CNT_FOREIGN : FieldSpec := ⟨0x068, 31, 16, .ro, 0, 1, 4⟩
def LEG.CNT_DROPS : FieldSpec := ⟨0x068, 15, 0, .ro, 0, 1, 4⟩
def LEG.SC_LO_THR_NEG : FieldSpec := ⟨0x080, 25, 16, .rwl, 0x100, 1, 4⟩
def LEG.SC_LO_THR_POS : FieldSpec := ⟨0x080, 9, 0, .rwl, 0x300, 1, 4⟩
def LEG.SC_HI_THR_NEG : FieldSpec := ⟨0x084, 25, 16, .rwl, 0x80, 1, 4⟩
def LEG.SC_HI_THR_POS : FieldSpec := ⟨0x084, 9, 0, .rwl, 0x380, 1, 4⟩
def LEG.SC_CFG_HYST : FieldSpec := ⟨0x088, 11, 10, .rwl, 1, 1, 4⟩
def LEG.SC_CFG_CBC_EN : FieldSpec := ⟨0x088, 9, 9, .rwl, 1, 1, 4⟩
def LEG.SC_CFG_BLANK : FieldSpec := ⟨0x088, 8, 0, .rwl, 0xA0, 1, 4⟩
def LEG.GS_CFG_GS_FILT : FieldSpec := ⟨0x08C, 19, 16, .rwl, 4, 1, 4⟩
def LEG.GS_CFG_GS_WAIT : FieldSpec := ⟨0x08C, 10, 0, .rwl, 0xC8, 1, 4⟩
def LEG.TRIP_CFG_TRIP_QUIET : FieldSpec := ⟨0x090, 17, 8, .rw, 0xA, 1, 4⟩
def LEG.TRIP_CFG_ESC : FieldSpec := ⟨0x090, 1, 0, .rw, 0, 1, 4⟩
def LEG.TRIP_SRC_ACTIVE : FieldSpec := ⟨0x094, 26, 16, .ro, 0, 1, 4⟩
def LEG.TRIP_SRC_LATCHED : FieldSpec := ⟨0x094, 10, 0, .ro, 0, 1, 4⟩
def LEG.TRIP_STAMP : FieldSpec := ⟨0x098, 31, 0, .ro, 0, 1, 4⟩
def LEG.CNT_PROT_CBC_COUNT : FieldSpec := ⟨0x09C, 31, 16, .ro, 0, 1, 4⟩
def LEG.CNT_PROT_TRIPS : FieldSpec := ⟨0x09C, 15, 8, .ro, 0, 1, 4⟩
def LEG.CNT_PROT_CLEAR_REFUSED : FieldSpec := ⟨0x09C, 7, 0, .ro, 0, 1, 4⟩
def LEG.IL_DELAYS : FieldSpec := ⟨0x0A0, 15, 0, .ro, 0, 1, 4⟩

/-- All fields of the LEG page. -/
def LEG.fields : List FieldSpec :=
  [LEG.CTRL_TRIP_CLR, LEG.CTRL_TRIP, LEG.CTRL_INVERT, LEG.CTRL_FORCE, LEG.CTRL_EN, LEG.STATUS_SC_HI_NOW, LEG.STATUS_SC_LO_NOW, LEG.STATUS_GS_HS_NOW, LEG.STATUS_GS_LS_NOW, LEG.STATUS_BOOT_UV, LEG.STATUS_SRC_ACTIVE, LEG.STATUS_TRIP_ACTIVE, LEG.STATUS_TAPS_OFF, LEG.STATUS_OWNER, LEG.STATUS_OWNED, LEG.STATUS_FULL_DUTY, LEG.STATUS_PAIR_STALE, LEG.STATUS_COMMIT_PENDING, LEG.STATUS_LSTATE, LEG.IRQ_RAW_CLEAR_REFUSED, LEG.IRQ_RAW_CLEARED, LEG.IRQ_RAW_BOOT_UV, LEG.IRQ_RAW_GS_FAULT, LEG.IRQ_RAW_SC_HI_TRIP] ++
  [LEG.IRQ_RAW_SC_LO_TRIP, LEG.IRQ_RAW_CBC, LEG.IRQ_RAW_TRIP, LEG.IRQ_RAW_PULSE_DROP, LEG.IRQ_RAW_WRITE_IGNORED, LEG.IRQ_RAW_REFRESH, LEG.IRQ_RAW_FOREIGN_WRITE, LEG.IRQ_RAW_NAN_DUTY, LEG.IRQ_RAW_PERIOD_CLAMP, LEG.IRQ_RAW_DUTY_CLAMP, LEG.IRQ_RAW_PAIR_STALE, LEG.IRQ_RAW_COMMIT_DONE, LEG.FAULT_CODE_CAUSE, LEG.FAULT_CODE_SOURCE, LEG.PERIOD_INT, LEG.PERIOD_FR, LEG.DUTY_INT, LEG.DUTY_FR, LEG.PHASE_INT, LEG.PHASE_FR, LEG.DUTY_FRAC, LEG.CFG_MIN_PULSE, LEG.CFG_REFRESH_EN, LEG.CFG_PIN_SWAP] ++
  [LEG.CFG_PRESCALE, LEG.CFG_COMMIT_MODE, LEG.CFG_UPD, LEG.CFG_CMODE, LEG.DEADTIME_DT_HL, LEG.DEADTIME_DT_LH, LEG.REFRESH_INTERVAL_US, LEG.REFRESH_WIDTH, LEG.PHASE_EFF_INT, LEG.PHASE_EFF_FR, LEG.EFF_DUTY_TICKS, LEG.EFF_DUTY_TAPS, LEG.REFRESH_CNT, LEG.CNT_FOREIGN, LEG.CNT_DROPS, LEG.SC_LO_THR_NEG, LEG.SC_LO_THR_POS, LEG.SC_HI_THR_NEG, LEG.SC_HI_THR_POS, LEG.SC_CFG_HYST, LEG.SC_CFG_CBC_EN, LEG.SC_CFG_BLANK, LEG.GS_CFG_GS_FILT, LEG.GS_CFG_GS_WAIT] ++
  [LEG.TRIP_CFG_TRIP_QUIET, LEG.TRIP_CFG_ESC, LEG.TRIP_SRC_ACTIVE, LEG.TRIP_SRC_LATCHED, LEG.TRIP_STAMP, LEG.CNT_PROT_CBC_COUNT, LEG.CNT_PROT_TRIPS, LEG.CNT_PROT_CLEAR_REFUSED, LEG.IL_DELAYS]

/-! Page GRP: the register tables of R200, R230. -/
def GRP.CTRL_GFAULT : FieldSpec := ⟨0x008, 18, 18, .wo, 0, 1, 4⟩
def GRP.CTRL_TRIP_CLR : FieldSpec := ⟨0x008, 17, 17, .wo, 0, 1, 4⟩
def GRP.CTRL_TRIP : FieldSpec := ⟨0x008, 16, 16, .wo, 0, 1, 4⟩
def GRP.STATUS_MULTI_SC : FieldSpec := ⟨0x00C, 18, 18, .ro, 0, 1, 4⟩
def GRP.STATUS_SRC_ACTIVE : FieldSpec := ⟨0x00C, 17, 17, .ro, 0, 1, 4⟩
def GRP.STATUS_TRIPPED : FieldSpec := ⟨0x00C, 16, 16, .ro, 0, 1, 4⟩
def GRP.STATUS_COMMIT_PENDING : FieldSpec := ⟨0x00C, 1, 1, .ro, 0, 1, 4⟩
def GRP.STATUS_ILV_ON : FieldSpec := ⟨0x00C, 0, 0, .ro, 0, 1, 4⟩
def GRP.IRQ_RAW_ESC_DEVICE : FieldSpec := ⟨0x010, 21, 21, .ro, 0, 1, 4⟩
def GRP.IRQ_RAW_CLEAR_REFUSED : FieldSpec := ⟨0x010, 20, 20, .ro, 0, 1, 4⟩
def GRP.IRQ_RAW_CLEARED : FieldSpec := ⟨0x010, 19, 19, .ro, 0, 1, 4⟩
def GRP.IRQ_RAW_GFAULT : FieldSpec := ⟨0x010, 18, 18, .ro, 0, 1, 4⟩
def GRP.IRQ_RAW_MULTI_SC : FieldSpec := ⟨0x010, 17, 17, .ro, 0, 1, 4⟩
def GRP.IRQ_RAW_GROUP_OFF : FieldSpec := ⟨0x010, 16, 16, .ro, 0, 1, 4⟩
def GRP.IRQ_RAW_WRITE_IGNORED : FieldSpec := ⟨0x010, 3, 3, .ro, 0, 1, 4⟩
def GRP.IRQ_RAW_RESPREAD : FieldSpec := ⟨0x010, 2, 2, .ro, 0, 1, 4⟩
def GRP.IRQ_RAW_ASSIGN_REFUSED : FieldSpec := ⟨0x010, 1, 1, .ro, 0, 1, 4⟩
def GRP.IRQ_RAW_COMMIT_DONE : FieldSpec := ⟨0x010, 0, 0, .ro, 0, 1, 4⟩
def GRP.FAULT_CODE_CAUSE : FieldSpec := ⟨0x024, 23, 16, .ro, 0, 1, 4⟩
def GRP.FAULT_CODE_LEG : FieldSpec := ⟨0x024, 15, 8, .ro, 0, 1, 4⟩
def GRP.ASSIGN0_LEGS : FieldSpec := ⟨0x040, 31, 0, .rwl, 0, 1, 4⟩
def GRP.ASSIGN1_LEGS : FieldSpec := ⟨0x044, 15, 0, .rwl, 0, 1, 4⟩
def GRP.ILV_CFG_PRESCALE : FieldSpec := ⟨0x048, 3, 2, .rwl, 0, 1, 4⟩
def GRP.ILV_CFG_MODE : FieldSpec := ⟨0x048, 1, 0, .rwl, 0, 1, 4⟩
def GRP.GPERIOD_INT : FieldSpec := ⟨0x04C, 20, 5, .rws, 0x4E20, 1, 4⟩
def GRP.GPERIOD_FR : FieldSpec := ⟨0x04C, 4, 0, .rws, 0, 1, 4⟩
def GRP.BASE_PHASE_INT : FieldSpec := ⟨0x050, 20, 5, .rws, 0, 1, 4⟩
def GRP.BASE_PHASE_FR : FieldSpec := ⟨0x050, 4, 0, .rws, 0, 1, 4⟩
def GRP.GROUP_N_N_ASSIGNED : FieldSpec := ⟨0x054, 12, 8, .ro, 0, 1, 4⟩
def GRP.GROUP_N_N_SPREAD : FieldSpec := ⟨0x054, 4, 0, .ro, 0, 1, 4⟩
def GRP.GESC_CFG_TRIP_QUIET : FieldSpec := ⟨0x080, 17, 8, .rw, 0xA, 1, 4⟩
def GRP.GESC_CFG_PHASE_LOSS_DEV : FieldSpec := ⟨0x080, 2, 2, .rw, 1, 1, 4⟩
def GRP.GESC_CFG_GF_DEV : FieldSpec := ⟨0x080, 1, 1, .rw, 0, 1, 4⟩
def GRP.GESC_CFG_MULTI_DEV : FieldSpec := ⟨0x080, 0, 0, .rw, 0, 1, 4⟩
def GRP.GTRIP_STAMP : FieldSpec := ⟨0x084, 31, 0, .ro, 0, 1, 4⟩
def GRP.GCNT_MULTI : FieldSpec := ⟨0x088, 31, 16, .ro, 0, 1, 4⟩
def GRP.GCNT_TRIPS : FieldSpec := ⟨0x088, 15, 0, .ro, 0, 1, 4⟩

/-- All fields of the GRP page. -/
def GRP.fields : List FieldSpec :=
  [GRP.CTRL_GFAULT, GRP.CTRL_TRIP_CLR, GRP.CTRL_TRIP, GRP.STATUS_MULTI_SC, GRP.STATUS_SRC_ACTIVE, GRP.STATUS_TRIPPED, GRP.STATUS_COMMIT_PENDING, GRP.STATUS_ILV_ON, GRP.IRQ_RAW_ESC_DEVICE, GRP.IRQ_RAW_CLEAR_REFUSED, GRP.IRQ_RAW_CLEARED, GRP.IRQ_RAW_GFAULT, GRP.IRQ_RAW_MULTI_SC, GRP.IRQ_RAW_GROUP_OFF, GRP.IRQ_RAW_WRITE_IGNORED, GRP.IRQ_RAW_RESPREAD, GRP.IRQ_RAW_ASSIGN_REFUSED, GRP.IRQ_RAW_COMMIT_DONE, GRP.FAULT_CODE_CAUSE, GRP.FAULT_CODE_LEG, GRP.ASSIGN0_LEGS, GRP.ASSIGN1_LEGS, GRP.ILV_CFG_PRESCALE, GRP.ILV_CFG_MODE] ++
  [GRP.GPERIOD_INT, GRP.GPERIOD_FR, GRP.BASE_PHASE_INT, GRP.BASE_PHASE_FR, GRP.GROUP_N_N_ASSIGNED, GRP.GROUP_N_N_SPREAD, GRP.GESC_CFG_TRIP_QUIET, GRP.GESC_CFG_PHASE_LOSS_DEV, GRP.GESC_CFG_GF_DEV, GRP.GESC_CFG_MULTI_DEV, GRP.GTRIP_STAMP, GRP.GCNT_MULTI, GRP.GCNT_TRIPS]

/-! Page PWMTB: the register tables of R197. -/
def PWMTB.CTRL_CAL : FieldSpec := ⟨0x008, 0, 0, .wo, 0, 1, 4⟩
def PWMTB.STATUS_HALTED : FieldSpec := ⟨0x00C, 3, 3, .ro, 0, 1, 4⟩
def PWMTB.STATUS_BYPASS : FieldSpec := ⟨0x00C, 2, 2, .ro, 0, 1, 4⟩
def PWMTB.STATUS_CAL_BUSY : FieldSpec := ⟨0x00C, 1, 1, .ro, 0, 1, 4⟩
def PWMTB.STATUS_TAPS_VALID : FieldSpec := ⟨0x00C, 0, 0, .ro, 0, 1, 4⟩
def PWMTB.IRQ_RAW_CAL_ERR : FieldSpec := ⟨0x010, 1, 1, .ro, 0, 1, 4⟩
def PWMTB.IRQ_RAW_CAL_DONE : FieldSpec := ⟨0x010, 0, 0, .ro, 0, 1, 4⟩
def PWMTB.FAULT_CODE_CAUSE : FieldSpec := ⟨0x024, 19, 16, .ro, 0, 1, 4⟩
def PWMTB.FAULT_CODE_LINE : FieldSpec := ⟨0x024, 6, 0, .ro, 0, 1, 4⟩
def PWMTB.CAL_CODE_REF_CODE : FieldSpec := ⟨0x040, 5, 0, .ro, 0, 1, 4⟩
def PWMTB.CAL_TIME_US : FieldSpec := ⟨0x044, 8, 0, .ro, 0, 1, 4⟩
def PWMTB.CAL_COUNT : FieldSpec := ⟨0x048, 15, 0, .ro, 0, 1, 4⟩
def PWMTB.EN_SUMMARY0_EN : FieldSpec := ⟨0x04C, 31, 0, .ro, 0, 1, 4⟩
def PWMTB.EN_SUMMARY1_EN : FieldSpec := ⟨0x050, 15, 0, .ro, 0, 1, 4⟩

/-- All fields of the PWMTB page. -/
def PWMTB.fields : List FieldSpec :=
  [PWMTB.CTRL_CAL, PWMTB.STATUS_HALTED, PWMTB.STATUS_BYPASS, PWMTB.STATUS_CAL_BUSY, PWMTB.STATUS_TAPS_VALID, PWMTB.IRQ_RAW_CAL_ERR, PWMTB.IRQ_RAW_CAL_DONE, PWMTB.FAULT_CODE_CAUSE, PWMTB.FAULT_CODE_LINE, PWMTB.CAL_CODE_REF_CODE, PWMTB.CAL_TIME_US, PWMTB.CAL_COUNT, PWMTB.EN_SUMMARY0_EN, PWMTB.EN_SUMMARY1_EN]

/-! Page SDF: the register tables of R251, R252, R253. -/
def SDF.CTRL_SYNC : FieldSpec := ⟨0x008, 7, 0, .wo, 0, 1, 4⟩
def SDF.STATUS_STUCK_NOW : FieldSpec := ⟨0x00C, 23, 16, .ro, 0, 1, 4⟩
def SDF.STATUS_SETTLING : FieldSpec := ⟨0x00C, 15, 8, .ro, 0, 1, 4⟩
def SDF.STATUS_COMMIT_PENDING : FieldSpec := ⟨0x00C, 7, 0, .ro, 0, 1, 4⟩
def SDF.IRQ_RAW_WR_FAIL : FieldSpec := ⟨0x010, 27, 27, .ro, 0, 1, 4⟩
def SDF.IRQ_RAW_NO_CLK : FieldSpec := ⟨0x010, 26, 26, .ro, 0, 1, 4⟩
def SDF.IRQ_RAW_COMMIT_DONE : FieldSpec := ⟨0x010, 25, 25, .ro, 0, 1, 4⟩
def SDF.IRQ_RAW_COMMIT_REFUSED : FieldSpec := ⟨0x010, 24, 24, .ro, 0, 1, 4⟩
def SDF.IRQ_RAW_STUCK : FieldSpec := ⟨0x010, 23, 16, .ro, 0, 1, 4⟩
def SDF.IRQ_RAW_SAT : FieldSpec := ⟨0x010, 15, 8, .ro, 0, 1, 4⟩
def SDF.IRQ_RAW_SETTLED : FieldSpec := ⟨0x010, 7, 0, .ro, 0, 1, 4⟩
def SDF.FAULT_CODE_CAUSE : FieldSpec := ⟨0x024, 19, 16, .ro, 0, 1, 4⟩
def SDF.FAULT_CODE_OFFSET : FieldSpec := ⟨0x024, 11, 0, .ro, 0, 1, 4⟩
def SDF.FCFG_DCB_K : FieldSpec := ⟨0x040, 21, 17, .rws, 0xC, 8, 32⟩
def SDF.FCFG_DCB_EN : FieldSpec := ⟨0x040, 16, 16, .rws, 0, 8, 32⟩
def SDF.FCFG_WR_DIV : FieldSpec := ⟨0x040, 15, 12, .rws, 0, 8, 32⟩
def SDF.FCFG_HB : FieldSpec := ⟨0x040, 11, 9, .rws, 0, 8, 32⟩
def SDF.FCFG_DEC : FieldSpec := ⟨0x040, 8, 0, .rws, 0x28, 8, 32⟩
def SDF.FSHIFT : FieldSpec := ⟨0x044, 23, 0, .rws, 0, 8, 32⟩
def SDF.FPHASE_TICKS : FieldSpec := ⟨0x048, 18, 0, .rws, 0, 8, 32⟩
def SDF.FSRC_STUCK_LEN : FieldSpec := ⟨0x04C, 25, 16, .rwl, 0x40, 8, 32⟩
def SDF.FSRC_LINK_EN : FieldSpec := ⟨0x04C, 14, 14, .rwl, 0, 8, 32⟩
def SDF.FSRC_LINK_LEG : FieldSpec := ⟨0x04C, 13, 8, .rwl, 0, 8, 32⟩
def SDF.FSRC_CLK_SEL : FieldSpec := ⟨0x04C, 2, 0, .rwl, 0, 8, 32⟩
def SDF.DCB_FREEZE : FieldSpec := ⟨0x050, 31, 31, .rw, 0, 8, 32⟩
def SDF.DCB_M : FieldSpec := ⟨0x050, 23, 0, .ro, 0, 8, 32⟩
def SDF.LAST_FLAGS : FieldSpec := ⟨0x054, 31, 24, .ro, 0, 8, 32⟩
def SDF.LAST_DATA : FieldSpec := ⟨0x054, 23, 0, .ro, 0, 8, 32⟩
def SDF.CNT_SAT_CNT : FieldSpec := ⟨0x058, 31, 16, .ro, 0, 8, 32⟩
def SDF.CNT_WR_FAIL : FieldSpec := ⟨0x058, 15, 8, .ro, 0, 8, 32⟩
def SDF.CNT_STUCK_CNT : FieldSpec := ⟨0x058, 7, 0, .ro, 0, 8, 32⟩
def SDF.SEQ : FieldSpec := ⟨0x05C, 31, 0, .ro, 0, 8, 32⟩
def SDF.HOLD_MAX_SAMPLES : FieldSpec := ⟨0x140, 7, 0, .rw, 8, 1, 4⟩

/-- All fields of the SDF page. -/
def SDF.fields : List FieldSpec :=
  [SDF.CTRL_SYNC, SDF.STATUS_STUCK_NOW, SDF.STATUS_SETTLING, SDF.STATUS_COMMIT_PENDING, SDF.IRQ_RAW_WR_FAIL, SDF.IRQ_RAW_NO_CLK, SDF.IRQ_RAW_COMMIT_DONE, SDF.IRQ_RAW_COMMIT_REFUSED, SDF.IRQ_RAW_STUCK, SDF.IRQ_RAW_SAT, SDF.IRQ_RAW_SETTLED, SDF.FAULT_CODE_CAUSE, SDF.FAULT_CODE_OFFSET, SDF.FCFG_DCB_K, SDF.FCFG_DCB_EN, SDF.FCFG_WR_DIV, SDF.FCFG_HB, SDF.FCFG_DEC, SDF.FSHIFT, SDF.FPHASE_TICKS, SDF.FSRC_STUCK_LEN, SDF.FSRC_LINK_EN, SDF.FSRC_LINK_LEG, SDF.FSRC_CLK_SEL] ++
  [SDF.DCB_FREEZE, SDF.DCB_M, SDF.LAST_FLAGS, SDF.LAST_DATA, SDF.CNT_SAT_CNT, SDF.CNT_WR_FAIL, SDF.CNT_STUCK_CNT, SDF.SEQ, SDF.HOLD_MAX_SAMPLES]

/-! Page GFM: the register tables of R54, R55. -/
def GFM.CTRL_SNAP : FieldSpec := ⟨0x008, 0, 0, .wo, 0, 1, 4⟩
def GFM.STATUS_HOLD : FieldSpec := ⟨0x00C, 2, 2, .ro, 0, 1, 4⟩
def GFM.STATUS_COMMIT_PENDING : FieldSpec := ⟨0x00C, 1, 1, .ro, 0, 1, 4⟩
def GFM.STATUS_RUNNING : FieldSpec := ⟨0x00C, 0, 0, .ro, 0, 1, 4⟩
def GFM.IRQ_RAW_HOLD_EXPIRED : FieldSpec := ⟨0x010, 7, 7, .ro, 0, 1, 4⟩
def GFM.IRQ_RAW_V_LIM : FieldSpec := ⟨0x010, 6, 6, .ro, 0, 1, 4⟩
def GFM.IRQ_RAW_I_SAT : FieldSpec := ⟨0x010, 5, 5, .ro, 0, 1, 4⟩
def GFM.IRQ_RAW_F_LIM : FieldSpec := ⟨0x010, 4, 4, .ro, 0, 1, 4⟩
def GFM.IRQ_RAW_START_REFUSED : FieldSpec := ⟨0x010, 3, 3, .ro, 0, 1, 4⟩
def GFM.IRQ_RAW_WRITE_IGNORED : FieldSpec := ⟨0x010, 2, 2, .ro, 0, 1, 4⟩
def GFM.IRQ_RAW_COMMIT_REFUSED : FieldSpec := ⟨0x010, 1, 1, .ro, 0, 1, 4⟩
def GFM.IRQ_RAW_COMMIT_DONE : FieldSpec := ⟨0x010, 0, 0, .ro, 0, 1, 4⟩
def GFM.FAULT_CODE_CAUSE : FieldSpec := ⟨0x024, 19, 16, .ro, 0, 1, 4⟩
def GFM.FAULT_CODE_OFFSET : FieldSpec := ⟨0x024, 11, 0, .ro, 0, 1, 4⟩
def GFM.GFM_CFG_LEG_DERATE : FieldSpec := ⟨0x040, 4, 4, .rwl, 1, 1, 4⟩
def GFM.GFM_CFG_FOUR_WIRE : FieldSpec := ⟨0x040, 3, 3, .rwl, 0, 1, 4⟩
def GFM.GFM_CFG_NEG_MODE : FieldSpec := ⟨0x040, 2, 1, .rwl, 0, 1, 4⟩
def GFM.GFM_CFG_F_NOM : FieldSpec := ⟨0x040, 0, 0, .rwl, 0, 1, 4⟩
def GFM.BASE_S : FieldSpec := ⟨0x044, 31, 0, .rwl, 0x49742400, 1, 4⟩
def GFM.BASE_VLL : FieldSpec := ⟨0x048, 31, 0, .rwl, 0x43C80000, 1, 4⟩
def GFM.TRIAD_PERIOD_TICKS : FieldSpec := ⟨0x04C, 18, 0, .rwl, 0x1F40, 1, 4⟩
def GFM.SRC_V_PH_C : FieldSpec := ⟨0x050, 21, 16, .rwl, 2, 1, 4⟩
def GFM.SRC_V_PH_B : FieldSpec := ⟨0x050, 13, 8, .rwl, 1, 1, 4⟩
def GFM.SRC_V_PH_A : FieldSpec := ⟨0x050, 5, 0, .rwl, 0, 1, 4⟩
def GFM.SRC_I_PH_C : FieldSpec := ⟨0x054, 21, 16, .rwl, 5, 1, 4⟩
def GFM.SRC_I_PH_B : FieldSpec := ⟨0x054, 13, 8, .rwl, 4, 1, 4⟩
def GFM.SRC_I_PH_A : FieldSpec := ⟨0x054, 5, 0, .rwl, 3, 1, 4⟩
def GFM.V_SCALE : FieldSpec := ⟨0x058, 31, 0, .rwl, 0, 1, 4⟩
def GFM.I_SCALE : FieldSpec := ⟨0x05C, 31, 0, .rwl, 0, 1, 4⟩
def GFM.H : FieldSpec := ⟨0x060, 31, 0, .rws, 0x40800000, 1, 4⟩
def GFM.D : FieldSpec := ⟨0x064, 31, 0, .rws, 0x42200000, 1, 4⟩
def GFM.T_D : FieldSpec := ⟨0x068, 31, 0, .rws, 0x3E4CCCCD, 1, 4⟩
def GFM.M_P : FieldSpec := ⟨0x06C, 31, 0, .rws, 0x3CA3D70A, 1, 4⟩
def GFM.M_Q : FieldSpec := ⟨0x070, 31, 0, .rws, 0x3D4CCCCD, 1, 4⟩
def GFM.T_P : FieldSpec := ⟨0x074, 31, 0, .rws, 0x3B03126F, 1, 4⟩
def GFM.T_Q : FieldSpec := ⟨0x078, 31, 0, .rws, 0x3CA3D70A, 1, 4⟩
def GFM.R_V : FieldSpec := ⟨0x07C, 31, 0, .rws, 0x3CA3D70A, 1, 4⟩
def GFM.X_V : FieldSpec := ⟨0x080, 31, 0, .rws, 0x3DCCCCCD, 1, 4⟩
def GFM.T_VI : FieldSpec := ⟨0x084, 31, 0, .rws, 0x3A83126F, 1, 4⟩
def GFM.KP_V : FieldSpec := ⟨0x088, 31, 0, .rws, 0x40000000, 1, 4⟩
def GFM.KI_V : FieldSpec := ⟨0x08C, 31, 0, .rws, 0x43C80000, 1, 4⟩
def GFM.XINT_V_LIM : FieldSpec := ⟨0x090, 31, 0, .rws, 0x3F000000, 1, 4⟩
def GFM.K_FF : FieldSpec := ⟨0x094, 31, 0, .rws, 0x3F800000, 1, 4⟩
def GFM.B_C : FieldSpec := ⟨0x098, 31, 0, .rws, 0x3D4CCCCD, 1, 4⟩
def GFM.F_DEV : FieldSpec := ⟨0x09C, 31, 0, .rws, 0x3D23D70A, 1, 4⟩
def GFM.V_MIN : FieldSpec := ⟨0x0A0, 31, 0, .rws, 0x3F59999A, 1, 4⟩
def GFM.V_MAX : FieldSpec := ⟨0x0A4, 31, 0, .rws, 0x3F8CCCCD, 1, 4⟩
def GFM.I_LIM : FieldSpec := ⟨0x0A8, 31, 0, .rws, 0x3F99999A, 1, 4⟩
def GFM.I_NEG_LIM : FieldSpec := ⟨0x0AC, 31, 0, .rws, 0x3E99999A, 1, 4⟩
def GFM.R_NEG : FieldSpec := ⟨0x0B0, 31, 0, .rws, 0, 1, 4⟩
def GFM.X_NEG : FieldSpec := ⟨0x0B4, 31, 0, .rws, 0x3DCCCCCD, 1, 4⟩
def GFM.GROUP_ACTIVE_GN : FieldSpec := ⟨0x0B8, 28, 24, .ro, 0, 1, 4⟩
def GFM.GROUP_ACTIVE_GC : FieldSpec := ⟨0x0B8, 20, 16, .ro, 0, 1, 4⟩
def GFM.GROUP_ACTIVE_GB : FieldSpec := ⟨0x0B8, 12, 8, .ro, 0, 1, 4⟩
def GFM.GROUP_ACTIVE_GA : FieldSpec := ⟨0x0B8, 4, 0, .ro, 0, 1, 4⟩
def GFM.GROUP_ASSIGNED_GN : FieldSpec := ⟨0x0BC, 28, 24, .ro, 0, 1, 4⟩
def GFM.GROUP_ASSIGNED_GC : FieldSpec := ⟨0x0BC, 20, 16, .ro, 0, 1, 4⟩
def GFM.GROUP_ASSIGNED_GB : FieldSpec := ⟨0x0BC, 12, 8, .ro, 0, 1, 4⟩
def GFM.GROUP_ASSIGNED_GA : FieldSpec := ⟨0x0BC, 4, 0, .ro, 0, 1, 4⟩
def GFM.OBS_P : FieldSpec := ⟨0x0C0, 31, 0, .ro, 0, 1, 4⟩
def GFM.OBS_Q : FieldSpec := ⟨0x0C4, 31, 0, .ro, 0, 1, 4⟩
def GFM.OBS_W : FieldSpec := ⟨0x0C8, 31, 0, .ro, 0, 1, 4⟩
def GFM.OBS_V : FieldSpec := ⟨0x0CC, 31, 0, .ro, 0, 1, 4⟩
def GFM.OBS_LIMIT : FieldSpec := ⟨0x0D0, 9, 0, .ro, 0, 1, 4⟩
def GFM.OBS_ILIM : FieldSpec := ⟨0x0D4, 31, 0, .ro, 0, 1, 4⟩
def GFM.SET_P : FieldSpec := ⟨0x0D8, 31, 0, .ro, 0, 1, 4⟩
def GFM.SET_Q : FieldSpec := ⟨0x0DC, 31, 0, .ro, 0, 1, 4⟩
def GFM.SET_W : FieldSpec := ⟨0x0E0, 31, 0, .ro, 0, 1, 4⟩
def GFM.SET_V : FieldSpec := ⟨0x0E4, 31, 0, .ro, 0, 1, 4⟩
def GFM.SAMPLE_NO : FieldSpec := ⟨0x0E8, 31, 0, .ro, 0, 1, 4⟩

/-- All fields of the GFM page. -/
def GFM.fields : List FieldSpec :=
  [GFM.CTRL_SNAP, GFM.STATUS_HOLD, GFM.STATUS_COMMIT_PENDING, GFM.STATUS_RUNNING, GFM.IRQ_RAW_HOLD_EXPIRED, GFM.IRQ_RAW_V_LIM, GFM.IRQ_RAW_I_SAT, GFM.IRQ_RAW_F_LIM, GFM.IRQ_RAW_START_REFUSED, GFM.IRQ_RAW_WRITE_IGNORED, GFM.IRQ_RAW_COMMIT_REFUSED, GFM.IRQ_RAW_COMMIT_DONE, GFM.FAULT_CODE_CAUSE, GFM.FAULT_CODE_OFFSET, GFM.GFM_CFG_LEG_DERATE, GFM.GFM_CFG_FOUR_WIRE, GFM.GFM_CFG_NEG_MODE, GFM.GFM_CFG_F_NOM, GFM.BASE_S, GFM.BASE_VLL, GFM.TRIAD_PERIOD_TICKS, GFM.SRC_V_PH_C, GFM.SRC_V_PH_B, GFM.SRC_V_PH_A] ++
  [GFM.SRC_I_PH_C, GFM.SRC_I_PH_B, GFM.SRC_I_PH_A, GFM.V_SCALE, GFM.I_SCALE, GFM.H, GFM.D, GFM.T_D, GFM.M_P, GFM.M_Q, GFM.T_P, GFM.T_Q, GFM.R_V, GFM.X_V, GFM.T_VI, GFM.KP_V, GFM.KI_V, GFM.XINT_V_LIM, GFM.K_FF, GFM.B_C, GFM.F_DEV, GFM.V_MIN, GFM.V_MAX, GFM.I_LIM] ++
  [GFM.I_NEG_LIM, GFM.R_NEG, GFM.X_NEG, GFM.GROUP_ACTIVE_GN, GFM.GROUP_ACTIVE_GC, GFM.GROUP_ACTIVE_GB, GFM.GROUP_ACTIVE_GA, GFM.GROUP_ASSIGNED_GN, GFM.GROUP_ASSIGNED_GC, GFM.GROUP_ASSIGNED_GB, GFM.GROUP_ASSIGNED_GA, GFM.OBS_P, GFM.OBS_Q, GFM.OBS_W, GFM.OBS_V, GFM.OBS_LIMIT, GFM.OBS_ILIM, GFM.SET_P, GFM.SET_Q, GFM.SET_W, GFM.SET_V, GFM.SAMPLE_NO]

/-! Page PROFILE: the register tables of R99. -/
def PROFILE.STATUS_OVERRIDE : FieldSpec := ⟨0x00C, 5, 5, .ro, 0, 1, 4⟩
def PROFILE.STATUS_COMMIT_PENDING : FieldSpec := ⟨0x00C, 4, 4, .ro, 0, 1, 4⟩
def PROFILE.STATUS_MOVING : FieldSpec := ⟨0x00C, 3, 0, .ro, 0, 1, 4⟩
def PROFILE.IRQ_RAW_FE_V_EXPIRED : FieldSpec := ⟨0x010, 4, 4, .ro, 0, 1, 4⟩
def PROFILE.IRQ_RAW_FE_P_EXPIRED : FieldSpec := ⟨0x010, 3, 3, .ro, 0, 1, 4⟩
def PROFILE.IRQ_RAW_ARRIVED : FieldSpec := ⟨0x010, 2, 2, .ro, 0, 1, 4⟩
def PROFILE.IRQ_RAW_COMMIT_REFUSED : FieldSpec := ⟨0x010, 1, 1, .ro, 0, 1, 4⟩
def PROFILE.IRQ_RAW_COMMIT_DONE : FieldSpec := ⟨0x010, 0, 0, .ro, 0, 1, 4⟩
def PROFILE.FAULT_CODE_CAUSE : FieldSpec := ⟨0x024, 19, 16, .ro, 0, 1, 4⟩
def PROFILE.FAULT_CODE_OFFSET : FieldSpec := ⟨0x024, 11, 0, .ro, 0, 1, 4⟩
def PROFILE.PRF_CFG_FE_ACTION : FieldSpec := ⟨0x040, 2, 2, .rws, 0, 1, 4⟩
def PROFILE.PRF_CFG_FE_V_EN : FieldSpec := ⟨0x040, 1, 1, .rws, 1, 1, 4⟩
def PROFILE.PRF_CFG_FE_P_EN : FieldSpec := ⟨0x040, 0, 0, .rws, 1, 1, 4⟩
def PROFILE.TGT_P : FieldSpec := ⟨0x044, 31, 0, .rws, 0, 1, 4⟩
def PROFILE.TGT_Q : FieldSpec := ⟨0x048, 31, 0, .rws, 0, 1, 4⟩
def PROFILE.TGT_W : FieldSpec := ⟨0x04C, 31, 0, .rws, 0x3F800000, 1, 4⟩
def PROFILE.TGT_V : FieldSpec := ⟨0x050, 31, 0, .rws, 0x3F800000, 1, 4⟩
def PROFILE.VEL_P : FieldSpec := ⟨0x054, 31, 0, .rws, 0x3F800000, 1, 4⟩
def PROFILE.VEL_Q : FieldSpec := ⟨0x058, 31, 0, .rws, 0x3F800000, 1, 4⟩
def PROFILE.VEL_W : FieldSpec := ⟨0x05C, 31, 0, .rws, 0x3C23D70A, 1, 4⟩
def PROFILE.VEL_V : FieldSpec := ⟨0x060, 31, 0, .rws, 0x3DCCCCCD, 1, 4⟩
def PROFILE.ACC_P : FieldSpec := ⟨0x064, 31, 0, .rws, 0, 1, 4⟩
def PROFILE.ACC_Q : FieldSpec := ⟨0x068, 31, 0, .rws, 0, 1, 4⟩
def PROFILE.ACC_W : FieldSpec := ⟨0x06C, 31, 0, .rws, 0, 1, 4⟩
def PROFILE.ACC_V : FieldSpec := ⟨0x070, 31, 0, .rws, 0, 1, 4⟩
def PROFILE.JRK_P : FieldSpec := ⟨0x074, 31, 0, .rws, 0, 1, 4⟩
def PROFILE.JRK_Q : FieldSpec := ⟨0x078, 31, 0, .rws, 0, 1, 4⟩
def PROFILE.JRK_W : FieldSpec := ⟨0x07C, 31, 0, .rws, 0, 1, 4⟩
def PROFILE.JRK_V : FieldSpec := ⟨0x080, 31, 0, .rws, 0, 1, 4⟩
def PROFILE.FE_P_LIM : FieldSpec := ⟨0x084, 31, 0, .rws, 0x3E4CCCCD, 1, 4⟩
def PROFILE.FE_V_LIM : FieldSpec := ⟨0x088, 31, 0, .rws, 0x3DCCCCCD, 1, 4⟩
def PROFILE.FE_CYC_CYCLES : FieldSpec := ⟨0x08C, 15, 0, .rws, 0x19, 1, 4⟩
def PROFILE.FE_TIMER_V : FieldSpec := ⟨0x090, 31, 16, .ro, 0, 1, 4⟩
def PROFILE.FE_TIMER_P : FieldSpec := ⟨0x090, 15, 0, .ro, 0, 1, 4⟩

/-- All fields of the PROFILE page. -/
def PROFILE.fields : List FieldSpec :=
  [PROFILE.STATUS_OVERRIDE, PROFILE.STATUS_COMMIT_PENDING, PROFILE.STATUS_MOVING, PROFILE.IRQ_RAW_FE_V_EXPIRED, PROFILE.IRQ_RAW_FE_P_EXPIRED, PROFILE.IRQ_RAW_ARRIVED, PROFILE.IRQ_RAW_COMMIT_REFUSED, PROFILE.IRQ_RAW_COMMIT_DONE, PROFILE.FAULT_CODE_CAUSE, PROFILE.FAULT_CODE_OFFSET, PROFILE.PRF_CFG_FE_ACTION, PROFILE.PRF_CFG_FE_V_EN, PROFILE.PRF_CFG_FE_P_EN, PROFILE.TGT_P, PROFILE.TGT_Q, PROFILE.TGT_W, PROFILE.TGT_V, PROFILE.VEL_P, PROFILE.VEL_Q, PROFILE.VEL_W, PROFILE.VEL_V, PROFILE.ACC_P, PROFILE.ACC_Q, PROFILE.ACC_W] ++
  [PROFILE.ACC_V, PROFILE.JRK_P, PROFILE.JRK_Q, PROFILE.JRK_W, PROFILE.JRK_V, PROFILE.FE_P_LIM, PROFILE.FE_V_LIM, PROFILE.FE_CYC_CYCLES, PROFILE.FE_TIMER_V, PROFILE.FE_TIMER_P]

/-! Page TRANSIT: the register tables of R100. -/
def TRANSIT.CTRL_CMD : FieldSpec := ⟨0x008, 3, 0, .wo, 0, 1, 4⟩
def TRANSIT.STATUS_PCC_CLOSED : FieldSpec := ⟨0x00C, 9, 9, .ro, 0, 1, 4⟩
def TRANSIT.STATUS_OUT_CLOSED : FieldSpec := ⟨0x00C, 8, 8, .ro, 0, 1, 4⟩
def TRANSIT.STATUS_SYNC_OK : FieldSpec := ⟨0x00C, 7, 7, .ro, 0, 1, 4⟩
def TRANSIT.STATUS_BUS_DEAD : FieldSpec := ⟨0x00C, 6, 6, .ro, 0, 1, 4⟩
def TRANSIT.STATUS_TIME_LOCKED : FieldSpec := ⟨0x00C, 5, 5, .ro, 0, 1, 4⟩
def TRANSIT.STATUS_CMD_PENDING : FieldSpec := ⟨0x00C, 4, 4, .ro, 0, 1, 4⟩
def TRANSIT.STATUS_STATE : FieldSpec := ⟨0x00C, 3, 0, .ro, 0, 1, 4⟩
def TRANSIT.IRQ_RAW_WRITE_IGNORED : FieldSpec := ⟨0x010, 7, 7, .ro, 0, 1, 4⟩
def TRANSIT.IRQ_RAW_FALLBACK_USED : FieldSpec := ⟨0x010, 6, 6, .ro, 0, 1, 4⟩
def TRANSIT.IRQ_RAW_BRK_FAIL : FieldSpec := ⟨0x010, 5, 5, .ro, 0, 1, 4⟩
def TRANSIT.IRQ_RAW_CLOSED : FieldSpec := ⟨0x010, 4, 4, .ro, 0, 1, 4⟩
def TRANSIT.IRQ_RAW_ISLANDED : FieldSpec := ⟨0x010, 3, 3, .ro, 0, 1, 4⟩
def TRANSIT.IRQ_RAW_ABORT : FieldSpec := ⟨0x010, 2, 2, .ro, 0, 1, 4⟩
def TRANSIT.IRQ_RAW_CMD_REFUSED : FieldSpec := ⟨0x010, 1, 1, .ro, 0, 1, 4⟩
def TRANSIT.IRQ_RAW_STATE_CHANGE : FieldSpec := ⟨0x010, 0, 0, .ro, 0, 1, 4⟩
def TRANSIT.FAULT_CODE_CAUSE : FieldSpec := ⟨0x024, 23, 16, .ro, 0, 1, 4⟩
def TRANSIT.FAULT_CODE_STATE_FROM : FieldSpec := ⟨0x024, 11, 8, .ro, 0, 1, 4⟩
def TRANSIT.TR_CFG_STOP_OPEN : FieldSpec := ⟨0x040, 12, 12, .rwl, 1, 1, 4⟩
def TRANSIT.TR_CFG_DEAD_CLOSE : FieldSpec := ⟨0x040, 11, 11, .rwl, 0, 1, 4⟩
def TRANSIT.TR_CFG_LEAD : FieldSpec := ⟨0x040, 10, 10, .rwl, 0, 1, 4⟩
def TRANSIT.TR_CFG_FALLBACK : FieldSpec := ⟨0x040, 9, 8, .rwl, 0, 1, 4⟩
def TRANSIT.TR_CFG_PCC_PRESENT : FieldSpec := ⟨0x040, 7, 7, .rwl, 0, 1, 4⟩
def TRANSIT.TR_CFG_PCC_BRK : FieldSpec := ⟨0x040, 6, 4, .rwl, 1, 1, 4⟩
def TRANSIT.TR_CFG_OUT_BRK : FieldSpec := ⟨0x040, 2, 0, .rwl, 0, 1, 4⟩
def TRANSIT.SRC_BUS_PH_C : FieldSpec := ⟨0x044, 21, 16, .rwl, 8, 1, 4⟩
def TRANSIT.SRC_BUS_PH_B : FieldSpec := ⟨0x044, 13, 8, .rwl, 7, 1, 4⟩
def TRANSIT.SRC_BUS_PH_A : FieldSpec := ⟨0x044, 5, 0, .rwl, 6, 1, 4⟩
def TRANSIT.SRC_GRID_PH_C : FieldSpec := ⟨0x048, 21, 16, .rwl, 0xB, 1, 4⟩
def TRANSIT.SRC_GRID_PH_B : FieldSpec := ⟨0x048, 13, 8, .rwl, 0xA, 1, 4⟩
def TRANSIT.SRC_GRID_PH_A : FieldSpec := ⟨0x048, 5, 0, .rwl, 9, 1, 4⟩
def TRANSIT.DEAD_V : FieldSpec := ⟨0x04C, 31, 0, .rws, 0x3DCCCCCD, 1, 4⟩
def TRANSIT.DEAD_MS_MS : FieldSpec := ⟨0x050, 15, 0, .rws, 0xC8, 1, 4⟩
def TRANSIT.BS_V0 : FieldSpec := ⟨0x054, 31, 0, .rws, 0, 1, 4⟩
def TRANSIT.BS_RATE : FieldSpec := ⟨0x058, 31, 0, .rws, 0x3F000000, 1, 4⟩
def TRANSIT.BRK_TIMES_CLOSE_MS : FieldSpec := ⟨0x05C, 31, 16, .rws, 0x3C, 1, 4⟩
def TRANSIT.BRK_TIMES_FB_MS : FieldSpec := ⟨0x05C, 15, 0, .rws, 0xC8, 1, 4⟩
def TRANSIT.SYNC_ANG : FieldSpec := ⟨0x060, 31, 0, .rws, 0x41200000, 1, 4⟩
def TRANSIT.SYNC_DF : FieldSpec := ⟨0x064, 31, 0, .rws, 0x3B03126F, 1, 4⟩
def TRANSIT.SYNC_DV : FieldSpec := ⟨0x068, 31, 0, .rws, 0x3D4CCCCD, 1, 4⟩
def TRANSIT.SYNC_KW : FieldSpec := ⟨0x06C, 31, 0, .rws, 0x3D4CCCCD, 1, 4⟩
def TRANSIT.SYNC_CTL_TIMEOUT_S : FieldSpec := ⟨0x070, 31, 16, .rws, 0x3C, 1, 4⟩
def TRANSIT.SYNC_CTL_DWELL : FieldSpec := ⟨0x070, 7, 0, .rws, 5, 1, 4⟩
def TRANSIT.T_START_LO : FieldSpec := ⟨0x074, 31, 0, .rw, 0, 1, 4⟩
def TRANSIT.T_START_HI : FieldSpec := ⟨0x078, 31, 0, .rw, 0, 1, 4⟩
def TRANSIT.THETA0 : FieldSpec := ⟨0x07C, 31, 0, .rw, 0, 1, 4⟩
def TRANSIT.OBS_DTHETA : FieldSpec := ⟨0x080, 31, 0, .ro, 0, 1, 4⟩
def TRANSIT.OBS_DF : FieldSpec := ⟨0x084, 31, 0, .ro, 0, 1, 4⟩
def TRANSIT.OBS_DV : FieldSpec := ⟨0x088, 31, 0, .ro, 0, 1, 4⟩
def TRANSIT.BUS_SCALE : FieldSpec := ⟨0x08C, 31, 0, .rwl, 0, 1, 4⟩
def TRANSIT.GRID_SCALE : FieldSpec := ⟨0x090, 31, 0, .rwl, 0, 1, 4⟩

/-- All fields of the TRANSIT page. -/
def TRANSIT.fields : List FieldSpec :=
  [TRANSIT.CTRL_CMD, TRANSIT.STATUS_PCC_CLOSED, TRANSIT.STATUS_OUT_CLOSED, TRANSIT.STATUS_SYNC_OK, TRANSIT.STATUS_BUS_DEAD, TRANSIT.STATUS_TIME_LOCKED, TRANSIT.STATUS_CMD_PENDING, TRANSIT.STATUS_STATE, TRANSIT.IRQ_RAW_WRITE_IGNORED, TRANSIT.IRQ_RAW_FALLBACK_USED, TRANSIT.IRQ_RAW_BRK_FAIL, TRANSIT.IRQ_RAW_CLOSED, TRANSIT.IRQ_RAW_ISLANDED, TRANSIT.IRQ_RAW_ABORT, TRANSIT.IRQ_RAW_CMD_REFUSED, TRANSIT.IRQ_RAW_STATE_CHANGE, TRANSIT.FAULT_CODE_CAUSE, TRANSIT.FAULT_CODE_STATE_FROM, TRANSIT.TR_CFG_STOP_OPEN, TRANSIT.TR_CFG_DEAD_CLOSE, TRANSIT.TR_CFG_LEAD, TRANSIT.TR_CFG_FALLBACK, TRANSIT.TR_CFG_PCC_PRESENT, TRANSIT.TR_CFG_PCC_BRK] ++
  [TRANSIT.TR_CFG_OUT_BRK, TRANSIT.SRC_BUS_PH_C, TRANSIT.SRC_BUS_PH_B, TRANSIT.SRC_BUS_PH_A, TRANSIT.SRC_GRID_PH_C, TRANSIT.SRC_GRID_PH_B, TRANSIT.SRC_GRID_PH_A, TRANSIT.DEAD_V, TRANSIT.DEAD_MS_MS, TRANSIT.BS_V0, TRANSIT.BS_RATE, TRANSIT.BRK_TIMES_CLOSE_MS, TRANSIT.BRK_TIMES_FB_MS, TRANSIT.SYNC_ANG, TRANSIT.SYNC_DF, TRANSIT.SYNC_DV, TRANSIT.SYNC_KW, TRANSIT.SYNC_CTL_TIMEOUT_S, TRANSIT.SYNC_CTL_DWELL, TRANSIT.T_START_LO, TRANSIT.T_START_HI, TRANSIT.THETA0, TRANSIT.OBS_DTHETA, TRANSIT.OBS_DF] ++
  [TRANSIT.OBS_DV, TRANSIT.BUS_SCALE, TRANSIT.GRID_SCALE]

/-! Page FRT: the register tables of R102, R103. -/
def FRT.STATUS_VI_RAISED : FieldSpec := ⟨0x00C, 3, 3, .ro, 0, 1, 4⟩
def FRT.STATUS_COMMIT_PENDING : FieldSpec := ⟨0x00C, 2, 2, .ro, 0, 1, 4⟩
def FRT.STATUS_RECOVERING : FieldSpec := ⟨0x00C, 1, 1, .ro, 0, 1, 4⟩
def FRT.STATUS_RT_ACTIVE : FieldSpec := ⟨0x00C, 0, 0, .ro, 0, 1, 4⟩
def FRT.IRQ_RAW_RECOVERED : FieldSpec := ⟨0x010, 5, 5, .ro, 0, 1, 4⟩
def FRT.IRQ_RAW_RT_TRIP : FieldSpec := ⟨0x010, 4, 4, .ro, 0, 1, 4⟩
def FRT.IRQ_RAW_RT_EXIT : FieldSpec := ⟨0x010, 3, 3, .ro, 0, 1, 4⟩
def FRT.IRQ_RAW_RT_ENTRY : FieldSpec := ⟨0x010, 2, 2, .ro, 0, 1, 4⟩
def FRT.IRQ_RAW_COMMIT_REFUSED : FieldSpec := ⟨0x010, 1, 1, .ro, 0, 1, 4⟩
def FRT.IRQ_RAW_COMMIT_DONE : FieldSpec := ⟨0x010, 0, 0, .ro, 0, 1, 4⟩
def FRT.FAULT_CODE_CAUSE : FieldSpec := ⟨0x024, 19, 16, .ro, 0, 1, 4⟩
def FRT.FAULT_CODE_OFFSET : FieldSpec := ⟨0x024, 11, 0, .ro, 0, 1, 4⟩
def FRT.FRT_CFG_SAT_ENTRY : FieldSpec := ⟨0x040, 3, 3, .rws, 1, 1, 4⟩
def FRT.FRT_CFG_TRIP_ACTION : FieldSpec := ⟨0x040, 2, 2, .rws, 0, 1, 4⟩
def FRT.FRT_CFG_SWING_HOLD : FieldSpec := ⟨0x040, 1, 1, .rws, 1, 1, 4⟩
def FRT.FRT_CFG_RT_EN : FieldSpec := ⟨0x040, 0, 0, .rws, 1, 1, 4⟩
def FRT.VI_THR : FieldSpec := ⟨0x044, 31, 0, .rws, 0x3F666666, 1, 4⟩
def FRT.VI_K : FieldSpec := ⟨0x048, 31, 0, .rws, 0x3F000000, 1, 4⟩
def FRT.VI_XR : FieldSpec := ⟨0x04C, 31, 0, .rws, 0x40A00000, 1, 4⟩
def FRT.VI_MAX : FieldSpec := ⟨0x050, 31, 0, .rws, 0x3F000000, 1, 4⟩
def FRT.VI_REL : FieldSpec := ⟨0x054, 31, 0, .rws, 0x3D4CCCCD, 1, 4⟩
def FRT.ENTRY_V : FieldSpec := ⟨0x058, 31, 0, .rws, 0x3F59999A, 1, 4⟩
def FRT.EXIT_V : FieldSpec := ⟨0x05C, 31, 0, .rws, 0x3F666666, 1, 4⟩
def FRT.ENTRY_VH : FieldSpec := ⟨0x060, 31, 0, .rws, 0x3F933333, 1, 4⟩
def FRT.EXIT_VH : FieldSpec := ⟨0x064, 31, 0, .rws, 0x3F8CCCCD, 1, 4⟩
def FRT.RT_COUNTS_SAT_N : FieldSpec := ⟨0x068, 31, 16, .rws, 0x32, 1, 4⟩
def FRT.RT_COUNTS_EXIT_N : FieldSpec := ⟨0x068, 15, 0, .rws, 0x19, 1, 4⟩
def FRT.RT_TIMES_REARM_MS : FieldSpec := ⟨0x06C, 31, 16, .rws, 0x3E8, 1, 4⟩
def FRT.RT_TIMES_TMAX_MS : FieldSpec := ⟨0x06C, 15, 0, .rws, 0xBB8, 1, 4⟩
def FRT.REC_RATE : FieldSpec := ⟨0x070, 31, 0, .rws, 0x40000000, 1, 4⟩
def FRT.RT_STAT_ENTRIES : FieldSpec := ⟨0x074, 31, 16, .ro, 0, 1, 4⟩
def FRT.RT_STAT_ELAPSED_MS : FieldSpec := ⟨0x074, 15, 0, .ro, 0, 1, 4⟩
def FRT.LV_PT_T_MS : FieldSpec := ⟨0x080, 31, 16, .rws, 0, 16, 4⟩
def FRT.LV_PT_V : FieldSpec := ⟨0x080, 15, 0, .rws, 0, 16, 4⟩
def FRT.HV_PT_T_MS : FieldSpec := ⟨0x0C0, 31, 16, .rws, 0, 16, 4⟩
def FRT.HV_PT_V : FieldSpec := ⟨0x0C0, 15, 0, .rws, 0, 16, 4⟩

/-- All fields of the FRT page. -/
def FRT.fields : List FieldSpec :=
  [FRT.STATUS_VI_RAISED, FRT.STATUS_COMMIT_PENDING, FRT.STATUS_RECOVERING, FRT.STATUS_RT_ACTIVE, FRT.IRQ_RAW_RECOVERED, FRT.IRQ_RAW_RT_TRIP, FRT.IRQ_RAW_RT_EXIT, FRT.IRQ_RAW_RT_ENTRY, FRT.IRQ_RAW_COMMIT_REFUSED, FRT.IRQ_RAW_COMMIT_DONE, FRT.FAULT_CODE_CAUSE, FRT.FAULT_CODE_OFFSET, FRT.FRT_CFG_SAT_ENTRY, FRT.FRT_CFG_TRIP_ACTION, FRT.FRT_CFG_SWING_HOLD, FRT.FRT_CFG_RT_EN, FRT.VI_THR, FRT.VI_K, FRT.VI_XR, FRT.VI_MAX, FRT.VI_REL, FRT.ENTRY_V, FRT.EXIT_V, FRT.ENTRY_VH] ++
  [FRT.EXIT_VH, FRT.RT_COUNTS_SAT_N, FRT.RT_COUNTS_EXIT_N, FRT.RT_TIMES_REARM_MS, FRT.RT_TIMES_TMAX_MS, FRT.REC_RATE, FRT.RT_STAT_ENTRIES, FRT.RT_STAT_ELAPSED_MS, FRT.LV_PT_T_MS, FRT.LV_PT_V, FRT.HV_PT_T_MS, FRT.HV_PT_V]

/-! Page PC: the register tables of R332, R333. -/
def PC.CTRL_REF_EN : FieldSpec := ⟨0x008, 1, 1, .rw, 0, 1, 4⟩
def PC.CTRL_RUN : FieldSpec := ⟨0x008, 0, 0, .rw, 0, 1, 4⟩
def PC.STATUS_INPUT : FieldSpec := ⟨0x00C, 7, 4, .ro, 0, 1, 4⟩
def PC.STATUS_NOT_FORMED : FieldSpec := ⟨0x00C, 3, 3, .ro, 0, 1, 4⟩
def PC.STATUS_REF_SETTLED : FieldSpec := ⟨0x00C, 2, 2, .ro, 0, 1, 4⟩
def PC.STATUS_CONVERTING : FieldSpec := ⟨0x00C, 1, 1, .ro, 0, 1, 4⟩
def PC.IRQ_RAW_OVR : FieldSpec := ⟨0x010, 5, 5, .ro, 0, 1, 4⟩
def PC.IRQ_RAW_GAP : FieldSpec := ⟨0x010, 4, 4, .ro, 0, 1, 4⟩
def PC.IRQ_RAW_UNVERIFIED : FieldSpec := ⟨0x010, 3, 3, .ro, 0, 1, 4⟩
def PC.IRQ_RAW_REF_UNSETTLED : FieldSpec := ⟨0x010, 2, 2, .ro, 0, 1, 4⟩
def PC.IRQ_RAW_WRITE_IGNORED : FieldSpec := ⟨0x010, 1, 1, .ro, 0, 1, 4⟩
def PC.IRQ_RAW_RESULT : FieldSpec := ⟨0x010, 0, 0, .ro, 0, 1, 4⟩
def PC.FAULT_CODE_CAUSE : FieldSpec := ⟨0x024, 19, 16, .ro, 0, 1, 4⟩
def PC.FAULT_CODE_OFFSET : FieldSpec := ⟨0x024, 11, 0, .ro, 0, 1, 4⟩
def PC.PC_CFG_ALIGN : FieldSpec := ⟨0x040, 17, 17, .rwl, 0, 1, 4⟩
def PC.PC_CFG_PCS_DIFF : FieldSpec := ⟨0x040, 16, 16, .rwl, 0, 1, 4⟩
def PC.PC_CFG_DIFF : FieldSpec := ⟨0x040, 15, 8, .rwl, 0, 1, 4⟩
def PC.PC_CFG_SEQ_EN : FieldSpec := ⟨0x040, 7, 0, .rwl, 0, 1, 4⟩
def PC.WIN_CFG_PCS_DIV : FieldSpec := ⟨0x044, 15, 8, .rwl, 8, 1, 4⟩
def PC.WIN_CFG_WIN : FieldSpec := ⟨0x044, 1, 0, .rwl, 0, 1, 4⟩
def PC.PCS_TOL_CODES : FieldSpec := ⟨0x048, 23, 0, .rwl, 0x40, 1, 4⟩
def PC.TRIM_OFS : FieldSpec := ⟨0x04C, 23, 0, .rwl, 0, 1, 4⟩
def PC.TRIM_GAIN : FieldSpec := ⟨0x050, 23, 0, .rwl, 0x400000, 1, 4⟩
def PC.LAST_VALUE : FieldSpec := ⟨0x054, 31, 0, .ro, 0, 1, 4⟩
def PC.LAST_INFO : FieldSpec := ⟨0x058, 31, 0, .ro, 0, 1, 4⟩
def PC.LAST_STAMP : FieldSpec := ⟨0x05C, 31, 0, .ro, 0, 1, 4⟩
def PC.WIN_NO : FieldSpec := ⟨0x060, 23, 0, .ro, 0, 1, 4⟩
def PC.CNT_OVR_CNT : FieldSpec := ⟨0x064, 31, 16, .ro, 0, 1, 4⟩
def PC.CNT_GAP_CNT : FieldSpec := ⟨0x064, 15, 8, .ro, 0, 1, 4⟩
def PC.CNT_UNVER_CNT : FieldSpec := ⟨0x064, 7, 0, .ro, 0, 1, 4⟩
def PC.PCS_DELTA : FieldSpec := ⟨0x068, 23, 0, .ro, 0, 1, 4⟩

/-- All fields of the PC page. -/
def PC.fields : List FieldSpec :=
  [PC.CTRL_REF_EN, PC.CTRL_RUN, PC.STATUS_INPUT, PC.STATUS_NOT_FORMED, PC.STATUS_REF_SETTLED, PC.STATUS_CONVERTING, PC.IRQ_RAW_OVR, PC.IRQ_RAW_GAP, PC.IRQ_RAW_UNVERIFIED, PC.IRQ_RAW_REF_UNSETTLED, PC.IRQ_RAW_WRITE_IGNORED, PC.IRQ_RAW_RESULT, PC.FAULT_CODE_CAUSE, PC.FAULT_CODE_OFFSET, PC.PC_CFG_ALIGN, PC.PC_CFG_PCS_DIFF, PC.PC_CFG_DIFF, PC.PC_CFG_SEQ_EN, PC.WIN_CFG_PCS_DIV, PC.WIN_CFG_WIN, PC.PCS_TOL_CODES, PC.TRIM_OFS, PC.TRIM_GAIN, PC.LAST_VALUE] ++
  [PC.LAST_INFO, PC.LAST_STAMP, PC.WIN_NO, PC.CNT_OVR_CNT, PC.CNT_GAP_CNT, PC.CNT_UNVER_CNT, PC.PCS_DELTA]

/-! Page LEDGER: the register tables of R334, R335. -/
def LEDGER.CTRL_TAMPER_ACK : FieldSpec := ⟨0x008, 0, 0, .woSeal, 0, 1, 4⟩
def LEDGER.STATUS_SEALED : FieldSpec := ⟨0x00C, 4, 4, .ro, 0, 1, 4⟩
def LEDGER.STATUS_FEED_OK : FieldSpec := ⟨0x00C, 3, 3, .ro, 0, 1, 4⟩
def LEDGER.STATUS_LOG_FULL : FieldSpec := ⟨0x00C, 2, 2, .ro, 0, 1, 4⟩
def LEDGER.STATUS_PLAUS_FAIL : FieldSpec := ⟨0x00C, 1, 1, .ro, 0, 1, 4⟩
def LEDGER.STATUS_TAMPER_NOW : FieldSpec := ⟨0x00C, 0, 0, .ro, 0, 1, 4⟩
def LEDGER.IRQ_RAW_SEAL_DISCARD : FieldSpec := ⟨0x010, 6, 6, .ro, 0, 1, 4⟩
def LEDGER.IRQ_RAW_FEED_LOST : FieldSpec := ⟨0x010, 5, 5, .ro, 0, 1, 4⟩
def LEDGER.IRQ_RAW_LOG_FULL : FieldSpec := ⟨0x010, 4, 4, .ro, 0, 1, 4⟩
def LEDGER.IRQ_RAW_PLAUS_FAIL : FieldSpec := ⟨0x010, 3, 3, .ro, 0, 1, 4⟩
def LEDGER.IRQ_RAW_UNVERIFIED : FieldSpec := ⟨0x010, 2, 2, .ro, 0, 1, 4⟩
def LEDGER.IRQ_RAW_TAMPER : FieldSpec := ⟨0x010, 1, 1, .ro, 0, 1, 4⟩
def LEDGER.IRQ_RAW_PERIOD_DONE : FieldSpec := ⟨0x010, 0, 0, .ro, 0, 1, 4⟩
def LEDGER.FAULT_CODE_CAUSE : FieldSpec := ⟨0x024, 19, 16, .ro, 0, 1, 4⟩
def LEDGER.FAULT_CODE_PORT : FieldSpec := ⟨0x024, 15, 8, .ro, 0, 1, 4⟩
def LEDGER.LED_CFG_AC_ENG : FieldSpec := ⟨0x040, 23, 20, .seal, 0xF, 1, 4⟩
def LEDGER.LED_CFG_DC_I_IN : FieldSpec := ⟨0x040, 14, 12, .seal, 0, 1, 4⟩
def LEDGER.LED_CFG_DC_V_IN : FieldSpec := ⟨0x040, 10, 8, .seal, 0, 1, 4⟩
def LEDGER.LED_CFG_FEED_TO_MS : FieldSpec := ⟨0x040, 7, 0, .seal, 0xA, 1, 4⟩
def LEDGER.DC_V_SCALE : FieldSpec := ⟨0x044, 31, 0, .seal, 0, 1, 4⟩
def LEDGER.DC_I_SCALE : FieldSpec := ⟨0x048, 31, 0, .seal, 0, 1, 4⟩
def LEDGER.PLAUS_CFG_PERIOD_S : FieldSpec := ⟨0x04C, 31, 16, .seal, 0x384, 1, 4⟩
def LEDGER.PLAUS_CFG_LOSS_BP : FieldSpec := ⟨0x04C, 15, 0, .seal, 0xC8, 1, 4⟩
def LEDGER.BAND_CFG_BAND_BP : FieldSpec := ⟨0x050, 31, 16, .seal, 0x64, 1, 4⟩
def LEDGER.BAND_CFG_BAND_FIX_KJ : FieldSpec := ⟨0x050, 15, 0, .seal, 0x1F4, 1, 4⟩
def LEDGER.AUX_W_W : FieldSpec := ⟨0x054, 23, 0, .seal, 0, 1, 4⟩
def LEDGER.TAMPER_CFG_EN : FieldSpec := ⟨0x058, 7, 4, .seal, 0, 1, 4⟩
def LEDGER.TAMPER_CFG_POL : FieldSpec := ⟨0x058, 3, 0, .seal, 0, 1, 4⟩
def LEDGER.COUNTER : FieldSpec := ⟨0x060, 31, 0, .ro, 0, 12, 4⟩
def LEDGER.PLAUS_LAST : FieldSpec := ⟨0x090, 31, 0, .ro, 0, 1, 4⟩
def LEDGER.PLAUS_CNT_PERIODS : FieldSpec := ⟨0x094, 31, 16, .ro, 0, 1, 4⟩
def LEDGER.PLAUS_CNT_FAILS : FieldSpec := ⟨0x094, 15, 0, .ro, 0, 1, 4⟩
def LEDGER.TAMPER_STAT_CHANGED : FieldSpec := ⟨0x098, 7, 4, .ro, 0, 1, 4⟩
def LEDGER.TAMPER_STAT_NOW : FieldSpec := ⟨0x098, 3, 0, .ro, 0, 1, 4⟩
def LEDGER.TAMPER_CNT : FieldSpec := ⟨0x09C, 31, 0, .ro, 0, 1, 4⟩
def LEDGER.LIFE_S : FieldSpec := ⟨0x0A0, 31, 0, .ro, 0, 1, 4⟩
def LEDGER.LOG_HEAD : FieldSpec := ⟨0x0A4, 31, 0, .ro, 0, 1, 4⟩
def LEDGER.LOG_STAT_USED : FieldSpec := ⟨0x0A8, 24, 16, .ro, 0, 1, 4⟩
def LEDGER.LOG_STAT_LOST : FieldSpec := ⟨0x0A8, 15, 0, .ro, 0, 1, 4⟩
def LEDGER.LOG_RELEASE_SEQ : FieldSpec := ⟨0x0AC, 31, 0, .woSeal, 0, 1, 4⟩
def LEDGER.LOG_IDX_SLOT : FieldSpec := ⟨0x0B0, 7, 0, .rw, 0, 1, 4⟩
def LEDGER.LOG_DATA : FieldSpec := ⟨0x0B4, 31, 0, .ro, 0, 4, 4⟩
def LEDGER.LOG_IN_CODE : FieldSpec := ⟨0x0C4, 31, 0, .woSeal, 0, 1, 4⟩
def LEDGER.LOG_IN_DATA : FieldSpec := ⟨0x0C8, 31, 0, .woSeal, 0, 1, 4⟩
def LEDGER.SEAL_CNT_SEAL_DISCARDS : FieldSpec := ⟨0x0CC, 31, 16, .ro, 0, 1, 4⟩
def LEDGER.SEAL_CNT_FEED_DISCARDS : FieldSpec := ⟨0x0CC, 15, 0, .ro, 0, 1, 4⟩
def LEDGER.AC_FEED_MJ : FieldSpec := ⟨0x0D0, 31, 0, .wo, 0, 1, 4⟩
def LEDGER.RESTORE_LO : FieldSpec := ⟨0x0D4, 31, 0, .woSeal, 0, 1, 4⟩
def LEDGER.RESTORE_HI : FieldSpec := ⟨0x0D8, 31, 0, .woSeal, 0, 1, 4⟩
def LEDGER.RESTORE_GO_COUNTER : FieldSpec := ⟨0x0DC, 2, 0, .woSeal, 0, 1, 4⟩
def LEDGER.RESTORE_STAT_DONE : FieldSpec := ⟨0x0E0, 5, 0, .ro, 0, 1, 4⟩

/-- All fields of the LEDGER page. -/
def LEDGER.fields : List FieldSpec :=
  [LEDGER.CTRL_TAMPER_ACK, LEDGER.STATUS_SEALED, LEDGER.STATUS_FEED_OK, LEDGER.STATUS_LOG_FULL, LEDGER.STATUS_PLAUS_FAIL, LEDGER.STATUS_TAMPER_NOW, LEDGER.IRQ_RAW_SEAL_DISCARD, LEDGER.IRQ_RAW_FEED_LOST, LEDGER.IRQ_RAW_LOG_FULL, LEDGER.IRQ_RAW_PLAUS_FAIL, LEDGER.IRQ_RAW_UNVERIFIED, LEDGER.IRQ_RAW_TAMPER, LEDGER.IRQ_RAW_PERIOD_DONE, LEDGER.FAULT_CODE_CAUSE, LEDGER.FAULT_CODE_PORT, LEDGER.LED_CFG_AC_ENG, LEDGER.LED_CFG_DC_I_IN, LEDGER.LED_CFG_DC_V_IN, LEDGER.LED_CFG_FEED_TO_MS, LEDGER.DC_V_SCALE, LEDGER.DC_I_SCALE, LEDGER.PLAUS_CFG_PERIOD_S, LEDGER.PLAUS_CFG_LOSS_BP, LEDGER.BAND_CFG_BAND_BP] ++
  [LEDGER.BAND_CFG_BAND_FIX_KJ, LEDGER.AUX_W_W, LEDGER.TAMPER_CFG_EN, LEDGER.TAMPER_CFG_POL, LEDGER.COUNTER, LEDGER.PLAUS_LAST, LEDGER.PLAUS_CNT_PERIODS, LEDGER.PLAUS_CNT_FAILS, LEDGER.TAMPER_STAT_CHANGED, LEDGER.TAMPER_STAT_NOW, LEDGER.TAMPER_CNT, LEDGER.LIFE_S, LEDGER.LOG_HEAD, LEDGER.LOG_STAT_USED, LEDGER.LOG_STAT_LOST, LEDGER.LOG_RELEASE_SEQ, LEDGER.LOG_IDX_SLOT, LEDGER.LOG_DATA, LEDGER.LOG_IN_CODE, LEDGER.LOG_IN_DATA, LEDGER.SEAL_CNT_SEAL_DISCARDS, LEDGER.SEAL_CNT_FEED_DISCARDS, LEDGER.AC_FEED_MJ, LEDGER.RESTORE_LO] ++
  [LEDGER.RESTORE_HI, LEDGER.RESTORE_GO_COUNTER, LEDGER.RESTORE_STAT_DONE]

/-! Page ACQ: the register tables of R307, R308. -/
def ACQ.CTRL_STOP : FieldSpec := ⟨0x008, 1, 1, .wo, 0, 1, 4⟩
def ACQ.CTRL_ARM : FieldSpec := ⟨0x008, 0, 0, .wo, 0, 1, 4⟩
def ACQ.STATUS_RATE_K : FieldSpec := ⟨0x00C, 18, 16, .ro, 0, 1, 4⟩
def ACQ.STATUS_SEG : FieldSpec := ⟨0x00C, 13, 8, .ro, 0, 1, 4⟩
def ACQ.STATUS_STATE : FieldSpec := ⟨0x00C, 2, 0, .ro, 0, 1, 4⟩
def ACQ.IRQ_RAW_STREAM_PAUSED : FieldSpec := ⟨0x010, 8, 8, .ro, 0, 1, 4⟩
def ACQ.IRQ_RAW_LATE : FieldSpec := ⟨0x010, 7, 7, .ro, 0, 1, 4⟩
def ACQ.IRQ_RAW_ARM_REFUSED : FieldSpec := ⟨0x010, 6, 6, .ro, 0, 1, 4⟩
def ACQ.IRQ_RAW_FULL : FieldSpec := ⟨0x010, 5, 5, .ro, 0, 1, 4⟩
def ACQ.IRQ_RAW_GAP : FieldSpec := ⟨0x010, 4, 4, .ro, 0, 1, 4⟩
def ACQ.IRQ_RAW_RATE_HALVED : FieldSpec := ⟨0x010, 3, 3, .ro, 0, 1, 4⟩
def ACQ.IRQ_RAW_FORCED : FieldSpec := ⟨0x010, 2, 2, .ro, 0, 1, 4⟩
def ACQ.IRQ_RAW_RECORD_DONE : FieldSpec := ⟨0x010, 1, 1, .ro, 0, 1, 4⟩
def ACQ.IRQ_RAW_TRIGGERED : FieldSpec := ⟨0x010, 0, 0, .ro, 0, 1, 4⟩
def ACQ.FAULT_CODE_CAUSE : FieldSpec := ⟨0x024, 19, 16, .ro, 0, 1, 4⟩
def ACQ.FAULT_CODE_OFFSET : FieldSpec := ⟨0x024, 11, 0, .ro, 0, 1, 4⟩
def ACQ.ACQ_CFG_NCH : FieldSpec := ⟨0x040, 15, 12, .rw, 0, 1, 4⟩
def ACQ.ACQ_CFG_SEG_LOG2 : FieldSpec := ⟨0x040, 10, 8, .rw, 0, 1, 4⟩
def ACQ.ACQ_CFG_HOLD_EVT : FieldSpec := ⟨0x040, 3, 3, .rw, 0, 1, 4⟩
def ACQ.ACQ_CFG_AUTO : FieldSpec := ⟨0x040, 2, 2, .rw, 0, 1, 4⟩
def ACQ.ACQ_CFG_MODE : FieldSpec := ⟨0x040, 1, 0, .rw, 0, 1, 4⟩
def ACQ.ACQ_PERIOD_TICKS : FieldSpec := ⟨0x044, 21, 0, .rw, 0x9C4, 1, 4⟩
def ACQ.PRE_SAMPLES : FieldSpec := ⟨0x048, 19, 0, .rw, 0x400, 1, 4⟩
def ACQ.POST_SAMPLES : FieldSpec := ⟨0x04C, 19, 0, .rw, 0x800, 1, 4⟩
def ACQ.HOLDOFF : FieldSpec := ⟨0x050, 23, 0, .rw, 0, 1, 4⟩
def ACQ.AUTO_MS_MS : FieldSpec := ⟨0x054, 15, 0, .rw, 0x3E8, 1, 4⟩
def ACQ.STREAM_MBPS_MBPS : FieldSpec := ⟨0x058, 8, 0, .rw, 0x40, 1, 4⟩
def ACQ.SEG_RELEASE_SEG : FieldSpec := ⟨0x05C, 5, 0, .wo, 0, 1, 4⟩
def ACQ.SEG_FULL0_FULL : FieldSpec := ⟨0x060, 31, 0, .ro, 0, 1, 4⟩
def ACQ.SEG_FULL1_FULL : FieldSpec := ⟨0x064, 31, 0, .ro, 0, 1, 4⟩
def ACQ.ACQ_CNT_RECORDS : FieldSpec := ⟨0x068, 31, 16, .ro, 0, 1, 4⟩
def ACQ.ACQ_CNT_FORCED : FieldSpec := ⟨0x068, 15, 8, .ro, 0, 1, 4⟩
def ACQ.ACQ_CNT_FILL_IGNORED : FieldSpec := ⟨0x068, 7, 0, .ro, 0, 1, 4⟩
def ACQ.STREAM_DROPS : FieldSpec := ⟨0x06C, 31, 0, .ro, 0, 1, 4⟩
def ACQ.CH_KIND : FieldSpec := ⟨0x080, 31, 31, .rw, 0, 16, 4⟩
def ACQ.CH_SRC : FieldSpec := ⟨0x080, 19, 0, .rw, 0, 16, 4⟩

/-- All fields of the ACQ page. -/
def ACQ.fields : List FieldSpec :=
  [ACQ.CTRL_STOP, ACQ.CTRL_ARM, ACQ.STATUS_RATE_K, ACQ.STATUS_SEG, ACQ.STATUS_STATE, ACQ.IRQ_RAW_STREAM_PAUSED, ACQ.IRQ_RAW_LATE, ACQ.IRQ_RAW_ARM_REFUSED, ACQ.IRQ_RAW_FULL, ACQ.IRQ_RAW_GAP, ACQ.IRQ_RAW_RATE_HALVED, ACQ.IRQ_RAW_FORCED, ACQ.IRQ_RAW_RECORD_DONE, ACQ.IRQ_RAW_TRIGGERED, ACQ.FAULT_CODE_CAUSE, ACQ.FAULT_CODE_OFFSET, ACQ.ACQ_CFG_NCH, ACQ.ACQ_CFG_SEG_LOG2, ACQ.ACQ_CFG_HOLD_EVT, ACQ.ACQ_CFG_AUTO, ACQ.ACQ_CFG_MODE, ACQ.ACQ_PERIOD_TICKS, ACQ.PRE_SAMPLES, ACQ.POST_SAMPLES] ++
  [ACQ.HOLDOFF, ACQ.AUTO_MS_MS, ACQ.STREAM_MBPS_MBPS, ACQ.SEG_RELEASE_SEG, ACQ.SEG_FULL0_FULL, ACQ.SEG_FULL1_FULL, ACQ.ACQ_CNT_RECORDS, ACQ.ACQ_CNT_FORCED, ACQ.ACQ_CNT_FILL_IGNORED, ACQ.STREAM_DROPS, ACQ.CH_KIND, ACQ.CH_SRC]

/-! Page TRIG: the register tables of R309, R310. -/
def TRIG.CTRL_SOFT : FieldSpec := ⟨0x008, 0, 0, .wo, 0, 1, 4⟩
def TRIG.STATUS_TB_BUSY : FieldSpec := ⟨0x00C, 3, 3, .ro, 0, 1, 4⟩
def TRIG.STATUS_WIRE_BLOCKED : FieldSpec := ⟨0x00C, 2, 2, .ro, 0, 1, 4⟩
def TRIG.STATUS_TIME_LOCKED : FieldSpec := ⟨0x00C, 1, 1, .ro, 0, 1, 4⟩
def TRIG.STATUS_WIRE_LOW : FieldSpec := ⟨0x00C, 0, 0, .ro, 0, 1, 4⟩
def TRIG.IRQ_RAW_TB_LATE : FieldSpec := ⟨0x010, 6, 6, .ro, 0, 1, 4⟩
def TRIG.IRQ_RAW_TB_DISCARD : FieldSpec := ⟨0x010, 5, 5, .ro, 0, 1, 4⟩
def TRIG.IRQ_RAW_TB_LOST : FieldSpec := ⟨0x010, 4, 4, .ro, 0, 1, 4⟩
def TRIG.IRQ_RAW_TB_TX : FieldSpec := ⟨0x010, 3, 3, .ro, 0, 1, 4⟩
def TRIG.IRQ_RAW_TB_RX : FieldSpec := ⟨0x010, 2, 2, .ro, 0, 1, 4⟩
def TRIG.IRQ_RAW_WIRE_DRIVEN : FieldSpec := ⟨0x010, 1, 1, .ro, 0, 1, 4⟩
def TRIG.IRQ_RAW_WIRE_EDGE : FieldSpec := ⟨0x010, 0, 0, .ro, 0, 1, 4⟩
def TRIG.FAULT_CODE_CAUSE : FieldSpec := ⟨0x024, 19, 16, .ro, 0, 1, 4⟩
def TRIG.TRIG_CFG_ARM_GRP : FieldSpec := ⟨0x040, 15, 13, .rw, 0, 1, 4⟩
def TRIG.TRIG_CFG_EVT_EN : FieldSpec := ⟨0x040, 12, 12, .rw, 0, 1, 4⟩
def TRIG.TRIG_CFG_TB_OUT : FieldSpec := ⟨0x040, 11, 11, .rw, 0, 1, 4⟩
def TRIG.TRIG_CFG_TB_IN : FieldSpec := ⟨0x040, 10, 10, .rw, 0, 1, 4⟩
def TRIG.TRIG_CFG_WIRE_OUT : FieldSpec := ⟨0x040, 9, 9, .rw, 0, 1, 4⟩
def TRIG.TRIG_CFG_WIRE_IN : FieldSpec := ⟨0x040, 8, 8, .rw, 0, 1, 4⟩
def TRIG.TRIG_CFG_LVL_CH : FieldSpec := ⟨0x040, 7, 4, .rw, 0, 1, 4⟩
def TRIG.TRIG_CFG_EDGE : FieldSpec := ⟨0x040, 2, 1, .rw, 0, 1, 4⟩
def TRIG.TRIG_CFG_LVL_EN : FieldSpec := ⟨0x040, 0, 0, .rw, 0, 1, 4⟩
def TRIG.LVL_THR : FieldSpec := ⟨0x044, 23, 0, .rw, 0, 1, 4⟩
def TRIG.LVL_HYST : FieldSpec := ⟨0x048, 23, 0, .rw, 0x1000, 1, 4⟩
def TRIG.EVT_MASK_EVT : FieldSpec := ⟨0x04C, 7, 0, .rw, 0, 1, 4⟩
def TRIG.DLY_COMP_TAPS : FieldSpec := ⟨0x050, 31, 0, .rw, 0, 1, 4⟩
def TRIG.WIRE_CFG_PULSE_US : FieldSpec := ⟨0x054, 19, 8, .rw, 0xA, 1, 4⟩
def TRIG.WIRE_CFG_FILT : FieldSpec := ⟨0x054, 7, 0, .rw, 8, 1, 4⟩
def TRIG.LAST_STAMP : FieldSpec := ⟨0x058, 31, 0, .ro, 0, 1, 4⟩
def TRIG.LAST_INFO_SOURCE : FieldSpec := ⟨0x05C, 15, 8, .ro, 0, 1, 4⟩
def TRIG.LAST_INFO_SUB : FieldSpec := ⟨0x05C, 7, 0, .ro, 0, 1, 4⟩
def TRIG.TB_TIME_LO : FieldSpec := ⟨0x060, 31, 0, .ro, 0, 1, 4⟩
def TRIG.TB_TIME_HI : FieldSpec := ⟨0x064, 31, 0, .ro, 0, 1, 4⟩
def TRIG.TB_SRC_ADDR : FieldSpec := ⟨0x068, 19, 0, .ro, 0, 1, 4⟩
def TRIG.TB_CNT_RX : FieldSpec := ⟨0x06C, 31, 16, .ro, 0, 1, 4⟩
def TRIG.TB_CNT_DISCARDS : FieldSpec := ⟨0x06C, 15, 0, .ro, 0, 1, 4⟩

/-- All fields of the TRIG page. -/
def TRIG.fields : List FieldSpec :=
  [TRIG.CTRL_SOFT, TRIG.STATUS_TB_BUSY, TRIG.STATUS_WIRE_BLOCKED, TRIG.STATUS_TIME_LOCKED, TRIG.STATUS_WIRE_LOW, TRIG.IRQ_RAW_TB_LATE, TRIG.IRQ_RAW_TB_DISCARD, TRIG.IRQ_RAW_TB_LOST, TRIG.IRQ_RAW_TB_TX, TRIG.IRQ_RAW_TB_RX, TRIG.IRQ_RAW_WIRE_DRIVEN, TRIG.IRQ_RAW_WIRE_EDGE, TRIG.FAULT_CODE_CAUSE, TRIG.TRIG_CFG_ARM_GRP, TRIG.TRIG_CFG_EVT_EN, TRIG.TRIG_CFG_TB_OUT, TRIG.TRIG_CFG_TB_IN, TRIG.TRIG_CFG_WIRE_OUT, TRIG.TRIG_CFG_WIRE_IN, TRIG.TRIG_CFG_LVL_CH, TRIG.TRIG_CFG_EDGE, TRIG.TRIG_CFG_LVL_EN, TRIG.LVL_THR, TRIG.LVL_HYST] ++
  [TRIG.EVT_MASK_EVT, TRIG.DLY_COMP_TAPS, TRIG.WIRE_CFG_PULSE_US, TRIG.WIRE_CFG_FILT, TRIG.LAST_STAMP, TRIG.LAST_INFO_SOURCE, TRIG.LAST_INFO_SUB, TRIG.TB_TIME_LO, TRIG.TB_TIME_HI, TRIG.TB_SRC_ADDR, TRIG.TB_CNT_RX, TRIG.TB_CNT_DISCARDS]

/-! Page SAFE: the register tables of R356, R357. -/
def SAFE.CTRL_PI_OFF : FieldSpec := ⟨0x008, 3, 2, .wo, 0, 1, 4⟩
def SAFE.CTRL_PI_ON : FieldSpec := ⟨0x008, 1, 0, .wo, 0, 1, 4⟩
def SAFE.STATUS_DEMAND : FieldSpec := ⟨0x00C, 31, 24, .ro, 0, 1, 4⟩
def SAFE.STATUS_TESTED : FieldSpec := ⟨0x00C, 23, 16, .ro, 0, 1, 4⟩
def SAFE.STATUS_LO_CAUSES : FieldSpec := ⟨0x00C, 15, 12, .ro, 0, 1, 4⟩
def SAFE.STATUS_HALT : FieldSpec := ⟨0x00C, 11, 11, .ro, 0, 1, 4⟩
def SAFE.STATUS_STALL_ARMED : FieldSpec := ⟨0x00C, 10, 10, .ro, 0, 1, 4⟩
def SAFE.STATUS_CONFIGURED : FieldSpec := ⟨0x00C, 9, 9, .ro, 0, 1, 4⟩
def SAFE.STATUS_LOCK_OPEN : FieldSpec := ⟨0x00C, 8, 8, .ro, 0, 1, 4⟩
def SAFE.STATUS_PI1_ON : FieldSpec := ⟨0x00C, 5, 5, .ro, 0, 1, 4⟩
def SAFE.STATUS_PI0_ON : FieldSpec := ⟨0x00C, 4, 4, .ro, 0, 1, 4⟩
def SAFE.STATUS_LEGS_OFF : FieldSpec := ⟨0x00C, 3, 3, .ro, 1, 1, 4⟩
def SAFE.STATUS_LOCKOUT : FieldSpec := ⟨0x00C, 2, 2, .ro, 0, 1, 4⟩
def SAFE.STATUS_PERMIT_PIN : FieldSpec := ⟨0x00C, 1, 1, .ro, 0, 1, 4⟩
def SAFE.STATUS_RUN_PERMIT : FieldSpec := ⟨0x00C, 0, 0, .ro, 0, 1, 4⟩
def SAFE.IRQ_RAW_WRITE_REFUSED : FieldSpec := ⟨0x010, 9, 9, .ro, 0, 1, 4⟩
def SAFE.IRQ_RAW_UNLOCK_REFUSED : FieldSpec := ⟨0x010, 8, 8, .ro, 0, 1, 4⟩
def SAFE.IRQ_RAW_PI_REFUSED : FieldSpec := ⟨0x010, 7, 7, .ro, 0, 1, 4⟩
def SAFE.IRQ_RAW_RST_REJECTED : FieldSpec := ⟨0x010, 6, 6, .ro, 0, 1, 4⟩
def SAFE.IRQ_RAW_LOCKOUT_CLEARED : FieldSpec := ⟨0x010, 5, 5, .ro, 0, 1, 4⟩
def SAFE.IRQ_RAW_LOCKOUT : FieldSpec := ⟨0x010, 4, 4, .ro, 0, 1, 4⟩
def SAFE.IRQ_RAW_STALL : FieldSpec := ⟨0x010, 3, 3, .ro, 0, 1, 4⟩
def SAFE.IRQ_RAW_PERMIT_GAINED : FieldSpec := ⟨0x010, 2, 2, .ro, 0, 1, 4⟩
def SAFE.IRQ_RAW_PERMIT_LOST : FieldSpec := ⟨0x010, 1, 1, .ro, 0, 1, 4⟩
def SAFE.IRQ_RAW_STOP_DEMAND : FieldSpec := ⟨0x010, 0, 0, .ro, 0, 1, 4⟩
def SAFE.FAULT_CODE_CAUSE : FieldSpec := ⟨0x024, 19, 16, .ro, 0, 1, 4⟩
def SAFE.FAULT_CODE_CHANNEL : FieldSpec := ⟨0x024, 11, 11, .ro, 0, 1, 4⟩
def SAFE.FAULT_CODE_INDEX : FieldSpec := ⟨0x024, 10, 8, .ro, 0, 1, 4⟩
def SAFE.IN_CFG_DISC_MS : FieldSpec := ⟨0x040, 24, 16, .rwl, 0x64, 8, 4⟩
def SAFE.IN_CFG_FILT : FieldSpec := ⟨0x040, 7, 4, .rwl, 1, 8, 4⟩
def SAFE.IN_CFG_ANTIVALENT : FieldSpec := ⟨0x040, 2, 2, .rwl, 0, 8, 4⟩
def SAFE.IN_CFG_GUARD : FieldSpec := ⟨0x040, 1, 1, .rwl, 0, 8, 4⟩
def SAFE.IN_CFG_EN : FieldSpec := ⟨0x040, 0, 0, .rwl, 0, 8, 4⟩
def SAFE.PI_CFG_EN : FieldSpec := ⟨0x060, 1, 0, .rwl, 3, 1, 4⟩
def SAFE.IN_LEVEL_B : FieldSpec := ⟨0x064, 15, 8, .ro, 0, 1, 4⟩
def SAFE.IN_LEVEL_A : FieldSpec := ⟨0x064, 7, 0, .ro, 0, 1, 4⟩
def SAFE.LAST_DISC_INPUT : FieldSpec := ⟨0x068, 18, 16, .ro, 0, 1, 4⟩
def SAFE.LAST_DISC_TICKS : FieldSpec := ⟨0x068, 15, 0, .ro, 0, 1, 4⟩
def SAFE.CNT_LOCKOUTS : FieldSpec := ⟨0x06C, 31, 24, .ro, 0, 1, 4⟩
def SAFE.CNT_RST_REJECTS : FieldSpec := ⟨0x06C, 23, 16, .ro, 0, 1, 4⟩
def SAFE.CNT_STOPS : FieldSpec := ⟨0x06C, 15, 0, .ro, 0, 1, 4⟩
def SAFE.OSC_DEV : FieldSpec := ⟨0x070, 15, 0, .ro, 0, 1, 4⟩

/-- All fields of the SAFE page. -/
def SAFE.fields : List FieldSpec :=
  [SAFE.CTRL_PI_OFF, SAFE.CTRL_PI_ON, SAFE.STATUS_DEMAND, SAFE.STATUS_TESTED, SAFE.STATUS_LO_CAUSES, SAFE.STATUS_HALT, SAFE.STATUS_STALL_ARMED, SAFE.STATUS_CONFIGURED, SAFE.STATUS_LOCK_OPEN, SAFE.STATUS_PI1_ON, SAFE.STATUS_PI0_ON, SAFE.STATUS_LEGS_OFF, SAFE.STATUS_LOCKOUT, SAFE.STATUS_PERMIT_PIN, SAFE.STATUS_RUN_PERMIT, SAFE.IRQ_RAW_WRITE_REFUSED, SAFE.IRQ_RAW_UNLOCK_REFUSED, SAFE.IRQ_RAW_PI_REFUSED, SAFE.IRQ_RAW_RST_REJECTED, SAFE.IRQ_RAW_LOCKOUT_CLEARED, SAFE.IRQ_RAW_LOCKOUT, SAFE.IRQ_RAW_STALL, SAFE.IRQ_RAW_PERMIT_GAINED, SAFE.IRQ_RAW_PERMIT_LOST] ++
  [SAFE.IRQ_RAW_STOP_DEMAND, SAFE.FAULT_CODE_CAUSE, SAFE.FAULT_CODE_CHANNEL, SAFE.FAULT_CODE_INDEX, SAFE.IN_CFG_DISC_MS, SAFE.IN_CFG_FILT, SAFE.IN_CFG_ANTIVALENT, SAFE.IN_CFG_GUARD, SAFE.IN_CFG_EN, SAFE.PI_CFG_EN, SAFE.IN_LEVEL_B, SAFE.IN_LEVEL_A, SAFE.LAST_DISC_INPUT, SAFE.LAST_DISC_TICKS, SAFE.CNT_LOCKOUTS, SAFE.CNT_RST_REJECTS, SAFE.CNT_STOPS, SAFE.OSC_DEV]

/-! Page PBUS: the register tables of R397, R398. -/
def PBUS.CTRL_RECOVER : FieldSpec := ⟨0x008, 2, 2, .wo, 0, 1, 4⟩
def PBUS.CTRL_ABORT_ALL : FieldSpec := ⟨0x008, 1, 1, .wo, 0, 1, 4⟩
def PBUS.CTRL_ON : FieldSpec := ⟨0x008, 0, 0, .rw, 0, 1, 4⟩
def PBUS.STATUS_SHED_HOLD : FieldSpec := ⟨0x00C, 10, 10, .ro, 0, 1, 4⟩
def PBUS.STATUS_OFFLINE : FieldSpec := ⟨0x00C, 9, 9, .ro, 0, 1, 4⟩
def PBUS.STATUS_ALONE : FieldSpec := ⟨0x00C, 8, 8, .ro, 0, 1, 4⟩
def PBUS.STATUS_RECOVERING : FieldSpec := ⟨0x00C, 7, 7, .ro, 0, 1, 4⟩
def PBUS.STATUS_ERR_STATE : FieldSpec := ⟨0x00C, 6, 5, .ro, 0, 1, 4⟩
def PBUS.STATUS_VOILE : FieldSpec := ⟨0x00C, 4, 4, .ro, 0, 1, 4⟩
def PBUS.STATUS_TX_BUSY : FieldSpec := ⟨0x00C, 3, 3, .ro, 0, 1, 4⟩
def PBUS.STATUS_RX_BUSY : FieldSpec := ⟨0x00C, 2, 2, .ro, 0, 1, 4⟩
def PBUS.STATUS_IDLE : FieldSpec := ⟨0x00C, 1, 1, .ro, 0, 1, 4⟩
def PBUS.STATUS_SYNCED : FieldSpec := ⟨0x00C, 0, 0, .ro, 0, 1, 4⟩
def PBUS.IRQ_RAW_RX_WR_FAIL : FieldSpec := ⟨0x010, 12, 12, .ro, 0, 1, 4⟩
def PBUS.IRQ_RAW_BUF_FAIL : FieldSpec := ⟨0x010, 11, 11, .ro, 0, 1, 4⟩
def PBUS.IRQ_RAW_RX_OVR : FieldSpec := ⟨0x010, 10, 10, .ro, 0, 1, 4⟩
def PBUS.IRQ_RAW_RX_NOMATCH : FieldSpec := ⟨0x010, 9, 9, .ro, 0, 1, 4⟩
def PBUS.IRQ_RAW_TT_MISS : FieldSpec := ⟨0x010, 8, 8, .ro, 0, 1, 4⟩
def PBUS.IRQ_RAW_EXPIRED : FieldSpec := ⟨0x010, 7, 7, .ro, 0, 1, 4⟩
def PBUS.IRQ_RAW_TX_FAIL : FieldSpec := ⟨0x010, 6, 6, .ro, 0, 1, 4⟩
def PBUS.IRQ_RAW_ALONE : FieldSpec := ⟨0x010, 5, 5, .ro, 0, 1, 4⟩
def PBUS.IRQ_RAW_BUS_OFF : FieldSpec := ⟨0x010, 4, 4, .ro, 0, 1, 4⟩
def PBUS.IRQ_RAW_ERR_PASSIVE : FieldSpec := ⟨0x010, 3, 3, .ro, 0, 1, 4⟩
def PBUS.IRQ_RAW_ERR_ACTIVE : FieldSpec := ⟨0x010, 2, 2, .ro, 0, 1, 4⟩
def PBUS.IRQ_RAW_RX_DONE : FieldSpec := ⟨0x010, 1, 1, .ro, 0, 1, 4⟩
def PBUS.IRQ_RAW_TX_DONE : FieldSpec := ⟨0x010, 0, 0, .ro, 0, 1, 4⟩
def PBUS.FAULT_CODE_CAUSE : FieldSpec := ⟨0x024, 19, 16, .ro, 0, 1, 4⟩
def PBUS.FAULT_CODE_RX : FieldSpec := ⟨0x024, 14, 14, .ro, 0, 1, 4⟩
def PBUS.FAULT_CODE_BUF : FieldSpec := ⟨0x024, 13, 8, .ro, 0, 1, 4⟩
def PBUS.PB_CFG_UNMATCHED_TO_MP : FieldSpec := ⟨0x040, 4, 4, .rwl, 0, 1, 4⟩
def PBUS.PB_CFG_VOILE : FieldSpec := ⟨0x040, 3, 3, .rwl, 0, 1, 4⟩
def PBUS.PB_CFG_DRATE : FieldSpec := ⟨0x040, 2, 0, .rwl, 0, 1, 4⟩
def PBUS.PB_TIMING_TDC_OFS : FieldSpec := ⟨0x044, 23, 16, .rwl, 0x19, 1, 4⟩
def PBUS.PB_TIMING_DSP : FieldSpec := ⟨0x044, 15, 8, .rwl, 0x46, 1, 4⟩
def PBUS.PB_TIMING_NSP : FieldSpec := ⟨0x044, 7, 0, .rwl, 0x50, 1, 4⟩
def PBUS.ERR_CNT_TEC : FieldSpec := ⟨0x048, 16, 8, .ro, 0, 1, 4⟩
def PBUS.ERR_CNT_REC : FieldSpec := ⟨0x048, 7, 0, .ro, 0, 1, 4⟩
def PBUS.ERR_STAT_ACK_RUN : FieldSpec := ⟨0x04C, 31, 16, .ro, 0, 1, 4⟩
def PBUS.ERR_STAT_BUSOFF_CNT : FieldSpec := ⟨0x04C, 15, 8, .ro, 0, 1, 4⟩
def PBUS.ERR_STAT_BUSOFF_RCV : FieldSpec := ⟨0x04C, 7, 0, .ro, 0, 1, 4⟩
def PBUS.FRAME_CNT_RX_OK : FieldSpec := ⟨0x050, 31, 16, .ro, 0, 1, 4⟩
def PBUS.FRAME_CNT_TX_OK : FieldSpec := ⟨0x050, 15, 0, .ro, 0, 1, 4⟩
def PBUS.ERR_EVT_RX_ERR : FieldSpec := ⟨0x054, 31, 16, .ro, 0, 1, 4⟩
def PBUS.ERR_EVT_TX_ERR : FieldSpec := ⟨0x054, 15, 0, .ro, 0, 1, 4⟩
def PBUS.LOOP_DLY_TAPS : FieldSpec := ⟨0x058, 15, 0, .ro, 0, 1, 4⟩
def PBUS.MISC_CNT_RX_OVR_CNT : FieldSpec := ⟨0x05C, 31, 24, .ro, 0, 1, 4⟩
def PBUS.MISC_CNT_TT_MISS_CNT : FieldSpec := ⟨0x05C, 23, 16, .ro, 0, 1, 4⟩
def PBUS.MISC_CNT_EXPIRED_CNT : FieldSpec := ⟨0x05C, 15, 8, .ro, 0, 1, 4⟩
def PBUS.MISC_CNT_RX_NOMATCH : FieldSpec := ⟨0x05C, 7, 0, .ro, 0, 1, 4⟩
def PBUS.GROUP_EN : FieldSpec := ⟨0x060, 31, 31, .rw, 0, 8, 4⟩
def PBUS.GROUP_ADDR : FieldSpec := ⟨0x060, 19, 0, .rw, 0, 8, 4⟩
def PBUS.OWN_ADDR_ADDR : FieldSpec := ⟨0x080, 19, 0, .ro, 0x3F, 1, 4⟩

/-- All fields of the PBUS page. -/
def PBUS.fields : List FieldSpec :=
  [PBUS.CTRL_RECOVER, PBUS.CTRL_ABORT_ALL, PBUS.CTRL_ON, PBUS.STATUS_SHED_HOLD, PBUS.STATUS_OFFLINE, PBUS.STATUS_ALONE, PBUS.STATUS_RECOVERING, PBUS.STATUS_ERR_STATE, PBUS.STATUS_VOILE, PBUS.STATUS_TX_BUSY, PBUS.STATUS_RX_BUSY, PBUS.STATUS_IDLE, PBUS.STATUS_SYNCED, PBUS.IRQ_RAW_RX_WR_FAIL, PBUS.IRQ_RAW_BUF_FAIL, PBUS.IRQ_RAW_RX_OVR, PBUS.IRQ_RAW_RX_NOMATCH, PBUS.IRQ_RAW_TT_MISS, PBUS.IRQ_RAW_EXPIRED, PBUS.IRQ_RAW_TX_FAIL, PBUS.IRQ_RAW_ALONE, PBUS.IRQ_RAW_BUS_OFF, PBUS.IRQ_RAW_ERR_PASSIVE, PBUS.IRQ_RAW_ERR_ACTIVE] ++
  [PBUS.IRQ_RAW_RX_DONE, PBUS.IRQ_RAW_TX_DONE, PBUS.FAULT_CODE_CAUSE, PBUS.FAULT_CODE_RX, PBUS.FAULT_CODE_BUF, PBUS.PB_CFG_UNMATCHED_TO_MP, PBUS.PB_CFG_VOILE, PBUS.PB_CFG_DRATE, PBUS.PB_TIMING_TDC_OFS, PBUS.PB_TIMING_DSP, PBUS.PB_TIMING_NSP, PBUS.ERR_CNT_TEC, PBUS.ERR_CNT_REC, PBUS.ERR_STAT_ACK_RUN, PBUS.ERR_STAT_BUSOFF_CNT, PBUS.ERR_STAT_BUSOFF_RCV, PBUS.FRAME_CNT_RX_OK, PBUS.FRAME_CNT_TX_OK, PBUS.ERR_EVT_RX_ERR, PBUS.ERR_EVT_TX_ERR, PBUS.LOOP_DLY_TAPS, PBUS.MISC_CNT_RX_OVR_CNT, PBUS.MISC_CNT_TT_MISS_CNT, PBUS.MISC_CNT_EXPIRED_CNT] ++
  [PBUS.MISC_CNT_RX_NOMATCH, PBUS.GROUP_EN, PBUS.GROUP_ADDR, PBUS.OWN_ADDR_ADDR]

/-! Page PBUS_SCHED: the register tables of R399. -/
def PBUS_SCHED.STATUS_COMMIT_PENDING : FieldSpec := ⟨0x00C, 0, 0, .ro, 0, 1, 4⟩
def PBUS_SCHED.IRQ_RAW_COMMIT_REFUSED : FieldSpec := ⟨0x010, 1, 1, .ro, 0, 1, 4⟩
def PBUS_SCHED.IRQ_RAW_COMMIT_DONE : FieldSpec := ⟨0x010, 0, 0, .ro, 0, 1, 4⟩
def PBUS_SCHED.FAULT_CODE_CAUSE : FieldSpec := ⟨0x024, 19, 16, .ro, 0, 1, 4⟩
def PBUS_SCHED.FAULT_CODE_ENTRY : FieldSpec := ⟨0x024, 10, 0, .ro, 0, 1, 4⟩
def PBUS_SCHED.WIN_SEL_QUARTER : FieldSpec := ⟨0x040, 1, 0, .rw, 0, 1, 4⟩
def PBUS_SCHED.COL_START_TICKS : FieldSpec := ⟨0x084, 21, 0, .rws, 0, 23, 4⟩
def PBUS_SCHED.ENTRY_BUF : FieldSpec := ⟨0x100, 13, 8, .rws, 0, 384, 4⟩
def PBUS_SCHED.ENTRY_KIND : FieldSpec := ⟨0x100, 1, 0, .rws, 0, 384, 4⟩

/-- All fields of the PBUS_SCHED page. -/
def PBUS_SCHED.fields : List FieldSpec :=
  [PBUS_SCHED.STATUS_COMMIT_PENDING, PBUS_SCHED.IRQ_RAW_COMMIT_REFUSED, PBUS_SCHED.IRQ_RAW_COMMIT_DONE, PBUS_SCHED.FAULT_CODE_CAUSE, PBUS_SCHED.FAULT_CODE_ENTRY, PBUS_SCHED.WIN_SEL_QUARTER, PBUS_SCHED.COL_START_TICKS, PBUS_SCHED.ENTRY_BUF, PBUS_SCHED.ENTRY_KIND]

/-! Page PBUS_TIME: the register tables of R400. -/
def PBUS_TIME.CTRL_SET : FieldSpec := ⟨0x008, 2, 2, .wo, 0, 1, 4⟩
def PBUS_TIME.CTRL_MASTER : FieldSpec := ⟨0x008, 1, 1, .rw, 0, 1, 4⟩
def PBUS_TIME.STATUS_HOLDOVER : FieldSpec := ⟨0x00C, 3, 3, .ro, 0, 1, 4⟩
def PBUS_TIME.STATUS_MASTER_ACTIVE : FieldSpec := ⟨0x00C, 2, 2, .ro, 0, 1, 4⟩
def PBUS_TIME.STATUS_NT_VALID : FieldSpec := ⟨0x00C, 1, 1, .ro, 0, 1, 4⟩
def PBUS_TIME.STATUS_LOCKED : FieldSpec := ⟨0x00C, 0, 0, .ro, 0, 1, 4⟩
def PBUS_TIME.IRQ_RAW_SET_DONE : FieldSpec := ⟨0x010, 6, 6, .ro, 0, 1, 4⟩
def PBUS_TIME.IRQ_RAW_REF_TX_FAIL : FieldSpec := ⟨0x010, 5, 5, .ro, 0, 1, 4⟩
def PBUS_TIME.IRQ_RAW_REF_TX_OK : FieldSpec := ⟨0x010, 4, 4, .ro, 0, 1, 4⟩
def PBUS_TIME.IRQ_RAW_REF_REJECT : FieldSpec := ⟨0x010, 3, 3, .ro, 0, 1, 4⟩
def PBUS_TIME.IRQ_RAW_STEP : FieldSpec := ⟨0x010, 2, 2, .ro, 0, 1, 4⟩
def PBUS_TIME.IRQ_RAW_LOCK_LOST : FieldSpec := ⟨0x010, 1, 1, .ro, 0, 1, 4⟩
def PBUS_TIME.IRQ_RAW_LOCK_GAINED : FieldSpec := ⟨0x010, 0, 0, .ro, 0, 1, 4⟩
def PBUS_TIME.FAULT_CODE_CAUSE : FieldSpec := ⟨0x024, 19, 16, .ro, 0, 1, 4⟩
def PBUS_TIME.NT_CFG_CYCLE : FieldSpec := ⟨0x040, 18, 16, .rwl, 2, 1, 4⟩
def PBUS_TIME.NT_CFG_MISS_N : FieldSpec := ⟨0x040, 15, 12, .rwl, 4, 1, 4⟩
def PBUS_TIME.NT_CFG_LOCK_N : FieldSpec := ⟨0x040, 11, 8, .rwl, 4, 1, 4⟩
def PBUS_TIME.LOCK_ERR_TAPS : FieldSpec := ⟨0x044, 15, 0, .rw, 0x280, 1, 4⟩
def PBUS_TIME.STEP_THR_TAPS : FieldSpec := ⟨0x048, 23, 0, .rw, 0x3200, 1, 4⟩
def PBUS_TIME.PROP_DLY_TAPS : FieldSpec := ⟨0x04C, 15, 0, .rw, 0, 1, 4⟩
def PBUS_TIME.NT_LO : FieldSpec := ⟨0x050, 31, 0, .ro, 0, 1, 4⟩
def PBUS_TIME.NT_HI : FieldSpec := ⟨0x054, 31, 0, .ro, 0, 1, 4⟩
def PBUS_TIME.NT_SET_LO : FieldSpec := ⟨0x058, 31, 0, .rw, 0, 1, 4⟩
def PBUS_TIME.NT_SET_HI : FieldSpec := ⟨0x05C, 31, 0, .rw, 0, 1, 4⟩
def PBUS_TIME.LAST_ERR_TAPS : FieldSpec := ⟨0x060, 31, 0, .ro, 0, 1, 4⟩
def PBUS_TIME.RATE_PPB : FieldSpec := ⟨0x064, 31, 0, .ro, 0, 1, 4⟩
def PBUS_TIME.REF_STAMP : FieldSpec := ⟨0x068, 31, 0, .ro, 0, 1, 4⟩
def PBUS_TIME.CYCLE_NO : FieldSpec := ⟨0x06C, 5, 0, .ro, 0, 1, 4⟩
def PBUS_TIME.REF_CNT_REJECTS : FieldSpec := ⟨0x070, 31, 16, .ro, 0, 1, 4⟩
def PBUS_TIME.REF_CNT_ACCEPTED : FieldSpec := ⟨0x070, 15, 0, .ro, 0, 1, 4⟩

/-- All fields of the PBUS_TIME page. -/
def PBUS_TIME.fields : List FieldSpec :=
  [PBUS_TIME.CTRL_SET, PBUS_TIME.CTRL_MASTER, PBUS_TIME.STATUS_HOLDOVER, PBUS_TIME.STATUS_MASTER_ACTIVE, PBUS_TIME.STATUS_NT_VALID, PBUS_TIME.STATUS_LOCKED, PBUS_TIME.IRQ_RAW_SET_DONE, PBUS_TIME.IRQ_RAW_REF_TX_FAIL, PBUS_TIME.IRQ_RAW_REF_TX_OK, PBUS_TIME.IRQ_RAW_REF_REJECT, PBUS_TIME.IRQ_RAW_STEP, PBUS_TIME.IRQ_RAW_LOCK_LOST, PBUS_TIME.IRQ_RAW_LOCK_GAINED, PBUS_TIME.FAULT_CODE_CAUSE, PBUS_TIME.NT_CFG_CYCLE, PBUS_TIME.NT_CFG_MISS_N, PBUS_TIME.NT_CFG_LOCK_N, PBUS_TIME.LOCK_ERR_TAPS, PBUS_TIME.STEP_THR_TAPS, PBUS_TIME.PROP_DLY_TAPS, PBUS_TIME.NT_LO, PBUS_TIME.NT_HI, PBUS_TIME.NT_SET_LO, PBUS_TIME.NT_SET_HI] ++
  [PBUS_TIME.LAST_ERR_TAPS, PBUS_TIME.RATE_PPB, PBUS_TIME.REF_STAMP, PBUS_TIME.CYCLE_NO, PBUS_TIME.REF_CNT_REJECTS, PBUS_TIME.REF_CNT_ACCEPTED]

/-! Page PBUS_BUF: the register tables of R401. -/
def PBUS_BUF.IRQ_RAW_WRITE_IGNORED : FieldSpec := ⟨0x010, 0, 0, .ro, 0, 1, 4⟩
def PBUS_BUF.FAULT_CODE_CAUSE : FieldSpec := ⟨0x024, 19, 16, .ro, 0, 1, 4⟩
def PBUS_BUF.FAULT_CODE_BUF : FieldSpec := ⟨0x024, 5, 0, .ro, 0, 1, 4⟩
def PBUS_BUF.TX_REQ0_REQ : FieldSpec := ⟨0x040, 31, 0, .wo, 0, 1, 4⟩
def PBUS_BUF.TX_REQ1_REQ : FieldSpec := ⟨0x044, 31, 0, .wo, 0, 1, 4⟩
def PBUS_BUF.TX_ABORT0_ABORT : FieldSpec := ⟨0x048, 31, 0, .wo, 0, 1, 4⟩
def PBUS_BUF.TX_ABORT1_ABORT : FieldSpec := ⟨0x04C, 31, 0, .wo, 0, 1, 4⟩
def PBUS_BUF.RX_RELEASE0_RELEASE : FieldSpec := ⟨0x050, 31, 0, .wo, 0, 1, 4⟩
def PBUS_BUF.RX_RELEASE1_RELEASE : FieldSpec := ⟨0x054, 31, 0, .wo, 0, 1, 4⟩
def PBUS_BUF.TX_DONE0_DONE : FieldSpec := ⟨0x060, 31, 0, .w1c, 0, 1, 4⟩
def PBUS_BUF.TX_DONE1_DONE : FieldSpec := ⟨0x064, 31, 0, .w1c, 0, 1, 4⟩
def PBUS_BUF.RX_NEW0_NEW : FieldSpec := ⟨0x068, 31, 0, .ro, 0, 1, 4⟩
def PBUS_BUF.RX_NEW1_NEW : FieldSpec := ⟨0x06C, 31, 0, .ro, 0, 1, 4⟩
def PBUS_BUF.TX_DESC_ONE_SHOT : FieldSpec := ⟨0x100, 31, 31, .rw, 0, 64, 4⟩
def PBUS_BUF.TX_DESC_REPEAT : FieldSpec := ⟨0x100, 30, 30, .rw, 0, 64, 4⟩
def PBUS_BUF.TX_DESC_SEQ_AUTO : FieldSpec := ⟨0x100, 29, 29, .rw, 0, 64, 4⟩
def PBUS_BUF.TX_DESC_EXP_MS : FieldSpec := ⟨0x100, 15, 0, .rw, 0, 64, 4⟩
def PBUS_BUF.TX_STATE_STATE : FieldSpec := ⟨0x200, 31, 0, .ro, 0, 8, 4⟩
def PBUS_BUF.RX_CFG_EN : FieldSpec := ⟨0x300, 31, 31, .rw, 0, 64, 4⟩
def PBUS_BUF.RX_CFG_TO_MP : FieldSpec := ⟨0x300, 30, 30, .rw, 0, 64, 4⟩
def PBUS_BUF.RX_CFG_CLASS_HI : FieldSpec := ⟨0x300, 26, 18, .rw, 0, 64, 4⟩
def PBUS_BUF.RX_CFG_CLASS_LO : FieldSpec := ⟨0x300, 17, 9, .rw, 0, 64, 4⟩
def PBUS_BUF.RX_CFG_TYPE_MASK : FieldSpec := ⟨0x300, 7, 0, .rw, 0, 64, 4⟩
def PBUS_BUF.RX_STATE_STATE : FieldSpec := ⟨0x400, 31, 0, .ro, 0, 8, 4⟩

/-- All fields of the PBUS_BUF page. -/
def PBUS_BUF.fields : List FieldSpec :=
  [PBUS_BUF.IRQ_RAW_WRITE_IGNORED, PBUS_BUF.FAULT_CODE_CAUSE, PBUS_BUF.FAULT_CODE_BUF, PBUS_BUF.TX_REQ0_REQ, PBUS_BUF.TX_REQ1_REQ, PBUS_BUF.TX_ABORT0_ABORT, PBUS_BUF.TX_ABORT1_ABORT, PBUS_BUF.RX_RELEASE0_RELEASE, PBUS_BUF.RX_RELEASE1_RELEASE, PBUS_BUF.TX_DONE0_DONE, PBUS_BUF.TX_DONE1_DONE, PBUS_BUF.RX_NEW0_NEW, PBUS_BUF.RX_NEW1_NEW, PBUS_BUF.TX_DESC_ONE_SHOT, PBUS_BUF.TX_DESC_REPEAT, PBUS_BUF.TX_DESC_SEQ_AUTO, PBUS_BUF.TX_DESC_EXP_MS, PBUS_BUF.TX_STATE_STATE, PBUS_BUF.RX_CFG_EN, PBUS_BUF.RX_CFG_TO_MP, PBUS_BUF.RX_CFG_CLASS_HI, PBUS_BUF.RX_CFG_CLASS_LO, PBUS_BUF.RX_CFG_TYPE_MASK, PBUS_BUF.RX_STATE_STATE]

/-! Page CHAIN: the register tables of R430, R431. -/
def CHAIN.CTRL_CLOSE_DN : FieldSpec := ⟨0x008, 2, 2, .rw, 0, 1, 4⟩
def CHAIN.CTRL_RE_ENUM : FieldSpec := ⟨0x008, 1, 1, .wo, 0, 1, 4⟩
def CHAIN.CTRL_CLR_CNT : FieldSpec := ⟨0x008, 0, 0, .wo, 0, 1, 4⟩
def CHAIN.STATUS_EPOCH_MAX : FieldSpec := ⟨0x00C, 23, 16, .ro, 0, 1, 4⟩
def CHAIN.STATUS_EPOCH : FieldSpec := ⟨0x00C, 15, 8, .ro, 0, 1, 4⟩
def CHAIN.STATUS_ADDRESSED : FieldSpec := ⟨0x00C, 7, 7, .ro, 0, 1, 4⟩
def CHAIN.STATUS_END : FieldSpec := ⟨0x00C, 6, 6, .ro, 0, 1, 4⟩
def CHAIN.STATUS_ORPHAN : FieldSpec := ⟨0x00C, 5, 5, .ro, 0, 1, 4⟩
def CHAIN.STATUS_RATE_LOW : FieldSpec := ⟨0x00C, 4, 4, .ro, 0, 1, 4⟩
def CHAIN.STATUS_DN_LINK : FieldSpec := ⟨0x00C, 3, 2, .ro, 0, 1, 4⟩
def CHAIN.STATUS_UP_LINK : FieldSpec := ⟨0x00C, 1, 0, .ro, 0, 1, 4⟩
def CHAIN.IRQ_RAW_LATE_DISCARD : FieldSpec := ⟨0x010, 7, 7, .ro, 0, 1, 4⟩
def CHAIN.IRQ_RAW_OVERFLOW : FieldSpec := ⟨0x010, 6, 6, .ro, 0, 1, 4⟩
def CHAIN.IRQ_RAW_HDR_ERR : FieldSpec := ⟨0x010, 5, 5, .ro, 0, 1, 4⟩
def CHAIN.IRQ_RAW_ENUM_DONE : FieldSpec := ⟨0x010, 4, 4, .ro, 0, 1, 4⟩
def CHAIN.IRQ_RAW_UP_REGAINED : FieldSpec := ⟨0x010, 3, 3, .ro, 0, 1, 4⟩
def CHAIN.IRQ_RAW_UP_LOST : FieldSpec := ⟨0x010, 2, 2, .ro, 0, 1, 4⟩
def CHAIN.IRQ_RAW_DN_HEALED : FieldSpec := ⟨0x010, 1, 1, .ro, 0, 1, 4⟩
def CHAIN.IRQ_RAW_DN_BREAK : FieldSpec := ⟨0x010, 0, 0, .ro, 0, 1, 4⟩
def CHAIN.FAULT_CODE_CAUSE : FieldSpec := ⟨0x024, 19, 16, .ro, 0, 1, 4⟩
def CHAIN.POSITION_LENGTH : FieldSpec := ⟨0x040, 22, 16, .ro, 0, 1, 4⟩
def CHAIN.POSITION_POS : FieldSpec := ⟨0x040, 6, 0, .ro, 0, 1, 4⟩
def CHAIN.HDR_ERR_UP : FieldSpec := ⟨0x044, 31, 16, .ro, 0, 1, 4⟩
def CHAIN.HDR_ERR_DN : FieldSpec := ⟨0x044, 15, 0, .ro, 0, 1, 4⟩
def CHAIN.RETX_UP : FieldSpec := ⟨0x048, 31, 16, .ro, 0, 1, 4⟩
def CHAIN.RETX_DN : FieldSpec := ⟨0x048, 15, 0, .ro, 0, 1, 4⟩
def CHAIN.CODE_ERR_UP : FieldSpec := ⟨0x04C, 31, 16, .ro, 0, 1, 4⟩
def CHAIN.CODE_ERR_DN : FieldSpec := ⟨0x04C, 15, 0, .ro, 0, 1, 4⟩
def CHAIN.XACT_LATE_DISCARDS : FieldSpec := ⟨0x050, 31, 16, .ro, 0, 1, 4⟩
def CHAIN.XACT_UNREACH : FieldSpec := ⟨0x050, 15, 0, .ro, 0, 1, 4⟩
def CHAIN.CREDIT_UP_TX : FieldSpec := ⟨0x054, 7, 4, .ro, 0, 1, 4⟩
def CHAIN.CREDIT_DN_TX : FieldSpec := ⟨0x054, 3, 0, .ro, 0, 1, 4⟩
def CHAIN.BREAKS_HEALS : FieldSpec := ⟨0x058, 15, 8, .ro, 0, 1, 4⟩
def CHAIN.BREAKS_BREAKS : FieldSpec := ⟨0x058, 7, 0, .ro, 0, 1, 4⟩

/-- All fields of the CHAIN page. -/
def CHAIN.fields : List FieldSpec :=
  [CHAIN.CTRL_CLOSE_DN, CHAIN.CTRL_RE_ENUM, CHAIN.CTRL_CLR_CNT, CHAIN.STATUS_EPOCH_MAX, CHAIN.STATUS_EPOCH, CHAIN.STATUS_ADDRESSED, CHAIN.STATUS_END, CHAIN.STATUS_ORPHAN, CHAIN.STATUS_RATE_LOW, CHAIN.STATUS_DN_LINK, CHAIN.STATUS_UP_LINK, CHAIN.IRQ_RAW_LATE_DISCARD, CHAIN.IRQ_RAW_OVERFLOW, CHAIN.IRQ_RAW_HDR_ERR, CHAIN.IRQ_RAW_ENUM_DONE, CHAIN.IRQ_RAW_UP_REGAINED, CHAIN.IRQ_RAW_UP_LOST, CHAIN.IRQ_RAW_DN_HEALED, CHAIN.IRQ_RAW_DN_BREAK, CHAIN.FAULT_CODE_CAUSE, CHAIN.POSITION_LENGTH, CHAIN.POSITION_POS, CHAIN.HDR_ERR_UP, CHAIN.HDR_ERR_DN] ++
  [CHAIN.RETX_UP, CHAIN.RETX_DN, CHAIN.CODE_ERR_UP, CHAIN.CODE_ERR_DN, CHAIN.XACT_LATE_DISCARDS, CHAIN.XACT_UNREACH, CHAIN.CREDIT_UP_TX, CHAIN.CREDIT_DN_TX, CHAIN.BREAKS_HEALS, CHAIN.BREAKS_BREAKS]

end Sys2Proof.Machine
end

