-- ==== Sys2Proof/Machine/Store.lean ====
section
/-!
DEFINITION. Sparse maps as lists of (key, value) pairs in one canonical form: keys strictly rising, no entry equal to what
an unlisted key reads as. Memory and the register file are such maps.
-/
namespace Sys2Proof.Machine

variable {α : Type}

/-- What key `k` reads as; `d` gives the value of an unlisted key. -/
def storeGet (d : Nat → α) : List (Nat × α) → Nat → α
  | [], k => d k
  | (a, v) :: m, k => if a = k then v else storeGet d m k

/-- Drop the entries of key `k`. -/
def storeErase : List (Nat × α) → Nat → List (Nat × α)
  | [], _ => []
  | (a, v) :: m, k => if a = k then storeErase m k else (a, v) :: storeErase m k

/-- Put `v` at key `k`, keeping the keys in order. -/
def storeInsert : List (Nat × α) → Nat → α → List (Nat × α)
  | [], k, v => [(k, v)]
  | (a, w) :: m, k, v =>
    if k < a then (k, v) :: (a, w) :: m
    else if a = k then (k, v) :: m
    else (a, w) :: storeInsert m k v

/-- A write: the value an unlisted key reads as removes the entry. -/
def storePut [DecidableEq α] (d : Nat → α) (m : List (Nat × α)) (k : Nat) (v : α) : List (Nat × α) :=
  if v = d k then storeErase m k else storeInsert m k v

/-- Every key of the map lies above `lo`. -/
def storeAbove (lo : Nat) : List (Nat × α) → Bool
  | [] => true
  | (a, _) :: m => decide (lo < a) && storeAbove lo m

/-- The canonical form. -/
def storeWf [DecidableEq α] (d : Nat → α) : List (Nat × α) → Bool
  | [] => true
  | (a, v) :: m => decide (v ≠ d a) && storeAbove a m && storeWf d m

end Sys2Proof.Machine
end

