-- ==== Sys2Proof/Machine/Regs.lean ====
section
/-!
DEFINITION. The map of pages (R426), the reset value of every register, and the bits of a field.
-/
namespace Sys2Proof.Machine

/-! ## Page numbers (R426) -/

def pSYS : Nat := 0x00
def pBOOT : Nat := 0x01
def pCLK : Nat := 0x02
def pPWR : Nat := 0x03
def pRST : Nat := 0x04
def pFELT : Nat := 0x08
def pARBCFG : Nat := 0x09
def pARB (b : Nat) : Nat := 0x0A + b
/-- The page of engine code n: CE00 to CE11, TE0 to TE2. -/
def pENG (n : Nat) : Nat := 0x20 + n
def pVOTER : Nat := 0x2F
def pMP : Nat := 0x30
def pLEG (n : Nat) : Nat := 0x40 + n
def pGRP (g : Nat) : Nat := 0x70 + g
def pPWMTB : Nat := 0x74
def pSDF (j : Nat) : Nat := 0x78 + j
def pGFM : Nat := 0x80
def pPROFILE : Nat := 0x81
def pTRANSIT : Nat := 0x82
def pFRT : Nat := 0x83
def pPC (n : Nat) : Nat := 0x88 + n
def pLEDGER : Nat := 0x8A
def pACQ : Nat := 0x90
def pTRIG : Nat := 0x91
def pSAFE : Nat := 0x98
def pPBUS : Nat := 0xA0
def pSCHED : Nat := 0xA1
def pTIME : Nat := 0xA2
def pBUF : Nat := 0xA3
def pCHAIN : Nat := 0xB0

/-- The first page of each block's range with the number of its pages and its fields (R423, R426). -/
def pageRanges : List (Nat × Nat × List FieldSpec) :=
  [(pSYS, 1, SYS.fields), (pBOOT, 1, BOOT.fields), (pCLK, 1, CLK.fields), (pPWR, 1, PWR.fields),
   (pRST, 1, RST.fields), (pFELT, 1, FELT.fields), (pARBCFG, 1, ARBCFG.fields), (pARB 0, 16, ARB.fields),
   (pENG 0, 12, CE.fields), (pENG 12, 3, TE.fields), (pVOTER, 1, VOTER.fields), (pMP, 1, MP.fields),
   (pLEG 0, 48, LEG.fields), (pGRP 0, 4, GRP.fields), (pPWMTB, 1, PWMTB.fields), (pSDF 0, 8, SDF.fields)] ++
  [(pGFM, 1, GFM.fields), (pPROFILE, 1, PROFILE.fields), (pTRANSIT, 1, TRANSIT.fields), (pFRT, 1, FRT.fields),
   (pPC 0, 2, PC.fields), (pLEDGER, 1, LEDGER.fields), (pACQ, 1, ACQ.fields), (pTRIG, 1, TRIG.fields),
   (pSAFE, 1, SAFE.fields), (pPBUS, 1, PBUS.fields), (pSCHED, 1, PBUS_SCHED.fields), (pTIME, 1, PBUS_TIME.fields),
   (pBUF, 1, PBUS_BUF.fields), (pCHAIN, 1, CHAIN.fields)]

/-- The range a page lies in. -/
def pageRange (p : Nat) : Option (Nat × Nat × List FieldSpec) :=
  pageRanges.find? (fun r => decide (r.1 ≤ p) && decide (p < r.1 + r.2.1))

/-- The page is mapped (R426). -/
def pageMapped (p : Nat) : Bool := (pageRange p).isSome

/-- The block-specific fields of a page. -/
def pageFields (p : Nat) : List FieldSpec :=
  match pageRange p with
  | some r => r.2.2
  | none => []

/-- The field covers the word at offset `o` of its page. -/
def FieldSpec.covers (f : FieldSpec) (o : Nat) : Bool :=
  decide (f.off ≤ o) && decide ((o - f.off) % f.stride = 0) && decide ((o - f.off) / f.stride < f.count)

/-- The fields of the word at offset `o`, header and block. -/
def wordFields (p o : Nat) : List FieldSpec := (HDR.fields ++ pageFields p).filter (fun f => f.covers o)

/-- Active copies stand at offset + 0x800 (R424). -/
def shadowOff (p o : Nat) : Nat :=
  if 0x800 ≤ o && (wordFields p (o - 0x800)).any (fun f => decide (f.acc = .rws)) then o - 0x800 else o

/-- The reset curve points of R103 and the per-index and per-page resets. -/
def specialReset (p o : Nat) : Option Nat :=
  if p = pFRT then
    (if 0x80 ≤ o && o < 0xC0 then some ([0, 0x00FA0000].getD ((o - 0x80) / 4) 0x05DC3666)
     else if 0xC0 ≤ o && o < 0x100 then
       some ([0x00005333, 0x00645333, 0x00644CCD, 0x03E84CCD].getD ((o - 0xC0) / 4) 0x03E8499A)
     else none)
  else if p = pACQ then (if 0x80 ≤ o && o < 0xC0 then some ((o - 0x80) / 4) else none)
  else if pENG 0 ≤ p && p < pENG 12 && (o = 0x50) then
    (let b := 4 * (p - pENG 0) + 0x80
     some (b + (b + 1) * 256 + (b + 2) * 65536 + (b + 3) * 16777216))
  else none

/-- The value of a register at reset, by byte address: what an unlisted register reads as. -/
def regReset (a : Nat) : Word :=
  let p := a / 0x1000
  let o := shadowOff p (a % 0x1000)
  match specialReset p o with
  | some v => BitVec.ofNat 32 v
  | none =>
    if o = 0 then
      (match pageRange p with
       | some r => BitVec.ofNat 32 (r.1 * 65536 + (p - r.1) * 256 + p)
       | none => 0)
    else BitVec.ofNat 32 ((wordFields p o).foldl (fun n f => n + f.reset * 2 ^ f.lo) 0)

/-- Bits hi..lo of a word. -/
def bitsGet (w : Word) (hi lo : Nat) : Nat := w.toNat / 2 ^ lo % 2 ^ (hi + 1 - lo)

/-- The word with bits hi..lo replaced. -/
def bitsPut (w : Word) (hi lo v : Nat) : Word :=
  BitVec.ofNat 32 (w.toNat - bitsGet w hi lo * 2 ^ lo + (v % 2 ^ (hi + 1 - lo)) * 2 ^ lo)

/-- The largest value a field holds. -/
def FieldSpec.max (f : FieldSpec) : Nat := 2 ^ (f.hi + 1 - f.lo) - 1

/-- The mask of a field's bits in its word. -/
def FieldSpec.mask (f : FieldSpec) : Nat := f.max * 2 ^ f.lo

end Sys2Proof.Machine
end

