-- ==== Sys2Proof/Machine/StateAcq.lean ====
section
/-!
DEFINITION. The state of acquisition and triggering (10_capture.md). Instants are taps since E.
-/
namespace Sys2Proof.Machine

/-- ACQ.STATUS.STATE (R307). -/
inductive AcqSt where
  | idle | fill | ready | post | holdoff | full | stream
  deriving DecidableEq, Repr

def AcqSt.code : AcqSt → Nat
  | .idle => 0 | .fill => 1 | .ready => 2 | .post => 3 | .holdoff => 4 | .full => 5 | .stream => 6

/-- A trigger that has registered (R292): its SOURCE code of R310, its record trigger instant, the SUB of a level crossing, and
the sender of a bus frame. -/
structure Trigger where
  source : Nat
  instant : Nat
  sub : Option Nat
  sender : Nat
  deriving DecidableEq, Repr

/-- A stored sample: its number since FILL, its capture instant and index (R284). -/
structure Stored where
  no : Nat
  instant : Nat
  index : Nat
  deriving DecidableEq, Repr

/-- The placement of a record (R286, R294). -/
structure Placed where
  trig : Trigger
  sub : Nat
  late : Bool
  forced : Bool
  cause : Nat
  time : Option (Word × Word)
  addr : Nat
  deriving DecidableEq, Repr

/-- A frame of the trigger bus between its start and its end (R301). -/
structure TbFrame where
  addr : BitVec 20
  type : BitVec 4
  crc : BitVec 8
  lo : Word
  hi : Word
  deriving DecidableEq, Repr

structure Acq where
  st : AcqSt
  seg : Nat
  k : Nat
  /-- capture instants before k may increment again (R298) -/
  kWait : Nat
  /-- rate entries: number of the stored sample from which k applies, newest first -/
  rates : List (Nat × Nat)
  rateLimit : Bool
  /-- the stored samples the record may still hold, newest first, and how many were stored since FILL -/
  ring : List Stored
  total : Nat
  /-- stored samples after the record trigger instant -/
  post : Nat
  gaps : List Nat
  gapCnt : Nat
  capAt : Option Nat
  /-- level detection: the last sample if valid, and whether each direction is armed (R295) -/
  lvlPrev : Option Int
  riseArmed : Bool
  fallArmed : Bool
  /-- triggers registered since the last capture instant -/
  cands : List Trigger
  /-- per event bit of R311, what was last seen -/
  seen : List Nat
  placed : Option Placed
  /-- a trigger of this unit that waits in READY for the wire edge (R294) -/
  waiting : Option Trigger
  /-- since when it waits -/
  waitAt : Nat
  readyAt : Nat
  forceDue : Bool
  /-- start of hold-off, and the triggers ignored in it (R290) -/
  holdAt : Nat
  holdCnt : Nat
  /-- full segments that are not released: index, first address, size (R304) -/
  held : List (Nat × Nat × Nat)
  /-- the unit drives the trigger wire low since this instant (R79, R300) -/
  wireDrive : Option Nat
  /-- the record trigger instant of the bus frame that waits for an idle bus (R301) -/
  tbPend : Option Nat
  /-- the last frame sent -/
  tbSent : Option TbFrame
  /-- the end of the frame that occupies the trigger bus, as far as this unit has taken part in it (R309) -/
  tbBusy : Nat
  /-- streaming (R305): unread samples oldest first as (index, k), position of the oldest, a drop since the last prefix -/
  unread : List (Nat × Nat)
  readPos : Nat
  drop : Bool
  blockNo : Nat
  /-- the instant from which STREAM_MBPS allows the next block -/
  nextBlock : Nat
  /-- the last block pushed upstream, with its two prefix words -/
  block : List Word
  /-- recent final samples of each input, newest first (R284) -/
  finals : Vector (List (Nat × Word)) 64
  deriving DecidableEq, Repr

def Acq.reset : Acq :=
  { st := .idle, seg := 0, k := 0, kWait := 0, rates := [], rateLimit := false, ring := [], total := 0, post := 0,
    gaps := [], gapCnt := 0, capAt := none, lvlPrev := none, riseArmed := true, fallArmed := true, cands := [],
    seen := List.replicate 8 0, placed := none, waiting := none, waitAt := 0, readyAt := 0, forceDue := false, holdAt := 0,
    holdCnt := 0, held := [], wireDrive := none, tbPend := none, tbSent := none, tbBusy := 0, unread := [], readPos := 0,
    drop := false, blockNo := 0, nextBlock := 0, block := [], finals := Vector.replicate 64 [] }

end Sys2Proof.Machine
end

