-- ==== Sys2Proof/Machine/StateBoot.lean ====
section
/-!
DEFINITION. The state of clocks, power, reset and boot (15_timebase_clocks.md, 16_power_reset_boot.md). Instants are taps
since E.
-/
namespace Sys2Proof.Machine

/-- The kinds of core reset (R448), with the codes of LAST_KIND. -/
inductive ResetKind where
  | por | bor | pin | chain | wdog
  deriving DecidableEq, Repr

def ResetKind.code : ResetKind → Nat
  | .por => 0 | .bor => 1 | .pin => 2 | .chain => 3 | .wdog => 4

/-- The PLL (R434 to R436): the state of PLL_STATE (0 off, 1 searching, 2 locking, 3 locked), the band entry tried or in use,
when a failed search ended, whether the first window after the loop closed is over, consecutive good windows, when lock was
gained. -/
structure Pll where
  st : Nat
  band : Nat
  failedAt : Option Nat
  opened : Bool
  good : Nat
  lockedAt : Option Nat
  deriving DecidableEq, Repr

/-- A timebase-class output (R440): the instant from which it runs, and the instant at which it stopped. -/
structure TbOut where
  startAt : Option Nat
  stopAt : Option Nat
  deriving DecidableEq, Repr

/-- Clocks, power, reset, boot. -/
structure Boot where
  /-- IDLE of R454 -/
  idle : Bool
  /-- the timebase runs in bypass, and whether on the internal oscillator (R437) -/
  bypass : Bool
  bypassOsc : Bool
  /-- CLK.STATUS.HOLD (R439) -/
  hold : Bool
  /-- bypass was entered with BYPASS_ACTION = 0 while the law ran: the next triad tick starts the shutdown (R439) -/
  stopDue : Bool
  /-- that shutdown ends with the legs held (R439) -/
  holdDue : Bool
  muslin : Bool
  /-- Gauze from the write to the exit (R456 to R458): core power may be gated, gate commands are off -/
  gauze : Bool
  pll : Pll
  refOk : Bool
  /-- a declared entry to bypass that has not switched yet; true: with the action of R439 -/
  bypassDue : Option Bool
  bypassAt : Nat
  tb : Vector TbOut 8
  /-- the core reset in progress, when it was asserted, when its release time began -/
  inReset : Option ResetKind
  resetAt : Nat
  returnAt : Option Nat
  /-- the release of the last core reset is at hand: RESET_RELEASE has not been taken since State.reset -/
  romDue : Bool
  /-- supplies below their thresholds: bits of SUPPLY_OK, bit 4 VDD_SAFE -/
  low : Nat
  /-- last service of the watchdog, and when a halt or Gauze stopped it (R451) -/
  wdogAt : Nat
  wdogStop : Option Nat
  /-- MP has jumped to firmware; the source the present attempt has loaded -/
  firmware : Bool
  /-- the address at which MP entered firmware (R462, R465) -/
  entry : Option Word
  loaded : Option Nat
  /-- the ROM waits for a download since (R460) -/
  dlWait : Option Nat
  /-- the result of the check in progress, and the slot being programmed (R469) -/
  dlCheck : Option Nat
  dlProg : Option Nat
  /-- the burn in progress (R468) -/
  burn : Option Nat
  /-- the two flash slots -/
  slotA : List Byte
  slotB : List Byte
  gauzeAt : Nat
  /-- a wake event that waits for the end of the entry (R475) -/
  wake : Option Nat
  deriving DecidableEq, Repr

def Pll.reset : Pll := ⟨0, 0, none, false, 0, none⟩
def TbOut.reset : TbOut := ⟨none, none⟩

def Boot.reset : Boot :=
  { idle := false, bypass := true, bypassOsc := true, hold := false, stopDue := false, holdDue := false, muslin := false, gauze := false,
    pll := .reset, refOk := false, bypassDue := none, bypassAt := 0, tb := Vector.replicate 8 .reset, inReset := none,
    resetAt := 0, returnAt := none, romDue := true, low := 0, wdogAt := 0, wdogStop := none, firmware := false, entry := none,
    loaded := none, dlWait := none, dlCheck := none, dlProg := none, burn := none, slotA := [],
    slotB := [], gauzeAt := 0, wake := none }

end Sys2Proof.Machine
end

