-- ==== Sys2Proof/Machine/StateBus.lean ====
section
/-!
DEFINITION. The state of the peer bus: network time, the controller, its buffers (13_peer_bus.md). Instants are taps since E.
-/
namespace Sys2Proof.Machine

/-- Network time (R390 to R394): its value at `anchor` in units of 10^-9 tap, the rate in parts per 10^9, and the part of the
last error that is applied linearly over `slewLen` taps from the anchor on. -/
structure NetTime where
  valid : Bool
  anchor : Nat
  base : Int
  rate : Int
  slew : Int
  slewLen : Nat
  locked : Bool
  holdover : Bool
  /-- consecutive accepted REFs within LOCK_ERR -/
  good : Nat
  /-- the master has reached its first REF boundary -/
  sending : Bool
  /-- consecutive cycles without an accepted REF, and whether one was accepted in the present cycle -/
  missed : Nat
  seen : Bool
  /-- offsets implied by the consecutive REFs rejected for STEP_THR, newest first -/
  rejects : List Int
  /-- the instant of the write of MASTER -/
  masterAt : Option Nat
  /-- NT_SET waits for the next cycle boundary -/
  setPend : Bool
  deriving DecidableEq, Repr

def NetTime.reset : NetTime :=
  { valid := false, anchor := 0, base := 0, rate := 0, slew := 0, slewLen := 0, locked := false, holdover := false,
    good := 0, sending := false, missed := 0, seen := false, rejects := [], masterAt := none, setPend := false }

/-- A frame of the peer bus (R362): type, identifier, sequence/slot, data, stamp of SOF. -/
structure BusFrame where
  typ : Nat
  ident : Nat
  seq : Nat
  data : List Byte
  sof : Nat
  deriving DecidableEq, Repr

/-- A transmission on the bus: its buffer (none: REF), whether it is exclusive, its header CRC (R363), and the end of its last
EOF bit (R367). -/
structure Sending where
  buf : Option Nat
  excl : Bool
  frame : BusFrame
  crc : Nat
  fin : Nat
  deriving DecidableEq, Repr

/-- A received frame on its way into a receive half (R371, R376): its buffer, and how many of its block writes are under way. -/
structure RxWrite where
  buf : Nat
  left : Nat
  frame : BusFrame
  deriving DecidableEq, Repr

/-- A transmit buffer beside its state in TX_STATE and its descriptor: the instant of its request, TX_ABORT while ACTIVE, a
transmission completed since the request, the count of R364. -/
structure TxBuf where
  reqAt : Nat
  abort : Bool
  done : Bool
  seq : Nat
  deriving DecidableEq, Repr

/-- The latched set of the schedule matrix (R389): COL_START1 to 23, entries (c * 24 + j, word), the instant of the latch. -/
structure SchedLatch where
  cols : List Nat
  entries : List (Nat × Word)
  latchedAt : Nat
  deriving DecidableEq, Repr

/-- The peer bus: network time, transmit buffers, the transmission in progress, shadow and active matrix entries (sorted, no
zero entry), the latched set, BUS_Q, from when recessive bits count (R361, R381), what a read of NT_LO captured, received
frames under way to Canvas, those that stand in a shadow half, and the dominant stretches that the controller last drove
beside its own frames (R367, R368: start and length in taps). -/
structure Bus where
  nt : NetTime
  tx : Vector TxBuf 64
  cur : Option Sending
  shadow : List (Nat × Word)
  active : List (Nat × Word)
  latch : Option SchedLatch
  queue : List BusFrame
  joinAt : Nat
  ntHi : Word
  rxWrites : List RxWrite
  rxShadow : List (Nat × BusFrame)
  drove : List (Nat × Nat)
  deriving DecidableEq, Repr

def TxBuf.reset : TxBuf := ⟨0, false, false, 0⟩

def Bus.reset : Bus :=
  { nt := .reset, tx := Vector.replicate 64 .reset, cur := none, shadow := [], active := [], latch := none, queue := [],
    joinAt := 0, ntHi := 0, rxWrites := [], rxShadow := [], drove := [] }

/-- Network time at a timebase instant, in units of 10^-9 tap. -/
def NetTime.nanoI (t : Int) (n : NetTime) : Int :=
  let dt : Int := t - n.anchor
  n.base + dt * 1000000000 + dt * n.rate + (if n.slewLen = 0 then n.slew else n.slew * max 0 (min dt n.slewLen) / n.slewLen)
def NetTime.nano (t : Nat) (n : NetTime) : Int := n.nanoI t

/-- Network time at a timebase instant, rounded to the nearest tap (R390). -/
def NetTime.tapsI (t : Nat) (n : NetTime) : Int := (n.nano t + 500000000) / 1000000000
def NetTime.taps (t : Nat) (n : NetTime) : Nat := (n.tapsI t).toNat

/-- The two words of a network time in taps (R390), rounded down to a tick: seconds and ticks within the second. -/
def ntWords (taps : Nat) : Word × Word :=
  (BitVec.ofNat 32 (taps / 32 / 400000000), BitVec.ofNat 32 (taps / 32 % 400000000))

/-- Taps of a network time in two words. -/
def ntOfWords (lo hi : Word) : Nat := (lo.toNat * 400000000 + hi.toNat % 2 ^ 29) * 32

end Sys2Proof.Machine
end

