-- ==== Sys2Proof/Machine/StateChain.lean ====
section
/-!
DEFINITION. The state of the chain (14_chain_and_pages.md). Instants are taps since E.
-/
namespace Sys2Proof.Machine

/-- A frame that has been sent and not acknowledged: its LSEQ and how often it has been retransmitted in a row (R405). -/
structure Unacked where
  seq : Nat
  frame : ChainFrame
  retx : Nat
  deriving DecidableEq, Repr

/-- One chain port (R402 to R410): link state (0 down, 1 training, 2 up, 3 closed), the neighbour asked for the low rate, next
LSEQ to send and to expect, credits held, unacknowledged frames, receive buffers, frames waiting to be sent, the last ordered
set sent (character code, sequence), an acknowledgement withheld with its credit, when the port last sent, and when it last
received a frame or came up. -/
structure ChainPort where
  link : Nat
  peerLow : Bool
  txSeq : Nat
  rxSeq : Nat
  credit : Nat
  unacked : List Unacked
  rxBufs : List ChainFrame
  out : List ChainFrame
  lastSet : Nat × Nat
  ackHeld : Option Nat
  lastTx : Nat
  lastRx : Nat
  /-- the last frame sent was forwarded: a frame of this unit is next within its class (R410) -/
  fwd : Bool
  deriving DecidableEq, Repr

/-- The chain: the two ports, CHAIN_Q, the enumeration this unit originated (epoch sent, second pass), whether the
downstream link was up and broke, the interrupt request of R425 (its OR, and when EVENT IRQ was last sent), the last SPI
response. -/
structure Chain where
  up : ChainPort
  dn : ChainPort
  queue : List ChainFrame
  enum : Option (Nat × Bool)
  broken : Bool
  overflow : Bool
  irqOr : Bool
  irqSent : Option Nat
  mpIrq : Bool
  spi : Option ChainFrame
  deriving DecidableEq, Repr

def ChainPort.reset : ChainPort :=
  { link := 0, peerLow := false, txSeq := 0, rxSeq := 0, credit := 0, unacked := [], rxBufs := [], out := [],
    lastSet := (0, 0), ackHeld := none, lastTx := 0, lastRx := 0, fwd := false }

def Chain.reset : Chain :=
  { up := .reset, dn := .reset, queue := [], enum := none, broken := false, overflow := false, irqOr := false,
    irqSent := none, mpIrq := false, spi := none }

end Sys2Proof.Machine
end

