-- ==== Sys2Proof/Machine/StateTriad.lean ====
section
/-!
DEFINITION. The state of the forming law, the profile generator, the transit sequencer, ride-through and the voter
(02_forming_law.md, 03_transients_and_faults.md, 04_reference_triad.md).
-/
namespace Sys2Proof.Machine

/-- The sequencer states of R72. -/
inductive TrState where
  | idle | deadbus | closeOut | armed | energise | island | sync | closeBrk | grid | rideThrough | recover
  | stopping | openPcc
  deriving DecidableEq, Repr

/-- The command that is carried through the states of R72: which start, or which synchronisation. -/
inductive Mission where
  | none | black | armStart | attach | reconnect
  deriving DecidableEq, Repr

/-- How an armed unit waits for its start (R78, R79). -/
inductive StartWait where
  | netTime | wire | sequential
  deriving DecidableEq, Repr

/-- A pair of components: alpha and beta, or d and q. -/
structure V2 where
  x : Word
  y : Word
  deriving DecidableEq, Repr

/-- The zero vector. -/
def V2.zero : V2 := ⟨0, 0⟩

/-- One profile channel (R62). -/
structure Chan where
  y : Word
  v : Word
  a : Word
  deriving DecidableEq, Repr

/-- One entry of the sequence ring (R31, R105). -/
structure RingEntry where
  v : V2
  i : V2
  far : V2
  deriving DecidableEq, Repr

/-- An input's last valid sample and the count of held samples since (R44); `none` before the first valid sample. -/
structure HeldInput where
  last : Option Int
  held : Nat
  deriving DecidableEq, Repr

/-- The sixteen words of the reference vector (R46). -/
structure RefVector where
  stamp : Word
  sampleNo : Word
  theta : Word
  omega : Word
  e : V2
  iP : V2
  iN : V2
  i0 : Word
  rv : Word
  xv : Word
  ilim : Word
  limit : Word
  paramSet : Word
  deriving DecidableEq, Repr

/-- The record that is all zeros (R119). -/
def RefVector.zero : RefVector := ⟨0, 0, 0, 0, .zero, .zero, .zero, 0, 0, 0, 0, 0, 0⟩

/-- What one triad sample reports besides its state: events for the four pages, causes, the leg and wire actions. They take
effect from the voted outcome (R60). -/
structure SampleOut where
  gfmIrq : Nat
  prfIrq : Nat
  trIrq : Nat
  frtIrq : Nat
  gfmFault : Option (Nat × Nat)
  trFault : Option (Nat × Nat)
  cause : Nat
  legsOff : Bool
  wireDrive : Bool
  started : Bool
  stopped : Bool
  flags : FFlags
  deriving DecidableEq, Repr

/-- Nothing reported. -/
def SampleOut.none : SampleOut := ⟨0, 0, 0, 0, .none, .none, 0, false, false, false, false, FFlags.none⟩

/-- The far-side measurement (R80): on which side, since when, its ring and its filtered values. -/
structure FarSide where
  on : Bool
  grid : Bool
  since : Nat
  count : Nat
  theta : Word
  mag : Word
  omega : Word
  deriving DecidableEq, Repr

def FarSide.off : FarSide := ⟨false, false, 0, 0, 0, 0, 0⟩

/-- The sequencer (R72 to R86). Instants are taps since E. -/
structure SeqState where
  st : TrState
  since : Nat
  mission : Mission
  wait : StartWait
  /-- network time read at ARM_START, in ticks (R78, R390) -/
  tStart : Nat
  theta0 : Word
  presented : Nat
  wireDriven : Bool
  shutCause : Nat
  /-- breaker-pair commands 0 to 7 of record word 28 -/
  brk : Nat
  outClosed : Bool
  pccClosed : Bool
  /-- a breaker command that waits for its feedback: true for closing, the instant it was given -/
  brkWait : Option (Bool × Nat)
  busDead : Bool
  syncOk : Bool
  dwell : Nat
  cycleOk : Bool
  obsTheta : Word
  obsDf : Word
  obsDv : Word
  /-- decided in the last sample, acts at step 2(a): a trip (true: legs off at once) or a shutdown, with its cause -/
  pendStop : Option (Bool × Nat)
  deriving DecidableEq, Repr

/-- Ride-through (R89 to R95). -/
structure RtState where
  delta : Word
  satRun : Nat
  exitRun : Nat
  pendEntry : Bool
  pendExit : Bool
  /-- instant of the entry that t counts from, and of the last exit -/
  entryAt : Option Nat
  exitAt : Option Nat
  /-- instant of the last entry (R311) -/
  lastEntry : Option Nat
  elapsedMs : Nat
  entries : Nat
  deriving DecidableEq, Repr

/-- Everything one triad sample carries to the next (R60, R105). -/
structure LawState where
  seq : SeqState
  rt : RtState
  far : FarSide
  chP : Chan
  chQ : Chan
  chW : Chan
  chV : Chan
  theta : Word
  omega : Word
  omegaW : Word
  pf : Word
  qf : Word
  vStar : Word
  iF : V2
  xP : V2
  xN : V2
  x0 : Word
  ilim : Option Word
  inputs : List HeldInput
  holdNow : Bool
  nonFinite : Nat
  ring : List RingEntry
  farRing : List V2
  cycleEnd : Bool
  feP : Nat
  feV : Nat
  fePrun : Bool
  feVrun : Bool
  /-- channel P, channel V stands at rest on the target of its last step -/
  arrP : Bool
  arrV : Bool
  /-- the target that channel V moved to in its last step (R63, R66) -/
  tgtV : Word
  vec : RefVector
  out : SampleOut
  deriving DecidableEq, Repr

/-- The states in which the law runs (R72). -/
def TrState.runs : TrState → Bool
  | .idle | .deadbus | .closeOut | .armed => false
  | .energise | .island | .sync | .closeBrk | .grid | .rideThrough | .recover | .stopping | .openPcc => true

/-- The codes of R72. -/
def TrState.code : TrState → Nat
  | .idle => 0 | .deadbus => 1 | .closeOut => 2 | .armed => 3 | .energise => 4 | .island => 5 | .sync => 6
  | .closeBrk => 7 | .grid => 8 | .rideThrough => 9 | .recover => 10 | .stopping => 11 | .openPcc => 12

def SeqState.reset : SeqState :=
  { st := .idle, since := 0, mission := .none, wait := .netTime, tStart := 0, theta0 := 0, presented := 0,
    wireDriven := false, shutCause := 0, brk := 0, outClosed := false, pccClosed := false,
    brkWait := none, busDead := false, syncOk := false, dwell := 0, cycleOk := false, obsTheta := 0, obsDf := 0,
    obsDv := 0, pendStop := none }

def RtState.reset : RtState :=
  { delta := 0, satRun := 0, exitRun := 0, pendEntry := false, pendExit := false, entryAt := none, exitAt := none, lastEntry := none,
    elapsedMs := 0, entries := 0 }

def Chan.reset : Chan := ⟨0, 0, 0⟩

def LawState.reset : LawState :=
  { seq := .reset, rt := .reset, far := .off, chP := .reset, chQ := .reset, chW := .reset, chV := .reset,
    theta := 0, omega := 0, omegaW := 0, pf := 0, qf := 0, vStar := 0, iF := .zero,
    xP := .zero, xN := .zero, x0 := 0, ilim := none, inputs := [], holdNow := false, nonFinite := 0, ring := [],
    farRing := [], cycleEnd := false, feP := 0, feV := 0, fePrun := false, feVrun := false, arrP := false, arrV := false, tgtV := 0, vec := .zero,
    out := .none }

/-- A position's state (R125 POS_STATE). -/
inductive PosState where
  | counted | suspended | loading | vacant
  deriving DecidableEq, Repr

/-- One triad position: holder's engine code (0xF vacant), lease expiry sample, and while loading the sample of the grant
and whether the load has completed (R108 to R111). -/
structure Position where
  holder : Fin 16
  st : PosState
  expiry : Nat
  grantAt : Nat
  loaded : Bool
  /-- the lease is not renewed because failback is due (R117) -/
  withheld : Bool
  /-- the vacancy or the load is a failback (R117) -/
  back : Bool
  /-- the holder's own state (the member state block of R105) -/
  law : LawState
  deriving DecidableEq, Repr

def Position.reset : Position := ⟨15, .vacant, 0, 0, false, false, false, .reset⟩

/-- Engine health beyond the registers of R126: the role. -/
inductive Role where
  | legEngine | counted | suspended | loading | coldSpare | recovering | standby
  deriving DecidableEq, Repr

/-- The codes of R126. -/
def Role.code : Role → Nat
  | .legEngine => 0 | .counted => 1 | .suspended => 2 | .loading => 3 | .coldSpare => 4 | .recovering => 5
  | .standby => 6

/-- The RWL registers of the GFM page as they were taken when the sequencer left IDLE, and the bases derived then (R27, R52). -/
structure GfmLive where
  cfg : Word
  period : Nat
  srcV : Word
  srcI : Word
  vScale : Word
  iScale : Word
  /-- S_b, V_b, I_b, Z_b -/
  sb : Word
  vb : Word
  ib : Word
  zb : Word
  deriving DecidableEq, Repr

/-- Derive the bases of R27 in binary32, in the order written (R494). -/
def GfmLive.of (cfg baseS baseVll : Word) (period : Nat) (srcV srcI vScale iScale : Word) : GfmLive :=
  let two : FV := .of 0x40000000
  let three : FV := .of 0x40400000
  let vb := ((FV.of baseVll).mul two.sqrt).div three.sqrt
  let ib := (two.mul (.of baseS)).div (three.mul vb)
  ⟨cfg, period, srcV, srcI, vScale, iScale, baseS, vb.w, ib.w, (vb.div ib).w⟩

/-- Before the sequencer has left IDLE for the first time: the reset values of R55 (log entry 20). -/
def GfmLive.reset : GfmLive := .of 0x10 0x49742400 0x43C80000 8000 0x00020100 0x00050403 0 0

/-- FOUR_WIRE (R57). -/
def GfmLive.fourWire (g : GfmLive) : Bool := g.cfg.getLsbD 3

/-- One of the two segment roles (R121, R122): 0b00 not holder, 0b01 holder, 0b10 claiming, 0b11 relinquishing. -/
structure SegRole where
  st : Nat
  silent : Nat
  lease : Nat
  eligibleRun : Nat
  holderAddr : Nat
  holderRank : Option Nat
  deriving DecidableEq, Repr

def SegRole.reset : SegRole := ⟨0, 0, 0, 0, 0, none⟩

/-- The triad and the voter. `law` is the outcome in force: the standby computation while the law does not run, the voted
state (the active checkpoint) while it runs. -/
structure Triad where
  law : LawState
  /-- the GFM settings and bases in force (R27, R52) -/
  live : GfmLive
  /-- breaker-pair commands that the pins follow: those of the voted word 28 (R104) -/
  brkCmd : Nat
  /-- SAMPLE_NO without its wrap: words and registers show it modulo 2^32 -/
  sampleNo : Nat
  paramSet : Nat
  pos : Vector Position 3
  ckpt : LawState
  ckptSample : Nat
  ckptB : Bool
  bufB : Bool
  hold : Bool
  holdCnt : Nat
  mode : Nat
  lastVoted : Option Nat
  /-- the instant of the HOLD_SHUTDOWN of R115 -/
  holdShut : Option Nat
  /-- the voted record held in that shutdown -/
  heldRec : List Word
  sampleOpen : Bool
  /-- instant of the last triad tick -/
  tickAt : Option Nat
  cmd : Option Nat
  /-- the trigger-wire edge since ARM_START was presented (R79) -/
  wireEdge : Option Nat
  tmRole : SegRole
  pcRole : SegRole
  testBusy : Bool
  testPass : Bool
  /-- sample instant of the last outvoted record (R311) -/
  outvotedAt : Nat
  deriving DecidableEq, Repr

def Triad.reset : Triad :=
  { law := .reset, live := .reset, brkCmd := 0, sampleNo := 0, paramSet := 0, pos := Vector.replicate 3 .reset, ckpt := .reset, ckptSample := 0,
    ckptB := false, bufB := false, hold := false, holdCnt := 0, mode := 0, lastVoted := none, holdShut := none,
    heldRec := [], sampleOpen := false, tickAt := none, cmd := none, wireEdge := none, tmRole := .reset, pcRole := .reset, testBusy := false,
    testPass := false, outvotedAt := 0 }

end Sys2Proof.Machine
end

