-- ==== Sys2Proof/Machine/StateEng.lean ====
section
/-!
DEFINITION. The state of the control and triad engines and of MP's housekeeping (05_engines.md).
-/
namespace Sys2Proof.Machine

/-- STATUS.STATE of R161. -/
inductive EngSt where
  | off | wait | run | restart | fault | halted | role
  deriving DecidableEq, Repr

def EngSt.code : EngSt → Nat
  | .off => 0 | .wait => 1 | .run => 2 | .restart => 3 | .fault => 4 | .halted => 5 | .role => 6

/-- Where the result of a Canvas read goes: a general register, or data memory from an address on (R136). -/
inductive ReadDest where
  | word (reg : Fin 32)
  | block (data : Nat)
  deriving DecidableEq, Repr

/-- A Canvas read whose result has not been used yet (R136): its destination, its length, the order of its transaction, and
its bytes once they have arrived. -/
structure PendRead where
  dest : ReadDest
  len : Nat
  order : Nat
  bytes : Option (List (BitVec 8))
  deriving DecidableEq, Repr

/-- A staged leg write of a sample (R176): leg, port (0 DUTY_FRAC, 1 DUTY, 2 PERIOD, 3 PHASE), value. -/
structure StagedWrite where
  leg : Nat
  port : Nat
  value : Word
  deriving DecidableEq, Repr

/-- The carried state of the vendor leg program, which lives in the state window (R145): the accepted parameter set, the
integrators, the held inputs of indices 0 to 63, the counts of non-finite duties. -/
structure VendorState where
  params : Option (List Word)
  reject : Bool
  x : List Word
  held : List HeldInput
  nonFinite : List Nat
  deriving DecidableEq, Repr

/-- The vendor state that the init section loads (R145, R151). -/
def VendorState.init : VendorState := ⟨none, false, List.replicate 8 0, List.replicate 64 ⟨none, 0⟩, List.replicate 8 0⟩

/-- One engine of R127 to R154. -/
structure Engine where
  st : EngSt
  /-- STATE before a debug halt -/
  stHeld : EngSt
  regs : Vector Word 32
  pc : Nat
  stack : List Nat
  pend : List PendRead
  /-- word offsets of the state window written in this sample -/
  written : List Nat
  staged : List StagedWrite
  sampleNo : Nat
  first : Bool
  missedLast : Bool
  /-- tick of the sample in progress -/
  tickAt : Option Nat
  /-- arrival of the completion signal of R130 -/
  doneAt : Option Nat
  /-- DONE waits for a write that is never acknowledged (R130, R269) -/
  unacked : Bool
  inB : Bool
  outB : Bool
  mboxLatched : Bool
  legsOff : Bool
  resumeDue : Bool
  /-- the legs switch again after the next complete sample (R134, R151) -/
  releaseDue : Bool
  vendor : VendorState
  vendorWork : VendorState
  role : Role
  /-- the instant at which a restart began -/
  restartAt : Option Nat
  deriving DecidableEq, Repr

/-- An engine at reset. -/
def Engine.reset (role : Role) (st : EngSt) : Engine :=
  { st := st, stHeld := st, regs := Vector.replicate 32 0, pc := 0, stack := [], pend := [], written := [],
    staged := [], sampleNo := 0, first := false, missedLast := false, tickAt := none, doneAt := none,
    unacked := false, inB := false, outB := false, mboxLatched := false, legsOff := false, resumeDue := false, releaseDue := false,
    vendor := .init, vendorWork := .init, role := role, restartAt := none }

/-- MP's housekeeping and overload (R159, R275). -/
structure MpState where
  hkBusy : Bool
  /-- the last housekeeping tick -/
  hkAt : Nat
  cleanRun : Nat
  overload : Bool
  /-- consecutive overruns since the last step of the shedding level -/
  shedRun : Nat
  shed : Nat
  deriving DecidableEq, Repr

def MpState.reset : MpState := ⟨false, 0, 0, false, 0, 0⟩

end Sys2Proof.Machine
end

