-- ==== Sys2Proof/Machine/StateFelt.lean ====
section
/-!
DEFINITION. The state of Felt: tags, landing registers, arbiters (09_felt_fabric.md). Instants are taps since E.
-/
namespace Sys2Proof.Machine

/-- A transaction (R255, R256, R259): `data` for a write, none for a read; the order of issue at its port and of arrival at its
target; the handshakes completed; the retry of R269; the landing register; the bytes its port has taken; when the handshake it
has in progress at a target without an arbiter began (R257, R267). -/
structure Tx where
  data : Option (List Byte)
  addr : Nat
  len : Nat
  issuedAt : Nat
  order : Nat
  arrival : Nat
  progress : Nat
  retried : Bool
  landing : Option (List Byte)
  arrived : List Byte
  began : Option Nat
  deriving DecidableEq, Repr

/-- A request that waits for a tag of its port (R255). -/
structure Waiting where
  port : Nat
  data : Option (List Byte)
  addr : Nat
  len : Nat
  deriving DecidableEq, Repr

/-- The arbiter of one bank (R260, R261): the tag that holds the grant, the units it has used and its BURST, when its present
handshake or idle time began, the wait count of each port's request, the ports whose present wait STARVE has counted, the
order of the transaction last preempted. -/
structure Arbiter where
  owner : Option Nat
  units : Nat
  burst : Nat
  since : Nat
  waits : List Nat
  starved : List Nat
  preempted : Option Nat
  deriving DecidableEq, Repr

/-- Felt: 48 tags, 16 arbiters, the number of transactions issued, what each tag's last read delivered, the ports whose
retried transaction failed (R269), and the requests that wait for a tag, oldest first. -/
structure Felt where
  tags : Vector (Option Tx) 48
  arbs : Vector Arbiter 16
  issued : Nat
  got : Vector (List Byte) 48
  failed : List Nat
  queue : List Waiting
  deriving DecidableEq, Repr

def Arbiter.reset : Arbiter := ⟨none, 0, 0, 0, List.replicate 24 0, [], none⟩
def Felt.reset : Felt := ⟨Vector.replicate 48 none, Vector.replicate 16 .reset, 0, Vector.replicate 48 [], [], []⟩

end Sys2Proof.Machine
end

