-- ==== Sys2Proof/Machine/StateLeg.lean ====
section
/-!
DEFINITION. The state of the leg modulators, their protection, the groups, the device latch, the reverse-polarity switch and
the breaker pairs (06_modulation.md, 07_leg_protection.md). Instants are taps since E.
-/
namespace Sys2Proof.Machine

/-- A latched leg set (R174). -/
structure LegSet where
  period : Word
  duty : Word
  phase : Word
  at' : Nat
  deriving DecidableEq, Repr

/-- A refresh sequence (R187): before its low-side pulse, in it with its end, after it. -/
inductive RefreshStage where
  | before
  | pulse (fin : Nat)
  | after
  deriving DecidableEq, Repr

/-- A scheduled turn-on (R181): high side or low side, its instant, and whether it already waits for the interlock. -/
structure TurnOn where
  high : Bool
  due : Nat
  waiting : Bool
  deriving DecidableEq, Repr

/-- One leg modulator with its protection. -/
structure Leg where
  latched : Option LegSet
  /-- a PERIOD or PHASE write that no latch has taken up since the last boundary, and one since the boundary before (R175) -/
  staleNew : Bool
  staleOld : Bool
  pairStale : Bool
  /-- period and phase in force, taps -/
  per : Nat
  phi : Nat
  start : Nat
  len : Nat
  duty : Nat
  peakDone : Bool
  s : Bool
  edges : List (Nat × Bool)
  invert : Bool
  invertAt : Nat
  hs : Bool
  ls : Bool
  turnOn : Option TurnOn
  dropping : Bool
  live : Bool
  heldBy : Nat
  freeSince : Option Nat
  hsSince : Option Nat
  refresh : Option RefreshStage
  hsAcc : Nat
  hsMark : Nat
  gsHs : Bool
  gsLs : Bool
  scHiPos : Bool
  scHiNeg : Bool
  scLoPos : Bool
  scLoNeg : Bool
  /-- blanking windows, oldest first: opening and end (R207) -/
  blanks : List (Nat × Nat)
  cbcPeriod : Bool
  hsOffBy : Option Nat
  lsOffBy : Option Nat
  hsOnBy : Option Nat
  lsOnBy : Option Nat
  /-- the engine that holds it off (R133, R151, R153, R154) -/
  engOff : Option Nat
  deriving DecidableEq, Repr

/-- The source of one recorded trip cause (R214, R220): leg, cause, registration, and for cause 0x13 which switch. -/
structure TripSrc where
  leg : Nat
  cause : Nat
  reg : Nat
  high : Bool
  deriving DecidableEq, Repr

/-- The trip latch of a leg (R213, R214): causes recorded, registration, and since when each source has been inactive. -/
structure TripLatch where
  set : Bool
  /-- the cause that set it -/
  cause : Nat
  regAt : Nat
  sources : List TripSrc
  loQuiet : Nat
  hiQuiet : Nat
  hsQuiet : Nat
  lsQuiet : Nat
  bothQuiet : Nat
  bootUv : Bool
  deriving DecidableEq, Repr

/-- A group of R178 to R180 with its latch (R216 to R220). `taken`: the counted legs that have taken the latched set;
`alone`: no leg was counted at the latch. -/
structure Group where
  latched : Option (Word × Word × Nat)
  taken : List Nat
  alone : Bool
  nSpread : Nat
  spreadAt : Nat
  tripped : Bool
  multiSc : Bool
  cause : Nat
  regAt : Nat
  /-- registration of the last trip without a source of its own -/
  lastReg : Nat
  sources : List TripSrc
  deriving DecidableEq, Repr

/-- The device latch (R219, R220). `fresh`: set since the last triad tick. -/
structure DevLatch where
  tripped : Bool
  cause : Nat
  group : Nat
  regAt : Nat
  lastReg : Nat
  sources : List TripSrc
  /-- cause 0x3 is recorded, whether its condition held when last seen, and since when it does not (R220) -/
  lossOn : Bool
  lossSeen : Bool
  lossQuiet : Nat
  fresh : Bool
  deriving DecidableEq, Repr

/-- One breaker pair (R223 to R225). -/
structure BrkPair where
  /-- the command level, and when it last changed -/
  cmd : Bool
  cmdAt : Option Nat
  /-- the filtered feedback -/
  closed : Bool
  /-- since when feedback and command differ -/
  differAt : Option Nat
  mismatch : Bool
  deriving DecidableEq, Repr

/-- The reverse-polarity switch (R221, R222). -/
structure RpsState where
  cmd : Bool
  reverse : Bool
  goodSince : Option Nat
  fb : Bool
  /-- when the command last changed -/
  cmdAt : Option Nat
  deriving DecidableEq, Repr

/-- PERIOD resets to 20,000 count units of one tick (R199). -/
def Leg.reset : Leg :=
  { latched := none, staleNew := false, staleOld := false, pairStale := false, per := 640000, phi := 0, start := 0, len := 640000, duty := 0,
    peakDone := false, s := false, edges := [], invert := false, invertAt := 0, hs := false, ls := false,
    turnOn := none, dropping := false, live := false, heldBy := 0, freeSince := none, hsSince := none,
    refresh := none, hsAcc := 0, hsMark := 0, gsHs := false, gsLs := false, scHiPos := false, scHiNeg := false,
    scLoPos := false, scLoNeg := false, blanks := [], cbcPeriod := false, hsOffBy := none, lsOffBy := none,
    hsOnBy := none, lsOnBy := none, engOff := none }

def TripLatch.reset : TripLatch := ⟨false, 0, 0, [], 0, 0, 0, 0, 0, false⟩
def Group.reset : Group := ⟨none, [], false, 0, 0, false, false, 0, 0, 0, []⟩
def DevLatch.reset : DevLatch := ⟨false, 0, 0, 0, 0, [], false, false, 0, false⟩
def BrkPair.reset : BrkPair := ⟨false, none, false, none, false⟩
def RpsState.reset : RpsState := ⟨false, false, none, false, none⟩

/-- All of the power stage. -/
structure PowerStage where
  legs : Vector Leg 48
  trips : Vector TripLatch 48
  groups : Vector Group 4
  dev : DevLatch
  brk : Vector BrkPair 8
  rps : RpsState
  tapsValid : Bool
  calBusy : Bool
  halted : Bool
  /-- the sequencer hold of R492 still stands until the commit deadline of the first law sample -/
  seqHold : Bool
  deriving DecidableEq, Repr

def PowerStage.reset : PowerStage :=
  { legs := Vector.replicate 48 .reset, trips := Vector.replicate 48 .reset, groups := Vector.replicate 4 .reset,
    dev := .reset, brk := Vector.replicate 8 .reset, rps := .reset, tapsValid := false, calBusy := false,
    halted := false, seqHold := true }

end Sys2Proof.Machine
end

