-- ==== Sys2Proof/Machine/StatePrec.lean ====
section
/-!
DEFINITION. The state of the precision converters and the energy ledger (11_precision_and_ledger.md). Instants are taps.
-/
namespace Sys2Proof.Machine

/-- The source of integration windows in force (R312, R314). -/
inductive WinKind where
  | formed | fixed20 | fixed16
  deriving DecidableEq, Repr

/-- A window that has ended and whose result is not complete (R317): its number, input, length in taps, end and stamp. -/
structure Ended where
  no : Nat
  input : Nat
  len : Nat
  fin : Nat
  stamp : Word
  notFormed : Bool
  unsettled : Bool
  deriving DecidableEq, Repr

/-- A PCS result that waits for the other converter's (R320). -/
structure PcsResult where
  win : Ended
  code : Int
  value : Word
  ovr : Bool
  deriving DecidableEq, Repr

/-- One converter (R315 to R318): the input of the window in progress (8 is PCS), the input it
converted last, whether REF_UNSETTLED applies to the window, when REF_EN was set, windows that await their result, a lost
record, a PCS result, the words of the record issued last. -/
structure Conv where
  input : Option Nat
  lastIn : Option Nat
  unsettled : Bool
  refSince : Option Nat
  ended : List Ended
  gap : Bool
  pcs : Option PcsResult
  issued : List Word
  deriving DecidableEq, Repr

/-- A PCS window that has passed the comparison and awaits its records' landing (R320): its number, its end, and the
converters whose record is still on the way. -/
structure PcsWait where
  no : Nat
  fin : Nat
  open' : List Nat
  deriving DecidableEq, Repr

/-- Converters, window generator and ledger. -/
structure Prec where
  conv : Vector Conv 2
  /-- number, start and kind of the window in progress (R312 to R314) -/
  winNo : Nat
  winStart : Nat
  kind : WinKind
  transitional : Bool
  /-- the pending formed boundary, and the voted record it is extrapolated from (R313) -/
  pend : Option Nat
  votedAt : Nat
  votedTheta : Word
  votedOmega : Word
  pcsWait : Option PcsWait
  /-- event 7 of R311: the end of the last window found unverified -/
  unverAt : Option Nat
  /-- the six counters in mJ and the high words captured at a read of the low word (R322, R335) -/
  count : List Nat
  capHi : List Nat
  /-- pending residues, discharge and charge, in units of 2^-400 mJ (R325) -/
  resDis : Nat
  resChg : Nat
  /-- the latest valid code of each PC0 input, and the end of the last counted DC_I_IN window (R325) -/
  dcV : Vector (Option Int) 8
  dcEnd : Option Nat
  /-- AC_FEED writes of the sample in progress with their engine, the last applied write, and whether the feed is lost
  (R324) -/
  feed : List (Nat × Int)
  feedAt : Option Nat
  feedLost : Bool
  /-- LIFE_S counts from POR release (R322): the taps before the present E, and where on it the count stands at `lifeAt` -/
  lifePrior : Nat
  lifeAt : Nat
  /-- LIFE_S and counters at the start of the plausibility period (R327) -/
  plausAt : Nat
  plausBase : List Nat
  /-- accepted tamper levels, changes that MP has logged (R328) -/
  tamper : Nat
  tamperLogged : Nat
  /-- the 256 log slots, and the lowest unreleased sequence number (R329) -/
  log : Vector (List Word) 256
  logLow : Nat
  deriving DecidableEq, Repr

def Conv.reset : Conv := ⟨none, none, true, none, [], false, none, []⟩

def Prec.reset : Prec :=
  { conv := Vector.replicate 2 .reset, winNo := 0, winStart := 0, kind := .fixed20, transitional := false, pend := none,
    votedAt := 0, votedTheta := 0, votedOmega := 0, pcsWait := none, unverAt := none, count := List.replicate 6 0,
    capHi := List.replicate 6 0, resDis := 0, resChg := 0, dcV := Vector.replicate 8 none, dcEnd := none, feed := [], feedAt := none,
    feedLost := false, lifePrior := 0, lifeAt := 0, plausAt := 0, plausBase := List.replicate 6 0, tamper := 0, tamperLogged := 0,
    log := Vector.replicate 256 [0, 0, 0, 0], logLow := 0 }

end Sys2Proof.Machine
end

