-- ==== Sys2Proof/Machine/StateSafe.lean ====
section
/-!
DEFINITION. The state of Buckram (12_buckram_safety.md). Filter ticks are Buckram's own count (R336); other instants are
taps.
-/
namespace Sys2Proof.Machine

/-- A running discrepancy timer (R345): the state X (true: run), the channel that accepted it (true: B), the filter tick of
that change, whether the other channel has accepted X since, the channel that last left X (true: B), and whether a start
(R340) has come since. -/
structure DiscTimer where
  run : Bool
  chanB : Bool
  start : Nat
  followed : Bool
  left : Bool
  stale : Bool
  deriving DecidableEq, Repr

/-- One safety input (R342 to R346): filtered levels, timer, whether both channels have changed to stop since the last start,
and since when both channels hold one state. -/
structure SafeIn where
  a : Bool
  b : Bool
  timer : Option DiscTimer
  opened : Bool
  agreeSince : Option Nat
  deriving DecidableEq, Repr

structure Safe where
  ins : Vector SafeIn 8
  configured : Bool
  /-- lock-outs in force: cause and input or output (R353) -/
  lockouts : List (Nat × Nat)
  /-- the stall monitor: armed since; from when the timebase's run counts; the halt as Buckram holds it (R351) -/
  armed : Option Nat
  runFrom : Nat
  halt : Bool
  /-- the last oscillator window was beyond the limit; since when one was within it (R352) -/
  oscBad : Bool
  oscOkSince : Option Nat
  pi0 : Bool
  pi1 : Bool
  /-- when the pulse-inhibit outputs were last dropped (R341) -/
  piDropAt : Option Nat
  permitPin : Bool
  tested : Nat
  /-- a reset of kind BOR, PIN, CHAIN or WDOG is in progress, or the device is in Gauze (R339 item 6) -/
  coreDown : Bool
  runPermit : Bool
  legsOff : Bool
  deriving DecidableEq, Repr

def SafeIn.reset : SafeIn := ⟨false, false, none, false, some 0⟩

/-- POR release (R339, R343): levels low, legs off, nothing configured. -/
def Safe.reset : Safe :=
  { ins := Vector.replicate 8 .reset, configured := false, lockouts := [], armed := none, runFrom := 0, halt := false, oscBad := false,
    oscOkSince := none, pi0 := false, pi1 := false, piDropAt := none, permitPin := false, tested := 0, coreDown := false,
    runPermit := false, legsOff := true }

end Sys2Proof.Machine
end

