-- ==== Sys2Proof/Machine/StateSense.lean ====
section
/-!
DEFINITION. The state of the 64 sigma-delta chains (08_sensing_chain.md).
-/
namespace Sys2Proof.Machine

/-- Where a chain stands after a synchronising reset (R245): none has occurred since reset; it waits for the first final
sample instant f0; or it has seen f0 and so many final samples after it. -/
inductive Settle where
  | idle
  | await
  | run (k : Nat)
  deriving DecidableEq, Repr

/-- One chain. -/
structure SdChain where
  /-- instants of synchronising resets not yet reached -/
  resets : List Nat
  /-- FCFG, FSHIFT, FPHASE latched, and when (R242); no instant for a set latched before E was fixed anew -/
  latch : Option (Word × Word × Word × Option Nat)
  settle : Settle
  /-- sinc integrators, comb delays, bits since the last sinc output -/
  i1 : Int
  i2 : Int
  i3 : Int
  c1 : Int
  c2 : Int
  c3 : Int
  bitCnt : Nat
  /-- shifted sinc outputs, newest first -/
  hist : List Int
  sat : Bool
  /-- DC blocker state in units of 2^-20 -/
  m : Int
  lastBit : Option Bool
  run : Nat
  stuck : Bool
  /-- sequence number of the next frame -/
  seq : Nat
  deriving DecidableEq, Repr

def SdChain.reset : SdChain :=
  { resets := [], latch := none, settle := .idle, i1 := 0, i2 := 0, i3 := 0, c1 := 0, c2 := 0, c3 := 0, bitCnt := 0,
    hist := [], sat := false, m := 0, lastBit := none, run := 0, stuck := false, seq := 0 }

abbrev Sense := Vector SdChain 64
def Sense.reset : Sense := Vector.replicate 64 .reset

end Sys2Proof.Machine
end

