-- ==== Sys2Proof/Machine/State.lean ====
section
/-!
DEFINITION. The state of the block, its outcomes and its reset.
-/
namespace Sys2Proof.Machine

/-- A page whose lock is armed: page, port, register rounds left in the arming round (R427). -/
structure LockArm where
  page : Nat
  port : Nat
  round : Nat
  deriving DecidableEq, Repr

/-- A latched set of a page: the words that the boundary copies to the active offsets (R428). -/
structure PageLatch where
  page : Nat
  words : List (Nat × Word)
  deriving DecidableEq, Repr

/-- Everything of the device but its memories and its queue. -/
structure Dev where
  /-- taps since the timebase epoch E (R232); it never goes back -/
  now : Nat
  /-- the model's own: how many open values have been drawn (log entry 3) -/
  free : Nat
  /-- the register file: (byte address, word), sorted, no entry equal to `regReset` -/
  regs : List (Nat × Word)
  /-- memory bytes written in the command in progress, oldest first; empty between commands -/
  wr : List Host.Cell
  /-- classes of memory that a reset in the command in progress has lost, and whether it has fixed E anew; empty and false
  between commands -/
  wipe : List Nat
  rebase : Bool
  arms : List LockArm
  latches : List PageLatch
  /-- handshakes completed by the register target (R427) -/
  regRounds : Nat
  triad : Triad
  eng : Vector Engine 15
  mp : MpState
  pw : PowerStage
  sense : Sense
  felt : Felt
  acq : Acq
  prec : Prec
  safe : Safe
  bus : Bus
  chain : Chain
  boot : Boot
  deriving DecidableEq, Repr

/-- The state: the commands that wait, first in, first out; the memories; the device. -/
structure State where
  pending : List Instr
  /-- Canvas, acquisition memory, engine program and data memories, MP SRAM: one canonical list -/
  mem : List Host.Cell
  dev : Dev
  deriving DecidableEq, Repr

/-- Why the machine stops. -/
inductive Fault where
  /-- A one was written to a reserved bit: the response is undefined (R10). Raised by every command that writes a register.
  Safe: nothing is claimed of what follows. -/
  | reservedBit
  deriving DecidableEq, Repr

/-- Why a command has no meaning. -/
inductive Refusal where
  /-- No meaning has been written for the command. Safe. -/
  | notModelled (mnemonic : String)
  deriving DecidableEq, Repr

/-- The engines at reset: control engines off, triad engines in their role (R120, R161). -/
def engReset : Vector Engine 15 :=
  Vector.ofFn (fun n : Fin 15 => if n.val < 12 then Engine.reset .legEngine .off else Engine.reset .standby .role)

/-- The device after reset. -/
def Dev.reset : Dev :=
  { now := 0, free := 0, regs := [], wr := [], wipe := [], rebase := false, arms := [], latches := [], regRounds := 0, triad := .reset,
    eng := engReset, mp := .reset, pw := .reset, sense := .reset, felt := .reset, acq := .reset, prec := .reset,
    safe := .reset, bus := .reset, chain := .reset, boot := .reset }

/-- The machine right after reset. -/
def State.reset : State := { pending := [], mem := [], dev := .reset }

end Sys2Proof.Machine
end

