-- ==== Sys2Proof/Machine/Ops.lean ====
section
/-!
DEFINITION. The named operations over memory and registers that every command is written with.
-/
namespace Sys2Proof.Machine

/-! ## Memory (R256, R285, R127, R426) -/

/-- What a byte of memory that nothing has written reads as (log entry 5). -/
def memDefault : Nat → Byte := fun _ => 0

/-- The address lies in a memory window (R426). -/
def inWindow (a : Nat) : Bool :=
  (decide (0x10000000 ≤ a) && decide (a < 0x10100000)) || (decide (0x20000000 ≤ a) && decide (a < 0x20400000)) ||
  (decide (0x30000000 ≤ a) && decide (a < 0x300F0000) && decide (a % 0x10000 < 0x8000)) ||
  (decide (0x38000000 ≤ a) && decide (a < 0x380F0000) && decide (a % 0x10000 < 0x4000))

/-- Where the model keeps MP's 512 KiB SRAM (R157): above every bus address, as no port reaches it (log entry 40). -/
def mpSram : Nat := 0x100000000

/-- A byte of memory stands at the address. -/
def inMemory (a : Nat) : Bool := inWindow a || (decide (mpSram ≤ a) && decide (a < mpSram + 0x80000))

/-- One byte of memory. -/
def memByte (m : List Host.Cell) (a : Nat) : Byte := storeGet memDefault m a

/-- The memory after the staged writes, oldest first. -/
def memApply (m : List Host.Cell) (ws : List Host.Cell) : List Host.Cell :=
  ws.foldl (fun m c => storePut memDefault m c.1 c.2) m

/-- The canonical form of a memory. -/
def Memory.wf (m : List Host.Cell) : Bool := storeWf memDefault m

/-- What byte `a` reads as inside a command: the last staged write, else memory. -/
def Dev.byte (m : List Host.Cell) (d : Dev) (a : Nat) : Byte :=
  match d.wr.reverse.find? (fun c => decide (c.1 = a)) with
  | some c => c.2
  | none => memByte m a

/-- A little-endian word of memory. -/
def Dev.word (m : List Host.Cell) (d : Dev) (a : Nat) : Word :=
  BitVec.ofNat 32 ((d.byte m a).toNat + (d.byte m (a + 1)).toNat * 256 + (d.byte m (a + 2)).toNat * 65536 +
    (d.byte m (a + 3)).toNat * 16777216)

/-- Stage cells; an address outside the windows holds nothing. -/
def Dev.stage (cs : List Host.Cell) (d : Dev) : Dev := { d with wr := d.wr ++ cs.filter (fun c => inMemory c.1) }

/-- Write a byte of memory. -/
def Dev.poke (a : Nat) (b : Byte) (d : Dev) : Dev := d.stage [(a, b)]

/-- The bytes of a word, lowest address first. -/
def wordBytes (w : Word) : List Byte :=
  [w.extractLsb' 0 8, w.extractLsb' 8 8, w.extractLsb' 16 8, w.extractLsb' 24 8]

/-- Consecutive cells from an address on. -/
def cellsAt (a : Nat) : List Byte → List Host.Cell
  | [] => []
  | b :: bs => (a, b) :: cellsAt (a + 1) bs

/-- Write consecutive bytes. -/
def Dev.pokes (a : Nat) (bs : List Byte) (d : Dev) : Dev := d.stage (cellsAt a bs)

/-- Write consecutive words. -/
def Dev.pokeWords (a : Nat) (ws : List Word) (d : Dev) : Dev := d.pokes a (ws.flatMap wordBytes)

/-! ## Running a command -/

/-- The time and the staging that a command starts with. -/
def Dev.begin (t : Nat) (d : Dev) : Dev := { d with now := max d.now t, wr := [], wipe := [], rebase := false }

/-- The memories that keep their contents under a wipe (R452): 1 none; 2 acquisition memory; 3 engine program memories and MP's
SRAM; 4 those and Canvas bank 12. -/
def memKept (w a : Nat) : Bool :=
  let acq := decide (0x20000000 ≤ a) && decide (a < 0x20400000)
  let prog := decide (0x30000000 ≤ a) && decide (a < 0x300F0000) || decide (mpSram ≤ a)
  let bank12 := decide (0x100C0000 ≤ a) && decide (a < 0x100D0000)
  match w with
  | 1 => false
  | 2 => acq
  | 3 => prog
  | 4 => prog || bank12
  | _ => true

/-- The memory contents are lost but for what the wipe keeps. -/
def Dev.wiped (w : Nat) (d : Dev) : Dev := { d with wipe := d.wipe ++ [w], wr := d.wr.filter (fun c => memKept w c.1) }

/-- The memory after wipes. -/
def memWipe (ws : List Nat) (m : List Host.Cell) : List Host.Cell := m.filter (fun c => ws.all (fun w => memKept w c.1))

/-- The state after a command whose effect on the device is `d`: its memory writes land (an address outside the windows holds
nothing), the clock stands at the command's instant or, where E has been fixed anew, at 0; the queue is untouched. -/
def State.land (t : Nat) (d : Dev) (s : State) : State :=
  { s with mem := memApply (memWipe d.wipe s.mem) (d.wr.filter (fun c => inMemory c.1)),
           dev := { d with now := if d.rebase then 0 else max s.dev.now t, wr := [], wipe := [], rebase := false } }

/-- A command at instant `t` with effect `f` on the device. -/
def run (t : Nat) (f : List Host.Cell → Dev → Dev) (s : State) : Host.Outcome State Fault Refusal :=
  .next (s.land t (f s.mem (s.dev.begin t)))

/-- A command at instant `t` whose effect may be a fault. -/
def runF (t : Nat) (f : List Host.Cell → Dev → Except Fault Dev) (s : State) : Host.Outcome State Fault Refusal :=
  match f s.mem (s.dev.begin t) with
  | .ok d => .next (s.land t d)
  | .error e => .fault e

/-- A command at the present instant (engine instructions and MP's own writes carry none of their own). -/
def runNow (f : List Host.Cell → Dev → Dev) (s : State) : Host.Outcome State Fault Refusal := run 0 f s

/-! ## Registers -/

/-- The word of a register. -/
def Dev.reg (a : Nat) (d : Dev) : Word := storeGet regReset d.regs a
/-- Set the word of a register. -/
def Dev.setReg (a : Nat) (w : Word) (d : Dev) : Dev := { d with regs := storePut regReset d.regs a w }

/-- Byte address of a field's word, `i`-th repetition. -/
def FieldSpec.addr (p : Nat) (f : FieldSpec) (i : Nat) : Nat := p * 0x1000 + f.off + i * f.stride

/-- A field of the i-th repetition of a register. -/
def Dev.getAt (p : Nat) (f : FieldSpec) (i : Nat) (d : Dev) : Nat := bitsGet (d.reg (f.addr p i)) f.hi f.lo
/-- A field. -/
def Dev.get (p : Nat) (f : FieldSpec) (d : Dev) : Nat := d.getAt p f 0
/-- A one-bit field. -/
def Dev.flag (p : Nat) (f : FieldSpec) (d : Dev) : Bool := decide (d.get p f = 1)
/-- A one-bit field of the i-th repetition. -/
def Dev.flagAt (p : Nat) (f : FieldSpec) (i : Nat) (d : Dev) : Bool := decide (d.getAt p f i = 1)
/-- Bit k of a field. -/
def Dev.bit (p : Nat) (f : FieldSpec) (k : Nat) (d : Dev) : Bool := (d.get p f).testBit k
/-- A whole register word. -/
def Dev.wordAt (p : Nat) (f : FieldSpec) (i : Nat) (d : Dev) : Word := d.reg (f.addr p i)
/-- The active copy of a field (R424). -/
def Dev.actAt (p : Nat) (f : FieldSpec) (i : Nat) (d : Dev) : Nat := bitsGet (d.reg (f.addr p i + 0x800)) f.hi f.lo
def Dev.act (p : Nat) (f : FieldSpec) (d : Dev) : Nat := d.actAt p f 0
def Dev.actFlag (p : Nat) (f : FieldSpec) (d : Dev) : Bool := decide (d.act p f = 1)
/-- The active copy of a whole word. -/
def Dev.actWord (p : Nat) (f : FieldSpec) (d : Dev) : Word := d.reg (f.addr p 0 + 0x800)

/-- Set a field of the i-th repetition. -/
def Dev.putAt (p : Nat) (f : FieldSpec) (i v : Nat) (d : Dev) : Dev :=
  d.setReg (f.addr p i) (bitsPut (d.reg (f.addr p i)) f.hi f.lo v)
/-- Set a field. -/
def Dev.put (p : Nat) (f : FieldSpec) (v : Nat) (d : Dev) : Dev := d.putAt p f 0 v
/-- Set a one-bit field. -/
def Dev.putFlag (p : Nat) (f : FieldSpec) (b : Bool) (d : Dev) : Dev := d.put p f b.toNat
/-- Set bit k of a field. -/
def Dev.putBit (p : Nat) (f : FieldSpec) (k : Nat) (b : Bool) (d : Dev) : Dev :=
  let v := d.get p f
  d.put p f (if b then v ||| 2 ^ k else if v.testBit k then v - 2 ^ k else v)

/-- Raise an event: set its bit (R425). -/
def Dev.raise (p : Nat) (f : FieldSpec) (d : Dev) : Dev := d.put p f 1
/-- Raise bit k of a group of events. -/
def Dev.raiseBit (p : Nat) (f : FieldSpec) (k : Nat) (d : Dev) : Dev := d.putBit p f k true

/-- Count one, saturating at the field's largest value. -/
def Dev.count (p : Nat) (f : FieldSpec) (d : Dev) : Dev := d.put p f (min f.max (d.get p f + 1))
def Dev.countAt (p : Nat) (f : FieldSpec) (i : Nat) (d : Dev) : Dev := d.putAt p f i (min f.max (d.getAt p f i + 1))
/-- Count one, wrapping. -/
def Dev.countWrap (p : Nat) (f : FieldSpec) (d : Dev) : Dev := d.put p f (d.get p f + 1)
def Dev.countWrapAt (p : Nat) (f : FieldSpec) (i : Nat) (d : Dev) : Dev := d.putAt p f i (d.getAt p f i + 1)

/-- The lock of a page is open (R427). -/
def Dev.lockOpen (p : Nat) (d : Dev) : Bool := d.flag p HDR.LOCK_OPEN
/-- Close the lock of a page and forget an arming. -/
def Dev.closeLock (p : Nat) (d : Dev) : Dev :=
  let d := d.put p HDR.LOCK_OPEN 0
  let d := d.put p HDR.LOCK_ARMED 0
  { d with arms := d.arms.filter (fun a => decide (a.page ≠ p)) }

/-- One handshake completed by the register target: an arming 64 rounds old ends with it (R427). -/
def Dev.regRound (d : Dev) : Dev :=
  let r := d.regRounds + 1
  let d := (d.arms.filter (fun a => decide (a.round + 64 ≤ r))).foldl (fun d a => d.put a.page HDR.LOCK_ARMED 0) d
  { d with regRounds := r, arms := d.arms.filter (fun a => decide (r < a.round + 64)) }

/-- The granularity of edges (R168, R195). -/
def Dev.edgeRes (d : Dev) : Nat :=
  if d.boot.bypass then (if d.boot.bypassOsc then 256 else 512) else if d.pw.tapsValid then 1 else 32

/-- The timebase's reading of the instant t: in bypass it moves in whole bypass periods (R12). -/
def Dev.grid (t : Nat) (d : Dev) : Nat := if d.boot.bypass then t / d.edgeRes * d.edgeRes else t

/-- Stamp: the timebase counter in taps modulo 2^32 (R232). -/
def Dev.stampOf (t : Nat) (d : Dev) : Word := BitVec.ofNat 32 (d.grid t)

/-- The stamp of the present instant. -/
def Dev.stamp (d : Dev) : Word := d.stampOf d.now

/-- A command that is one write or read of a register. -/
def runReg (t : Nat) (f : List Host.Cell → Dev → Dev) (s : State) : Host.Outcome State Fault Refusal :=
  run t (fun m d => (f m d).regRound) s

/-- Such a command whose effect may be a fault. -/
def runRegF (t : Nat) (f : List Host.Cell → Dev → Except Fault Dev) (s : State) : Host.Outcome State Fault Refusal :=
  runF t (fun m d => (f m d).map Dev.regRound) s

/-! ## Latched sets (R428) -/

/-- The shadow words of a page: every word that has an RWS field. -/
def shadowWords (p : Nat) (d : Dev) : List (Nat × Word) :=
  ((pageFields p).filter (fun f => decide (f.acc = .rws))).flatMap (fun f =>
    (List.range f.count).map (fun i => (f.off + i * f.stride, d.reg (f.addr p i))))

/-- Latch the shadows of a page; a second commit before the boundary replaces the first. -/
def Dev.latch (p : Nat) (d : Dev) : Dev :=
  { d with latches := d.latches.filter (fun l => decide (l.page ≠ p)) ++ [⟨p, shadowWords p d⟩] }

/-- A set of the page waits for its boundary. -/
def Dev.latched (p : Nat) (d : Dev) : Bool := d.latches.any (fun l => decide (l.page = p))

/-- Copy words to the active offsets of a page. -/
def Dev.applyWords (p : Nat) : List (Nat × Word) → Dev → Dev
  | [], d => d
  | (o, w) :: ws, d => Dev.applyWords p ws (d.setReg (p * 0x1000 + o + 0x800) w)

/-- The boundary: the latched set of the page applies whole. -/
def Dev.applyLatch (p : Nat) (d : Dev) : Dev :=
  match d.latches.find? (fun l => decide (l.page = p)) with
  | none => d
  | some l =>
    let d := { d with latches := d.latches.filter (fun l => decide (l.page ≠ p)) }
    d.applyWords p l.words

/-! ## Open values -/

/-- Draw an open choice (log entry 3). -/
def Dev.drawBool (d : Dev) : Bool × Dev := (Config.freeBool d.free, { d with free := d.free + 1 })
/-- Draw an open word (log entry 3). -/
def Dev.drawWord (d : Dev) : Word × Dev := (Config.freeWord d.free, { d with free := d.free + 1 })

/-! ## Lists and time -/

/-- Apply a step for each element, left to right. -/
def Dev.each {α : Type} (f : α → Dev → Dev) (l : List α) (d : Dev) : Dev := l.foldl (fun d a => f a d) d

/-- Conditional step. -/
def Dev.when (b : Bool) (f : Dev → Dev) (d : Dev) : Dev := if b then f d else d

/-- Ticks to taps. -/
def tickTaps (n : Nat) : Nat := n * 32
/-- The sample instant t_k of a triad tick: the tick less TICK_PHASE of TE0 (R46, R128, R155; log entry 16). -/
def Dev.sampleInstant (t : Nat) (d : Dev) : Nat := t - tickTaps (d.get (pENG 12) TE.TICK_PHASE_TICKS)

/-- The instant t (in taps) stands on the schedule off + n * per (in ticks); in bypass it may lie off by less than a bypass
period (R195, R439). -/
def Dev.onGrid (t off per : Nat) (d : Dev) : Bool :=
  let p := max 1 per
  let q := (t / 32 + p - off % p) % p
  if d.boot.bypass then
    let slack := if d.boot.bypassOsc then 7 else 15
    decide (q ≤ slack) || decide (p ≤ q + slack)
  else decide (t % 32 = 0) && decide (q = 0)

/-- Microseconds to taps. -/
def usTaps (n : Nat) : Nat := n * 12800

end Sys2Proof.Machine
end

