-- ==== Sys2Proof/Machine/Flags.lean ====
section
/-!
DEFINITION. The sticky flags of binary32 arithmetic (R139, R162).
-/
namespace Sys2Proof.Machine

/-- Flags raised by the arithmetic of an engine (R139, R162): sticky, and FP_FLAG on a change. -/
def Dev.fpFlags (n : Nat) (f : FFlags) (d : Dev) : Dev :=
  let p := pENG n
  let old := bitsGet (d.wordAt p TE.FP_FLAGS_INVALID 0) 4 0
  let new := old ||| f.bits
  if new = old then d
  else (d.setReg (TE.FP_FLAGS_INVALID.addr p 0) (BitVec.ofNat 32 new)).raise p TE.IRQ_RAW_FP_FLAG

end Sys2Proof.Machine
end

