-- ==== Sys2Proof/Machine/Sense.lean ====
section
/-!
DEFINITION. The sigma-delta chains (R233 to R253): bit capture, sinc filter, settling, frames, synchronising resets.
-/
namespace Sys2Proof.Machine

/-! ## One chain -/

/-- The configuration of one chain: the active FCFG, FSHIFT and FPHASE, FSRC and DCB. -/
structure SdCfg where
  dec : Nat
  hb : Nat
  wrDiv : Nat
  dcbEn : Bool
  dcbK : Nat
  shifts : List Nat
  phase : Nat
  stuckLen : Nat
  tMod : Nat
  clkOn : Bool
  freeze : Bool
  deriving DecidableEq, Repr

/-- Saturation to the signed 24-bit range (R235). -/
def sat24 (v : Int) : Int := if v < -8388608 then -8388608 else if 8388607 < v then 8388607 else v

/-- An arithmetic right shift with rounding (R235). -/
def roundShr (v : Int) (s : Nat) : Int := if s = 0 then v else (v + 2 ^ (s - 1)) / 2 ^ s

/-- Sign of the bit (R233). -/
def bitVal (b : Bool) : Int := if b then 1 else -1

/-- A sinc output, shifted by S0 and saturated, goes to the head of the history. -/
def SdChain.sincOut (c : SdCfg) (ch : SdChain) : SdChain :=
  let y1 := ch.i3 - ch.c1
  let y2 := y1 - ch.c2
  let y3 := y2 - ch.c3
  let v := roundShr y3 (c.shifts.getD 0 0)
  { ch with c1 := ch.i3, c2 := y1, c3 := y2, bitCnt := 0, hist := (sat24 v :: ch.hist).take 500,
            sat := ch.sat || decide (sat24 v ≠ v) }

/-- One bit enters the sinc filter. -/
def SdChain.accumulate (c : SdCfg) (b : Bool) (ch : SdChain) : SdChain :=
  let i1 := ch.i1 + bitVal b
  let i2 := ch.i2 + i1
  let i3 := ch.i3 + i2
  let ch := { ch with i1 := i1, i2 := i2, i3 := i3, bitCnt := ch.bitCnt + 1 }
  if c.dec ≤ ch.bitCnt then ch.sincOut c else ch

/-- A synchronising reset (R245, R247): states clear, settling begins. -/
def SdChain.sync (freeze : Bool) (ch : SdChain) : SdChain :=
  { ch with settle := .await, i1 := 0, i2 := 0, i3 := 0, c1 := 0, c2 := 0, c3 := 0, bitCnt := 0, hist := [],
            sat := false, m := if freeze then ch.m else 0 }

/-- The settling count (R246). -/
def settleCount (h : Nat) : Nat := [3, 9, 12, 13, 14, 14].getD h 14

/-- The run of equal bits after one more bit. -/
def SdChain.runNext (b : Bool) (ch : SdChain) : Nat := if ch.lastBit = some b then ch.run + 1 else 1

/-- One half-band output from its inputs, newest first: a window of 15 (a delay of 7), zero before accumulation began. Its
coefficients are open; its DC gain is 1, and it exceeds the largest input magnitude by at most 1.2 % (R236; log entry 34). -/
def halfBandOut (h : List Int) : Int :=
  let w := (h ++ List.replicate 15 0).take 15
  if w.all (fun v => decide (v = w.headD 0)) then w.headD 0
  else
    let lim : Int := w.foldl (fun (a : Nat) v => max a v.natAbs) 0 * 1012 / 1000
    max (-lim) (min lim (Config.halfBand w))

/-- A half-band stage with its shift: one output for every two inputs, newest first, and whether it saturated (R235). -/
def halfBandStage (s : Nat) : List Int → List (Int × Bool)
  | a :: b :: rest =>
    let v := roundShr (halfBandOut (a :: b :: rest)) s
    (sat24 v, decide (sat24 v ≠ v)) :: halfBandStage s rest
  | _ => []

/-- The stages still to come, with their shifts: the newest output, and whether an output that this final sample computes
saturated; the last of k + 1 stages computes one of them, the first 2^k. -/
def halfBands : Nat → List Nat → List Int → Bool → Int × Bool
  | 0, _, h, sat => (h.headD 0, sat)
  | k + 1, ss, h, sat =>
    let o := halfBandStage (ss.headD 0) h
    halfBands k (ss.drop 1) (o.map (·.1)) (sat || (o.take (2 ^ k)).any (·.2))

/-- The value of a final sample before the DC blocker, and whether a stage saturated. -/
def SdChain.value (c : SdCfg) (ch : SdChain) : Int × Bool := halfBands c.hb (c.shifts.drop 1) ch.hist ch.sat

/-- The DC blocker (R237): output, saturation, next state. -/
def dcBlock (c : SdCfg) (x m : Int) : Int × Bool × Int :=
  if c.dcbEn then
    let y := x - (m + 2 ^ 19) / 2 ^ 20
    (sat24 y, decide (sat24 y ≠ y), if c.freeze then m else m + (x * 2 ^ 20 - m) / 2 ^ c.dcbK)
  else (x, false, m)

/-- A final sample's number after f0. -/
def Settle.next : Settle → Nat
  | .idle => 0
  | .await => 0
  | .run k => k + 1

/-- The flags of a frame in the layout of word 3 [7:0] (R240). -/
def frameFlags (valid sat stuck noClk settling frozen : Bool) : Nat :=
  valid.toNat * 128 + sat.toNat * 64 + stuck.toNat * 32 + noClk.toNat * 16 + settling.toNat * 8 + frozen.toNat * 4

/-- What a final sample is: value and flags. -/
structure SdSample where
  data : Int
  valid : Bool
  sat : Bool
  stuck : Bool
  noClk : Bool
  settling : Bool
  first : Bool
  frozen : Bool
  deriving DecidableEq, Repr

/-- A signed value in 24 bits. -/
def lo24 (v : Int) : Nat := (BitVec.ofInt 24 v).toNat

def SdSample.flags (x : SdSample) : Nat := frameFlags x.valid x.sat x.stuck x.noClk x.settling x.frozen

/-- A final sample completes (R235 to R239, R245). -/
def SdChain.sample (c : SdCfg) (ch : SdChain) : SdSample × SdChain :=
  let k := ch.settle.next
  let n := settleCount c.hb
  let v := ch.value c
  let d := dcBlock c v.1 ch.m
  let valid := decide (n ≤ k) && !ch.stuck && c.clkOn
  ({ data := if valid then d.1 else 0, valid := valid, sat := valid && (v.2 || d.2.1), stuck := ch.stuck,
     noClk := !c.clkOn, settling := decide (k < n), first := decide (k = n), frozen := c.freeze },
   { ch with settle := .run k, sat := false, m := d.2.2 })

/-! ## The device -/

/-- Page and slot of an input. -/
def sdPage (i : Nat) : Nat := pSDF (i / 8)

/-- The divider in ticks of the clock output that an input names (R233). -/
def Dev.sdTmod (i : Nat) (d : Dev) : Nat := d.getAt pCLK CLK.TB_DIV_DIV (d.getAt (sdPage i) SDF.FSRC_CLK_SEL (i % 8))

/-- The named output is enabled. -/
def Dev.sdClkOn (i : Nat) (d : Dev) : Bool := d.bit pCLK CLK.TB_EN_EN (d.getAt (sdPage i) SDF.FSRC_CLK_SEL (i % 8))

/-- The active configuration of input i. -/
def Dev.sdCfg (i : Nat) (d : Dev) : SdCfg :=
  let p := sdPage i
  let k := i % 8
  let sh := d.actAt p SDF.FSHIFT k
  let sl := d.getAt p SDF.FSRC_STUCK_LEN k
  { dec := d.actAt p SDF.FCFG_DEC k, hb := d.actAt p SDF.FCFG_HB k, wrDiv := d.actAt p SDF.FCFG_WR_DIV k + 1,
    dcbEn := decide (d.actAt p SDF.FCFG_DCB_EN k = 1), dcbK := d.actAt p SDF.FCFG_DCB_K k,
    shifts := (List.range 6).map (fun j => sh / 16 ^ j % 16), phase := d.actAt p SDF.FPHASE_TICKS k,
    stuckLen := if sl = 0 then 0 else max 16 sl, tMod := d.sdTmod i, clkOn := d.sdClkOn i,
    freeze := d.flagAt p SDF.DCB_FREEZE k }

/-- The chain of input i. -/
def Dev.sd (i : Nat) (d : Dev) : SdChain := d.sense.toArray.getD i .reset
/-- Replace the chain of input i. -/
def Dev.setSd (i : Nat) (ch : SdChain) (d : Dev) : Dev := { d with sense := d.sense.setIfInBounds i ch }

/-- Final output period in ticks (R234). -/
def SdCfg.tOut (c : SdCfg) : Nat := c.dec * 2 ^ c.hb * c.tMod

/-- A latched set applies at a reset at r; one that completed at r itself applies there or at the next, an open choice
(R242); one latched before E was fixed anew applies at any. -/
def Dev.sdApply (i r : Nat) (d : Dev) : Dev :=
  match (d.sd i).latch with
  | none => d
  | some (a, b, c, at') =>
    if at'.any (fun a => decide (r < a)) then d
    else
      let pick := d.drawBool
      let d := if at' = some r then pick.2 else d
      if at' = some r && !pick.1 then d
      else
        let p := sdPage i
        let base := p * 0x1000 + 0x840 + (i % 8) * 0x20
        let d := ((d.setReg base a).setReg (base + 4) b).setReg (base + 8) c
        let d := d.setSd i { d.sd i with latch := none }
        d.raise p SDF.IRQ_RAW_COMMIT_DONE

/-- The synchronising reset of input i at r (R245). -/
def Dev.sdReset (i r : Nat) (d : Dev) : Dev :=
  let d := d.sdApply i r
  let ch := (d.sd i).sync (d.flagAt (sdPage i) SDF.DCB_FREEZE (i % 8))
  (d.setSd i ch).putAt (sdPage i) SDF.DCB_M (i % 8) (lo24 (ch.m / 2 ^ 20))

/-- The resets of input i that have fallen due by t occur, earliest first. -/
def Dev.sdDue (i t : Nat) (d : Dev) : Dev :=
  let rs := (d.sd i).resets
  let due := rs.filter (fun r => decide (r ≤ t))
  let d := d.setSd i { d.sd i with resets := rs.filter (fun r => decide (t < r)) }
  d.each (fun r d => d.sdReset i r) due

/-- The resets of an SDF page p that have fallen due by t occur before it is read or written (R244, R245). -/
def Dev.sdPageDue (p t : Nat) (d : Dev) : Dev :=
  if pSDF 0 ≤ p && p < pSDF 8 then d.each (fun k d => d.sdDue (8 * (p - pSDF 0) + k) t) (List.range 8) else d

/-- The due resets of every input occur. -/
def Dev.sdAllDue (t : Nat) (d : Dev) : Dev := d.each (fun i d => d.sdDue i t) (List.range 64)

/-- A synchronising reset is placed at r. -/
def Dev.sdPlace (i r : Nat) (d : Dev) : Dev :=
  d.setSd i { d.sd i with resets := ((d.sd i).resets.filter (fun x => decide (x < r))) ++ [r] ++
    ((d.sd i).resets.filter (fun x => decide (r < x))) }

/-- First tick at least 2 ticks after t. -/
def tickAfter2 (t : Nat) : Nat := (t + 31) / 32 * 32 + 64

/-- A synchronising reset of every input at r (R244: bypass, timebase start). -/
def Dev.sdResetAll (r : Nat) (d : Dev) : Dev := d.each (fun i d => d.sdPlace i r) (List.range 64)

/-- A new period applies to a leg at r: linked chains reset (R173, R244). -/
def Dev.sdLinked (leg r : Nat) (d : Dev) : Dev :=
  d.each (fun i d =>
    if d.flagAt (sdPage i) SDF.FSRC_LINK_EN (i % 8) && decide (d.getAt (sdPage i) SDF.FSRC_LINK_LEG (i % 8) = leg) then
      d.sdPlace i r
    else d) (List.range 64)

/-- A clock output is enabled with its first rising edge at e: the chains on it reset at their first capture edge from there
(R239). -/
def Dev.sdClockOn (out e : Nat) (d : Dev) : Dev :=
  d.each (fun i d =>
    if d.getAt (sdPage i) SDF.FSRC_CLK_SEL (i % 8) = out then
      (let tm := max 1 (d.sdTmod i) * 32
       d.sdPlace i ((e + tm - 1) / tm * tm))
    else d) (List.range 64)

/-- The mark of a stuck run (R239). -/
def Dev.sdStuck (i : Nat) (d : Dev) : Dev :=
  if (d.sd i).stuck then d
  else
    let d := d.setSd i { d.sd i with stuck := true }
    (d.raiseBit (sdPage i) SDF.IRQ_RAW_STUCK (i % 8)).countAt (sdPage i) SDF.CNT_STUCK_CNT (i % 8)

/-- One captured bit: stuck detection, the end of a stuck run, accumulation after f0 (R239, R245). -/
def Dev.sdBit (i t : Nat) (b : Bool) (d : Dev) : Dev :=
  let c := d.sdCfg i
  let ch := d.sd i
  let n := ch.runNext b
  let d := if ch.stuck && decide (n = 1) then (d.setSd i { ch with stuck := false }).sdReset i t else d
  let d := d.setSd i { d.sd i with lastBit := some b, run := n }
  let d := if c.stuckLen != 0 && decide (c.stuckLen ≤ n) then d.sdStuck i else d
  match (d.sd i).settle with
  | .run _ => d.setSd i ((d.sd i).accumulate c b)
  | .idle => d
  | .await => d

/-- The captured bits of an input, oldest first; the last one is captured at t. -/
def Dev.sdBits (i t : Nat) : List Bool → Dev → Dev
  | [], d => d
  | b :: bs, d => Dev.sdBits i t bs (d.sdBit i (t - bs.length * tickTaps (d.sdTmod i)) b)

/-- The frame of a written instant (R240, R241): SEQ, STAMP, DATA, flags. -/
def frameWords (seq : Nat) (stamp : Word) (x : SdSample) : List Word :=
  [BitVec.ofNat 32 seq, stamp, BitVec.ofInt 32 x.data, BitVec.ofNat 32 (seq % 2 ^ 24 * 256 + x.flags)]

/-- What a polarity sample does to the reverse-polarity switch (R221): a sample below the limit or invalid restarts the dwell;
a valid one below the limit releases the command, below RPS_VNEG as a reversal. -/
def Dev.rpsSample (i t : Nat) (x : SdSample) (d : Dev) : Dev :=
  if d.get pSYS SYS.RPS_CFG_SRC = i then
    let signed (v : Nat) : Int := (BitVec.ofNat 24 v).toInt
    let vmin := signed (d.get pSYS SYS.RPS_VMIN_COUNTS)
    let vneg := signed (d.get pSYS SYS.RPS_VNEG_COUNTS)
    let r := d.pw.rps
    let good := x.valid && decide (vmin ≤ x.data)
    let r := { r with goodSince := if good then some (r.goodSince.getD t) else none }
    let d := { d with pw := { d.pw with rps := r } }
    if r.cmd && x.valid && decide (x.data < vneg) then
      ({ d with pw := { d.pw with rps := { r with cmd := false, reverse := true, cmdAt := some t } } }).raise pSYS SYS.PSI_IRQ_RAW_RPS_REVERSE
    else if r.cmd && x.valid && decide (x.data < vmin) then
      { d with pw := { d.pw with rps := { r with cmd := false, cmdAt := some t } } }
    else d
  else d

/-- The final samples of an input that a capture may still take: the last one 40 ticks old, and what came after (R284). -/
def keepFinals (t : Nat) : List (Nat × Word) → List (Nat × Word)
  | [] => []
  | (a, w) :: rest => if a + tickTaps 40 ≤ t then [(a, w)] else (a, w) :: keepFinals t rest

/-- The final sample reaches acquisition. -/
def Dev.acqFinal (i t : Nat) (w : Word) (d : Dev) : Dev :=
  let old := d.acq.finals.toArray.getD i []
  { d with acq := { d.acq with finals := d.acq.finals.setIfInBounds i ((t, w) :: keepFinals t old) } }

/-- The first valid sample after a reset has completed (R245): SETTLED is reported. -/
def Dev.sdSettled (i : Nat) (d : Dev) : Dev :=
  let c := d.sdCfg i
  if decide ((d.sd i).settle = .run (settleCount c.hb)) && d.getAt (sdPage i) SDF.LAST_FLAGS (i % 8) / 128 % 2 = 1 then
    d.raiseBit (sdPage i) SDF.IRQ_RAW_SETTLED (i % 8)
  else d

/-! ## Commit (R242, R243) -/

/-- The first failing register of one input: cause and offset. -/
def Dev.sdCheck (j i : Nat) (d : Dev) : Option (Nat × Nat) :=
  let p := pSDF j
  let dec := d.getAt p SDF.FCFG_DEC i
  let hb := d.getAt p SDF.FCFG_HB i
  let k := d.getAt p SDF.FCFG_DCB_K i
  let tm := d.sdTmod (8 * j + i)
  let frame := (d.getAt p SDF.FCFG_WR_DIV i + 1) * (dec * 2 ^ hb * tm)
  let ph := d.getAt p SDF.FPHASE_TICKS i
  if dec < 4 || 256 < dec || 5 < hb || k < 4 || 20 < k then some (1, 0x40 + i * 0x20)
  else if frame < 800 then some (2, 0x40 + i * 0x20)
  else if ph % (max 1 tm) != 0 || frame ≤ ph then some (3, 0x48 + i * 0x20)
  else if tm < 20 || !d.sdClkOn (8 * j + i) then some (4, 0x4C + i * 0x20)
  else none

/-- Latch the sets of all eight inputs, or refuse them all (R242, R243). -/
def Dev.sdCommit (j t : Nat) (d : Dev) : Dev :=
  let p := pSDF j
  let d := d.each (fun i d => d.sdDue (8 * j + i) t) (List.range 8)
  match (List.range 8).findSome? (fun i => d.sdCheck j i) with
  | some (c, o) => ((d.raise p SDF.IRQ_RAW_COMMIT_REFUSED).put p SDF.FAULT_CODE_CAUSE c).put p SDF.FAULT_CODE_OFFSET o
  | none =>
    d.each (fun i d =>
      let base := p * 0x1000 + 0x40 + i * 0x20
      d.setSd (8 * j + i)
        { d.sd (8 * j + i) with latch := some (d.reg base, d.reg (base + 4), d.reg (base + 8), some t) }) (List.range 8)

/-- A write of FSRC with the lock open (R244, R250). -/
def Dev.sdFsrc (i : Nat) (w : Word) (t : Nat) (d : Dev) : Dev :=
  let p := sdPage i
  let o := 0x4C + (i % 8) * 0x20
  if !d.lockOpen p then d
  else if 47 < bitsGet w 13 8 then (d.put p SDF.FAULT_CODE_CAUSE 5).put p SDF.FAULT_CODE_OFFSET o
  else (d.setReg (p * 0x1000 + o) w).sdPlace i (tickAfter2 t)

/-! ## Status -/

/-- STATUS of an SDF page (R251). -/
def Dev.sdStatus (j : Nat) (d : Dev) : Word :=
  let bits (f : SdChain → Nat → Bool) : Nat :=
    (List.range 8).foldl (fun n i => n + (f (d.sd (8 * j + i)) i).toNat * 2 ^ i) 0
  BitVec.ofNat 32
    (bits (fun c _ => c.latch.isSome) +
     bits (fun c i => match c.settle with
       | .idle => false
       | .await => true
       | .run k => decide (k < settleCount (d.sdCfg (8 * j + i)).hb)) * 256 +
     bits (fun c _ => c.stuck) * 65536)

end Sys2Proof.Machine
end

