-- ==== Sys2Proof/Machine/LegBase.lean ====
section
/-!
DEFINITION. One leg: its configuration, its switches, its group, and what holds it off (R166 to R195, R492, R495).
-/
namespace Sys2Proof.Machine

/-! ## Configuration -/

/-- The settings of one leg; dead times, widths and waits in taps (R181, R185, R187, R199, R229). -/
structure LegCfg where
  centre : Bool
  upd : Nat
  auto : Bool
  prescale : Nat
  minPulse : Nat
  refreshEn : Bool
  pinSwap : Bool
  dtLH : Nat
  dtHL : Nat
  interval : Nat
  width : Nat
  blank : Nat
  cbc : Bool
  gsWait : Nat
  force : Nat
  en : Bool
  invert : Bool
  /-- granularity of an edge in taps (R168, R195) -/
  res : Nat
  deriving DecidableEq, Repr

/-- A field with a range acts as the nearer limit (R187, R229). -/
def clampNat (lo hi v : Nat) : Nat := max lo (min hi v)

/-- Round a duration up to the granularity in bypass (R227). -/
def Dev.wait (taps : Nat) (d : Dev) : Nat :=
  if d.boot.bypass then (taps + d.edgeRes - 1) / d.edgeRes * d.edgeRes else taps

/-- The distance of ticks in taps; in bypass the timebase moves in whole bypass periods (R12, R195). -/
def Dev.tickRes (d : Dev) : Nat := max 32 d.edgeRes

/-- The first tick at or after t: a registration or decision (R203, R210). -/
def Dev.nextTick (t : Nat) (d : Dev) : Nat := (t + d.tickRes - 1) / d.tickRes * d.tickRes

def Dev.legCfg (n : Nat) (d : Dev) : LegCfg :=
  let p := pLEG n
  { centre := d.flag p LEG.CFG_CMODE, upd := d.get p LEG.CFG_UPD, auto := d.flag p LEG.CFG_COMMIT_MODE,
    prescale := d.get p LEG.CFG_PRESCALE, minPulse := d.get p LEG.CFG_MIN_PULSE * 32,
    refreshEn := d.flag p LEG.CFG_REFRESH_EN, pinSwap := d.flag p LEG.CFG_PIN_SWAP,
    dtLH := max 256 (d.get p LEG.DEADTIME_DT_LH), dtHL := max 256 (d.get p LEG.DEADTIME_DT_HL),
    interval := usTaps (clampNat 10 1000 (d.get p LEG.REFRESH_INTERVAL_US)),
    width := tickTaps (clampNat 20 800 (d.get p LEG.REFRESH_WIDTH)),
    blank := d.wait (tickTaps (clampNat 20 400 (d.get p LEG.SC_CFG_BLANK))), cbc := d.flag p LEG.SC_CFG_CBC_EN,
    gsWait := d.wait (tickTaps (clampNat 8 2000 (d.get p LEG.GS_CFG_GS_WAIT))), force := d.get p LEG.CTRL_FORCE,
    en := d.flag p LEG.CTRL_EN, invert := d.flag p LEG.CTRL_INVERT, res := d.edgeRes }

def Dev.leg (n : Nat) (d : Dev) : Leg := d.pw.legs.toArray.getD n .reset
def Dev.setLeg (n : Nat) (l : Leg) (d : Dev) : Dev := { d with pw := { d.pw with legs := d.pw.legs.setIfInBounds n l } }
def Dev.tripOf (n : Nat) (d : Dev) : TripLatch := d.pw.trips.toArray.getD n .reset
def Dev.setTrip (n : Nat) (x : TripLatch) (d : Dev) : Dev :=
  { d with pw := { d.pw with trips := d.pw.trips.setIfInBounds n x } }
def Dev.grp (g : Nat) (d : Dev) : Group := d.pw.groups.toArray.getD g .reset
def Dev.setGrp (g : Nat) (x : Group) (d : Dev) : Dev :=
  { d with pw := { d.pw with groups := d.pw.groups.setIfInBounds g x } }

/-- A whole tick at or before, at or after. -/
def floorTo (r t : Nat) : Nat := t / r * r
def ceilTo (r t : Nat) : Nat := (t + r - 1) / r * r

/-! ## The switches (R181, R203, R204, R207) -/

/-- A switch turns off at t, or a release treats it as if (R191): its feedback, where it reads on, must read off by the
deadline; an earlier deadline still to be met stands (R203). -/
def Leg.offBy (c : LegCfg) (high : Bool) (t : Nat) (l : Leg) : Leg :=
  if high then { l with hsOffBy := if l.gsHs then some (l.hsOffBy.getD (t + c.dtHL + c.gsWait)) else none }
  else { l with lsOffBy := if l.gsLs then some (l.lsOffBy.getD (t + c.dtLH + c.gsWait)) else none }

def Leg.offHs (c : LegCfg) (t : Nat) (l : Leg) : Leg :=
  if l.hs then
    { l with hs := false, hsAcc := l.hsAcc + (t - l.hsMark), hsSince := none, hsOnBy := none }.offBy c true t
  else l

def Leg.offLs (c : LegCfg) (t : Nat) (l : Leg) : Leg :=
  if l.ls then { l with ls := false, lsOnBy := none }.offBy c false t else l

/-- A turn-on: its blanking window opens 16 ticks later (R207). -/
def Leg.switchOn (c : LegCfg) (high : Bool) (t : Nat) (l : Leg) : Leg :=
  let l := { l with turnOn := none, blanks := l.blanks ++ [(t + 512, t + 512 + c.blank)] }
  if high then { l with hs := true, hsSince := some t, hsMark := t, hsOnBy := some (t + c.gsWait) }
  else { l with ls := true, lsOnBy := some (t + c.gsWait) }

/-- The levels of LEG_HS and LEG_LS that the leg commands, high for on; PIN_SWAP routes the logical commands crosswise (R185,
R186). -/
def Dev.gatePins (n : Nat) (d : Dev) : Bool × Bool :=
  let l := d.leg n
  if (d.legCfg n).pinSwap then (l.ls, l.hs) else (l.hs, l.ls)

/-- Both switches off at t; a scheduled turn-on and a refresh end (R188, R212). -/
def Leg.bothOff (c : LegCfg) (t : Nat) (l : Leg) : Leg :=
  { (l.offHs c t).offLs c t with turnOn := none, refresh := none, dropping := false }

/-- Schedule a turn-on of one switch unless it is on or already scheduled. -/
def Leg.schedule (high : Bool) (due : Nat) (l : Leg) : Leg :=
  if (if high then l.hs else l.ls) then { l with turnOn := none }
  else if l.turnOn.any (fun x => decide (x.high = high)) then l
  else { l with turnOn := some ⟨high, due, false⟩ }

/-! ## Switching function (R171) -/

/-- Keep the entries that change the level. -/
def dedupe : Bool → List (Nat × Bool) → List (Nat × Bool)
  | _, [] => []
  | s, (t, b) :: es => if b = s then dedupe s es else (t, b) :: dedupe b es

/-- The offset of the pulse in a centre-aligned period (R171): rounded down to the edge resolution. -/
def centreOff (u len dut : Nat) : Nat := (len - dut) / 2 / u * u

/-- The levels of s in a period of length `len` from `s0` on, before INVERT. -/
def periodLevels (centre : Bool) (u s0 len dut : Nat) : List (Nat × Bool) :=
  if dut = 0 then [(s0, false)]
  else if len ≤ dut then [(s0, true)]
  else if centre then
    [(s0, decide (centreOff u len dut = 0)), (s0 + centreOff u len dut, true), (s0 + centreOff u len dut + dut, false)]
  else [(s0, true), (s0 + dut, false)]

/-- INVERT exchanges s and its complement (R184). -/
def flipLevels (inv : Bool) (es : List (Nat × Bool)) : List (Nat × Bool) :=
  if inv then es.map (fun e => (e.1, !e.2)) else es

/-- First instant at or after `lo` on the grid E + phi + n * per (R170). -/
def gridFrom (lo phi per : Nat) : Nat := lo + (phi % per + per - lo % per) % per

/-! ## Groups (R178 to R180) -/

/-- The leg is assigned to group g. -/
def Dev.inGroup (g n : Nat) (d : Dev) : Bool :=
  if n < 32 then (d.get (pGRP g) GRP.ASSIGN0_LEGS).testBit n else (d.get (pGRP g) GRP.ASSIGN1_LEGS).testBit (n - 32)

/-- The legs of a group, ascending. -/
def Dev.groupLegs (g : Nat) (d : Dev) : List Nat := (List.range 48).filter (fun n => d.inGroup g n)

/-- The group of a leg. -/
def Dev.groupOf (n : Nat) (d : Dev) : Option Nat := (List.range 4).find? (fun g => d.inGroup g n)

/-- The law runs (R54). -/
def Dev.running (d : Dev) : Bool := d.triad.law.seq.st.runs

/-- The four-wire setting (R57). -/
def Dev.fourWire (d : Dev) : Bool := d.triad.live.fourWire

/-- The leg's own latch, its group's latch or the device latch is set (R213). -/
def Dev.legTripped (n : Nat) (d : Dev) : Bool :=
  (d.tripOf n).set || d.pw.dev.tripped ||
    (match d.groupOf n with | some g => (d.grp g).tripped | none => false)

/-- Buckram permits a run (R339). -/
def Dev.permit (d : Dev) : Bool := !d.safe.legsOff

/-- The legs are held after an entry to bypass (R439). -/
def Dev.clkHeld (d : Dev) : Bool := d.boot.hold || (d.boot.holdDue && !d.running)

/-- Every leg is forced off: Buckram, IDLE, the bypass hold, Muslin mode (R337, R439, R454, R495). -/
def Dev.allForced (d : Dev) : Bool := !d.permit || d.boot.idle || d.clkHeld || d.boot.muslin || d.boot.gauze

/-- The legs an engine lists (R150, R163). -/
def Dev.engLegs (n : Nat) (d : Dev) : List Nat :=
  (List.range 8).filterMap (fun k =>
    let w := d.get (pENG n) (if k < 4 then CE.LEG_LIST0_SLOTS else CE.LEG_LIST1_SLOTS)
    let b := w / 256 ^ (k % 4) % 256
    if 128 ≤ b then some (b % 64) else none)

/-- The engine holds the leg off, or the leg is listed by the nominated spare (R114, R133, R151). -/
def Dev.engHeld (n : Nat) (d : Dev) : Bool :=
  (d.leg n).engOff.isSome ||
    (d.flag pVOTER VOTER.VOTE_CFG_SPARE_EN && (d.engLegs (d.get pVOTER VOTER.VOTE_CFG_SPARE)).contains n)

/-- The leg is forced off in the sense of R40. -/
def Dev.legForced (n : Nat) (d : Dev) : Bool :=
  d.allForced || d.engHeld n || decide (d.get (pLEG n) LEG.CTRL_FORCE ≠ 0)

/-- The leg is active (R40). -/
def Dev.legActive (n : Nat) (d : Dev) : Bool :=
  (d.groupOf n).isSome && d.flag (pLEG n) LEG.CTRL_EN && !d.legTripped n && !d.legForced n

/-- Active legs of a group. -/
def Dev.activeLegs (g : Nat) (d : Dev) : List Nat := (d.groupLegs g).filter (fun n => d.legActive n)

/-- The counted legs of a group (R179). -/
def Dev.counted (g : Nat) (d : Dev) : List Nat :=
  match d.get (pGRP g) GRP.ILV_CFG_MODE with
  | 1 => d.groupLegs g
  | 2 => d.activeLegs g
  | _ => []

/-- The leg takes period and phase from its group (R179). -/
def Dev.legCounted (n : Nat) (d : Dev) : Option Nat :=
  match d.groupOf n with
  | some g => if (d.counted g).any (fun m => decide (m = n)) then some g else none
  | none => none

/-- The group that interleaves the leg: while it does, the leg's own period, phase and prescale have no effect, and a leg out
of the count keeps its last ones (R179, R180). -/
def Dev.spreadOf (n : Nat) (d : Dev) : Option Nat :=
  match d.groupOf n with
  | some g =>
    let m := d.get (pGRP g) GRP.ILV_CFG_MODE
    if decide (m = 1) || decide (m = 2) then some g else none
  | none => none

/-! ## Periods and phases (R169, R170, R179) -/

/-- 100 ns in taps: the lead of a latch over its boundary (R172). -/
def leadTaps : Nat := 1280

/-- Units of a PERIOD, DUTY or PHASE word: taps of the count unit. -/
def setUnits (w : Word) : Nat := bitsGet w 20 0

/-- The period in taps and whether the clamp acts (R169). -/
def periodTaps (units u : Nat) : Nat × Bool :=
  (clampNat 12800 12800000 (units * u), decide (units * u < 12800) || decide (12800000 < units * u))

/-- Round-to-nearest division, ties to even. -/
def divEven (a b : Nat) : Nat :=
  let q := a / b
  let r := a % b
  if b < 2 * r || (2 * r = b && q % 2 = 1) then q + 1 else q

/-- Rank of a leg among the counted ones. -/
def rankOf (n : Nat) (l : List Nat) : Nat := (l.filter (fun m => decide (m < n))).length

/-- The active group set (R179). -/
def Dev.groupNow (g : Nat) (d : Dev) : Nat × Nat :=
  (setUnits (d.reg (pGRP g * 0x1000 + 0x84C)), setUnits (d.reg (pGRP g * 0x1000 + 0x850)))

/-- Period and phase of leg n under a group set, by its rank among the counted legs (R179). -/
def Dev.spreadSet (g n : Nat) (gb : Nat × Nat) (d : Dev) : Nat × Nat :=
  let c := d.counted g
  (gb.1, (gb.2 + divEven (rankOf n c * gb.1) (max 1 c.length)) % max 1 gb.1)

/-- Period and phase that a counted leg takes from its group (R179), in count-unit taps, at a period start S. -/
def Dev.groupSet (g n start : Nat) (d : Dev) : Nat × Nat :=
  let x := d.grp g
  let gb := match x.latched with
    | some (gp, bp, at') => if x.taken.any (fun m => decide (m = n)) || decide (at' + leadTaps ≤ start) then
        (setUnits gp, setUnits bp) else d.groupNow g
    | none => d.groupNow g
  d.spreadSet g n gb

/-- The carrier stands off so that its next period start is the first of the schedule at least 100 ns after t (R180, R191,
R194). -/
def Leg.realign (t : Nat) (l : Leg) : Leg :=
  let g := gridFrom (t + leadTaps) l.phi l.per
  { l with start := g - l.per, len := g - (g - l.per), edges := [], peakDone := true }

/-- A counted leg that has not been released yet takes the active set before its first period (R179, R180): its carrier stands
off to the first start of that schedule, at which the new period and phase enter it with what R169, R173 and R177 report. -/
def Dev.joinSpread (t g n : Nat) (d : Dev) : Dev :=
  let l := d.leg n
  if l.live then d
  else
    let u := 2 ^ d.get (pGRP g) GRP.ILV_CFG_PRESCALE
    let gs := d.spreadSet g n (d.groupNow g)
    let p := (periodTaps gs.1 u).1
    let phi := gs.2 * u % p
    if decide (p = l.per) && decide (phi = l.phi) && decide ((l.start + l.len) % p = phi % p) then d
    else d.setLeg n { Leg.realign t { l with per := p, phi := phi } with per := l.per, phi := l.phi }

/-- The sequencer hold covers the leg (R492). -/
def Dev.seqHeld (n : Nat) (d : Dev) : Bool :=
  d.pw.seqHold &&
    (match d.groupOf n with
     | some g => decide (g < 3) || d.fourWire
     | none => false)

/-- What holds the leg, as LSTATE shows it, in the order of R495. -/
def Dev.legHeld (n : Nat) (d : Dev) : Option Nat :=
  if d.legTripped n then some 3
  else if !d.flag (pLEG n) LEG.CTRL_EN then some 0
  else if decide (d.get (pLEG n) LEG.CTRL_FORCE ≠ 0) || d.allForced || d.seqHeld n then some 2
  else if d.pw.halted then some 5
  else if d.engHeld n then some 4
  else none

/-- LSTATE (R495). -/
def Dev.legState (n : Nat) (d : Dev) : Nat :=
  match d.legHeld n with
  | some c => c
  | none => if !(d.leg n).live then (d.leg n).heldBy else if (d.leg n).refresh.isSome then 6 else 1

/-- FORCE = 0b10 alone rules the leg: its low side is or goes on (R183). -/
def Dev.forcedLow (n : Nat) (d : Dev) : Bool :=
  decide (d.get (pLEG n) LEG.CTRL_FORCE = 2) && d.flag (pLEG n) LEG.CTRL_EN && !d.legTripped n && !d.allForced &&
    !d.seqHeld n && !d.engHeld n

/-- Every leg that nothing holds goes off and waits for a period start (R44, R93, R191; log entry 51). -/
def Dev.allLegsOff (t : Nat) (d : Dev) : Dev :=
  (List.range 48).foldl (fun d n =>
    if (d.legHeld n).isSome then d
    else d.setLeg n { (d.leg n).bothOff (d.legCfg n) (d.nextTick t) with live := false, heldBy := 2, freeSince := none }) d

/-- Bring one leg's switches in line with what holds it (R183, R191, R213, R337, R492): a held leg turns off and forgets its
release; a leg no longer held waits for a period start. A forced turn-off is taken at a tick (R203); in a debug halt FORCE = 0b10
does not act (R192). -/
def Dev.settleLeg (t n : Nat) (d : Dev) : Dev :=
  let l := d.leg n
  match d.legHeld n with
  | some 5 => d
  | some c =>
    let cfg := d.legCfg n
    let off := d.nextTick t
    if d.forcedLow n then
      (if d.pw.halted then d
       else
         let l := { l.offHs cfg off with refresh := none, dropping := false, live := false, heldBy := c, freeSince := none }
         let l := if l.turnOn.any (fun x => x.high) then { l with turnOn := none } else l
         d.setLeg n (l.schedule false (off + cfg.dtHL)))
    else d.setLeg n { l.bothOff cfg off with live := false, heldBy := c, freeSince := none }
  | none =>
    if l.live then d
    else if l.freeSince.isSome then d
    else d.setLeg n { l.bothOff (d.legCfg n) (d.nextTick t) with freeSince := some t }

/-- The counted legs of a group take the new count (R179, R180). -/
def Dev.respread (t g : Nat) (d : Dev) : Dev :=
  let n := (d.counted g).length
  let x := d.grp g
  if n = x.nSpread then d
  else (d.setGrp g { x with nSpread := n, spreadAt := t }).each (fun k d => d.joinSpread t g k) (d.counted g)

/-- The interleaving count of a group changes: phases are recomputed and, in mode 0b10, RESPREAD is reported (R180). -/
def Dev.settleGroup (t g : Nat) (d : Dev) : Dev :=
  let e := d.respread t g
  if (d.counted g).length ≠ (d.grp g).nSpread && decide (d.get (pGRP g) GRP.ILV_CFG_MODE = 2) then
    e.raise (pGRP g) GRP.IRQ_RAW_RESPREAD
  else e

end Sys2Proof.Machine
end

