-- ==== Sys2Proof/Machine/Protect.lean ====
section
/-!
DEFINITION. Trips, latches, escalation and clearing (R201 to R220), the reverse-polarity switch and the breaker pairs (R221
to R225).
-/
namespace Sys2Proof.Machine

/-! ## Sources (R214, R220) -/

/-- SC_LO or SC_HI is active on a leg. -/
def Leg.scLo (l : Leg) : Bool := l.scLoPos || l.scLoNeg
def Leg.scHi (l : Leg) : Bool := l.scHiPos || l.scHiNeg

/-- The source is active now. -/
def Dev.srcActive (x : TripSrc) (d : Dev) : Bool :=
  let l := d.leg x.leg
  match x.cause with
  | 0x10 => l.scLo
  | 0x11 => l.scLo
  | 0x12 => l.scHi
  | 0x13 => if x.high then l.gsHs else l.gsLs
  | 0x14 => l.gsHs && l.gsLs
  | _ => false

/-- Since when the source has been inactive. -/
def Dev.srcSince (x : TripSrc) (d : Dev) : Nat :=
  let y := d.tripOf x.leg
  match x.cause with
  | 0x10 => y.loQuiet
  | 0x11 => y.loQuiet
  | 0x12 => y.hiQuiet
  | 0x13 => if x.high then y.hsQuiet else y.lsQuiet
  | 0x14 => y.bothQuiet
  | _ => x.reg

/-- The source has been inactive for q taps at t. -/
def Dev.srcQuiet (t q : Nat) (x : TripSrc) (d : Dev) : Bool := !d.srcActive x && decide (d.srcSince x + q ≤ t)

/-! ## Setting the latches (R213, R216 to R219) -/

/-- Show on each leg that a higher latch holds it (R220). -/
def Dev.markHeld (cause : Nat) (legs : List Nat) (d : Dev) : Dev :=
  d.each (fun n d =>
    if (d.tripOf n).set then d
    else (d.put (pLEG n) LEG.FAULT_CODE_CAUSE cause).put (pLEG n) LEG.FAULT_CODE_SOURCE 0) legs

/-- The device trip (R219): cause, group, sources. -/
def Dev.devTrip (cause g : Nat) (srcs : List TripSrc) (t : Nat) (d : Dev) : Dev :=
  let x := d.pw.dev
  if x.tripped then
    (let last := if srcs.isEmpty && decide (cause ≠ 3) then t else x.lastReg
     let loss := x.lossOn || decide (cause = 3)
     { d with pw := { d.pw with dev := { x with sources := srcs ++ x.sources, lossOn := loss, lastReg := last } } })
  else
    let y : DevLatch := ⟨true, cause, g, t, t, srcs, decide (cause = 3), decide (cause = 3), t, true⟩
    let d := { d with pw := { d.pw with dev := y } }
    let d := d.put pSYS SYS.DEV_TRIP_CAUSE cause
    let d := d.put pSYS SYS.DEV_TRIP_GROUP g
    let d := d.put pSYS SYS.DEV_TRIP_STAMP (d.stampOf t).toNat
    let d := d.raise pSYS SYS.PSI_IRQ_RAW_DEV_TRIP
    d.markHeld 0x19 ((List.range 48).filter (fun n =>
      match d.groupOf n with | some g => !(d.grp g).tripped | none => true))

/-- A group trips the device. -/
def Dev.escDevice (g cause : Nat) (srcs : List TripSrc) (t : Nat) (d : Dev) : Dev :=
  (d.raise (pGRP g) GRP.IRQ_RAW_ESC_DEVICE).devTrip cause g srcs t

/-- The group trip (R216 to R218): cause, the leg concerned, sources. -/
def Dev.grpTrip (g cause leg : Nat) (srcs : List TripSrc) (t : Nat) (d : Dev) : Dev :=
  let p := pGRP g
  let x := d.grp g
  let d := if cause = 0x10 then ((d.raise p GRP.IRQ_RAW_MULTI_SC).count p GRP.GCNT_MULTI) else d
  let d := if cause = 0x12 then d.raise p GRP.IRQ_RAW_GFAULT else d
  let ms := x.multiSc || decide (cause = 0x10)
  if x.tripped then
    d.setGrp g { x with multiSc := ms, sources := srcs ++ x.sources, lastReg := if srcs.isEmpty then t else x.lastReg }
  else
    let d := d.setGrp g { x with tripped := true, multiSc := ms, cause := cause, regAt := t, lastReg := t, sources := srcs }
    let d := d.put p GRP.FAULT_CODE_CAUSE cause
    let d := d.put p GRP.FAULT_CODE_LEG leg
    let d := d.put p GRP.GTRIP_STAMP (d.stampOf t).toNat
    let d := d.count p GRP.GCNT_TRIPS
    let d := d.raise p GRP.IRQ_RAW_GROUP_OFF
    d.markHeld 0x18 (d.groupLegs g)

/-- The events of a cause (R228). -/
def Dev.causeEvent (n cause : Nat) (d : Dev) : Dev :=
  let p := pLEG n
  match cause with
  | 0x10 => d.raise p LEG.IRQ_RAW_SC_LO_TRIP
  | 0x11 => d.raise p LEG.IRQ_RAW_SC_LO_TRIP
  | 0x12 => d.raise p LEG.IRQ_RAW_SC_HI_TRIP
  | 0x13 => d.raise p LEG.IRQ_RAW_GS_FAULT
  | 0x14 => d.raise p LEG.IRQ_RAW_GS_FAULT
  | 0x15 => d.raise p LEG.IRQ_RAW_GS_FAULT
  | 0x16 => d.raise p LEG.IRQ_RAW_BOOT_UV
  | 0x17 => d.raise p LEG.IRQ_RAW_BOOT_UV
  | _ => d

/-- A short-circuit cause (R217). -/
def isSc (cause : Nat) : Bool := decide (cause = 0x10) || decide (cause = 0x11) || decide (cause = 0x12)

/-- Other legs of the group whose short-circuit trip registered within 400 ticks (R217). -/
def Dev.multiWith (g n t : Nat) (d : Dev) : List Nat :=
  (d.groupLegs g).filter (fun m =>
    let x := d.tripOf m
    decide (m ≠ n) && x.set && isSc x.cause && decide (t ≤ x.regAt + 12800) && decide (x.regAt ≤ t + 12800))

/-- Escalation of a trip that sets its latch (R216, R217). -/
def Dev.escalate (n : Nat) (src : TripSrc) (d : Dev) : Dev :=
  let t := src.reg
  let g := d.groupOf n
  let d := match d.get (pLEG n) LEG.TRIP_CFG_ESC, g with
    | 1, some g => d.grpTrip g 0x11 n [src] t
    | 2, _ => d.devTrip 4 (g.getD 0) [src] t
    | _, _ => d
  match g with
  | none => d
  | some g =>
    if isSc src.cause && !(d.multiWith g n t).isEmpty then
      (let srcs := src :: ((d.multiWith g n t).flatMap (fun m => (d.tripOf m).sources.filter (fun s => isSc s.cause)))
       let d := d.grpTrip g 0x10 n srcs t
       if d.flag (pGRP g) GRP.GESC_CFG_MULTI_DEV then d.escDevice g 1 srcs t else d)
    else d

/-- The trip of a leg (R213): `high` names the switch of cause 0x13. A leg that a higher latch holds already goes on showing
that (R220). -/
def Dev.tripCore (n cause : Nat) (high : Bool) (t : Nat) (d : Dev) : Dev :=
  let r := d.nextTick t
  let held := d.legTripped n
  let p := pLEG n
  let x := d.tripOf n
  let src : TripSrc := ⟨n, cause, r, high⟩
  let d := d.causeEvent n cause
  let uv := x.bootUv || decide (cause = 0x16) || decide (cause = 0x17)
  let others := x.sources.filter (fun s => !(decide (s.cause = cause) && decide (s.high = high)))
  if x.set then d.setTrip n { x with sources := others ++ [src], bootUv := uv }
  else
    let d := d.setTrip n { x with set := true, cause := cause, regAt := r, sources := [src], bootUv := uv }
    let d := if held then d else (d.put p LEG.FAULT_CODE_CAUSE cause).put p LEG.FAULT_CODE_SOURCE 0
    let d := d.put p LEG.TRIP_STAMP (r % 2 ^ 32)
    let d := d.count p LEG.CNT_PROT_TRIPS
    let d := d.raise p LEG.IRQ_RAW_TRIP
    d.escalate n src

/-! ## Settling -/

/-- The groups whose phase has lost its legs (R219). -/
def Dev.lostPhase (d : Dev) : Option Nat :=
  if d.running then
    (List.range 4).find? (fun g => (decide (g < 3) || d.fourWire) && (d.activeLegs g).isEmpty &&
      d.flag (pGRP g) GRP.GESC_CFG_PHASE_LOSS_DEV)
  else none

/-- The phase named by a device trip of cause 0x3 has no active leg while the law runs (R220). -/
def Dev.lossNow (d : Dev) : Bool := d.running && (d.activeLegs d.pw.dev.group).isEmpty

/-- The phase-loss condition acts and its quiet time is kept (R219, R220). -/
def Dev.phaseLoss (t : Nat) (d : Dev) : Dev :=
  let x := d.pw.dev
  if x.tripped then
    (if x.lossOn && (d.lossNow || x.lossSeen) then
      { d with pw := { d.pw with dev := { x with lossSeen := d.lossNow, lossQuiet := t } } } else d)
  else match d.lostPhase with
    | none => d
    | some g => d.escDevice g 3 [] t

/-- Legs and groups in line with what holds them. -/
def Dev.settleLegs (t : Nat) (d : Dev) : Dev :=
  (d.each (fun n d => d.settleLeg t n) (List.range 48)).each (fun g d => d.settleGroup t g) (List.range 4)

/-- After every command that can change what holds a leg. -/
def Dev.settle (t : Nat) (d : Dev) : Dev :=
  let d := (d.settleLegs t).phaseLoss t
  if d.pw.dev.tripped then d.settleLegs t else d

/-- A trip with its turn-off. -/
def Dev.trip (n cause : Nat) (high : Bool) (t : Nat) (d : Dev) : Dev :=
  (d.tripCore n cause high t).settle (d.nextTick t)

/-! ## Clearing (R214, R220) -/

/-- TRIP_QUIET and its kin in taps. -/
def quietTaps (us : Nat) : Nat := usTaps (clampNat 1 1000 us)

def Dev.tripClr (n t : Nat) (d : Dev) : Dev :=
  let p := pLEG n
  let x := d.tripOf n
  if !x.set then d
  else if x.sources.all (fun s => d.srcQuiet t (quietTaps (d.get p LEG.TRIP_CFG_TRIP_QUIET)) s) then
    ((d.setTrip n { x with set := false, sources := [], bootUv := false }).raise p LEG.IRQ_RAW_CLEARED).settle t
  else (((d.count p LEG.CNT_PROT_CLEAR_REFUSED).raise p LEG.IRQ_RAW_CLEAR_REFUSED).put p LEG.FAULT_CODE_CAUSE
    0x1B).put p LEG.FAULT_CODE_SOURCE 0

def Dev.grpQuiet (g t : Nat) (d : Dev) : Bool :=
  let x := d.grp g
  let q := quietTaps (d.get (pGRP g) GRP.GESC_CFG_TRIP_QUIET)
  decide (x.lastReg + q ≤ t || !(decide (x.cause = 0x12) || decide (x.cause = 0x13))) &&
    x.sources.all (fun s => d.srcQuiet t q s)

def Dev.grpClr (g t : Nat) (d : Dev) : Dev :=
  let p := pGRP g
  let x := d.grp g
  if !x.tripped then d
  else if d.grpQuiet g t then
    ((d.setGrp g { x with tripped := false, multiSc := false, sources := [] }).raise p GRP.IRQ_RAW_CLEARED).settle t
  else (d.raise p GRP.IRQ_RAW_CLEAR_REFUSED).put p GRP.FAULT_CODE_CAUSE 0x14

def Dev.devQuiet (t : Nat) (d : Dev) : Bool :=
  let x := d.pw.dev
  let q := quietTaps (d.get pSYS SYS.DEV_TRIP_QUIET_US)
  decide (x.lastReg + q ≤ t || !(decide (x.cause = 2) || decide (x.cause = 5))) &&
    (!x.lossOn || (!d.lossNow && decide (x.lossQuiet + q ≤ t))) && x.sources.all (fun s => d.srcQuiet t q s)

def Dev.devClr (t : Nat) (d : Dev) : Dev :=
  let x := d.pw.dev
  if !x.tripped then d
  else if d.devQuiet t then
    (({ d with pw := { d.pw with dev := { x with tripped := false, sources := [], lossOn := false } } }).raise pSYS
      SYS.PSI_IRQ_RAW_DEV_CLEARED).settle t
  else (d.raise pSYS SYS.PSI_IRQ_RAW_DEV_CLEAR_REFUSED).put pSYS SYS.DEV_TRIP_CAUSE 6

/-! ## Feedback (R201 to R205) -/

/-- Place a turn-on that is due, or let it wait for the opposite feedback (R202). -/
def Dev.placeTurnOn (n t : Nat) (d : Dev) : Dev :=
  let l := d.leg n
  match l.turnOn with
  | none => d
  | some x =>
    let c := d.legCfg n
    let high := if l.refresh = some .after then l.s else x.high
    let due := ceilTo c.res x.due
    if t < due then d
    else if (if high then l.gsLs else l.gsHs) then
      (if x.waiting then d
       else (d.setLeg n { l with turnOn := some { x with waiting := true } }).count (pLEG n) LEG.IL_DELAYS)
    else
      let on := if x.waiting then d.nextTick t else due
      let l := l.switchOn c high on
      let l := match l.refresh with
        | some .before => { l with refresh := some (.pulse (on + c.width)) }
        | some .after => { l with refresh := none }
        | some (.pulse f) => { l with refresh := some (.pulse f) }
        | none => l
      d.setLeg n l

/-- Feedback levels, with the quiet times of the sources that read them. -/
def Dev.setGs (n : Nat) (hs ls : Bool) (t : Nat) (d : Dev) : Dev :=
  let l := d.leg n
  let x := d.tripOf n
  let x := { x with
    hsQuiet := if l.gsHs && !hs then t else x.hsQuiet, lsQuiet := if l.gsLs && !ls then t else x.lsQuiet,
    bothQuiet := if (l.gsHs && l.gsLs) && !(hs && ls) then t else x.bothQuiet }
  (d.setLeg n { l with gsHs := hs, gsLs := ls, hsOffBy := if hs then l.hsOffBy else none,
                       lsOffBy := if ls then l.lsOffBy else none }).setTrip n x

/-- The checks of R204 and R205 at t. -/
def Dev.gsChecks (n t : Nat) (d : Dev) : Dev :=
  let l := d.leg n
  if l.gsHs && l.gsLs then d.trip n 0x14 false t
  else if l.hs && !l.gsHs && l.hsOnBy.any (fun b => decide (b ≤ t)) then d.trip n 0x17 false t
  else if l.ls && !l.gsLs && l.lsOnBy.any (fun b => decide (b ≤ t)) then d.trip n 0x15 false t
  else d

/-- A change of the filtered levels, with what follows from it (R202, R204, R205). -/
def Dev.gsChange (n : Nat) (hs ls : Bool) (t : Nat) (d : Dev) : Dev :=
  let d := (d.setGs n hs ls t).gsChecks n t
  if (d.leg n).turnOn.any (fun x => x.waiting) && !d.pw.halted then d.placeTurnOn n t else d

/-- The filter of a gate-state input accepts a level at the (GS_FILT + 1)-th tick at which the synchroniser has shown it, `since`
being the first (R201); in bypass the ticks are bypass periods (R227). -/
def Dev.gsAccepts (n since t : Nat) (d : Dev) : Bool :=
  decide (d.nextTick since + d.wait (tickTaps (d.get (pLEG n) LEG.GS_CFG_GS_FILT)) ≤ t)

/-- A gate-state pin whose synchroniser shows a level since `since` (R201): the pins exchange under PIN_SWAP (R185). -/
def Dev.gsLevel (n : Nat) (hsPin level : Bool) (since t : Nat) (d : Dev) : Dev :=
  let l := d.leg n
  if !d.gsAccepts n since t then d
  else if hsPin != (d.legCfg n).pinSwap then d.gsChange n level l.gsLs t
  else d.gsChange n l.gsHs level t

/-- A write of CFG that changes PIN_SWAP exchanges the feedback of the two switches (R185). -/
def Dev.pinSwapped (n t : Nat) (old : Bool) (d : Dev) : Dev :=
  if (d.legCfg n).pinSwap = old then d else d.gsChange n (d.leg n).gsLs (d.leg n).gsHs t

/-- The off-report deadline (R203). -/
def Dev.gsOff (n : Nat) (high : Bool) (t : Nat) (d : Dev) : Dev :=
  let l := d.leg n
  if (if high then l.hsOffBy else l.lsOffBy).any (fun b => decide (b ≤ t)) then
    (let d := d.setLeg n (if high then { l with hsOffBy := none } else { l with lsOffBy := none })
     if (if high then l.gsHs else l.gsLs) then d.trip n 0x13 high t else d)
  else d

/-- The on-report deadline (R204). -/
def Dev.gsOn (n : Nat) (high : Bool) (t : Nat) (d : Dev) : Dev :=
  let l := d.leg n
  if high then
    (if l.hs && !l.gsHs && l.hsOnBy.any (fun b => decide (b ≤ t)) then d.trip n 0x17 false t else d)
  else (if l.ls && !l.gsLs && l.lsOnBy.any (fun b => decide (b ≤ t)) then d.trip n 0x15 false t else d)

/-! ## Shunt comparators (R206 to R209) -/

/-- Set one comparator output of a leg and the quiet time of its source. -/
def Dev.setSc (n : Nat) (hi pos level : Bool) (t : Nat) (d : Dev) : Dev :=
  let l := d.leg n
  let l' := if hi then (if pos then { l with scHiPos := level } else { l with scHiNeg := level })
            else (if pos then { l with scLoPos := level } else { l with scLoNeg := level })
  let x := d.tripOf n
  let x := { x with loQuiet := if l.scLo && !l'.scLo then t else x.loQuiet,
                    hiQuiet := if l.scHi && !l'.scHi then t else x.hiQuiet }
  (d.setLeg n l').setTrip n x

/-- A blanking window is open at t, with ticks r taps apart (R207, R208): the last one that has opened, until the first tick at
or after its end. -/
def Leg.blanked (r t : Nat) (l : Leg) : Bool :=
  ((l.blanks.filter (fun w => decide (w.1 ≤ t))).getLast?).any (fun w => decide (t < ceilTo r w.2))
def Dev.blanked (n t : Nat) (d : Dev) : Bool := (d.leg n).blanked d.tickRes t

/-- The windows without those that a later one has replaced while they were open (R207). -/
def liveBlanks (r : Nat) : List (Nat × Nat) → List (Nat × Nat)
  | [] => []
  | [w] => [w]
  | w :: v :: ws => if v.1 < ceilTo r w.2 then liveBlanks r (v :: ws) else w :: liveBlanks r (v :: ws)

/-- Layer 1 (R208): end the conducting switch's interval; the opposite switch follows. -/
def Dev.layer1 (n : Nat) (high : Bool) (t : Nat) (d : Dev) : Dev :=
  let c := d.legCfg n
  let l := d.leg n
  let p := pLEG n
  let off := d.nextTick t
  let l' := if high then (l.offHs c off).schedule false (off + c.dtHL) else (l.offLs c off).schedule true (off + c.dtLH)
  let d' := d.setLeg n { l' with refresh := none, dropping := false, cbcPeriod := true }
  let d' := if l.cbcPeriod then d' else d'.count p LEG.CNT_PROT_CBC_COUNT
  d'.raise p LEG.IRQ_RAW_CBC

/-! The comparators see V_shunt, in units of 62.5 nV: a threshold code is 9,375 of them. -/

/-- The nominal voltage of a threshold code (R206). -/
def scVolt (code : Nat) : Int := ((code : Int) - 512) * 9375

/-- The nominal threshold of a comparator of leg n (R206). -/
def Dev.scThr (n : Nat) (hi pos : Bool) (d : Dev) : Int :=
  scVolt (d.get (pLEG n) (if hi then (if pos then LEG.SC_HI_THR_POS else LEG.SC_HI_THR_NEG)
                          else (if pos then LEG.SC_LO_THR_POS else LEG.SC_LO_THR_NEG)))

/-- A hundred times the tolerance of a threshold (R206). -/
def Dev.scTol (n : Nat) (hi pos : Bool) (d : Dev) : Int := (d.scThr n hi pos).natAbs + 4800000

/-- A hundred times the depth of V_shunt = v beyond the level at which the output acts: the threshold, or while it is active the
threshold less HYST (R206). -/
def Dev.scDepth (n : Nat) (hi pos was : Bool) (v : Int) (d : Dev) : Int :=
  let h : Int := match d.get (pLEG n) LEG.SC_CFG_HYST with | 0 => 0 | 1 => 4 | 2 => 8 | _ => 16
  let x := if pos then v - d.scThr n hi pos else d.scThr n hi pos - v
  100 * (x + if was then h * 9375 else 0)

/-- The output of one threshold of a comparator: active from the threshold on, until V_shunt has fallen back by HYST; certain
outside the tolerance of 1 % of |V| and 3 mV, and open within it (R206; log entry 3). -/
def Dev.scOut (n : Nat) (hi pos was : Bool) (v : Int) (d : Dev) : Bool × Dev :=
  let x := d.scDepth n hi pos was v
  if d.scTol n hi pos ≤ x then (true, d) else if x < -d.scTol n hi pos then (false, d) else d.drawBool

/-- A comparator of leg n under V_shunt = v: the outputs of its positive and its negative threshold. -/
def Dev.scSee (n : Nat) (hi : Bool) (v : Int) (d : Dev) : Bool × Bool × Dev :=
  let l := d.leg n
  let a := d.scOut n hi true (if hi then l.scHiPos else l.scLoPos) v
  let b := a.2.scOut n hi false (if hi then l.scHiNeg else l.scLoNeg) v
  (a.1, b.1, b.2)

/-- SC_HI trips whenever it becomes active (R209). -/
def Dev.scHiSee (n : Nat) (v : Int) (t : Nat) (d : Dev) : Dev :=
  let was := (d.leg n).scHi
  let x := d.scSee n true v
  let d := (x.2.2.setSc n true true x.1 t).setSc n true false x.2.1 t
  if (x.1 || x.2.1) && !was then d.trip n 0x12 false t else d

/-- A threshold of SC_LO crosses into activity (R208). -/
def Dev.scLo (n : Nat) (pos : Bool) (t : Nat) (d : Dev) : Dev :=
  let c := d.legCfg n
  let l := d.leg n
  if d.blanked n t then d
  else if l.ls && !pos && d.forcedLow n then d.trip n 0x11 false t
  else if !c.cbc then d.trip n 0x11 false t
  else if pos && l.hs then d.layer1 n true t
  else if !pos && l.ls && !d.forcedLow n then d.layer1 n false t
  else d

/-- SC_LO under V_shunt = v: a threshold that becomes active acts (R208). -/
def Dev.scLoSee (n : Nat) (v : Int) (t : Nat) (d : Dev) : Dev :=
  let l := d.leg n
  let x := d.scSee n false v
  let d := (x.2.2.setSc n false true x.1 t).setSc n false false x.2.1 t
  if x.1 && !l.scLoPos then d.scLo n true t else if x.2.1 && !l.scLoNeg then d.scLo n false t else d

/-- SC_RELEASE: V_shunt has fallen back; no comparator becomes active by it. -/
def Dev.scFall (n : Nat) (hi : Bool) (v : Int) (t : Nat) (d : Dev) : Dev :=
  let l := d.leg n
  let x := d.scSee n hi v
  (x.2.2.setSc n hi true (x.1 && (if hi then l.scHiPos else l.scLoPos)) t).setSc n hi false
    (x.2.1 && (if hi then l.scHiNeg else l.scLoNeg)) t

/-- The end of the first blanking window that none replaced (R208): SC_LO is sampled at its tick. -/
def Dev.blankEnd (n t : Nat) (d : Dev) : Dev :=
  let l := d.leg n
  match liveBlanks d.tickRes l.blanks with
  | [] => d
  | w :: ws =>
    if ceilTo d.tickRes w.2 ≤ t then
      (let d := d.setLeg n { l with blanks := ws }
       if l.scLo then d.trip n 0x10 false t else d)
    else d

/-! ## Reverse-polarity switch (R221, R222) -/

def Dev.setRps (x : RpsState) (d : Dev) : Dev := { d with pw := { d.pw with rps := x } }

/-- The command takes a level (R221, R222). -/
def Dev.rpsCmd (on : Bool) (d : Dev) : Dev :=
  if d.pw.rps.cmd = on then d else d.setRps { d.pw.rps with cmd := on, cmdAt := some d.now }

/-- The dwell condition is met at t. -/
def Dev.rpsOk (t : Nat) (d : Dev) : Bool :=
  d.pw.rps.goodSince.any (fun s => decide (s + msT (clampNat 1 4000 (d.get pSYS SYS.RPS_CFG_DWELL_MS)) ≤ t))
where msT (n : Nat) : Nat := n * 12800000

/-! ## Breaker pairs (R223 to R225) -/

/-- Pair k belongs to the sequencer (R224). -/
def Dev.brkOwned (k : Nat) (d : Dev) : Bool :=
  decide (d.get pTRANSIT TRANSIT.TR_CFG_OUT_BRK = k) ||
    (d.flag pTRANSIT TRANSIT.TR_CFG_PCC_PRESENT && decide (d.get pTRANSIT TRANSIT.TR_CFG_PCC_BRK = k))

/-- The command level that pair k must have. -/
def Dev.brkWant (k : Nat) (d : Dev) : Bool :=
  if d.brkOwned k then d.triad.brkCmd.testBit k else d.bit pSYS SYS.BRK_CMD_CMD k

def Dev.pair (k : Nat) (d : Dev) : BrkPair := d.pw.brk.toArray.getD k .reset
def Dev.setPair (k : Nat) (x : BrkPair) (d : Dev) : Dev := { d with pw := { d.pw with brk := d.pw.brk.setIfInBounds k x } }

/-- Note since when feedback and command differ; agreement clears MISMATCH (R225). -/
def BrkPair.compare (t : Nat) (x : BrkPair) : BrkPair :=
  if x.cmd = x.closed then { x with differAt := none, mismatch := false }
  else { x with differAt := some (x.differAt.getD t) }

/-- The pairs take their commands. -/
def Dev.brkSync (t : Nat) (d : Dev) : Dev :=
  d.each (fun k d =>
    let x := d.pair k
    let w := d.brkWant k
    if x.cmd = w then d else d.setPair k (BrkPair.compare t { x with cmd := w, cmdAt := some t, differAt := none }))
    (List.range 8)

/-- The timeout of R225 in taps. -/
def Dev.brkTo (d : Dev) : Nat := max 1 (d.get pSYS SYS.BRK_CFG_TO_10MS) * 128000000

def Dev.brkFb (k : Nat) (level : Bool) (t : Nat) (d : Dev) : Dev :=
  let x := d.pair k
  let closed := level != d.bit pSYS SYS.BRK_CFG_FB_INV k
  if closed = x.closed then d
  else
    let near := x.cmdAt.any (fun c => decide (t ≤ c + d.brkTo))
    let d := d.setPair k (BrkPair.compare t { x with closed := closed })
    if near then d else d.raise pSYS SYS.PSI_IRQ_RAW_BRK_FB_CHANGE

def Dev.brkMismatch (k t : Nat) (d : Dev) : Dev :=
  let x := d.pair k
  if x.differAt.any (fun s => decide (s + d.brkTo < t)) then
    (d.setPair k { x with mismatch := true }).raise pSYS SYS.PSI_IRQ_RAW_BRK_FB_FAIL
  else d

/-- A write of BRK_CMD (R224). -/
def Dev.brkWrite (w : Word) (t : Nat) (d : Dev) : Dev :=
  let v := bitsGet w 7 0
  let bad := (List.range 8).any (fun k => d.brkOwned k && decide (v.testBit k ≠ (d.pair k).cmd))
  let d := d.each (fun k d => if d.brkOwned k then d else d.putBit pSYS SYS.BRK_CMD_CMD k (v.testBit k)) (List.range 8)
  let d := if bad then d.raise pSYS SYS.PSI_IRQ_RAW_BRK_CMD_DISCARD else d
  d.brkSync t

/-! ## Requests -/

/-- GFAULT is accepted from MP, the host, and an engine that lists a leg of the group (R218). -/
def Dev.gfaultFrom (g port : Nat) (d : Dev) : Bool :=
  decide (port = 0x0F) || decide (port = 0x17) ||
    (decide (port < 12) && (d.engLegs port).any (fun n => d.inGroup g n))

/-- The group fault (R218). -/
def Dev.gfault (g t : Nat) (d : Dev) : Dev :=
  let d := d.grpTrip g 0x12 0 [] t
  let d := if d.flag (pGRP g) GRP.GESC_CFG_GF_DEV then d.escDevice g 2 [] t else d
  d.settle t

/-! ## The commands -/

/-- GS_LEVEL_ACCEPTED (R201): leg, pin GS_HS or GS_LS, level, and the first tick at which the synchroniser has shown it; its own
delay, more than 0 and at most 2 ticks, lies before. -/
def execGsLevelAccepted (n : Fin 48) (hsPin level : Bool) (since t : Nat) (s : State) : Host.Outcome State Fault Refusal :=
  run t (fun _ d => d.gsLevel n hsPin level since t) s

/-- GS_OFF_DEADLINE (R203): leg, high or low side. -/
def execGsOffDeadline (n : Fin 48) (high : Bool) (t : Nat) (s : State) : Host.Outcome State Fault Refusal :=
  run t (fun _ d => d.gsOff n high t) s

/-- GS_ON_DEADLINE (R204): leg, high or low side. -/
def execGsOnDeadline (n : Fin 48) (high : Bool) (t : Nat) (s : State) : Host.Outcome State Fault Refusal :=
  run t (fun _ d => d.gsOn n high t) s

/-- SC_HI_ACTIVE (R206, R209): leg and V_shunt in units of 62.5 nV. -/
def execScHiActive (n : Fin 48) (v : Int) (t : Nat) (s : State) : Host.Outcome State Fault Refusal :=
  run t (fun _ d => d.scHiSee n v t) s

/-- SC_LO_ACTIVE (R206, R208): leg and V_shunt in units of 62.5 nV. -/
def execScLoActive (n : Fin 48) (v : Int) (t : Nat) (s : State) : Host.Outcome State Fault Refusal :=
  run t (fun _ d => d.scLoSee n v t) s

/-- SC_RELEASE (R206): leg, SC_HI or SC_LO, and V_shunt in units of 62.5 nV. -/
def execScRelease (n : Fin 48) (hi : Bool) (v : Int) (t : Nat) (s : State) : Host.Outcome State Fault Refusal :=
  run t (fun _ d => d.scFall n hi v t) s

/-- BLANKING_END (R208). -/
def execBlankingEnd (n : Fin 48) (t : Nat) (s : State) : Host.Outcome State Fault Refusal :=
  run t (fun _ d => d.blankEnd n t) s

/-- TRIP (R228): a software trip. -/
def execTrip (n : Fin 48) (t : Nat) (s : State) : Host.Outcome State Fault Refusal :=
  runReg t (fun _ d => d.trip n 0x1A false t) s

/-- TRIP_CLR (R214). -/
def execTripClr (n : Fin 48) (t : Nat) (s : State) : Host.Outcome State Fault Refusal :=
  runReg t (fun _ d => d.tripClr n t) s

/-- GFAULT (R218): group and requester port. -/
def execGfault (g : Fin 4) (port : Fin 24) (t : Nat) (s : State) : Host.Outcome State Fault Refusal :=
  runReg t (fun _ d => if d.gfaultFrom g port then d.gfault g t else d) s

/-- GROUP_TRIP (R218). -/
def execGroupTrip (g : Fin 4) (t : Nat) (s : State) : Host.Outcome State Fault Refusal :=
  runReg t (fun _ d => (d.grpTrip g 0x13 0 [] t).settle t) s

/-- GROUP_TRIP_CLR (R220). -/
def execGroupTripClr (g : Fin 4) (t : Nat) (s : State) : Host.Outcome State Fault Refusal :=
  runReg t (fun _ d => d.grpClr g t) s

/-- DEV_TRIP (R219). -/
def execDevTrip (t : Nat) (s : State) : Host.Outcome State Fault Refusal :=
  runReg t (fun _ d => (d.devTrip 5 0 [] t).settle t) s

/-- DEV_TRIP_CLEAR (R220). -/
def execDevTripClear (t : Nat) (s : State) : Host.Outcome State Fault Refusal :=
  runReg t (fun _ d => d.devClr t) s

/-- RPS_ARM (R221): writing ARM from 0 to 1 clears REVERSE. -/
def execRpsArm (t : Nat) (s : State) : Host.Outcome State Fault Refusal :=
  runReg t (fun _ d =>
    let d := if d.flag pSYS SYS.RPS_CTRL_ARM then d else d.setRps { d.pw.rps with reverse := false }
    d.put pSYS SYS.RPS_CTRL_ARM 1) s

/-- RPS_DISARM (R221). -/
def execRpsDisarm (t : Nat) (s : State) : Host.Outcome State Fault Refusal :=
  runReg t (fun _ d => (d.put pSYS SYS.RPS_CTRL_ARM 0).rpsCmd false) s

/-- RPS_DWELL_DONE (R221). -/
def execRpsDwellDone (t : Nat) (s : State) : Host.Outcome State Fault Refusal :=
  run t (fun _ d =>
    if d.flag pSYS SYS.RPS_CTRL_ARM && !d.pw.rps.reverse && d.rpsOk t then
      (d.rpsCmd true).raise pSYS SYS.PSI_IRQ_RAW_RPS_CLOSED
    else d) s

/-- The level of RPS_FB since `since`: the filter accepts it after 1 ms, and a feedback that has differed from the command for
longer than FB_MS fails (R222). -/
def Dev.rpsFb (level : Bool) (since t : Nat) (d : Dev) : Dev :=
  let seen := since + 12800000
  if t < seen then d
  else
    let closed := level != d.flag pSYS SYS.RPS_CFG_FB_INV
    let d := d.setRps { d.pw.rps with fb := closed }
    let from' := max seen (d.pw.rps.cmdAt.getD 0)
    if closed != d.pw.rps.cmd && decide (from' + max 1 (d.get pSYS SYS.RPS_CFG_FB_MS) * 12800000 < t) then
      (d.rpsCmd false).raise pSYS SYS.PSI_IRQ_RAW_RPS_FB_FAIL
    else d

/-- RPS_FB_FAIL (R222): the level of the pin RPS_FB and since when it has held. -/
def execRpsFbFail (level : Bool) (since t : Nat) (s : State) : Host.Outcome State Fault Refusal :=
  run t (fun _ d => d.rpsFb level since t) s

/-- BRK_CMD_WRITE (R224): a one in a reserved bit is R10's. -/
def execBrkCmdWrite (w : Word) (t : Nat) (s : State) : Host.Outcome State Fault Refusal :=
  runRegF t (fun _ d => if 65536 ≤ w.toNat then .error .reservedBit else .ok (d.brkWrite w t)) s

/-- The feedback filter accepts a level that has stood for FILT_MS (R223, R231). -/
def Dev.brkAccepts (since t : Nat) (d : Dev) : Bool :=
  decide (since + clampNat 1 64 (d.get pSYS SYS.BRK_CFG_FILT_MS) * 12800000 ≤ t)

/-- BRK_FB_CHANGE (R223): pair, level of its pin, and since when it has stood. -/
def execBrkFbChange (k : Fin 8) (level : Bool) (since t : Nat) (s : State) : Host.Outcome State Fault Refusal :=
  run t (fun _ d => if d.brkAccepts since t then d.brkFb k level t else d) s

/-- BRK_MISMATCH (R225). -/
def execBrkMismatch (k : Fin 8) (t : Nat) (s : State) : Host.Outcome State Fault Refusal :=
  run t (fun _ d => d.brkMismatch k t) s

end Sys2Proof.Machine
end

