-- ==== Sys2Proof/Machine/Law.lean ====
section
/-!
DEFINITION. The forming law of 02_forming_law.md in the arithmetic of R494: transforms, sequence separation, swing and
droop, virtual impedance, voltage loops, saturation and the integrator rule. Every formula stands in the order R494 gives.
-/
namespace Sys2Proof.Machine

/-- A pair of words with flags. -/
structure FV2 where
  x : FV
  y : FV
  deriving DecidableEq, Repr

def FV2.of (v : V2) : FV2 := ⟨.of v.x, .of v.y⟩
def FV2.w (v : FV2) : V2 := ⟨v.x.w, v.y.w⟩
def FV2.fl (v : FV2) : FFlags := v.x.fl.union v.y.fl
def FV2.mag (v : FV2) : FV := v.x.mag v.y
def FV2.scale (v : FV2) (k : FV) : FV2 := ⟨v.x.mul k, v.y.mul k⟩
def FV2.zero : FV2 := .of .zero

/-- A written constant p / q. -/
def fc (p q : Nat) : FV := .of (fRat p q)
/-- A written integer. -/
def fn (p : Nat) : FV := fc p 1
/-- The binary32 nearest to the square root of 3. -/
def fSqrt3 : FV := .of (fsqrtW (fRat 3 1)).w
/-- The binary32 nearest to half of it. -/
def fHalfSqrt3 : FV := .of (fmulW (fsqrtW (fRat 3 1)).w (fRat 1 2)).w
/-- 2^32 as an operand. -/
def fTurn : FV := fn (2 ^ 32)

/-- Clarke (R29): the alpha-beta pair and the zero component. -/
def clarke (a b c : FV) : FV2 × FV :=
  (⟨(fc 2 3).mul ((a.sub (b.div (fn 2))).sub (c.div (fn 2))), (b.sub c).div fSqrt3⟩, ((a.add b).add c).div (fn 3))

/-- Park at a turn fraction (R29). -/
def park (v : FV2) (phi : Word) : FV2 :=
  ⟨(v.x.mul (fcos phi)).add (v.y.mul (fsin phi)), (v.x.neg.mul (fsin phi)).add (v.y.mul (fcos phi))⟩

/-- Inverse Park (R29). -/
def invPark (v : FV2) (phi : Word) : FV2 :=
  ⟨(v.x.mul (fcos phi)).sub (v.y.mul (fsin phi)), (v.x.mul (fsin phi)).add (v.y.mul (fcos phi))⟩

/-- Inverse Clarke (R29). -/
def invClarke (v : FV2) (z : FV) : FV × FV × FV :=
  (v.x.add z,
   ((v.x.neg.div (fn 2)).add (fHalfSqrt3.mul v.y)).add z,
   ((v.x.neg.div (fn 2)).sub (fHalfSqrt3.mul v.y)).add z)

/-- The largest whole number not above a nonnegative value, by FCVT and a comparison. -/
def floorNat (d : FV) : Nat :=
  let n := d.toInt.1
  (if fLt d.w (fOfInt n).w then n - 1 else n).toNat

/-- A past value by linear interpolation between the two stored samples that bracket it (R31); `ring` newest first. -/
def delayed (ring : List V2) (d : FV) : FV2 :=
  let n := floorNat d
  let frac := d.sub (fOfNat n)
  let p := FV2.of (ring.getD n .zero)
  let q := FV2.of (ring.getD (n + 1) .zero)
  ⟨p.x.add (frac.mul (q.x.sub p.x)), p.y.add (frac.mul (q.y.sub p.y))⟩

/-- Sequence separation by delayed signal cancellation (R31): positive and negative pair. Before the delay's worth of
history exists, the positive pair is the input and the negative pair is zero. -/
def separate (ring : List V2) (x : FV2) (d : FV) : FV2 × FV2 :=
  if fLe d.w (fOfNat (ring.length - 1)).w then
    let p := delayed ring d
    (⟨(fc 1 2).mul (x.x.add p.y.neg), (fc 1 2).mul (x.y.add p.x)⟩,
     ⟨(fc 1 2).mul (x.x.sub p.y.neg), (fc 1 2).mul (x.y.sub p.x)⟩)
  else (x, .zero)

/-- The quarter-period delay in triad samples: 1/(4 f) over T_s. -/
def quarterDelay (f ts : FV) : FV := ((fn 1).div ((fn 4).mul f)).div ts

/-- The active parameters of the GFM page (R55). -/
structure GfmPar where
  h : Word
  d : Word
  tD : Word
  mP : Word
  mQ : Word
  tP : Word
  tQ : Word
  rV : Word
  xV : Word
  tVi : Word
  kpV : Word
  kiV : Word
  xLim : Word
  kFf : Word
  bC : Word
  fDev : Word
  vMin : Word
  vMax : Word
  iLim : Word
  iNegLim : Word
  rNeg : Word
  xNeg : Word
  vScale : Word
  iScale : Word
  neg1 : Bool
  fourWire : Bool
  legDerate : Bool
  sixty : Bool
  /-- TRIAD_PERIOD in ticks -/
  period : Nat
  deriving DecidableEq, Repr

/-- T_s in seconds (R494 item 4). -/
def GfmPar.ts (p : GfmPar) : FV := (fOfNat p.period).mul (fc 25 (10 ^ 10))
/-- Nominal frequency in Hz (R27). -/
def GfmPar.fnom (p : GfmPar) : FV := fn (if p.sixty then 60 else 50)
/-- Triad period in taps. -/
def GfmPar.taps (p : GfmPar) : Nat := p.period * 32

/-- The angle a frequency turns through in one sample, rounded to a turn fraction (R34 step 4). -/
def angleStep (p : GfmPar) (omega : FV) : Int × FFlags := (((omega.mul p.fnom).mul p.ts).mul fTurn).toInt

/-- Active and assigned legs of GA, GB, GC, GN (R58). -/
structure GroupCounts where
  active : List Nat
  assigned : List Nat
  deriving DecidableEq, Repr

/-- The factor m of R40. -/
def derate (p : GfmPar) (g : GroupCounts) : FV :=
  if p.legDerate then
    let r (k : Nat) := (fOfNat (g.active.getD k 0)).div (fOfNat (g.assigned.getD k 0))
    ((r 0).fmin (r 1)).fmin (r 2)
  else fn 1

/-- One step of a first-order lag: x + (T_s / T)(u - x) (R32, R34, R36). -/
def lag (ts : FV) (t : Word) (x u : FV) : FV := x.add ((ts.div (.of t)).mul (u.sub x))

/-- The integrator rule of R42: component, error, its output component, whether that output was saturated. The Bool says
that the clamp acted. -/
def integrate (k lim ts x e out : FV) (sat : Bool) : FV × Bool :=
  let grow := e.mul out
  let pf := if sat then grow.fl else FFlags.none
  if sat && fLt 0 grow.w then (⟨x.w, x.fl.union pf⟩, false)
  else
    let u := x.add ((k.mul ts).mul e)
    let c := u.clamp lim.neg lim
    (⟨c.w, c.fl.union pf⟩, fLt c.w u.w || fLt u.w c.w)

/-- What the law forms in one sample besides its state: the quantities the tests of R61 step 5 use. -/
structure LawObs where
  p : FV
  q : FV
  pm : FV
  eMag : FV
  vP : FV
  vN : FV
  v0 : FV
  iSatP : Bool
  deriving DecidableEq, Repr

/-- One sample's inputs in pu: capacitor voltage and output current in alpha-beta, their zero components. -/
structure LawSignals where
  v : FV2
  v0 : FV
  i : FV2
  i0 : FV
  deriving DecidableEq, Repr

/-- The value an input reads as: its last valid sample, zero before the first (R44). -/
def HeldInput.value (h : HeldInput) : Int := h.last.getD 0

/-- Counts to pu (R28), FCVT and the scale. -/
def toPu (hs : List HeldInput) (scale : Word) (k : Nat) : FV := (fOfInt ((hs.getD k ⟨none, 0⟩).value)).mul (.of scale)

/-- The three phases from index k on, in alpha-beta and zero. -/
def phases (hs : List HeldInput) (scale : Word) (k : Nat) : FV2 × FV :=
  clarke (toPu hs scale k) (toPu hs scale (k + 1)) (toPu hs scale (k + 2))

/-- The sequence components of one sample in their frames, and the measured power (R29 to R31). -/
structure Sequences where
  vP : FV2
  iP : FV2
  vN : FV2
  iN : FV2
  p : FV
  q : FV

/-- The ring with this sample stored (R43). -/
def lawRing (x : LawSignals) (l : LawState) : List RingEntry :=
  (⟨x.v.w, x.i.w, l.farRing.headD .zero⟩ :: l.ring).take 600

/-- Store, separate with the held frequency, Park, power. -/
def lawSequences (p : GfmPar) (x : LawSignals) (l : LawState) : Sequences :=
  let ring := lawRing x l
  let d := quarterDelay ((FV.of l.omega).mul p.fnom) p.ts
  let vs := separate (ring.map (·.v)) x.v d
  let is := separate (ring.map (·.i)) x.i d
  let vP := park vs.1 l.theta
  let iP := park is.1 l.theta
  { vP := vP, iP := iP, vN := park vs.2 (0 - l.theta), iN := park is.2 (0 - l.theta),
    p := (vP.x.mul iP.x).add (vP.y.mul iP.y), q := (vP.y.mul iP.x).sub (vP.x.mul iP.y) }

/-- The layer-2 raise (R89): z against the present raise. -/
def viRaise (ts : FV) (thr k max rel : Word) (im ilim delta : FV) : FV :=
  let z := (FV.of k).mul ((fn 0).fmax (im.sub ((FV.of thr).mul ilim)))
  if fLt delta.w z.w then z.fmin (.of max)
  else
    let r := delta.add ((ts.div (.of rel)).mul (z.sub delta))
    if fLt r.w (fRat 1 1000) then ⟨0, r.fl⟩ else r

/-- The parameters of layer 2 and what ride-through freezes. -/
structure RtPar where
  viThr : Word
  viK : Word
  viXr : Word
  viMax : Word
  viRel : Word
  swingHold : Bool
  deriving DecidableEq, Repr

/-- Set points of one sample (R43): p*, q*, omega_set, v_set. -/
structure SetPoints where
  p : Word
  q : Word
  w : Word
  v : Word
  deriving DecidableEq, Repr

/-- Everything one evaluation of the law forms before it is known to be finite (R43, R45). -/
structure LawNext where
  st : LawState
  vec : RefVector
  obs : LawObs
  fl : FFlags

/-- The limit word of R56. -/
def limitWord (nonfinite rt vi hold der xc satN satP vl fl : Bool) : Word :=
  BitVec.ofNat 32 (nonfinite.toNat * 512 + rt.toNat * 256 + vi.toNat * 128 + hold.toNat * 64 + der.toNat * 32 +
    xc.toNat * 16 + satN.toNat * 8 + satP.toNat * 4 + vl.toNat * 2 + fl.toNat)

/-- All words that the law forms in binary32 are finite (R45). -/
def RefVector.finite (v : RefVector) : Bool :=
  !(isNonFinite v.omega || isNonFinite v.e.x || isNonFinite v.e.y || isNonFinite v.iP.x || isNonFinite v.iP.y ||
    isNonFinite v.iN.x || isNonFinite v.iN.y || isNonFinite v.i0 || isNonFinite v.rv || isNonFinite v.xv ||
    isNonFinite v.ilim)

/-- One evaluation of the law (R43): from the state, the set points, the signals and the counts to the next state and the
vector. `rt` is true in RIDE_THROUGH (R91); `k` scales the current references in a controlled shutdown (R44). -/
def lawEval (p : GfmPar) (r : RtPar) (g : GroupCounts) (stamp sampleNo paramSet : Nat) (rt : Bool) (k : Option FV)
    (sp : SetPoints) (x : LawSignals) (l : LawState) : LawNext :=
  let ts := p.ts
  let om0 := FV.of l.omega
  let ring := lawRing x l
  let z := lawSequences p x l
  let vP := z.vP
  let iP := z.iP
  let vN := z.vN
  let iN := z.iN
  let pw := z.p
  let qw := z.q
  -- R32
  let pf := if rt then FV.of l.pf else lag ts p.tP (.of l.pf) pw
  let qf := if rt then FV.of l.qf else lag ts p.tQ (.of l.qf) qw
  -- R33, R34
  let pm := (FV.of sp.p).add (((FV.of sp.w).sub om0).div (.of p.mP))
  let damp := (FV.of p.d).mul (om0.sub (.of l.omegaW))
  let bal := if rt && r.swingHold then (fn 0).sub damp else (pm.sub pf).sub damp
  let omN := om0.add ((ts.div ((fn 2).mul (.of p.h))).mul bal)
  let omW := lag ts p.tD (.of l.omegaW) om0
  let om := omN.clamp ((fn 1).sub (.of p.fDev)) ((fn 1).add (.of p.fDev))
  let fLim := om.w != omN.w
  let dth := angleStep p om
  let thNext := l.theta + BitVec.ofInt 32 dth.1
  -- R35
  let vs0 := (FV.of sp.v).sub ((FV.of p.mQ).mul (qf.sub (.of sp.q)))
  let vStar := vs0.clamp (.of p.vMin) (.of p.vMax)
  let vLim := vStar.w != vs0.w
  -- R40
  let m := derate p g
  let ilim := (FV.of p.iLim).mul m
  let der := fLt m.w (fRat 1 1)
  -- R89, R36
  let im := x.i.mag.add x.i0.abs
  let delta := viRaise ts r.viThr r.viK r.viMax r.viRel im (match l.ilim with | none => ilim | some w => .of w)
    (.of l.rt.delta)
  let rve := (FV.of p.rV).add (delta.div (.of r.viXr))
  let xve := (FV.of p.xV).add delta
  let iFx := lag ts p.tVi (.of l.iF.x) iP.x
  let iFy := lag ts p.tVi (.of l.iF.y) iP.y
  let eD := (vStar.sub (rve.mul iFx)).add ((xve.mul om).mul iFy)
  let eQ := ((rve.mul iFy).neg).sub ((xve.mul om).mul iFx)
  -- R37
  let errD := eD.sub vP.x
  let errQ := eQ.sub vP.y
  let kp := FV.of p.kpV
  let kf := FV.of p.kFf
  let bc := om.mul (.of p.bC)
  let iD0 := (((kf.mul iP.x).add (kp.mul errD)).add (.of l.xP.x)).sub (bc.mul vP.y)
  let iQ0 := (((kf.mul iP.y).add (kp.mul errQ)).add (.of l.xP.y)).add (bc.mul vP.x)
  -- R38
  let xnw := (FV.of p.xNeg).mul om.neg
  let rn := FV.of p.rNeg
  let enD := ((rn.mul iN.x).neg).add (xnw.mul iN.y)
  let enQ := ((rn.mul iN.y).neg).sub (xnw.mul iN.x)
  let errND := enD.sub vN.x
  let errNQ := enQ.sub vN.y
  let iN0 : FV2 := if p.neg1 then
      ⟨((kf.mul iN.x).add (kp.mul errND)).add (.of l.xN.x), ((kf.mul iN.y).add (kp.mul errNQ)).add (.of l.xN.y)⟩
    else .zero
  -- R39
  let err0 := (fn 0).sub x.v0
  let iZ := if p.fourWire then (kp.mul err0).add (.of l.x0) else fn 0
  -- R41
  let magN := iN0.mag
  let satN := fLt p.iNegLim magN.w
  let iN1 := if satN then iN0.scale ((FV.of p.iNegLim).div magN) else iN0
  let lim := ((ilim.sub iN1.mag).sub iZ.abs).fmax (fn 0)
  let magP := (FV2.mag ⟨iD0, iQ0⟩)
  let satP := fLt lim.w magP.w
  let iP1 : FV2 := if satP then FV2.scale ⟨iD0, iQ0⟩ (lim.div magP) else ⟨iD0, iQ0⟩
  -- R42
  let ki := FV.of p.kiV
  let xl := FV.of p.xLim
  let nd := integrate ki xl ts (.of l.xP.x) errD iP1.x satP
  let nq := integrate ki xl ts (.of l.xP.y) errQ iP1.y satP
  let nnd := if p.neg1 then integrate ki xl ts (.of l.xN.x) errND iN1.x satN else (FV.of l.xN.x, false)
  let nnq := if p.neg1 then integrate ki xl ts (.of l.xN.y) errNQ iN1.y satN else (FV.of l.xN.y, false)
  let nz := if p.fourWire then integrate ki xl ts (.of l.x0) err0 iZ false else (FV.of l.x0, false)
  let frozen := rt
  let xc := !frozen && (nd.2 || nq.2 || nnd.2 || nnq.2 || nz.2)
  let sc (v : FV) : FV := match k with | none => v | some f => v.mul f
  let lw := limitWord false rt (fLt 0 delta.w) l.holdNow der xc satN satP vLim fLim
  let vec : RefVector :=
    { stamp := BitVec.ofNat 32 stamp, sampleNo := BitVec.ofNat 32 sampleNo, theta := l.theta, omega := om.w,
      e := ⟨eD.w, eQ.w⟩, iP := ⟨(sc iP1.x).w, (sc iP1.y).w⟩, iN := ⟨(sc iN1.x).w, (sc iN1.y).w⟩, i0 := (sc iZ).w,
      rv := rve.w, xv := xve.w, ilim := ilim.w, limit := lw, paramSet := BitVec.ofNat 32 (paramSet % 65536) }
  let fl := (((((((pf.fl.union qf.fl).union om.fl).union omW.fl).union vStar.fl).union iP1.fl).union iN1.fl).union
    iZ.fl).union ((((nd.1.fl.union nq.1.fl).union nnd.1.fl).union nnq.1.fl).union (nz.1.fl.union (dth.2.union (ilim.fl.union delta.fl))))
  let fl := (fl.union (lim.fl.union (magN.fl.union magP.fl))).union ((sc iP1.x).fl.union ((sc iN1.x).fl.union (sc iZ).fl))
  let fl := fl.union ((eD.fl.union eQ.fl).union (rve.fl.union xve.fl))
  { st := { l with
      theta := thNext, omega := om.w, omegaW := omW.w, pf := pf.w, qf := qf.w,
      vStar := vStar.w, iF := ⟨iFx.w, iFy.w⟩,
      xP := if frozen then l.xP else ⟨nd.1.w, nq.1.w⟩, xN := if frozen then l.xN else ⟨nnd.1.w, nnq.1.w⟩,
      x0 := if frozen then l.x0 else nz.1.w, ilim := some ilim.w, ring := ring,
      cycleEnd := decide (thNext.toNat < l.theta.toNat), nonFinite := 0, vec := vec,
      rt := { l.rt with delta := delta.w } },
    vec := vec,
    obs := { p := pw, q := qw, pm := pm, eMag := FV2.mag ⟨eD, eQ⟩, vP := vP.mag, vN := vN.mag, v0 := x.v0.abs,
             iSatP := satP },
    fl := fl }

/-- The step of R45 when a value is not finite: the previous vector with the angle advanced, the new stamp and number and
NONFINITE; filters, integrators and frequency stay. The sample stands in the ring, as R43 stores it first. -/
def lawNonFinite (p : GfmPar) (stamp sampleNo : Nat) (ring : List RingEntry) (l : LawState) : LawState :=
  let dth := BitVec.ofInt 32 (angleStep p (.of l.omega)).1
  let th := l.vec.theta + dth
  { l with
    theta := th + dth, ring := ring, nonFinite := l.nonFinite + 1,
    cycleEnd := decide ((th + dth).toNat < th.toNat),
    vec := { l.vec with stamp := BitVec.ofNat 32 stamp, sampleNo := BitVec.ofNat 32 sampleNo, theta := th,
                        limit := l.vec.limit ||| 0x200 } }

/-- The turn fraction of a vector, nearest to the exact angle. The direction is doubled 33 times by squaring the vector as
a complex number, kept to 128 bits; each doubling gives one bit of the angle (log entry 12). -/
def turnBits : Nat → Int → Int → Nat
  | 0, _, _ => 0
  | k + 1, x, y =>
    let b : Nat := if y < 0 || (y = 0 && x < 0) then 1 else 0
    let x2 := x * x - y * y
    let y2 := 2 * x * y
    let n := Nat.log2 (x2.natAbs + y2.natAbs)
    let sh := n - 128
    b * 2 ^ k + turnBits k (x2 / 2 ^ sh) (y2 / 2 ^ sh)

/-- The angle of (x, y) as a turn fraction. -/
def turnAngle (x y : Word) : Word :=
  match fDecode x, fDecode y with
  | .fin n1 m1 e1, .fin n2 m2 e2 =>
    if m1 = 0 && m2 = 0 then Config.angleOpen x y
    else
      let e := min e1 e2
      let e1' := if m1 = 0 then e2 else e1
      let e2' := if m2 = 0 then e1 else e2
      let e' := if m1 = 0 then e2 else if m2 = 0 then e1 else e
      let a := sMan n1 m1 * 2 ^ (e1' - e').toNat
      let b := sMan n2 m2 * 2 ^ (e2' - e').toNat
      let big : Int := 2 ^ 100
      BitVec.ofNat 32 ((turnBits 33 (a * big) (b * big) + 1) / 2)
  | _, _ => Config.angleOpen x y

end Sys2Proof.Machine
end

