-- ==== Sys2Proof/Machine/Frt.lean ====
section
/-!
DEFINITION. The ride-through curves of R92, with the boundary formed in binary32.
-/
namespace Sys2Proof.Machine

/-- A finite binary32 value times 2^149, an integer. -/
def fScaled (w : Word) : Int :=
  match fDecode w with
  | .fin n m e => sMan n m * 2 ^ (e + 149).toNat
  | .inf s => if s then -(2 ^ 300) else 2 ^ 300
  | .nan => 0

/-- One curve point (R103): T_MS and V, V in units of 1/16,384 pu. -/
structure CurvePoint where
  ms : Nat
  v : Nat
  deriving DecidableEq, Repr

/-- The largest i with T_i ≤ t (R92); t in taps. -/
def curveIndex (pts : List CurvePoint) (t : Nat) : Nat :=
  ((List.range 16).filter (fun i => (pts.getD i ⟨0, 0⟩).ms * 12800000 ≤ t)).foldl max 0

/-- The boundary b(t) of R92, formed in binary32 in the order written (R494); t in ms is the binary32 nearest to the elapsed
time (log entry 18). -/
def curveBound (pts : List CurvePoint) (t : Nat) : FV :=
  let i := curveIndex pts t
  let p := pts.getD i ⟨0, 0⟩
  let v (x : CurvePoint) : FV := fc x.v 16384
  if 15 ≤ i then v p
  else
    let q := pts.getD (i + 1) ⟨0, 0⟩
    let dt := (fc t 12800000).sub (fOfNat p.ms)
    (v p).add ((((v q).sub (v p)).mul dt).div ((fOfNat q.ms).sub (fOfNat p.ms)))

/-- v_LV < b_LV(t). -/
def belowCurve (pts : List CurvePoint) (t : Nat) (w : Word) : Bool := fLt w (curveBound pts t).w
/-- v_HV > b_HV(t). -/
def aboveCurve (pts : List CurvePoint) (t : Nat) (w : Word) : Bool := fLt (curveBound pts t).w w

end Sys2Proof.Machine
end

