-- ==== Sys2Proof/Machine/Profile.lean ====
section
/-!
DEFINITION. The set-point profiles of R62 to R66: one channel's step, and the channels' overrides by sequencer state.
-/
namespace Sys2Proof.Machine

/-- Target and limits of one channel (R62). -/
structure ChanPar where
  tgt : Word
  vel : Word
  acc : Word
  jrk : Word
  deriving DecidableEq, Repr

/-- A limit of 0 is absent (R62). -/
def absent (w : Word) : Bool := decide (valKey w = 0)

/-- sign(e) * x for e not zero. -/
def withSign (e : Word) (x : FV) : FV := if fLt e 0 then x.neg else x

/-- The braking term s of R63. -/
def brakeSpeed (al : FV) (jl : Word) (ae : FV) : FV :=
  let t := ((fn 2).mul al).mul ae
  if absent jl then t.sqrt
  else
    let j := FV.of jl
    ((((((al.mul al).mul al).mul al).div ((fn 4).mul (j.mul j))).add t).sqrt).sub ((al.mul al).div ((fn 2).mul j))

/-- A channel after its step, whether it arrived, and the flags of the step (R63, R139). -/
structure ChanOut where
  ch : Chan
  arr : Bool
  fl : FFlags
  deriving DecidableEq, Repr

/-- One step of a channel (R63). -/
def chanStep (ts : FV) (c : ChanPar) (ch : Chan) : ChanOut :=
  let tgt := FV.of c.tgt
  let y := FV.of ch.y
  let e := tgt.sub y
  let rest : Chan := ⟨c.tgt, 0, 0⟩
  let moving := e.w != 0 || ch.v != 0 || ch.a != 0
  if absent c.vel && absent c.acc then ⟨rest, moving, e.fl⟩
  else
    let ae := e.abs
    let va : FV × FV :=
      if absent c.acc then (withSign e.w ((FV.of c.vel).fmin (ae.div ts)), FV.of 0)
      else
        let al := FV.of c.acc
        let s := brakeSpeed al c.jrk ae
        let vd := withSign e.w (if absent c.vel then s else (FV.of c.vel).fmin s)
        let ad := ((vd.sub (.of ch.v)).div ts).clamp al.neg al
        let a :=
          if absent c.jrk then ad
          else
            let st := (FV.of c.jrk).mul ts
            ((FV.of ch.a).add ((ad.sub (.of ch.a)).clamp st.neg st)).clamp al.neg al
        let v := (FV.of ch.v).add (a.mul ts)
        (if absent c.vel then v else v.clamp (FV.of c.vel).neg (.of c.vel), a)
    let yn := y.add (va.1.mul ts)
    let past := (tgt.sub yn).mul e
    let fl := (va.1.fl.union va.2.fl).union past.fl
    if valKey e.w = 0 || fLe past.w 0 then ⟨rest, moving, fl⟩ else ⟨⟨yn.w, va.1.w, va.2.w⟩, false, fl⟩

/-- A channel at rest at its target. -/
def Chan.arrived (c : Chan) (tgt : Word) : Bool := decide (valKey c.y = valKey tgt) && decide (valKey c.v = 0)

end Sys2Proof.Machine
end

