-- ==== Sys2Proof/Machine/Transit.lean ====
section
/-!
DEFINITION. The transit sequencer of R72 to R86: each timed transition, each feedback reaction and each command is one
function of the law state, guarded by the rule's own condition.
-/
namespace Sys2Proof.Machine

/-- One millisecond in taps. -/
def msTaps (n : Nat) : Nat := n * 12800000

/-- The TRANSIT settings (R100), the RWS ones from the active set. -/
structure TrPar where
  outBrk : Nat
  pccBrk : Nat
  pccPresent : Bool
  lead : Bool
  deadClose : Bool
  stopOpen : Bool
  fallback : Nat
  deadV : Word
  deadMs : Nat
  closeMs : Nat
  fbMs : Nat
  bsV0 : Word
  bsRate : Word
  syncAng : Word
  syncDf : Word
  syncDv : Word
  syncKw : Word
  timeoutS : Nat
  dwell : Nat
  busScale : Word
  gridScale : Word
  /-- T_START as network time in taps, and THETA0 -/
  tStart : Nat
  theta0 : Word
  deriving DecidableEq, Repr

/-- The FRT settings (R102), from the active set. -/
structure FrtPar where
  rtEn : Bool
  satEntry : Bool
  tripStop : Bool
  entryV : Word
  exitV : Word
  entryVh : Word
  exitVh : Word
  satN : Nat
  exitN : Nat
  rearmMs : Nat
  tmaxMs : Nat
  recRate : Word
  lv : List CurvePoint
  hv : List CurvePoint
  vi : RtPar
  deriving DecidableEq, Repr

/-- The PROFILE settings (R99), from the active set. -/
structure PrfPar where
  p : ChanPar
  q : ChanPar
  w : ChanPar
  v : ChanPar
  feAction : Bool
  feVEn : Bool
  fePEn : Bool
  fePLim : Word
  feVLim : Word
  feCyc : Nat
  deriving DecidableEq, Repr

/-- One sigma-delta frame as the law reads it. -/
structure LawFrame where
  valid : Bool
  data : Int
  /-- HOLD_MAX of the page that carries the input (R44) -/
  holdMax : Nat
  deriving DecidableEq, Repr

/-- What Psizon presents to every member in one triad sample (R61 step 1). -/
structure LawIn where
  /-- the triad tick -/
  t : Nat
  /-- the sample instant t_k: the tick less TICK_PHASE, when the frames were taken (R46, R128; log entry 16) -/
  tk : Nat
  sampleNo : Nat
  paramSet : Nat
  cmd : Option Nat
  outFb : Bool
  pccFb : Bool
  v : List LawFrame
  i : List LawFrame
  bus : List LawFrame
  grid : List LawFrame
  ntLocked : Bool
  ntValid : Bool
  /-- network time at the tick, in taps -/
  ntTaps : Nat
  wireEdge : Option Nat
  permit : Bool
  /-- CLK.STATUS.HOLD (R439) -/
  clkHold : Bool
  /-- bypass was entered with BYPASS_ACTION = 0 since the last tick (R439) -/
  clkStop : Bool
  /-- the device latch has set since the last tick (R219) -/
  devTrip : Bool
  counts : GroupCounts
  /-- the start checks of R52 and R76: cause and offset of the first failure -/
  refusal : Option (Nat × Nat)
  gfm : GfmPar
  tr : TrPar
  frt : FrtPar
  prf : PrfPar
  deriving DecidableEq, Repr

/-- Set a bit of a mask. -/
def setBit (m b : Nat) : Nat := m ||| 2 ^ b
/-- Clear a bit of a mask. -/
def clearBit (m b : Nat) : Nat := if m.testBit b then m - 2 ^ b else m

/-- Raise a TRANSIT event (R100). -/
def LawState.trEvent (b : Nat) (l : LawState) : LawState :=
  { l with out := { l.out with trIrq := setBit l.out.trIrq b } }
/-- Flags of the member's arithmetic in this sample (R139). -/
def LawState.note (f : FFlags) (l : LawState) : LawState :=
  { l with out := { l.out with flags := l.out.flags.union f } }
/-- Raise an FRT event (R102). -/
def LawState.frtEvent (b : Nat) (l : LawState) : LawState :=
  { l with out := { l.out with frtIrq := setBit l.out.frtIrq b } }
/-- Raise a PROFILE event (R99). -/
def LawState.prfEvent (b : Nat) (l : LawState) : LawState :=
  { l with out := { l.out with prfIrq := setBit l.out.prfIrq b } }
/-- Raise a GFM event (R54). -/
def LawState.gfmEvent (b : Nat) (l : LawState) : LawState :=
  { l with out := { l.out with gfmIrq := setBit l.out.gfmIrq b } }
/-- Record a cause with the state in force (R100 FAULT_CODE). -/
def LawState.trCause (c : Nat) (l : LawState) : LawState :=
  { l with out := { l.out with trFault := some (c, l.seq.st.code), cause := c } }

/-- The states in which the following-error timers hold (R70). -/
def TrState.feHold : TrState → Bool
  | .energise | .rideThrough | .recover | .stopping => true
  | .idle | .deadbus | .closeOut | .armed | .island | .sync | .closeBrk | .grid | .openPcc => false

/-- Enter a state: its instant, the event STATE_CHANGE, the dwell at zero; the following-error timers return to zero on
leaving the states of R70. -/
def LawState.goto (t : Nat) (st : TrState) (l : LawState) : LawState :=
  if l.seq.st = st then l
  else
    let l := l.trEvent 0
    let zero := l.seq.st.feHold && !st.feHold
    { l with
      seq := { l.seq with st := st, since := t, dwell := 0, cycleOk := false, syncOk := false },
      feP := if zero then 0 else l.feP, feV := if zero then 0 else l.feV }

/-- Enter IDLE with a cause, or with none: the law stops if it ran; from a state with the output
contactor closed its command is released under STOP_OPEN (R74). -/
def LawState.toIdle (i : LawIn) (cause : Option Nat) (l : LawState) : LawState :=
  let l := match cause with
    | none => l
    | some c => if c = 0x11 then l.trCause c else (l.trCause c).trEvent 2
  let was := l.seq.st
  let ran := was.runs
  let l := l.goto i.t .idle
  { l with
    seq := { l.seq with brk := if i.tr.stopOpen && l.seq.outClosed && was != .idle then clearBit l.seq.brk i.tr.outBrk else l.seq.brk,
                        mission := .none, brkWait := none, pendStop := none },
    far := .off, farRing := [],
    rt := { l.rt with pendEntry := false, pendExit := false },
    out := { l.out with stopped := ran || l.out.stopped, legsOff := ran || l.out.legsOff } }

/-- The controlled shutdown of R44: references ramp to zero in STOPPING. Under R44 and R45 themselves, and R115, GFM
reports HOLD_EXPIRED. -/
def LawState.shutdown (i : LawIn) (cause : Nat) (l : LawState) : LawState :=
  if !l.seq.st.runs || l.seq.st = .stopping then l
  else
    let l := if cause = 0x11 then l.trCause cause else (l.trCause cause).trEvent 2
    let l := if cause = 0x10 then l.gfmEvent 7 else l
    let l := l.goto i.t .stopping
    { l with seq := { l.seq with shutCause := cause, mission := .none, pendStop := none }, far := .off, farRing := [] }

/-- GRID if the point-of-connection breaker is present and closed, else ISLAND (R75). -/
def LawState.forming (i : LawIn) (l : LawState) : LawState :=
  l.goto i.t (if i.tr.pccPresent && l.seq.pccClosed then .grid else .island)

/-- Law start (R52, R76): the checks, the permission, the initial state. -/
def LawState.startLaw (i : LawIn) (theta omega vy : Word) (st : TrState) (l : LawState) : LawState :=
  match i.refusal with
  | some (c, o) =>
    let l := (l.toIdle i (some 0x07)).gfmEvent 3
    { l with out := { l.out with gfmFault := some (c, o) } }
  | none =>
    if !i.permit then l.toIdle i (some 0x0B)
    else
      let l := l.goto i.t st
      { l with
        seq := { l.seq with mission := if st = .energise then .none else l.seq.mission },
        theta := theta, omega := omega, omegaW := omega, pf := 0, qf := 0, iF := .zero,
        xP := .zero, xN := .zero, x0 := 0, ilim := none, ring := [], nonFinite := 0, cycleEnd := false,
        holdNow := false, inputs := List.replicate 6 ⟨none, 0⟩ ++ l.inputs.drop 6, arrP := false, arrV := false,
        chP := ⟨i.prf.p.tgt, 0, 0⟩, chQ := ⟨i.prf.q.tgt, 0, 0⟩, chW := ⟨i.prf.w.tgt, 0, 0⟩, chV := ⟨vy, 0, 0⟩,
        rt := { l.rt with delta := 0, satRun := 0, exitRun := 0, pendEntry := false, pendExit := false },
        feP := 0, feV := 0, fePrun := true, feVrun := true,
        vec := { l.vec with limit := 0 },
        out := { l.out with started := true } }

/-- Command a breaker closed and wait for its feedback (R74). -/
def LawState.closeCmd (i : LawIn) (b : Nat) (l : LawState) : LawState :=
  { l with seq := { l.seq with brk := setBit l.seq.brk b, brkWait := some (true, i.t) } }
/-- Release a breaker command. -/
def LawState.release (b : Nat) (l : LawState) : LawState :=
  { l with seq := { l.seq with brk := clearBit l.seq.brk b, brkWait := none } }

/-- The breaker a mission closes (R82, R80). -/
def LawState.missionBrk (i : LawIn) (l : LawState) : Nat :=
  if l.seq.mission = .reconnect then i.tr.pccBrk else i.tr.outBrk

/-- Begin the far-side measurement (R80). -/
def LawState.farStart (i : LawIn) (grid : Bool) (l : LawState) : LawState :=
  { l with far := ⟨true, grid, i.t, 0, 0, 0, 0⟩, farRing := [] }

/-- R74: the contactor opened without a command while the law runs. -/
def LawState.outOpened (i : LawIn) (was : Bool) (l : LawState) : LawState :=
  if l.seq.st.runs && was && !i.outFb && l.seq.brk.testBit i.tr.outBrk then l.shutdown i 0x0A else l

/-- R84: the point-of-connection breaker opened without a command while the law runs. -/
def LawState.islanded (i : LawIn) (was : Bool) (l : LawState) : LawState :=
  if l.seq.st.runs && i.tr.pccPresent && was && !i.pccFb && (l.seq.brk.testBit i.tr.pccBrk || l.seq.st = .grid) then
    let l := l.trEvent 3
    if l.seq.st = .grid then l.goto i.t .island else l
  else l

/-- The feedback a waiting command looks at. -/
def LawState.waitedFb (i : LawIn) (l : LawState) : Bool :=
  if l.seq.mission = .reconnect || l.seq.st = .openPcc then i.pccFb else i.outFb

/-- The reaction to the awaited feedback (R77, R82, R85, R90). -/
def LawState.fbArrived (i : LawIn) (l : LawState) : LawState :=
  match l.seq.st with
  | .closeOut =>
    if i.outFb then
      let l := { l with seq := { l.seq with brkWait := none } }
      if l.seq.mission = .armStart then l.goto i.t .armed
      else l.startLaw i 0 i.prf.w.tgt i.tr.bsV0 .energise
    else l
  | .closeBrk =>
    if l.waitedFb i then
      let l := l.trEvent 4
      let l := { l with seq := { l.seq with brkWait := none, mission := .none }, far := .off, farRing := [] }
      l.forming i
    else l
  | .openPcc =>
    if !i.pccFb then
      let l := { l with seq := { l.seq with brkWait := none } }
      l.goto i.t .island
    else l
  | .rideThrough | .recover =>
    match l.seq.brkWait with
    | some (true, _) =>
      if l.waitedFb i then
        let l := l.trEvent 4
        { l with seq := { l.seq with brkWait := none, mission := .none }, far := .off, farRing := [] }
      else l
    | some (false, _) => if !i.pccFb then { l with seq := { l.seq with brkWait := none } } else l
    | none => l
  | .idle | .deadbus | .armed | .energise | .island | .sync | .grid | .stopping => l

/-- Step 2(b) of R61: a change of breaker feedback. -/
def LawState.stepFeedback (i : LawIn) (l : LawState) : LawState :=
  let wasOut := l.seq.outClosed
  let wasPcc := l.seq.pccClosed
  let l := { l with seq := { l.seq with outClosed := i.outFb, pccClosed := i.pccFb } }
  ((l.outOpened i wasOut).islanded i wasPcc).fbArrived i

/-- Step 2(a) of R61: a device trip, a loss of permission, a trip or shutdown decided in the previous sample. -/
def LawState.stepStops (i : LawIn) (l : LawState) : LawState :=
  let l := if i.devTrip && l.seq.st != .idle then l.toIdle i (some 0x12) else l
  let l := if !i.permit && l.seq.st.runs then l.toIdle i (some 0x0B) else l
  let l := if i.clkStop then l.shutdown i 0x10 else l
  match l.seq.pendStop with
  | none => l
  | some (atOnce, c) =>
    let l := { l with seq := { l.seq with pendStop := none } }
    if !l.seq.st.runs then l else if atOnce then l.toIdle i (some c) else l.shutdown i c

/-- Step 2(c), entry (R90, R95). -/
def LawState.rtEnter (i : LawIn) (l : LawState) : LawState :=
  let keep := match l.rt.exitAt with
    | none => false
    | some x => decide (i.t ≤ x + msTaps i.frt.rearmMs)
  let l := if l.seq.st = .sync then { l with seq := { l.seq with mission := .none }, far := .off, farRing := [] } else l
  let l := l.goto i.t .rideThrough
  { l with rt := { l.rt with
      pendEntry := false, exitRun := 0, entryAt := if keep then l.rt.entryAt else some i.t, lastEntry := some i.t,
      entries := min 65535 (l.rt.entries + 1) } }

/-- The law's signals in this sample, from the inputs as held (R43, R44). -/
def LawState.signals (i : LawIn) (l : LawState) : LawSignals :=
  let v := phases l.inputs i.gfm.vScale 0
  let c := phases l.inputs i.gfm.iScale 3
  ⟨v.1, v.2, c.1, c.2⟩

/-- Step 2(c), exit: RECOVER loads the power filters with p and q of this sample, and channel P (R94). -/
def LawState.rtLeave (i : LawIn) (l : LawState) : LawState :=
  let z := lawSequences i.gfm (l.signals i) l
  let l := l.goto i.t .recover
  let y := z.p.sub (((FV.of l.chW.y).sub (.of l.omega)).div (.of i.gfm.mP))
  let l := l.note (z.q.fl.union y.fl)
  { l with pf := z.p.w, qf := z.q.w, chP := ⟨y.w, 0, 0⟩, arrP := false,
           rt := { l.rt with pendExit := false, exitAt := some i.t, satRun := 0 } }

/-- Step 2(c) of R61. -/
def LawState.stepRt (i : LawIn) (l : LawState) : LawState :=
  if l.rt.pendEntry then
    (match l.seq.st with
     | .island | .grid | .sync | .closeBrk | .openPcc | .recover => l.rtEnter i
     | .idle | .deadbus | .closeOut | .armed | .energise | .rideThrough | .stopping =>
       { l with rt := { l.rt with pendEntry := false } })
  else if l.rt.pendExit then
    (if l.seq.st = .rideThrough then l.rtLeave i else { l with rt := { l.rt with pendExit := false } })
  else l

/-- DEADBUS (R77 step 1): a live bus ends it; DEAD_MS of dead bus asserts OUT_BRK. -/
def LawState.trDeadbus (i : LawIn) (l : LawState) : LawState :=
  if l.seq.st = .deadbus then
    if !l.seq.busDead then l.toIdle i (some 0x03)
    else if l.seq.since + msTaps i.tr.deadMs ≤ i.t then (l.closeCmd i i.tr.outBrk).goto i.t .closeOut
    else l
  else l

/-- Breaker feedback not received within FB_MS (R74, R82, R85). -/
def LawState.trFbTimeout (i : LawIn) (l : LawState) : LawState :=
  match l.seq.brkWait with
  | none => l
  | some (closing, t0) =>
    if t0 + msTaps i.tr.fbMs ≤ i.t then
      (match l.seq.st with
       | .closeOut => ((l.release i.tr.outBrk).trEvent 5).toIdle i (some 0x04)
       | .closeBrk =>
         let l := (l.release (l.missionBrk i)).trEvent 5
         if l.seq.mission = .reconnect then
           let l := (l.trCause 0x04).goto i.t .island
           { l with seq := { l.seq with mission := .none }, far := .off, farRing := [] }
         else l.shutdown i 0x04
       | .openPcc =>
         let l := ((l.trCause 0x13).trEvent 5).goto i.t .grid
         { l with seq := { l.seq with brk := setBit l.seq.brk i.tr.pccBrk, brkWait := none } }
       | .rideThrough | .recover =>
         if closing then ((l.release (l.missionBrk i)).trCause 0x04).trEvent 5
         else
           let l := (l.trCause 0x13).trEvent 5
           { l with seq := { l.seq with brk := setBit l.seq.brk i.tr.pccBrk, brkWait := none } }
       | .idle | .deadbus | .armed | .energise | .island | .sync | .grid | .stopping => l)
    else l

/-- The turn from the start instant to the tick (R78). -/
def startTurn (i : LawIn) (dTaps : Nat) : FV :=
  let dt := ((fOfNat dTaps).div (fn 32)).mul (fc 25 (10 ^ 10))
  (((FV.of i.prf.w.tgt).mul i.gfm.fnom).mul dt).mul fTurn

/-- The start angle of R78: THETA0 advanced from the start instant to the tick. -/
def startAngle (i : LawIn) (theta0 : Word) (dTaps : Nat) : Word := theta0 + BitVec.ofInt 32 (startTurn i dTaps).toInt.1

/-- The instant at which a lead unit drives the trigger wire (R79). -/
def LawState.leadDue (i : LawIn) (l : LawState) : Bool :=
  if i.ntValid then decide (l.seq.tStart ≤ i.ntTaps)
  else decide (l.seq.presented + msTaps (i.tr.deadMs + i.tr.fbMs + 100) ≤ i.t)

/-- R79: the lead unit reaches its wire instant. -/
def LawState.trLeadWire (i : LawIn) (l : LawState) : LawState :=
  if l.seq.mission = .armStart && l.seq.wait = .wire && i.tr.lead && !l.seq.wireDriven && l.seq.st != .idle &&
      l.leadDue i then
    if l.seq.st = .armed then
      { l with seq := { l.seq with wireDriven := true }, out := { l.out with wireDrive := true } }
    else l.toIdle i (some 0x05)
  else l

/-- R79: network time is not locked, and FALLBACK decides. -/
def LawState.fallback (i : LawIn) (l : LawState) : LawState :=
  match i.tr.fallback with
  | 0 => l.toIdle i (some 0x06)
  | 1 => let l := l.trEvent 6; { l with seq := { l.seq with wait := .wire } }
  | _ =>
    let l := l.trEvent 6
    if i.tr.lead then
      (if l.seq.st = .armed then l.startLaw i 0 i.prf.w.tgt i.tr.bsV0 .energise
       else { l with seq := { l.seq with mission := .black, wait := .sequential } })
    else
      let l := l.goto i.t .armed
      { l with seq := { l.seq with wait := .sequential, since := i.t } }

/-- R78, R79: the start instant of an armed unit, by network time or by the wire. -/
def LawState.trStart (i : LawIn) (l : LawState) : LawState :=
  if l.seq.mission = .armStart then
    (match l.seq.wait with
     | .netTime =>
       if !i.ntLocked then l.fallback i
       else if l.seq.tStart ≤ i.ntTaps then
         (if l.seq.st = .armed then
           (l.startLaw i (startAngle i l.seq.theta0 (i.ntTaps - l.seq.tStart)) i.prf.w.tgt i.tr.bsV0 .energise).note
             (startTurn i (i.ntTaps - l.seq.tStart)).toInt.2
          else l.toIdle i (some 0x05))
       else l
     | .wire =>
       (match i.wireEdge with
        | none => l
        | some e =>
          if l.seq.st = .armed then
            (l.startLaw i (startAngle i l.seq.theta0 (i.t - e)) i.prf.w.tgt i.tr.bsV0 .energise).note
              (startTurn i (i.t - e)).toInt.2
          else l.toIdle i (some 0x05))
     | .sequential =>
       if l.seq.st = .armed && !l.seq.busDead then
         ({ l with seq := { l.seq with mission := .attach } }).farStart i false
       else l)
  else l

/-- The far-side measurement has settled (R80). -/
def LawState.farSettled (i : LawIn) (l : LawState) : Bool :=
  l.far.on && decide (l.far.since + msTaps 100 ≤ i.t)

/-- R80, R83: the first sample after settling: the dead-far-side test; ATTACH starts the law. -/
def LawState.trFarSettled (i : LawIn) (l : LawState) : LawState :=
  if l.farSettled i then
    (match l.seq.st, l.seq.mission with
     | .armed, .attach =>
       if fLt l.far.mag i.tr.deadV then
         (if i.tr.deadClose then
           let l := l.startLaw i 0 i.prf.w.tgt l.far.mag .closeBrk
           if l.seq.st = .closeBrk then l.closeCmd i i.tr.outBrk else l
          else l.toIdle i (some 0x09))
       else l.startLaw i l.far.theta l.far.omega l.far.mag .sync
     | .sync, .reconnect =>
       if i.t < l.far.since + msTaps 100 + i.gfm.taps && fLt l.far.mag i.tr.deadV then
         (if i.tr.deadClose then (l.closeCmd i i.tr.pccBrk).goto i.t .closeBrk
          else
            let l := (l.trCause 0x09).goto i.t .island
            { l with seq := { l.seq with mission := .none }, far := .off, farRing := [] })
       else l
     | _, _ => l)
  else l

/-- R82: the dwell counter has reached DWELL and the conditions hold. -/
def LawState.trSyncClose (i : LawIn) (l : LawState) : LawState :=
  if l.seq.st = .sync && decide (i.tr.dwell ≤ l.seq.dwell) && l.seq.syncOk then
    (l.closeCmd i (l.missionBrk i)).goto i.t .closeBrk
  else l

/-- R83, R79: SYNC, or a sequential live-bus wait, lasts TIMEOUT_S. -/
def LawState.trSyncTimeout (i : LawIn) (l : LawState) : LawState :=
  if l.seq.since + msTaps (1000 * i.tr.timeoutS) ≤ i.t then
    if l.seq.st = .sync then
      (if l.seq.mission = .reconnect then
        let l := (l.trCause 0x08).goto i.t .island
        { l with seq := { l.seq with mission := .none }, far := .off, farRing := [] }
       else l.shutdown i 0x08)
    else if l.seq.st = .armed && l.seq.mission = .armStart && l.seq.wait = .sequential then l.toIdle i (some 0x08)
    else l
  else l

/-- R44: the end of the 20 ms ramp. -/
def LawState.trRampEnd (i : LawIn) (l : LawState) : LawState :=
  if l.seq.st = .stopping && decide (l.seq.since + msTaps 20 ≤ i.t) then l.toIdle i none else l

/-- R77 step 3 and R94: channel V has arrived in ENERGISE; channel P has arrived and the raise is zero in RECOVER. -/
def LawState.trArrived (i : LawIn) (l : LawState) : LawState :=
  if l.seq.st = .energise && l.arrV then
    let l := { l with seq := { l.seq with mission := .none } }
    l.forming i
  else if l.seq.st = .recover && l.arrP && decide (valKey l.rt.delta = 0) then
    (l.frtEvent 5).forming i
  else l

/-- Step 2(d) of R61: timed transitions. -/
def LawState.stepTimed (i : LawIn) (l : LawState) : LawState :=
  ((((((((l.trRampEnd i).trArrived i).trDeadbus i).trFbTimeout i).trLeadWire i).trStart i).trFarSettled i).trSyncClose i).trSyncTimeout i

/-- A refused command (R73). -/
def LawState.cmdRefused (cause : Nat) (l : LawState) : LawState := (l.trCause cause).trEvent 1

/-- The checks made when a start is presented (R76): a refusal leads to IDLE with cause 0x07. -/
def LawState.ifStartOk (i : LawIn) (l : LawState) (k : LawState) : LawState :=
  match i.refusal with
  | some (c, o) =>
    let l := (l.toIdle i (some 0x07)).gfmEvent 3
    { l with out := { l.out with gfmFault := some (c, o) } }
  | none => k

/-- Enter DEADBUS for a mission; the sample of entry is its first, and a live bus in it ends it (R77). -/
def LawState.toDeadbus (i : LawIn) (m : Mission) (l : LawState) : LawState :=
  let l := l.goto i.t .deadbus
  let l := { l with seq := { l.seq with mission := m, presented := i.t, wireDriven := false } }
  if l.seq.busDead then l else l.toIdle i (some 0x03)

/-- BLACK_START (R77). -/
def LawState.cmdBlackStart (i : LawIn) (l : LawState) : LawState :=
  if l.seq.st = .idle && !i.clkHold then l.ifStartOk i (({ l with seq := { l.seq with wait := .netTime } }).toDeadbus i .black)
  else l.cmdRefused 0x01

/-- ARM_START (R78, R79). -/
def LawState.cmdArmStart (i : LawIn) (l : LawState) : LawState :=
  if l.seq.st = .idle && !i.clkHold then
    if i.tr.fallback = 3 then l.cmdRefused 0x02
    else l.ifStartOk i
      (let k := { l with seq := { l.seq with tStart := i.tr.tStart, theta0 := i.tr.theta0, wait := .netTime } }
       if i.ntLocked then
         (if i.tr.tStart ≤ i.ntTaps then k.toIdle i (some 0x05) else k.toDeadbus i .armStart)
       else if i.tr.fallback = 0 then k.toIdle i (some 0x06)
       else if i.tr.fallback = 1 then
         (({ k with seq := { k.seq with wait := .wire } }).toDeadbus i .armStart).trEvent 6
       else if i.tr.lead then
         ({ k with seq := { k.seq with wait := .sequential } }).toDeadbus i .black |>.trEvent 6
       else
         (let k := (k.trEvent 6).goto i.t .armed
          { k with seq := { k.seq with mission := .armStart, wait := .sequential, presented := i.t } }))
  else l.cmdRefused 0x01

/-- ATTACH (R80). -/
def LawState.cmdAttach (i : LawIn) (l : LawState) : LawState :=
  if l.seq.st = .idle && !i.clkHold then
    l.ifStartOk i
      (let k := l.goto i.t .armed
       ({ k with seq := { k.seq with mission := .attach, wait := .netTime, presented := i.t } }).farStart i false)
  else l.cmdRefused 0x01

/-- RECONNECT (R73, R80). -/
def LawState.cmdReconnect (i : LawIn) (l : LawState) : LawState :=
  if l.seq.st = .island && i.tr.pccPresent && !l.seq.pccClosed then
    let k := l.goto i.t .sync
    ({ k with seq := { k.seq with mission := .reconnect } }).farStart i true
  else l.cmdRefused 0x01

/-- ISLAND (R85). -/
def LawState.cmdIsland (i : LawIn) (l : LawState) : LawState :=
  if l.seq.st = .grid then
    let k := l.goto i.t .openPcc
    { k with seq := { k.seq with brk := clearBit k.seq.brk i.tr.pccBrk, brkWait := some (false, i.t) } }
  else l.cmdRefused 0x01

/-- STOP (R73). -/
def LawState.cmdStop (i : LawIn) (l : LawState) : LawState :=
  if l.seq.st = .idle || l.seq.st = .stopping then l.cmdRefused 0x01
  else if l.seq.st.runs then l.shutdown i 0x11
  else l.toIdle i (some 0x11)

/-- ABORT_SYNC (R73). -/
def LawState.cmdAbortSync (i : LawIn) (l : LawState) : LawState :=
  if l.seq.st = .sync then
    if l.seq.mission = .reconnect then
      let k := l.goto i.t .island
      { k with seq := { k.seq with mission := .none }, far := .off, farRing := [] }
    else
      let k := l.goto i.t .stopping
      { k with seq := { k.seq with shutCause := 0, mission := .none, pendStop := none }, far := .off, farRing := [] }
  else l.cmdRefused 0x01

/-- Step 2(e) of R61: the latched command (R73). -/
def LawState.stepCommand (i : LawIn) (l : LawState) : LawState :=
  match i.cmd with
  | none => l
  | some 1 => l.cmdBlackStart i
  | some 2 => l.cmdArmStart i
  | some 3 => l.cmdAttach i
  | some 4 => l.cmdReconnect i
  | some 5 => l.cmdIsland i
  | some 6 => l.cmdStop i
  | some 7 => l.cmdAbortSync i
  | some 0 => l
  | some _ => l.cmdRefused 0x02

end Sys2Proof.Machine
end

