-- ==== Sys2Proof/Machine/TriadSample.lean ====
section
/-!
DEFINITION. One triad sample of a member (R43, R61): measurements, sequencer, profile, law, and the tests whose outcomes act
in the next sample.
-/
namespace Sys2Proof.Machine

/-- Read one input (R44): a valid frame is taken, an invalid one counts as held. -/
def HeldInput.take (f : LawFrame) (h : HeldInput) : HeldInput :=
  if f.valid then ⟨some f.data, 0⟩ else ⟨h.last, h.held + 1⟩

/-- Inputs in the order v a, b, c, i a, b, c, bus a, b, c, grid a, b, c. -/
def takeInputs (i : LawIn) (hs : List HeldInput) : List HeldInput :=
  let fs := i.v ++ i.i ++ i.bus ++ i.grid
  (List.range 12).map (fun k => (hs.getD k ⟨none, 0⟩).take (fs.getD k ⟨false, 0, 0⟩))

/-- The bus value of R77: |v_ab| + |v_0|. -/
def busValue (i : LawIn) (hs : List HeldInput) : FV :=
  let c := phases hs i.tr.busScale 6
  c.1.mag.add c.2.abs

/-- One step of the far-side measurement (R80). -/
def LawState.farStep (i : LawIn) (l : LawState) : LawState :=
  if l.far.on then
    let c := if l.far.grid then phases l.inputs i.tr.gridScale 9 else phases l.inputs i.tr.busScale 6
    let ring := (c.1.w :: l.farRing).take 600
    let s := separate ring c.1 (quarterDelay i.gfm.fnom i.gfm.ts)
    let th := turnAngle s.1.x.w s.1.y.w
    let inc := (fOfInt (th - l.far.theta).toInt).div ((fTurn.mul i.gfm.fnom).mul i.gfm.ts)
    let om := if l.far.count ≤ 1 then inc else (FV.of l.far.omega).add ((i.gfm.ts.div (fc 1 50)).mul (inc.sub (.of l.far.omega)))
    let l := l.note ((c.1.x.fl.union c.1.y.fl).union (s.1.mag.fl.union om.fl))
    { l with
      farRing := ring,
      far := { l.far with count := l.far.count + 1, theta := th, mag := s.1.mag.w,
                          omega := if l.far.count = 0 then 0 else om.w } }
  else l

/-- The measurements made on this tick's frames, before the sequencer: held inputs, the bus value, the far side. -/
def LawState.measure (i : LawIn) (l : LawState) : LawState :=
  let hs := takeInputs i l.inputs
  let b := busValue i hs
  let l := { l.note b.fl with inputs := hs, seq := { l.seq with busDead := fLt b.w i.tr.deadV } }
  l.farStep i

/-- Step 2 of R61, (a) to (e), each on the state the one before left. -/
def LawState.sequencer (i : LawIn) (l : LawState) : LawState :=
  ((((l.stepStops i).stepFeedback i).stepRt i).stepTimed i).stepCommand i

/-- The law's six inputs read afresh; the others as they are. -/
def takeLawInputs (i : LawIn) (hs : List HeldInput) : List HeldInput := (takeInputs i []).take 6 ++ hs.drop 6

/-- Inputs that a start has cleared are read again, and a measurement that has just begun takes its first sample. -/
def LawState.measureNew (i : LawIn) (l : LawState) : LawState :=
  let l := if l.out.started then { l with inputs := takeLawInputs i l.inputs } else l
  if l.far.on && l.far.count = 0 then l.farStep i else l

/-- Delta theta of R80 in turns. -/
def LawState.dTheta (l : LawState) : FV := (fOfInt (l.far.theta - l.theta).toInt).div fTurn

/-- The synchronising set point of R81. -/
def LawState.syncW (i : LawIn) (l : LawState) : FV :=
  ((FV.of l.far.omega).add ((FV.of i.gfm.mP).mul ((FV.of l.pf).sub (.of l.chP.y)))).add ((FV.of i.tr.syncKw).mul l.dTheta)

/-- The ARRIVED event of R99 when any channel arrived. -/
def arriveEvent (b : Bool) (l : LawState) : LawState := if b then l.prfEvent 2 else l

/-- The channels that stepped: their arrivals and the flags they raised. -/
def stepped (cs : List ChanOut) (l : LawState) : LawState :=
  arriveEvent (cs.any (·.arr)) (cs.foldl (fun l c => l.note c.fl) l)

/-- What the step of channels P and V leaves of their arrival (R77, R94): at rest on the target they moved to. -/
def LawState.markArrived (p v : Word) (l : LawState) : LawState :=
  { l with arrP := l.chP.arrived p, arrV := l.chV.arrived v }

/-- Each channel steps under the overrides of R66. -/
def LawState.channels (i : LawIn) (l : LawState) : LawState :=
  let ts := i.gfm.ts
  match l.seq.st with
  | .stopping => l
  | .rideThrough =>
    let w := chanStep ts i.prf.w l.chW
    let v := chanStep ts i.prf.v l.chV
    stepped [w, v] { l with chW := w.ch, chV := v.ch }
  | .energise =>
    let p := chanStep ts i.prf.p l.chP
    let q := chanStep ts i.prf.q l.chQ
    let w := chanStep ts i.prf.w l.chW
    let v := chanStep ts ⟨i.prf.v.tgt, i.tr.bsRate, 0, 0⟩ l.chV
    stepped [p, q, w, v] { l with chP := p.ch, chQ := q.ch, chW := w.ch, chV := v.ch }
  | .recover =>
    let p := chanStep ts ⟨i.prf.p.tgt, i.frt.recRate, 0, 0⟩ l.chP
    let q := chanStep ts i.prf.q l.chQ
    let w := chanStep ts i.prf.w l.chW
    let v := chanStep ts i.prf.v l.chV
    stepped [p, q, w, v] { l with chP := p.ch, chQ := q.ch, chW := w.ch, chV := v.ch }
  | .sync =>
    let p := chanStep ts i.prf.p l.chP
    let q := chanStep ts i.prf.q l.chQ
    let l := { l with chP := p.ch, chQ := q.ch }
    if l.farSettled i then
      let v := chanStep ts { i.prf.v with tgt := l.far.mag } l.chV
      let w := l.syncW i
      stepped [p, q, v] { l.note w.fl with chW := ⟨w.w, 0, 0⟩, chV := v.ch }
    else stepped [p, q] { l with chW := ⟨l.chW.y, 0, 0⟩ }
  | .idle | .deadbus | .closeOut | .armed | .island | .closeBrk | .grid | .openPcc =>
    let p := chanStep ts i.prf.p l.chP
    let q := chanStep ts i.prf.q l.chQ
    let w := chanStep ts i.prf.w l.chW
    let v := chanStep ts i.prf.v l.chV
    stepped [p, q, w, v] { l with chP := p.ch, chQ := q.ch, chW := w.ch, chV := v.ch }

/-- Step 3 of R61. -/
def LawState.profile (i : LawIn) (l : LawState) : LawState :=
  let v := if l.seq.st = .sync && l.farSettled i then l.far.mag else i.prf.v.tgt
  { (l.channels i).markArrived i.prf.p.tgt v with tgtV := v }

/-- The factor of the 20 ms ramp of R44: one at its start, zero at its end (log entry 14). -/
def rampFactor (since t : Nat) : FV :=
  let left := since + msTaps 20 - t
  (fOfNat (left / 32)).div (fOfNat 8000000)

/-- HOLD is in force and an input is beyond its HOLD_MAX (R44), over the six inputs the law reads. -/
def LawState.holds (i : LawIn) (l : LawState) : Bool × Bool :=
  let fs := i.v ++ i.i
  ((List.range 6).any (fun k => 0 < (l.inputs.getD k ⟨none, 0⟩).held),
   (List.range 6).any (fun k => (fs.getD k ⟨false, 0, 0⟩).holdMax < (l.inputs.getD k ⟨none, 0⟩).held))

/-- Events of bits [6:4] of GFM.IRQ_RAW: a flag of the limit word goes from 0 to 1 (R54). -/
def limitEvents (old new : Word) (l : LawState) : LawState :=
  let up (m : Nat) : Bool := (old.toNat &&& m) = 0 && (new.toNat &&& m) != 0
  let l := if up 2 then l.gfmEvent 6 else l
  let l := if up 4 || up 8 then l.gfmEvent 5 else l
  if up 1 then l.gfmEvent 4 else l

/-- Decide a stop for step 2(a) of the next sample; an earlier decision stands. -/
def LawState.decideStop (atOnce : Bool) (cause : Nat) (l : LawState) : LawState :=
  match l.seq.pendStop with
  | some _ => l
  | none => { l with seq := { l.seq with pendStop := some (atOnce, cause) } }

/-- One following-error timer `n` (R69, R70): the flag `run` says that the error stood outside its band in every sample of the
cycle so far, whatever the state; a held timer keeps its value. The timer reports when it comes to stand at FE_CYC, also where
FE_CYC has come down to it. -/
def feTimer (en hold outside cycleEnd : Bool) (cyc n : Nat) (run : Bool) : Nat × Bool × Bool :=
  let all := run && outside
  let n' := if !en then 0 else if hold || !cycleEnd then n else if all then min cyc (n + 1) else 0
  (n', cycleEnd || all, en && !hold && cycleEnd && decide (n' = cyc) && decide (n ≠ cyc))

/-- Following-error supervision (R68 to R70). -/
def LawState.following (i : LawIn) (o : LawObs) (l : LawState) : LawState :=
  let hold := l.seq.st.feHold
  let eP := (o.pm.sub (.of l.pf)).abs
  let eV := (o.eMag.sub o.vP).abs
  let p := feTimer i.prf.fePEn hold (fLt i.prf.fePLim eP.w) l.cycleEnd i.prf.feCyc l.feP l.fePrun
  let v := feTimer i.prf.feVEn hold (fLt i.prf.feVLim eV.w) l.cycleEnd i.prf.feCyc l.feV l.feVrun
  let l := { l.note (eP.fl.union eV.fl) with feP := p.1, fePrun := p.2.1, feV := v.1, feVrun := v.2.1 }
  let l := if p.2.2 then l.prfEvent 3 else l
  let l := if v.2.2 then l.prfEvent 4 else l
  if (p.2.2 || v.2.2) && i.prf.feAction then l.decideStop false 0x0F else l

/-- The states in which ride-through entry is evaluated (R90). -/
def TrState.rtStates : TrState → Bool
  | .island | .grid | .sync | .closeBrk | .openPcc | .recover => true
  | .idle | .deadbus | .closeOut | .armed | .energise | .rideThrough | .stopping => false

/-- Ride-through entry (R90). -/
def LawState.rtEntryTest (i : LawIn) (o : LawObs) (l : LawState) : LawState :=
  let sat := if o.iSatP then l.rt.satRun + 1 else 0
  let l := { l with rt := { l.rt with satRun := sat } }
  let hv := (o.vP.add o.vN).add o.v0
  let l := l.note hv.fl
  if i.frt.rtEn && l.seq.outClosed && l.seq.st.rtStates &&
      (fLt o.vP.w i.frt.entryV || fLt i.frt.entryVh hv.w || (i.frt.satEntry && decide (i.frt.satN ≤ sat))) then
    let l := l.frtEvent 2
    { l with rt := { l.rt with pendEntry := true } }
  else l

/-- Elapsed time of ride-through in taps (R92, R95). -/
def LawState.rtElapsed (t : Nat) (l : LawState) : Nat := t - l.rt.entryAt.getD t

/-- The trip of R93 with its cause, the LV cause first (R98). -/
def LawState.rtTripCause (i : LawIn) (o : LawObs) (l : LawState) : Option Nat :=
  let t := l.rtElapsed i.t
  let hv := (o.vP.add o.vN).add o.v0
  if belowCurve i.frt.lv t o.vP.w then some 0x0C
  else if aboveCurve i.frt.hv t hv.w then some 0x0D
  else if msTaps i.frt.tmaxMs < t then some 0x0E
  else none

/-- Ride-through's curve, time and exit tests (R93, R94). -/
def LawState.rtTests (i : LawIn) (o : LawObs) (l : LawState) : LawState :=
  if l.seq.st = .rideThrough then
    let l := { l with rt := { l.rt with elapsedMs := min 65535 (l.rtElapsed i.t / 12800000) } }
    match (if i.frt.rtEn then l.rtTripCause i o else none) with
    | some c => (l.frtEvent 4).decideStop (!i.frt.tripStop) c
    | none =>
      let hv := (o.vP.add o.vN).add o.v0
      let n := if fLe i.frt.exitV o.vP.w && fLe hv.w i.frt.exitVh && !o.iSatP then l.rt.exitRun + 1 else 0
      let l := { l with rt := { l.rt with exitRun := n } }
      if i.frt.exitN ≤ n then
        let l := l.frtEvent 3
        { l with rt := { l.rt with pendExit := true } }
      else l
  else l

/-- The close conditions of R82 and the dwell count. -/
def LawState.syncTests (i : LawIn) (o : LawObs) (dth : FV) (l : LawState) : LawState :=
  if l.seq.st = .sync && l.farSettled i then
    let df := (FV.of l.far.omega).sub (.of l.omega)
    let dc := (fn 360).mul (dth.add (((i.gfm.fnom.mul df).mul (fOfNat i.tr.closeMs)).div (fn 1000)))
    let dv := (FV.of l.far.mag).sub o.vP
    let ok := fLe dc.abs.w i.tr.syncAng && fLe df.abs.w i.tr.syncDf && fLe dv.abs.w i.tr.syncDv
    let n := if !ok then 0 else if l.cycleEnd && l.seq.cycleOk then min 255 (l.seq.dwell + 1) else l.seq.dwell
    let l := l.note ((dc.fl.union df.fl).union dv.fl)
    { l with seq := { l.seq with
        syncOk := ok, dwell := n, cycleOk := if !ok then false else l.cycleEnd || l.seq.cycleOk,
        obsTheta := dc.w, obsDf := df.w, obsDv := dv.w } }
  else { l with seq := { l.seq with syncOk := false } }

/-- Steps 4 and 5 of R61 while the law runs. -/
def LawState.lawAndTests (i : LawIn) (l : LawState) : LawState :=
  let h := l.holds i
  let l := { l with holdNow := h.1 }
  let rt := decide (l.seq.st = .rideThrough)
  let k := if l.seq.st = .stopping then some (rampFactor l.seq.since i.t) else none
  let sp : SetPoints := ⟨l.chP.y, l.chQ.y, l.chW.y, l.chV.y⟩
  let dth := l.dTheta
  let n := lawEval i.gfm i.frt.vi i.counts i.tk i.sampleNo i.paramSet rt k sp (l.signals i) l
  let old := l.vec.limit
  let fin := n.vec.finite
  let l := if fin then limitEvents old n.vec.limit n.st else lawNonFinite i.gfm i.tk i.sampleNo n.st.ring l
  let l := l.note (n.fl.union (match k with | none => FFlags.none | some f => f.fl))
  let o := { n.obs with iSatP := l.vec.limit.getLsbD 2 }
  let l := ((l.following i o).rtEntryTest i o).rtTests i o
  let l := l.syncTests i o dth
  if (!fin && Nat.ble 8 l.nonFinite) || h.2 then l.decideStop false 0x10 else l

/-- The whole sample (R61). -/
def lawSample (i : LawIn) (l : LawState) : LawState :=
  let l := { l with out := .none }
  let l := ((l.measure i).sequencer i).measureNew i
  let l := l.profile i
  if l.seq.st.runs then l.lawAndTests i else { l with seq := { l.seq with syncOk := false } }

/-! ## The member record (R46, R104) -/

/-- Word 28. -/
def word28 (l : LawState) : Word :=
  BitVec.ofNat 32 (l.seq.st.code + (l.out.cause % 256) * 16 + (l.seq.brk % 256) * 65536)

/-- The counter of word 31: the dwell in SYNC, the exit count in RIDE_THROUGH, else the saturation count. -/
def word31Count (l : LawState) : Nat :=
  match l.seq.st with
  | .sync => l.seq.dwell
  | .rideThrough => l.rt.exitRun
  | .idle | .deadbus | .closeOut | .armed | .energise | .island | .closeBrk | .grid | .recover | .stopping
  | .openPcc => l.rt.satRun

/-- Words 0 to 15. -/
def RefVector.words (v : RefVector) : List Word :=
  [v.stamp, v.sampleNo, v.theta, v.omega, v.e.x, v.e.y, v.iP.x, v.iP.y, v.iN.x, v.iN.y, v.i0, v.rv, v.xv, v.ilim, v.limit,
   v.paramSet]

/-- Words 0 to 31 of a member record. -/
def recordWords (l : LawState) : List Word :=
  l.vec.words ++
  [l.chP.y, l.chQ.y, l.chW.y, l.chV.y, l.chP.v, l.chQ.v, l.chW.v, l.chV.v, l.chP.a, l.chQ.a, l.chW.a, l.chV.a, word28 l,
   BitVec.ofNat 32 (l.feP % 65536 + (l.feV % 65536) * 65536), l.rt.delta,
   BitVec.ofNat 32 (l.rt.elapsedMs % 65536 + (word31Count l % 65536) * 65536)]

end Sys2Proof.Machine
end

