-- ==== Sys2Proof/Machine/TriadPar.lean ====
section
/-!
DEFINITION. What the forming law reads of the device: its parameters, its frames, the start checks and the commit checks
(R44, R51, R52, R55, R76, R99 to R103, R248).
-/
namespace Sys2Proof.Machine

/-! ## Parameters -/

/-- The RWL registers of the GFM page as written. -/
def Dev.gfmRegs (d : Dev) : GfmLive :=
  let r (f : FieldSpec) : Word := d.wordAt pGFM f 0
  .of (r GFM.GFM_CFG_NEG_MODE) (r GFM.BASE_S) (r GFM.BASE_VLL) (d.get pGFM GFM.TRIAD_PERIOD_TICKS) (r GFM.SRC_V_PH_A)
    (r GFM.SRC_I_PH_A) (r GFM.V_SCALE) (r GFM.I_SCALE)

/-- The RWL settings that a sample uses: those in force, or in IDLE the ones that leaving it would take (R52). -/
def Dev.gfmNow (d : Dev) : GfmLive := if d.triad.law.seq.st = .idle then d.gfmRegs else d.triad.live

/-- The fields of GFM_CFG (R57). -/
def GfmLive.sixty (g : GfmLive) : Bool := g.cfg.getLsbD 0
def GfmLive.negMode (g : GfmLive) : Nat := bitsGet g.cfg 2 1
def GfmLive.legDerate (g : GfmLive) : Bool := g.cfg.getLsbD 4

/-- The GFM settings in force: RWL registers and active RWS copies (R49, R52). -/
def Dev.gfmPar (d : Dev) : GfmPar :=
  let g := d.gfmNow
  let a (f : FieldSpec) : Word := d.actWord pGFM f
  { h := a GFM.H, d := a GFM.D, tD := a GFM.T_D, mP := a GFM.M_P, mQ := a GFM.M_Q, tP := a GFM.T_P, tQ := a GFM.T_Q,
    rV := a GFM.R_V, xV := a GFM.X_V, tVi := a GFM.T_VI, kpV := a GFM.KP_V, kiV := a GFM.KI_V, xLim := a GFM.XINT_V_LIM,
    kFf := a GFM.K_FF, bC := a GFM.B_C, fDev := a GFM.F_DEV, vMin := a GFM.V_MIN, vMax := a GFM.V_MAX,
    iLim := a GFM.I_LIM, iNegLim := a GFM.I_NEG_LIM, rNeg := a GFM.R_NEG, xNeg := a GFM.X_NEG,
    vScale := g.vScale, iScale := g.iScale, neg1 := decide (g.negMode = 1), fourWire := g.fourWire,
    legDerate := g.legDerate, sixty := g.sixty, period := g.period }

/-- The TRANSIT settings in force (R100). A scale of zero stands for V_SCALE. -/
def Dev.trPar (d : Dev) : TrPar :=
  let p := pTRANSIT
  let scale (f : FieldSpec) : Word :=
    if absent (d.wordAt p f 0) then d.gfmNow.vScale else d.wordAt p f 0
  { outBrk := d.get p TRANSIT.TR_CFG_OUT_BRK, pccBrk := d.get p TRANSIT.TR_CFG_PCC_BRK,
    pccPresent := d.flag p TRANSIT.TR_CFG_PCC_PRESENT, lead := d.flag p TRANSIT.TR_CFG_LEAD,
    deadClose := d.flag p TRANSIT.TR_CFG_DEAD_CLOSE, stopOpen := d.flag p TRANSIT.TR_CFG_STOP_OPEN,
    fallback := d.get p TRANSIT.TR_CFG_FALLBACK, deadV := d.actWord p TRANSIT.DEAD_V,
    deadMs := d.act p TRANSIT.DEAD_MS_MS, closeMs := d.act p TRANSIT.BRK_TIMES_CLOSE_MS,
    fbMs := d.act p TRANSIT.BRK_TIMES_FB_MS, bsV0 := d.actWord p TRANSIT.BS_V0, bsRate := d.actWord p TRANSIT.BS_RATE,
    syncAng := d.actWord p TRANSIT.SYNC_ANG, syncDf := d.actWord p TRANSIT.SYNC_DF,
    syncDv := d.actWord p TRANSIT.SYNC_DV, syncKw := d.actWord p TRANSIT.SYNC_KW,
    timeoutS := d.act p TRANSIT.SYNC_CTL_TIMEOUT_S, dwell := d.act p TRANSIT.SYNC_CTL_DWELL,
    busScale := scale TRANSIT.BUS_SCALE, gridScale := scale TRANSIT.GRID_SCALE,
    tStart := ntOfWords (d.wordAt p TRANSIT.T_START_LO 0) (d.wordAt p TRANSIT.T_START_HI 0),
    theta0 := d.wordAt p TRANSIT.THETA0 0 }

/-- The points of a curve from a word reader (R103). -/
def curveOf (word : Nat → Word) (base : Nat) : List CurvePoint :=
  (List.range 16).map (fun k => ⟨bitsGet (word (base + 4 * k)) 31 16, bitsGet (word (base + 4 * k)) 15 0⟩)

/-- Active word at an offset of a page. -/
def Dev.activeAt (p o : Nat) (d : Dev) : Word := d.reg (p * 0x1000 + o + 0x800)
/-- Shadow or plain word at an offset of a page. -/
def Dev.shadowAt (p o : Nat) (d : Dev) : Word := d.reg (p * 0x1000 + o)

/-- The FRT settings in force (R102). -/
def Dev.frtPar (d : Dev) : FrtPar :=
  let p := pFRT
  { rtEn := d.actFlag p FRT.FRT_CFG_RT_EN, satEntry := d.actFlag p FRT.FRT_CFG_SAT_ENTRY,
    tripStop := d.actFlag p FRT.FRT_CFG_TRIP_ACTION, entryV := d.actWord p FRT.ENTRY_V, exitV := d.actWord p FRT.EXIT_V,
    entryVh := d.actWord p FRT.ENTRY_VH, exitVh := d.actWord p FRT.EXIT_VH, satN := d.act p FRT.RT_COUNTS_SAT_N,
    exitN := d.act p FRT.RT_COUNTS_EXIT_N, rearmMs := d.act p FRT.RT_TIMES_REARM_MS, tmaxMs := d.act p FRT.RT_TIMES_TMAX_MS,
    recRate := d.actWord p FRT.REC_RATE, lv := curveOf (fun o => d.activeAt p o) 0x80,
    hv := curveOf (fun o => d.activeAt p o) 0xC0,
    vi := { viThr := d.actWord p FRT.VI_THR, viK := d.actWord p FRT.VI_K, viXr := d.actWord p FRT.VI_XR,
            viMax := d.actWord p FRT.VI_MAX, viRel := d.actWord p FRT.VI_REL,
            swingHold := d.actFlag p FRT.FRT_CFG_SWING_HOLD } }

/-- The PROFILE settings in force (R99). -/
def Dev.prfPar (d : Dev) : PrfPar :=
  let a (f : FieldSpec) : Word := d.actWord pPROFILE f
  { p := ⟨a PROFILE.TGT_P, a PROFILE.VEL_P, a PROFILE.ACC_P, a PROFILE.JRK_P⟩,
    q := ⟨a PROFILE.TGT_Q, a PROFILE.VEL_Q, a PROFILE.ACC_Q, a PROFILE.JRK_Q⟩,
    w := ⟨a PROFILE.TGT_W, a PROFILE.VEL_W, a PROFILE.ACC_W, a PROFILE.JRK_W⟩,
    v := ⟨a PROFILE.TGT_V, a PROFILE.VEL_V, a PROFILE.ACC_V, a PROFILE.JRK_V⟩,
    feAction := d.actFlag pPROFILE PROFILE.PRF_CFG_FE_ACTION, feVEn := d.actFlag pPROFILE PROFILE.PRF_CFG_FE_V_EN,
    fePEn := d.actFlag pPROFILE PROFILE.PRF_CFG_FE_P_EN, fePLim := a PROFILE.FE_P_LIM, feVLim := a PROFILE.FE_V_LIM,
    feCyc := d.act pPROFILE PROFILE.FE_CYC_CYCLES }

/-! ## Checks (R51, R52, R99, R100, R102) -/

/-- A binary32 setting within its bounds: cause 2 for NaN or infinity, 1 for out of range. -/
def rangeF (lo hi w : Word) : Option Nat := if isNonFinite w then some 2 else if fLe lo w && fLe w hi then none else some 1

/-- A scale: greater than 0 to 1.0. -/
def rangeScale (w : Word) : Option Nat := if isNonFinite w then some 2 else if fLt 0 w && fLe w (fRat 1 1) then none else some 1

/-- An integer setting within its bounds. -/
def rangeN (lo hi v : Nat) : Option Nat := if lo ≤ v && v ≤ hi then none else some 1

/-- A time constant of at least four triad periods (R51). -/
def atLeast4Ts (period : Nat) (w : Word) : Option Nat :=
  if (period : Int) * 2 ^ 149 ≤ fScaled w * 100000000 then none else some 4

/-- tau_4 at 1 - F_DEV of at most 599 triad periods (R51). -/
def tau4Fits (period f : Nat) (w : Word) : Option Nat :=
  if (400000000 : Int) * 2 ^ 149 ≤ 599 * (period : Int) * 4 * f * (2 ^ 149 - fScaled w) then none else some 4

/-- The first failure of checks in ascending offset: cause and offset. -/
def firstFail : List (Nat × Option Nat) → Option (Nat × Nat)
  | [] => none
  | (o, some c) :: _ => some (c, o)
  | (_, none) :: cs => firstFail cs

/-- A bound p / q of the tables, as the nearest binary32. -/
abbrev fq (p q : Nat) : Word := fRat p q

/-- The binary32 settings of the GFM page (R55): offset and bounds. -/
def gfmRanges : List (Nat × Word × Word) :=
  [(0x060, fq 5 100, fq 20 1), (0x064, 0, fq 400 1), (0x068, fq 1 100, fq 10 1), (0x06C, fq 1 1000, fq 2 10),
   (0x070, 0, fq 2 10), (0x074, fq 1 10000, fq 1 1), (0x078, fq 1 10000, fq 1 1), (0x07C, 0, fq 5 10),
   (0x080, 0, fq 5 10), (0x084, fq 1 10000, fq 1 10), (0x088, 0, fq 20 1), (0x08C, 0, fq 50000 1),
   (0x090, 0, fq 2 1), (0x094, 0, fq 1 1), (0x098, 0, fq 5 10), (0x09C, fq 5 1000, fq 1 10),
   (0x0A0, fq 5 10, fq 1 1), (0x0A4, fq 1 1, fq 12 10), (0x0A8, fq 1 10, fq 2 1), (0x0AC, 0, fq 1 1),
   (0x0B0, 0, fq 5 10), (0x0B4, 0, fq 5 10)]

/-- The first of two checks of one register. -/
def orElse (a b : Option Nat) : Option Nat := match a with | some c => some c | none => b

/-- The checks of R51 on one GFM setting beyond its range. -/
def gfmExtra (word : Nat → Word) (period f o : Nat) : Option Nat :=
  match o with
  | 0x068 => atLeast4Ts period (word o)
  | 0x074 => atLeast4Ts period (word o)
  | 0x078 => atLeast4Ts period (word o)
  | 0x084 => atLeast4Ts period (word o)
  | 0x09C => tau4Fits period f (word o)
  | 0x0AC => if fLe (word 0x0AC) (word 0x0A8) then none else some 5
  | _ => none

/-- The checks of a GFM set (R51). -/
def gfmChecks (word : Nat → Word) (period f : Nat) : List (Nat × Option Nat) :=
  gfmRanges.map (fun r => (r.1, orElse (rangeF r.2.1 r.2.2 (word r.1)) (gfmExtra word period f r.1)))

/-- Nominal frequency in Hz, of settings. -/
def GfmLive.nomHz (g : GfmLive) : Nat := if g.sixty then 60 else 50

/-- The commit check of the GFM page. -/
def Dev.gfmRefusal (d : Dev) : Option (Nat × Nat) :=
  firstFail (gfmChecks (fun o => d.shadowAt pGFM o) d.triad.live.period d.triad.live.nomHz)

/-- The commit check of the PROFILE page (R99). -/
def Dev.prfRefusal (d : Dev) : Option (Nat × Nat) :=
  let w (o : Nat) : Word := d.shadowAt pPROFILE o
  let neg2 : Word := fnegW (fq 2 1)
  firstFail
    ([(0x044, rangeF neg2 (fq 2 1) (w 0x044)), (0x048, rangeF neg2 (fq 2 1) (w 0x048)),
      (0x04C, rangeF (fq 9 10) (fq 11 10) (w 0x04C)), (0x050, rangeF 0 (fq 12 10) (w 0x050))] ++
     (List.range 4).map (fun k => (0x054 + 4 * k, rangeF 0 (fq 100 1) (w (0x054 + 4 * k)))) ++
     (List.range 4).map (fun k => (0x064 + 4 * k, rangeF 0 (fq 10000 1) (w (0x064 + 4 * k)))) ++
     (List.range 4).map (fun k => (0x074 + 4 * k, rangeF 0 (fq 1000000 1) (w (0x074 + 4 * k)))) ++
     [(0x084, rangeF (fq 1 100) (fq 2 1) (w 0x084)), (0x088, rangeF (fq 1 100) (fq 1 1) (w 0x088)),
      (0x08C, rangeN 1 65535 (bitsGet (w 0x08C) 15 0))])

/-- The commit check of the TRANSIT page (R100). -/
def Dev.trRefusal (d : Dev) : Option (Nat × Nat) :=
  let w (o : Nat) : Word := d.shadowAt pTRANSIT o
  firstFail
    [(0x04C, rangeF (fq 2 100) (fq 5 10) (w 0x04C)), (0x050, rangeN 10 10000 (bitsGet (w 0x050) 15 0)),
     (0x054, rangeF 0 (fq 5 10) (w 0x054)), (0x058, rangeF (fq 1 100) (fq 100 1) (w 0x058)),
     (0x05C, orElse (rangeN 0 1000 (bitsGet (w 0x05C) 31 16)) (rangeN 1 2000 (bitsGet (w 0x05C) 15 0))),
     (0x060, rangeF (fq 5 10) (fq 30 1) (w 0x060)), (0x064, rangeF (fq 2 10000) (fq 1 100) (w 0x064)),
     (0x068, rangeF (fq 5 1000) (fq 2 10) (w 0x068)), (0x06C, rangeF (fq 1 1000) (fq 5 10) (w 0x06C)),
     (0x070, orElse (rangeN 1 3600 (bitsGet (w 0x070) 31 16)) (rangeN 1 255 (bitsGet (w 0x070) 7 0)))]

/-- A curve that breaks R92: the checks of its points. -/
def curveChecks (base : Nat) (pts : List CurvePoint) : List (Nat × Option Nat) :=
  (List.range 16).map (fun k =>
    let t := (pts.getD k ⟨0, 0⟩).ms
    (base + 4 * k,
     if k = 0 then (if t = 0 then none else some 9)
     else if (pts.getD (k - 1) ⟨0, 0⟩).ms ≤ t then none else some 9))

/-- The commit check of the FRT page (R102). -/
def Dev.frtRefusal (d : Dev) : Option (Nat × Nat) :=
  let w (o : Nat) : Word := d.shadowAt pFRT o
  firstFail
    ([(0x044, rangeF (fq 5 10) (fq 1 1) (w 0x044)), (0x048, rangeF 0 (fq 10 1) (w 0x048)),
      (0x04C, rangeF (fq 5 10) (fq 50 1) (w 0x04C)), (0x050, rangeF 0 (fq 2 1) (w 0x050)),
      (0x054, orElse (rangeF (fq 1 1000) (fq 5 1) (w 0x054)) (atLeast4Ts d.triad.live.period (w 0x054))), (0x058, rangeF (fq 1 10) (fq 95 100) (w 0x058)),
      (0x05C, orElse (rangeF (fq 15 100) (fq 1 1) (w 0x05C)) (if fLe (w 0x05C) (w 0x058) then some 10 else none)),
      (0x060, rangeF (fq 105 100) (fq 15 10) (w 0x060)),
      (0x064, orElse (rangeF (fq 1 1) (fq 145 100) (w 0x064)) (if fLe (w 0x060) (w 0x064) then some 10 else none)),
      (0x068, orElse (rangeN 1 65535 (bitsGet (w 0x068) 31 16)) (rangeN 1 65535 (bitsGet (w 0x068) 15 0))),
      (0x06C, orElse (rangeN 0 60000 (bitsGet (w 0x06C) 31 16)) (rangeN 100 60000 (bitsGet (w 0x06C) 15 0))),
      (0x070, rangeF (fq 1 100) (fq 100 1) (w 0x070))] ++
     curveChecks 0x080 (curveOf w 0x080) ++ curveChecks 0x0C0 (curveOf w 0x0C0))

/-- A side scale in range: zero, or greater than 0 to 1.0 (R100). -/
def sideScale (w : Word) : Option Nat := if absent w then none else rangeScale w

/-- The start checks of R52, R76 and R155: cause and offset of the first failure. -/
def Dev.startRefusal (d : Dev) : Option (Nat × Nat) :=
  let w (o : Nat) : Word := d.shadowAt pGFM o
  let period := d.get pGFM GFM.TRIAD_PERIOD_TICKS
  firstFail
    ([(0x040, if 2 ≤ d.get pGFM GFM.GFM_CFG_NEG_MODE then some 6 else none),
      (0x044, rangeF (fq 10000 1) (fq 4000000 1) (w 0x044)), (0x048, rangeF (fq 100 1) (fq 1000 1) (w 0x048)),
      (0x04C, orElse (rangeN 4000 400000 period)
        (if period < d.get (pENG 12) TE.DEADLINE_TICKS + 40 then some 1 else none)),
      (0x058, rangeScale (w 0x058)), (0x05C, rangeScale (w 0x05C))] ++
     gfmChecks (fun o => d.activeAt pGFM o) period d.gfmRegs.nomHz ++
     [(0x0BC, if (List.range 3).any (fun g => (d.groupLegs g).isEmpty) then some 7 else none),
      (0x08C, sideScale (d.shadowAt pTRANSIT 0x08C)), (0x090, sideScale (d.shadowAt pTRANSIT 0x090))])

/-! ## Frames (R248) -/

/-- One slot of an input's ring: its four words. -/
structure Slot where
  seq : Nat
  stamp : Nat
  data : Word
  tail : Nat

def Dev.slot (m : List Host.Cell) (i k : Nat) (d : Dev) : Slot :=
  let a := 0x100D0000 + i * 0x40 + k * 0x10
  ⟨(d.word m a).toNat, (d.word m (a + 4)).toNat, d.word m (a + 8), (d.word m (a + 12)).toNat⟩

/-- The slot is whole and its stamp lies within one consumer period before the sample stamp. -/
def Slot.ok (stamp period : Nat) (s : Slot) : Bool :=
  decide (s.seq % 2 ^ 24 = s.tail / 256) && decide ((stamp % 2 ^ 32 + 2 ^ 32 - s.stamp) % 2 ^ 32 < period)

/-- a comes after b by serial comparison. -/
def serialAfter (a b : Nat) : Bool := decide (a ≠ b) && decide ((a + 2 ^ 32 - b) % 2 ^ 32 < 2 ^ 31)

/-- The slot with the highest SEQ. -/
def bestSlot : List Slot → Option Slot
  | [] => none
  | s :: ss => match bestSlot ss with
    | none => some s
    | some x => if serialAfter x.seq s.seq then some x else some s

/-- The frame a consumer takes (R248): validity and signed data. -/
def Dev.frame (m : List Host.Cell) (i stamp period : Nat) (d : Dev) : Bool × Int :=
  match bestSlot (((List.range 4).map (fun k => d.slot m i k)).filter (fun s => s.ok stamp period)) with
  | none => (false, 0)
  | some s => (decide (s.tail / 128 % 2 = 1), s.data.toInt)

/-- The frame with HOLD_MAX of its page, as the law reads it. -/
def Dev.lawFrame (m : List Host.Cell) (i t : Nat) (d : Dev) : LawFrame :=
  let f := d.frame m i t (d.gfmNow.period * 32)
  ⟨f.1, f.2, d.get (sdPage i) SDF.HOLD_MAX_SAMPLES⟩

/-- The three phases of a source register. -/
def Dev.lawFrames (m : List Host.Cell) (w : Word) (t : Nat) (d : Dev) : List LawFrame :=
  [d.lawFrame m (bitsGet w 5 0) t, d.lawFrame m (bitsGet w 13 8) t, d.lawFrame m (bitsGet w 21 16) t]

/-- Active and assigned legs of the four groups (R58). -/
def Dev.groupCounts (d : Dev) : GroupCounts :=
  ⟨(List.range 4).map (fun g => (d.activeLegs g).length), (List.range 4).map (fun g => (d.groupLegs g).length)⟩

/-- What is presented to every member at tick t (R61). -/
def Dev.lawIn (m : List Host.Cell) (t : Nat) (d : Dev) : LawIn :=
  let tk := d.sampleInstant t
  { t := t, tk := tk, sampleNo := d.triad.sampleNo, paramSet := d.triad.paramSet, cmd := d.triad.cmd,
    outFb := (d.pair (d.get pTRANSIT TRANSIT.TR_CFG_OUT_BRK)).closed,
    pccFb := (d.pair (d.get pTRANSIT TRANSIT.TR_CFG_PCC_BRK)).closed,
    v := d.lawFrames m d.gfmNow.srcV tk, i := d.lawFrames m d.gfmNow.srcI tk,
    bus := d.lawFrames m (d.wordAt pTRANSIT TRANSIT.SRC_BUS_PH_A 0) tk,
    grid := d.lawFrames m (d.wordAt pTRANSIT TRANSIT.SRC_GRID_PH_A 0) tk,
    ntLocked := d.bus.nt.locked, ntValid := d.bus.nt.valid, ntTaps := d.bus.nt.taps t,
    wireEdge := d.triad.wireEdge, permit := d.permit, clkHold := d.clkHeld, clkStop := d.boot.stopDue,
    devTrip := d.pw.dev.fresh, counts := d.groupCounts, refusal := d.startRefusal,
    gfm := d.gfmPar, tr := d.trPar, frt := d.frtPar, prf := d.prfPar }

end Sys2Proof.Machine
end

