-- ==== Sys2Proof/Machine/EngBase.lean ====
section
/-!
DEFINITION. What every engine shares: its record, its role, its sample statistics (R126, R133, R138, R162).
-/
namespace Sys2Proof.Machine

/-- Engine of code n (R126). -/
def Dev.engine (n : Nat) (d : Dev) : Engine := d.eng.toArray.getD n (.reset .legEngine .off)
def Dev.setEngine (n : Nat) (e : Engine) (d : Dev) : Dev := { d with eng := d.eng.setIfInBounds n e }

/-- The consecutive self-test passes of an engine (R116). -/
def Dev.passRun (n : Nat) (d : Dev) : Nat := d.getAt pVOTER VOTER.HEALTH_PASS_RUN n

/-- STATUS.STATE as R161 shows it: ROLE for a spare, a test or a position. -/
def Dev.engCode (n : Nat) (d : Dev) : Nat :=
  let e := d.engine n
  match e.role with
  | .coldSpare | .counted | .suspended | .loading | .recovering =>
    if e.st = .restart || e.st = .fault || e.st = .halted then e.st.code else 6
  | .legEngine | .standby => e.st.code
def Dev.showState (n : Nat) (d : Dev) : Dev := d.put (pENG n) TE.STATUS_STATE (d.engCode n)

/-- Nothing keeps the engine from a sample in a triad position: no restart, fault or halt (R153, R154, R160). -/
def Dev.holdable (n : Nat) (d : Dev) : Bool :=
  match (d.engine n).st with
  | .role | .off => true
  | .wait | .run | .restart | .fault | .halted => false

/-- The role, shown in the health register and in STATE at every role change (R126, R161). -/
def Dev.setRole (n : Nat) (r : Role) (d : Dev) : Dev :=
  let e := d.engine n
  if e.role = r then d
  else ((d.setEngine n { e with role := r }).putAt pVOTER VOTER.HEALTH_ROLE n r.code).showState n

/-- FAULT_CODE of a cause without an instruction address (R161). -/
def Dev.engCause (n c : Nat) (d : Dev) : Dev := (d.put (pENG n) TE.FAULT_CODE_CAUSE c).put (pENG n) TE.FAULT_CODE_ADDR 0

/-- The slack of a deadline (R138). 0xFFFF in SLACK_MIN means that no deadline has passed since the last read. -/
def Dev.slack (n ticks : Nat) (d : Dev) : Dev :=
  let p := pENG n
  let v := min 65534 ticks
  let old := d.get p TE.SLACK_MIN_TICKS
  (d.put p TE.SLACK_LAST_TICKS v).put p TE.SLACK_MIN_TICKS (min old v)

/-- A deadline with its sample complete: `arrived` is the instant of the completion signal. In bypass the slack is quantised to
whole bypass periods (R138). -/
def Dev.sampleDone (n arrived deadline : Nat) (d : Dev) : Dev :=
  let r := max 32 d.edgeRes
  (d.slack n ((deadline - arrived) / r * r / 32)).countWrap (pENG n) TE.SAMPLES

/-- A deadline miss (R133, R164): counted, reported, slack 0. -/
def Dev.sampleMissed (n : Nat) (d : Dev) : Dev :=
  ((d.slack n 0).count (pENG n) TE.MISS_STAT_TOTAL).raise (pENG n) TE.IRQ_RAW_DEADLINE_MISS

end Sys2Proof.Machine
end

