-- ==== Sys2Proof/Machine/Precision.lean ====
section
/-!
DEFINITION. The precision converters and the energy ledger (R312 to R335).
-/
namespace Sys2Proof.Machine

/-- Round to the nearest integer, ties to even. -/
def roundEven (p q : Nat) : Nat :=
  let n := p / q
  let r := p % q
  if 2 * r < q then n else if q < 2 * r then n + 1 else n + n % 2

/-- The same for a signed numerator. -/
def roundEvenInt (p : Int) (q : Nat) : Int := if p < 0 then -(roundEven p.natAbs q : Int) else roundEven p.natAbs q

/-- A signed field. -/
def sgn (bits v : Nat) : Int := if v < 2 ^ (bits - 1) then v else (v : Int) - 2 ^ bits

/-! ## The log (R329, R330) -/

/-- LIFE_S at t: seconds since POR (log entry 31). -/
def Dev.lifeS (t : Nat) (d : Dev) : Nat := (d.prec.lifePrior + (t - d.prec.lifeAt)) / 12800000000

/-- Unreleased entries. -/
def Dev.logUsed (d : Dev) : Nat := d.get pLEDGER LEDGER.LOG_HEAD - d.prec.logLow

/-- Append an entry: code, data16, data32. With 256 unreleased entries it is dropped; LOG_FULL is raised by the 256th and by
each drop (log entry 53). -/
def Dev.logAppend (code d16 : Nat) (d32 : Word) (t : Nat) (d : Dev) : Dev :=
  let p := pLEDGER
  let head := d.get p LEDGER.LOG_HEAD
  if 256 ≤ d.logUsed then
    ((d.count p LEDGER.LOG_STAT_LOST).put p LEDGER.STATUS_LOG_FULL 1).raise p LEDGER.IRQ_RAW_LOG_FULL
  else
    let nt := d.bus.nt.locked
    let time : Word := if nt then (ntWords (d.bus.nt.taps t)).1 else BitVec.ofNat 32 (d.lifeS t)
    let e : List Word := [BitVec.ofNat 32 head, time, BitVec.ofNat 32 (code + (!nt).toNat * 256 + d16 % 65536 * 65536), d32]
    let d := { d with prec := { d.prec with log := d.prec.log.setIfInBounds (head % 256) e } }
    let d := d.put p LEDGER.LOG_HEAD (head + 1)
    let d := d.put p LEDGER.LOG_STAT_USED d.logUsed
    let full := decide (256 ≤ d.logUsed)
    let d := d.putFlag p LEDGER.STATUS_LOG_FULL full
    if full then d.raise p LEDGER.IRQ_RAW_LOG_FULL else d

/-- LOG_RELEASE: entries below s are free. -/
def Dev.logRelease (s : Nat) (d : Dev) : Dev :=
  let d := { d with prec := { d.prec with logLow := max d.prec.logLow (min s (d.get pLEDGER LEDGER.LOG_HEAD)) } }
  let d := d.put pLEDGER LEDGER.LOG_STAT_USED d.logUsed
  d.putFlag pLEDGER LEDGER.STATUS_LOG_FULL (decide (256 ≤ d.logUsed))

/-! ## The seal (R321) -/

/-- A LEDGER write that is not permitted: discarded, counted, logged. -/
def Dev.sealDiscard (port off t : Nat) (d : Dev) : Dev :=
  let p := pLEDGER
  let d := (d.count p LEDGER.SEAL_CNT_SEAL_DISCARDS).raise p LEDGER.IRQ_RAW_SEAL_DISCARD
  let d := (d.put p LEDGER.FAULT_CODE_CAUSE 1).put p LEDGER.FAULT_CODE_PORT port
  d.logAppend 0x0A port (BitVec.ofNat 32 off) t

/-- A SEAL register accepts a write of this port. -/
def Dev.sealOk (port : Nat) (d : Dev) : Bool :=
  decide (port = 0x0F) && d.flag pLEDGER LEDGER.STATUS_SEALED && d.lockOpen pLEDGER

/-- A write under the seal. -/
def Dev.sealed (port off t : Nat) (f : Dev → Dev) (d : Dev) : Dev := if d.sealOk port then f d else d.sealDiscard port off t

/-- A value out of range (R334). -/
def Dev.ledgerRange (port : Nat) (d : Dev) : Dev :=
  (d.put pLEDGER LEDGER.FAULT_CODE_CAUSE 3).put pLEDGER LEDGER.FAULT_CODE_PORT port

/-- LOG_IN_CODE: MP appends an entry (R329). -/
def Dev.logIn (port : Nat) (w : Word) (t : Nat) (d : Dev) : Dev :=
  d.sealed port 0x0C4 t (fun d =>
    let code := w.toNat % 256
    if code = 1 || code = 9 || 0x80 ≤ code then
      let d := d.logAppend code (w.toNat / 65536) (d.wordAt pLEDGER LEDGER.LOG_IN_DATA 0) t
      if code = 1 then
        { d with prec := { d.prec with tamperLogged := d.prec.tamperLogged ||| 2 ^ (w.toNat / 65536 % 4) } }
      else d
    else d.ledgerRange port)

/-- CTRL.TAMPER_ACK: clears the logged changes (R328). -/
def Dev.tamperAck (port t : Nat) (d : Dev) : Dev :=
  d.sealed port 0x008 t (fun d =>
    let c := d.get pLEDGER LEDGER.TAMPER_STAT_CHANGED
    let d := d.put pLEDGER LEDGER.TAMPER_STAT_CHANGED (c - (c &&& d.prec.tamperLogged))
    { d with prec := { d.prec with tamperLogged := 0 } })

/-- TAMPER_STAT.NOW and STATUS.TAMPER_NOW (R328). -/
def Dev.tamperShow (d : Dev) : Dev :=
  let pol := d.get pLEDGER LEDGER.TAMPER_CFG_POL
  let now := (List.range 4).foldl (fun a k => if d.prec.tamper.testBit k == pol.testBit k then a + 2 ^ k else a) 0
  (d.put pLEDGER LEDGER.TAMPER_STAT_NOW now).putFlag pLEDGER LEDGER.STATUS_TAMPER_NOW
    (decide (now &&& d.get pLEDGER LEDGER.TAMPER_CFG_EN ≠ 0))

/-- A wake event; the first one counts (R458, R475). During the entry it waits for the entry's end. -/
def Dev.wakeBy (cause : Nat) (d : Dev) : Dev :=
  let st := d.get pPWR PWR.STATUS_STATE
  if d.boot.wake.isNone && (st = 2 || st = 3) then
    let d := ({ d with boot := { d.boot with wake := some cause } }).put pPWR PWR.WAKE_CAUSE_CAUSE cause
    if st = 3 then d.put pPWR PWR.STATUS_STATE 4 else d
  else d

/-- TAMPER_CHANGE: a level held for 10 ms (R328). -/
def Dev.tamperChange (k : Nat) (high : Bool) (since t : Nat) (d : Dev) : Dev :=
  if d.prec.tamper.testBit k = high || decide (t < since + 128000000) then d
  else
    let d := { d with prec := { d.prec with tamper := if high then d.prec.tamper + 2 ^ k else d.prec.tamper - 2 ^ k } }
    let d := d.tamperShow
    if d.bit pLEDGER LEDGER.TAMPER_CFG_EN k then
      let w := d.get pLEDGER LEDGER.TAMPER_CNT
      let n := w / 256 ^ k % 256
      let d := d.put pLEDGER LEDGER.TAMPER_CNT (if n = 255 then w else w + 256 ^ k)
      let d := d.raiseBit pLEDGER LEDGER.TAMPER_STAT_CHANGED k
      let l := d.prec.tamperLogged
      let d := { d with prec := { d.prec with tamperLogged := if l.testBit k then l - 2 ^ k else l } }
      let d := if d.boot.gauze then d else d.raise pLEDGER LEDGER.IRQ_RAW_TAMPER
      if d.bit pPWR PWR.GAUZE_CFG_WAKE_EN 2 then d.wakeBy 4 else d
    else d

/-! ## Counters (R322, R323) -/

/-- Add to counter k, saturating; reaching the end is logged. -/
def Dev.energyAdd (k v t : Nat) (d : Dev) : Dev :=
  let old := d.prec.count.getD k 0
  let new := min (2 ^ 64 - 1) (old + v)
  let d := { d with prec := { d.prec with count := d.prec.count.set k new } }
  if new = 2 ^ 64 - 1 && old ≠ new then d.logAppend 8 (0x060 + 8 * k) 0 t else d

/-- The read of a counter's low word captures its high word (R335). -/
def Dev.counterLow (k : Nat) (d : Dev) : Word × Dev :=
  let c := d.prec.count.getD k 0
  (BitVec.ofNat 32 c, { d with prec := { d.prec with capHi := d.prec.capHi.set k (c / 2 ^ 32) } })

/-- RESTORE_GO (R323). -/
def Dev.restore (port k t : Nat) (d : Dev) : Dev :=
  d.sealed port 0x0DC t (fun d =>
    let done := d.get pLEDGER LEDGER.RESTORE_STAT_DONE
    if k = 7 then d.put pLEDGER LEDGER.RESTORE_STAT_DONE 0x3F
    else if 6 ≤ k || done.testBit k then d
    else
      let v := (d.wordAt pLEDGER LEDGER.RESTORE_LO 0).toNat + (d.wordAt pLEDGER LEDGER.RESTORE_HI 0).toNat * 2 ^ 32
      (d.energyAdd k v t).put pLEDGER LEDGER.RESTORE_STAT_DONE (done + 2 ^ k))

/-! ## AC feed (R324) -/

/-- AC_FEED: held until the engine's commit. -/
def Dev.acFeed (port : Nat) (w : Word) (d : Dev) : Dev :=
  if port < 12 && port = d.get pLEDGER LEDGER.LED_CFG_AC_ENG then
    { d with prec := { d.prec with feed := d.prec.feed ++ [(port, w.toInt)] } }
  else
    ((d.count pLEDGER LEDGER.SEAL_CNT_FEED_DISCARDS).put pLEDGER LEDGER.FAULT_CODE_CAUSE 2).put pLEDGER
      LEDGER.FAULT_CODE_PORT port

/-- The feed of engine n's sample is dropped (R132). -/
def Dev.feedDrop (n : Nat) (d : Dev) : Dev :=
  { d with prec := { d.prec with feed := d.prec.feed.filter (fun x => decide (x.1 ≠ n)) } }

/-- FEED_LOST: no write applied for FEED_TO_MS. -/
def Dev.feedLost (t : Nat) (d : Dev) : Dev :=
  match d.prec.feedAt with
  | some a =>
    if d.flag pLEDGER LEDGER.STATUS_FEED_OK && decide (a + 12800000 * d.get pLEDGER LEDGER.LED_CFG_FEED_TO_MS ≤ t) then
      let d := (d.put pLEDGER LEDGER.STATUS_FEED_OK 0).raise pLEDGER LEDGER.IRQ_RAW_FEED_LOST
      let d := d.logAppend 4 (d.get pLEDGER LEDGER.LED_CFG_AC_ENG) (BitVec.ofNat 32 ((t - a) / 12800000)) t
      { d with prec := { d.prec with feedLost := true } }
    else d
  | none => d

/-- The commit of engine n applies its feed; a loss that is due comes first. -/
def Dev.feedApply (n t : Nat) (d : Dev) : Dev :=
  let fs := d.prec.feed.filter (fun x => decide (x.1 = n))
  if fs.isEmpty then d
  else if n ≠ d.get pLEDGER LEDGER.LED_CFG_AC_ENG then d.feedDrop n
  else
    let d := (d.feedLost t).feedDrop n
    let d := d.each (fun x d => if x.2 < 0 then d.energyAdd 1 x.2.natAbs t else d.energyAdd 0 x.2.natAbs t) fs
    let d := if d.prec.feedLost then d.logAppend 5 n 0 t else d
    let d := { d with prec := { d.prec with feedAt := some t, feedLost := false } }
    d.put pLEDGER LEDGER.STATUS_FEED_OK 1

/-! ## DC energy (R325, R326) -/

/-- A binary64 magnitude as m * 2^e. -/
structure B64 where
  m : Nat
  e : Int

/-- Rounded to 53 bits, ties to even. -/
def B64.round (m : Nat) (e : Int) : B64 :=
  let k := Nat.log2 m + 1 - 53
  if k = 0 then ⟨m, e⟩ else ⟨roundEven m (2 ^ k), e + k⟩

/-- The product, rounded once. -/
def B64.mul (a b : B64) : B64 := B64.round (a.m * b.m) (a.e + b.e)

/-- A ratio p / q, rounded. -/
def B64.ofRat (p q : Nat) : B64 := B64.round (p * 2 ^ 120 / q) (-120)

/-- Whole units of 2^-400. -/
def B64.units (a : B64) : Nat := if a.e + 400 < 0 then a.m / 2 ^ (-(a.e + 400)).toNat else a.m * 2 ^ (a.e + 400).toNat

/-- A result times its scale: the magnitude, and the sign. -/
def scaled (v : Int) (scale : Word) : B64 × Bool :=
  let s := fScaled scale
  (B64.round (v.natAbs * s.natAbs) (-149), decide ((v < 0) ≠ (s < 0)))

/-- A counted result of DC_I_IN (R325). -/
def Dev.dcAccumulate (i : Int) (fin len t : Nat) (d : Dev) : Dev :=
  let vs := d.wordAt pLEDGER LEDGER.DC_V_SCALE 0
  let is := d.wordAt pLEDGER LEDGER.DC_I_SCALE 0
  let real := match d.prec.dcEnd with | some a => fin - a | none => len
  let d := { d with prec := { d.prec with dcEnd := some fin } }
  match d.prec.dcV.toArray.getD (d.get pLEDGER LEDGER.LED_CFG_DC_V_IN) none with
  | none => d
  | some v =>
    if fScaled vs = 0 && !isNonFinite vs || fScaled is = 0 && !isNonFinite is then d
    else
      let long := decide (12800000000 < real)
      let d := if long then d.logAppend 6 0 (BitVec.ofNat 32 (real / 12800000)) t else d
      if isNonFinite vs || isNonFinite is then
        let r := d.drawWord
        { r.2 with prec := { r.2.prec with resDis := r.2.prec.resDis + r.1.toNat * 2 ^ 400 } }
      else
        let dt := B64.ofRat (if long then len else real) 12800000000
        let x := scaled v vs
        let y := scaled i is
        let e := (((x.1.mul y.1).mul dt).mul (B64.round 1000 0)).units
        if x.2 = y.2 then { d with prec := { d.prec with resDis := d.prec.resDis + e } }
        else { d with prec := { d.prec with resChg := d.prec.resChg + e } }

/-- A verification interval closes (R326). -/
def Dev.intervalClose (ok : Bool) (t : Nat) (d : Dev) : Dev :=
  let a := d.prec.resDis / 2 ^ 400
  let b := d.prec.resChg / 2 ^ 400
  let d := { d with prec := { d.prec with resDis := d.prec.resDis % 2 ^ 400, resChg := d.prec.resChg % 2 ^ 400 } }
  let d := (d.energyAdd (if ok then 2 else 4) a t).energyAdd (if ok then 3 else 5) b t
  if ok then d
  else
    (d.logAppend 2 0 (BitVec.ofInt 32 (sgn 24 (d.get (pPC 0) PC.PCS_DELTA))) t).raise pLEDGER LEDGER.IRQ_RAW_UNVERIFIED

/-- PLAUS_PERIOD_END (R327). -/
def Dev.plausEnd (t : Nat) (d : Dev) : Dev :=
  let p := pLEDGER
  let per := d.get p LEDGER.PLAUS_CFG_PERIOD_S
  if d.prec.plausAt + per ≤ d.lifeS t then
    let g (k : Nat) : Int := (d.prec.count.getD k 0 : Int) - d.prec.plausBase.getD k 0
    let a := g 0 - g 1
    let tot := g 0 + g 1
    let dc := (g 2 + g 4) - (g 3 + g 5)
    let x : Int := (dc - a) * 10000 - (tot * d.get p LEDGER.PLAUS_CFG_LOSS_BP + d.get p LEDGER.AUX_W_W * per * 10000000)
    let band : Int := d.get p LEDGER.BAND_CFG_BAND_FIX_KJ * 10000000000 + tot * d.get p LEDGER.BAND_CFG_BAND_BP
    let bad := decide (band < x.natAbs)
    let d := { d with prec := { d.prec with plausAt := d.prec.plausAt + per, plausBase := d.prec.count } }
    let last : Word := BitVec.ofInt 32 (Int.tdiv x 10000000000)
    let d := (d.put p LEDGER.PLAUS_LAST last.toNat).raise p LEDGER.IRQ_RAW_PERIOD_DONE
    let d := (d.count p LEDGER.PLAUS_CNT_PERIODS).putFlag p LEDGER.STATUS_PLAUS_FAIL bad
    if bad then ((d.raise p LEDGER.IRQ_RAW_PLAUS_FAIL).count p LEDGER.PLAUS_CNT_FAILS).logAppend 3 0 last t else d
  else d

/-! ## Integration windows (R312 to R314) -/

/-- The fixed length of a kind in taps, and half a nominal period. -/
def WinKind.len : WinKind → Nat
  | .fixed16 => tickTaps 6666667
  | .formed | .fixed20 => tickTaps 8000000
def Dev.halfPeriod (d : Dev) : Nat := if d.triad.live.cfg.getLsbD 0 then tickTaps 3333333 else tickTaps 4000000

/-- The source that WIN and the law call for. -/
def Dev.winWanted (d : Dev) : WinKind :=
  match d.get (pPC 0) PC.WIN_CFG_WIN with
  | 0 => if d.running then .formed else if d.triad.live.cfg.getLsbD 0 then .fixed16 else .fixed20
  | 1 => .fixed20
  | _ => .fixed16

/-- The first instant after `t0` that lies after `after` and at which the angle of a voted record passes 0, to the nearest
tick. -/
def angleZero (t0 : Nat) (theta omega : Word) (hz after : Nat) : Option Nat :=
  let w := fScaled omega
  if isNonFinite omega || w ≤ 0 then none
  else
    let rest := 2 ^ 32 - theta.toNat
    let den := w.toNat * hz
    let tick (k : Nat) : Nat := ((rest + k * 2 ^ 32) * 400000000 * 2 ^ 117 * 2 + den) / (2 * den)
    let per := max 1 (400000000 * 2 ^ 149 / max 1 den)
    let k0 := (after - t0) / 32 / per
    [k0 - 1, k0, k0 + 1].findSome? (fun k => let w := t0 + tickTaps (tick k); if after < w then some w else none)

/-- A voted record moves the pending boundary (R313); `t` is the triad commit deadline. -/
def Dev.windowVote (t : Nat) (d : Dev) : Dev :=
  let v := d.triad.law.vec
  let t0 := d.sampleInstant (d.triad.tickAt.getD 0)
  let hz := if d.triad.live.cfg.getLsbD 0 then 60 else 50
  let d := { d with prec := { d.prec with votedAt := t0, votedTheta := v.theta, votedOmega := v.omega } }
  match angleZero t0 v.theta v.omega hz t0 with
  | some w => if t + tickTaps 40 ≤ w then { d with prec := { d.prec with pend := some w } } else d
  | none => d

/-- The first boundary of a fixed source after `t` (log entry 32). -/
def fixedAfter (len t : Nat) : Nat := (t / len + 1) * len

/-- The end of the window in progress, where it is known; without core power and PC_ON there is no window (R459). -/
def Dev.winEnd (d : Dev) : Option Nat :=
  if d.boot.gauze && !d.flag pPWR PWR.GAUZE_CFG_PC_ON then none else
  let p := d.prec
  let earliest := if p.transitional then p.winStart + d.halfPeriod else p.winStart + 1
  match p.kind with
  | .formed =>
    (match p.pend with
     | some w => some w
     | none => if d.winWanted = WinKind.formed then none else some (fixedAfter (d.winWanted.len) (earliest - 1)))
  | k => some (fixedAfter k.len (earliest - 1))

/-- Converter c. -/
def Dev.conv (c : Nat) (d : Dev) : Conv := d.prec.conv.toArray.getD c .reset
def Dev.setConv (c : Nat) (x : Conv) (d : Dev) : Dev := { d with prec := { d.prec with conv := d.prec.conv.setIfInBounds c x } }

/-- The next enabled input after the one converted last (R315). -/
def nextInput (en : Nat) (last : Option Nat) : Option Nat :=
  match last with
  | none => (List.range 8).find? (fun k => en.testBit k)
  | some l => ((List.range 8).map (fun j => (l + 1 + j) % 8)).find? (fun k => en.testBit k)

/-- REF_EN has been set for 30 ms at t (R318). -/
def Dev.refSettled (c t : Nat) (d : Dev) : Bool :=
  match (d.conv c).refSince with
  | some a => decide (a + 384000000 ≤ t)
  | none => false

/-- Converter c enters the window that starts at t. -/
def Dev.convBegin (c t : Nat) (d : Dev) : Dev :=
  let p := pPC c
  let x := d.conv c
  let run := d.flag p PC.CTRL_RUN
  let pcs := decide (d.prec.winNo % max 1 (d.get (pPC 0) PC.WIN_CFG_PCS_DIV) = 0)
  let inp := if !run then none else if pcs then some 8 else nextInput (d.get p PC.PC_CFG_SEQ_EN) x.lastIn
  let d := d.setConv c { x with
    input := inp, lastIn := if run then (if pcs then x.lastIn else inp.orElse (fun _ => x.lastIn)) else none,
    unsettled := !d.refSettled c t }
  let d := (d.put p PC.STATUS_INPUT (inp.getD 0)).putFlag p PC.STATUS_CONVERTING inp.isSome
  d.putFlag p PC.STATUS_NOT_FORMED (d.prec.kind ≠ WinKind.formed || d.prec.transitional)

/-- The stamp of a window's end: in Gauze it counts from Gauze entry (R232, R459). -/
def Dev.pcStamp (fin : Nat) (d : Dev) : Word :=
  if d.boot.gauze then BitVec.ofNat 32 ((fin - d.boot.gauzeAt) / 32) else d.stampOf fin

/-- Converter c leaves the window that ends at `fin`. -/
def Dev.convEnd (c fin : Nat) (keep : Bool) (d : Dev) : Dev :=
  let x := d.conv c
  let d := match x.input with
    | some i =>
      if keep || i ≠ 8 then
        let e : Ended := ⟨d.prec.winNo, i, fin - d.prec.winStart, fin, d.pcStamp fin,
          d.prec.kind ≠ WinKind.formed || d.prec.transitional, x.unsettled⟩
        d.setConv c { x with ended := x.ended ++ [e] }
      else d
    | none => d
  d.put (pPC c) PC.WIN_NO d.prec.winNo

/-- The PCS check fails (R320). -/
def Dev.pcsFailed (fin : Nat) (d : Dev) : Dev :=
  let f (c : Nat) (d : Dev) : Dev := (d.raise (pPC c) PC.IRQ_RAW_UNVERIFIED).count (pPC c) PC.CNT_UNVER_CNT
  { f 1 (f 0 d) with prec := { (f 1 (f 0 d)).prec with unverAt := some fin } }

/-- WINDOW_BOUNDARY. -/
def Dev.windowBoundary (t : Nat) (d : Dev) : Dev :=
  match d.winEnd with
  | none => d
  | some fin =>
    if t < fin then d
    else
      let early := d.prec.transitional && decide (fin < d.prec.winStart + d.halfPeriod)
      let next := if d.prec.kind = WinKind.formed then
          angleZero d.prec.votedAt d.prec.votedTheta d.prec.votedOmega (if d.triad.live.cfg.getLsbD 0 then 60 else 50) fin
        else d.prec.pend
      let d := { d with prec := { d.prec with pend := next } }
      if early then d
      else
        let pcs (c : Nat) : Bool := decide ((d.conv c).input = some 8)
        let both := pcs 0 && pcs 1
        let one := pcs 0 != pcs 1
        let closes := decide (d.prec.winNo % max 1 (d.get (pPC 0) PC.WIN_CFG_PCS_DIV) = 0) && !both
        let d := (d.convEnd 0 fin both).convEnd 1 fin both
        let d := if one then d.pcsFailed fin else d
        let d := if closes then d.intervalClose false t else d
        let w := d.winWanted
        let d := { d with prec := { d.prec with
          winNo := (d.prec.winNo + 1) % 2 ^ 24, winStart := fin, transitional := decide (w ≠ d.prec.kind), kind := w,
          pend := if w = WinKind.formed then d.prec.pend else none } }
        (d.convBegin 0 fin).convBegin 1 fin

/-! ## Results (R316, R317, R320) -/

/-- The input is differential. -/
def Dev.isDiff (c i : Nat) (d : Dev) : Bool :=
  if i = 8 then d.flag (pPC 0) PC.PC_CFG_PCS_DIFF else d.bit (pPC c) PC.PC_CFG_DIFF i

/-- Clamp with a mark. -/
def clampMark (lo hi v : Int) : Int × Bool := if v < lo then (lo, true) else if hi < v then (hi, true) else (v, false)

/-- The trimmed code of a mean voltage of num / den full scales (R316). -/
def Dev.pcCode (c i : Nat) (num : Int) (den : Nat) (d : Dev) : Int × Bool :=
  let diff := d.isDiff c i
  let lo : Int := if diff then -8388608 else 0
  let hi : Int := if diff then 8388607 else 16777215
  let raw := clampMark lo hi (roundEvenInt (num * (if diff then 8388608 else 16777216)) den)
  let ofs := sgn 24 (d.get (pPC c) PC.TRIM_OFS)
  let tr := clampMark lo hi (roundEvenInt ((raw.1 - ofs) * d.get (pPC c) PC.TRIM_GAIN) 4194304)
  (tr.1, raw.2 || tr.2)

/-- The formatted value. -/
def Dev.pcFormat (c : Nat) (v : Int) (d : Dev) : Word :=
  if d.flag (pPC c) PC.PC_CFG_ALIGN then BitVec.ofNat 32 ((BitVec.ofInt 24 v).toNat * 256) else BitVec.ofInt 32 v

/-! ## Records that land or are lost (R317, R320) -/

/-- The place of a record: converter and slot. -/
def pcSlot (c no : Nat) : Nat := 0x100C0000 + 0x100 * c + 16 * (no % 16)

/-- A record of a ring, from the port that writes them: its converter and slot. -/
def pcPlace (port a : Nat) : Option (Nat × Nat) :=
  if port = 0x15 && decide (0x100C0000 ≤ a) && decide (a < 0x100C0200) then some (a / 0x100 % 2, a / 16 % 16) else none

/-- The check of a PCS window waits for the record of converter c at this slot. -/
def Dev.pcsAwaits (c slot : Nat) (d : Dev) : Bool :=
  match d.prec.pcsWait with
  | some w => decide (w.no % 16 = slot) && w.open'.contains c
  | none => false

/-- A record has landed: the check passes with the second. -/
def Dev.pcLanded (c slot t : Nat) (d : Dev) : Dev :=
  match d.prec.pcsWait with
  | some w =>
    if d.pcsAwaits c slot then
      let o := w.open'.filter (fun k => decide (k ≠ c))
      let d := { d with prec := { d.prec with pcsWait := if o.isEmpty then none else some { w with open' := o } } }
      if o.isEmpty then d.intervalClose true t else d
    else d
  | none => d

/-- A record is lost after its retry: the next one carries GAP. -/
def Dev.pcGap (c : Nat) (d : Dev) : Dev :=
  let p := pPC c
  (((d.count p PC.CNT_GAP_CNT).raise p PC.IRQ_RAW_GAP).put p PC.FAULT_CODE_CAUSE 1).setConv c { d.conv c with gap := true }

/-- A PCS record that did not land fails the check. -/
def Dev.pcsUnlanded (t : Nat) (d : Dev) : Dev :=
  match d.prec.pcsWait with
  | some w =>
    let d := { d with prec := { d.prec with pcsWait := none } }
    let d := (d.put (pPC 0) PC.LAST_INFO (d.get (pPC 0) PC.LAST_INFO ||| 1)).put (pPC 1) PC.LAST_INFO
      (d.get (pPC 1) PC.LAST_INFO ||| 1)
    (d.pcsFailed w.fin).intervalClose false t
  | none => d

/-- CTRL.RUN = 1: takes effect at the next boundary (R315). -/
def Dev.pcRun (c : Nat) (d : Dev) : Dev := d.put (pPC c) PC.CTRL_RUN 1

/-- CTRL.RUN = 0: ends the conversion in progress without a result. -/
def Dev.pcStop (c : Nat) (d : Dev) : Dev :=
  let d := (d.put (pPC c) PC.CTRL_RUN 0).put (pPC c) PC.STATUS_CONVERTING 0
  d.setConv c { d.conv c with input := none, lastIn := none }

/-- A write of CTRL.REF_EN (R318). -/
def Dev.refEn (c : Nat) (on : Bool) (t : Nat) (d : Dev) : Dev :=
  let x := d.conv c
  let d := d.putFlag (pPC c) PC.CTRL_REF_EN on
  if on then (if x.refSince.isSome then d else d.setConv c { x with refSince := some t })
  else d.setConv c { x with refSince := none, unsettled := true }

/-! ## The commands -/

/-- WINDOW_BOUNDARY (R312 to R315). -/
def execWindowBoundary (t : Nat) (s : State) : Host.Outcome State Fault Refusal := run t (fun _ d => d.windowBoundary t) s
/-- PC_RUN (R315). -/
def execPcRun (c : Fin 2) (t : Nat) (s : State) : Host.Outcome State Fault Refusal := runReg t (fun _ d => d.pcRun c.val) s
/-- PC_STOP (R315). -/
def execPcStop (c : Fin 2) (t : Nat) (s : State) : Host.Outcome State Fault Refusal := runReg t (fun _ d => d.pcStop c.val) s
/-- AC_FEED (R324). -/
def execAcFeed (port : Fin 24) (w : Word) (t : Nat) (s : State) : Host.Outcome State Fault Refusal :=
  runReg t (fun _ d => d.acFeed port.val w) s
/-- FEED_LOST (R324). -/
def execFeedLost (t : Nat) (s : State) : Host.Outcome State Fault Refusal := run t (fun _ d => d.feedLost t) s
/-- PLAUS_PERIOD_END (R327). -/
def execPlausPeriodEnd (t : Nat) (s : State) : Host.Outcome State Fault Refusal := run t (fun _ d => d.plausEnd t) s
/-- TAMPER_CHANGE (R328): input, the level of its pin, and since when it has stood. -/
def execTamperChange (k : Fin 4) (high : Bool) (since t : Nat) (s : State) : Host.Outcome State Fault Refusal :=
  run t (fun _ d => d.tamperChange k.val high since t) s
/-- TAMPER_ACK (R328). -/
def execTamperAck (port : Fin 24) (t : Nat) (s : State) : Host.Outcome State Fault Refusal :=
  runReg t (fun _ d => d.tamperAck port.val t) s
/-- LOG_IN_CODE (R329). -/
def execLogInCode (port : Fin 24) (w : Word) (t : Nat) (s : State) : Host.Outcome State Fault Refusal :=
  runReg t (fun _ d => d.logIn port.val w t) s
/-- LOG_RELEASE (R329). -/
def execLogRelease (port : Fin 24) (w : Word) (t : Nat) (s : State) : Host.Outcome State Fault Refusal :=
  runReg t (fun _ d => d.sealed port.val 0x0AC t (fun d => d.logRelease w.toNat)) s
/-- RESTORE_GO (R323). -/
def execRestoreGo (port : Fin 24) (k : Fin 8) (t : Nat) (s : State) : Host.Outcome State Fault Refusal :=
  runReg t (fun _ d => d.restore port.val k.val t) s
/-- RESTORE_CLOSE (R323). -/
def execRestoreClose (port : Fin 24) (t : Nat) (s : State) : Host.Outcome State Fault Refusal :=
  runReg t (fun _ d => d.restore port.val 7 t) s
/-- LEDGER_COUNTER_READ (R271, R335). -/
def execLedgerCounterRead (k : Fin 6) (t : Nat) (s : State) : Host.Outcome State Fault Refusal :=
  runReg t (fun _ d => (d.counterLow k.val).2) s

end Sys2Proof.Machine
end

