-- ==== Sys2Proof/Machine/TriadCmd.lean ====
section
/-!
DEFINITION. The triad's commands: commits, TRANSIT commands, the triad tick, and the events of the sequencer, the law and
ride-through (02_forming_law.md, 03_transients_and_faults.md).
-/
namespace Sys2Proof.Machine

/-! ## Commits (R49 to R51, R65, R100, R102) -/

/-- A commit of a page: refused with cause and offset, or latched for the next triad tick. -/
def Dev.commitPage (p : Nat) (refusal : Option (Nat × Nat)) (pend refused : FieldSpec) (d : Dev) : Dev :=
  match refusal with
  | some (c, o) =>
    let d := d.raise p refused
    (d.put p GFM.FAULT_CODE_CAUSE c).put p GFM.FAULT_CODE_OFFSET o
  | none => (d.latch p).put p pend 1

def Dev.gfmCommit (d : Dev) : Dev :=
  d.commitPage pGFM d.gfmRefusal GFM.STATUS_COMMIT_PENDING GFM.IRQ_RAW_COMMIT_REFUSED
def Dev.prfCommit (d : Dev) : Dev :=
  d.commitPage pPROFILE d.prfRefusal PROFILE.STATUS_COMMIT_PENDING PROFILE.IRQ_RAW_COMMIT_REFUSED
def Dev.frtCommit (d : Dev) : Dev :=
  d.commitPage pFRT d.frtRefusal FRT.STATUS_COMMIT_PENDING FRT.IRQ_RAW_COMMIT_REFUSED
/-- TRANSIT has no bit that reports a commit (R100): a refused set is not latched, and that is all (log entry 20). -/
def Dev.trCommit (d : Dev) : Dev := if d.trRefusal.isSome then d else d.latch pTRANSIT

/-- One page's latched set applies at the triad tick; PARAM_SET counts it (R46, R50). -/
def Dev.applyPage (p : Nat) (report : Dev → Dev) (d : Dev) : Dev :=
  if d.latched p then
    let d := report (d.applyLatch p)
    { d with triad := { d.triad with paramSet := (d.triad.paramSet + 1) % 65536 } }
  else d

/-- Every latched set of the four pages applies (R49, R50). -/
def Dev.applySets (d : Dev) : Dev :=
  let d := d.applyPage pGFM (fun d => (d.put pGFM GFM.STATUS_COMMIT_PENDING 0).raise pGFM GFM.IRQ_RAW_COMMIT_DONE)
  let d := d.applyPage pPROFILE
    (fun d => (d.put pPROFILE PROFILE.STATUS_COMMIT_PENDING 0).raise pPROFILE PROFILE.IRQ_RAW_COMMIT_DONE)
  let d := d.applyPage pTRANSIT (fun d => d)
  d.applyPage pFRT (fun d => (d.put pFRT FRT.STATUS_COMMIT_PENDING 0).raise pFRT FRT.IRQ_RAW_COMMIT_DONE)

/-! ## Positions (R104 to R118) -/

def Dev.pos (k : Nat) (d : Dev) : Position := d.triad.pos.toArray.getD k .reset

/-- A position with its LEASE register (R125). -/
def Dev.setPos (k : Nat) (x : Position) (d : Dev) : Dev :=
  let d := { d with triad := { d.triad with pos := d.triad.pos.setIfInBounds k x } }
  let code : Nat := match x.st with | .counted => 0 | .suspended => 1 | .loading => 2 | .vacant => 3
  let d := d.putAt pVOTER VOTER.LEASE_HOLDER k (if x.st = .vacant then 15 else x.holder)
  (d.putAt pVOTER VOTER.LEASE_POS_STATE k code).putAt pVOTER VOTER.LEASE_EXPIRY k (x.expiry % 65536)

def Dev.spare (d : Dev) : Nat := d.get pVOTER VOTER.VOTE_CFG_SPARE
def Dev.spareEn (d : Dev) : Bool := d.flag pVOTER VOTER.VOTE_CFG_SPARE_EN

/-- The engine holds or loads a position. -/
def Dev.inPosition (n : Nat) (d : Dev) : Bool :=
  (List.range 3).any (fun k => decide ((d.pos k).holder = n) && decide ((d.pos k).st ≠ .vacant))

/-- R110: 64 passes, and not loading into or holding another position. -/
def Dev.eligible (n : Nat) (d : Dev) : Bool := decide (64 ≤ d.passRun n) && !d.inPosition n

/-- The candidate for position k (R110). -/
def Dev.candidate (k : Nat) (start : Bool) (d : Dev) : Option Nat :=
  if (start || d.flag pVOTER VOTER.VOTE_CFG_FAILBACK_EN) && d.eligible (12 + k) then some (12 + k)
  else if d.spareEn && d.eligible d.spare then some d.spare
  else none

/-- The role of an engine that leaves a position (R117, R118, R126). -/
def Dev.idleRole (n : Nat) (d : Dev) : Role :=
  if n < 12 then (if d.spareEn && decide (d.spare = n) then .coldSpare else .legEngine)
  else if d.running then .recovering else .standby

/-- The VOTER fault code (R124). -/
def Dev.voterFault (cause pos eng word : Nat) (d : Dev) : Dev :=
  let d := d.put pVOTER VOTER.FAULT_CODE_CAUSE cause
  let d := d.put pVOTER VOTER.FAULT_CODE_POSITION pos
  (d.put pVOTER VOTER.FAULT_CODE_ENGINE eng).put pVOTER VOTER.FAULT_CODE_WORD word

/-- STATUS.SPARE_READY (R124). -/
def Dev.spareReady (d : Dev) : Dev := d.putFlag pVOTER VOTER.STATUS_SPARE_READY (d.spareEn && d.eligible d.spare)

/-- Vacate a position (R111, R118). -/
def Dev.vacate (k : Nat) (d : Dev) : Dev :=
  let x := d.pos k
  if x.st = .vacant then d
  else
    let d := d.setPos k { x with holder := 15, st := .vacant, loaded := false, withheld := false, back := false, law := .reset }
    d.setRole x.holder (d.idleRole x.holder)

/-- No eligible candidate (R110). -/
def Dev.noCandidate (k : Nat) (d : Dev) : Dev := (d.raise pVOTER VOTER.IRQ_RAW_SPARE_NOT_READY).voterFault 4 k 15 0

/-- Grant position k in sample m: at law start counted at once with the start's state, its lease as of a renewal in the sample
before, so that R113's three samples hold from the first sample on (log entry 23); else loading (R109, R118). -/
def Dev.grant (k : Nat) (start : Option LawState) (d : Dev) : Dev :=
  if (d.pos k).st != .vacant then d
  else match d.candidate k start.isSome with
    | none => d.noCandidate k
    | some n =>
      let m := d.triad.sampleNo
      match start with
      | some l => (d.setPos k ⟨Fin.ofNat 16 n, .counted, m + 2, m, true, false, false, l⟩).setRole n .counted
      | none => (d.setPos k ⟨Fin.ofNat 16 n, .loading, m + 3, m, false, false, (d.pos k).back && decide (12 ≤ n), .reset⟩).setRole n .loading

/-! ## The outcome in force (R60) -/

/-- Set the bits of a mask in an IRQ_RAW word. -/
def Dev.raiseMask (p m : Nat) (d : Dev) : Dev :=
  if m = 0 then d else d.setReg (p * 0x1000 + 0x010) (d.reg (p * 0x1000 + 0x010) ||| BitVec.ofNat 32 m)

/-- The channel's state of R99: y differs from its target. -/
def movingMask (i : PrfPar) (l : LawState) : Nat :=
  let b (c : Chan) (p : ChanPar) : Nat := if valKey c.y = valKey p.tgt then 0 else 1
  b l.chP i.p + b l.chQ i.q * 2 + b l.chW i.w * 4 + (if valKey l.chV.y = valKey l.tgtV then 0 else 8)

/-- An override of R66 acts. -/
def TrState.overrides : TrState → Bool
  | .energise | .sync | .rideThrough | .recover | .stopping => true
  | .idle | .deadbus | .closeOut | .armed | .island | .closeBrk | .grid | .openPcc => false

/-- The registers that show the law's state (R54, R99, R100, R102). -/
def Dev.showLaw (l : LawState) (d : Dev) : Dev :=
  let st := l.seq.st
  let d := d.put pTRANSIT TRANSIT.STATUS_STATE st.code
  let d := d.putFlag pTRANSIT TRANSIT.STATUS_OUT_CLOSED l.seq.outClosed
  let d := d.putFlag pTRANSIT TRANSIT.STATUS_PCC_CLOSED l.seq.pccClosed
  let d := d.putFlag pTRANSIT TRANSIT.STATUS_SYNC_OK l.seq.syncOk
  let d := d.putFlag pTRANSIT TRANSIT.STATUS_BUS_DEAD l.seq.busDead
  let d := d.put pTRANSIT TRANSIT.OBS_DTHETA l.seq.obsTheta.toNat
  let d := d.put pTRANSIT TRANSIT.OBS_DF l.seq.obsDf.toNat
  let d := d.put pTRANSIT TRANSIT.OBS_DV l.seq.obsDv.toNat
  let d := d.putFlag pGFM GFM.STATUS_RUNNING st.runs
  let d := d.putFlag pGFM GFM.STATUS_HOLD l.holdNow
  let d := d.put pPROFILE PROFILE.STATUS_MOVING (movingMask d.prfPar l)
  let d := d.putFlag pPROFILE PROFILE.STATUS_OVERRIDE st.overrides
  let d := d.put pPROFILE PROFILE.FE_TIMER_P l.feP
  let d := d.put pPROFILE PROFILE.FE_TIMER_V l.feV
  let d := d.putFlag pFRT FRT.STATUS_RT_ACTIVE (decide (st = .rideThrough))
  let d := d.putFlag pFRT FRT.STATUS_RECOVERING (decide (st = .recover))
  let d := d.putFlag pFRT FRT.STATUS_VI_RAISED (fLt 0 l.rt.delta)
  (d.put pFRT FRT.RT_STAT_ENTRIES l.rt.entries).put pFRT FRT.RT_STAT_ELAPSED_MS l.rt.elapsedMs

/-- What a sample reported (R54, R99, R100, R102). -/
def Dev.showOut (o : SampleOut) (d : Dev) : Dev :=
  let d := (((d.raiseMask pGFM o.gfmIrq).raiseMask pPROFILE o.prfIrq).raiseMask pTRANSIT o.trIrq).raiseMask pFRT o.frtIrq
  let d := match o.gfmFault with
    | some (c, a) => (d.put pGFM GFM.FAULT_CODE_CAUSE c).put pGFM GFM.FAULT_CODE_OFFSET a
    | none => d
  match o.trFault with
  | some (c, st) => (d.put pTRANSIT TRANSIT.FAULT_CODE_CAUSE c).put pTRANSIT TRANSIT.FAULT_CODE_STATE_FROM st
  | none => d

/-- The law state without what it reported. -/
def LawState.quiet (l : LawState) : LawState := { l with out := .none }

/-- From ARM_START until the start or IDLE the wire belongs to the sequencer (R79, R300). -/
def Dev.wireBlocked (d : Dev) : Bool :=
  let q := d.triad.law.seq
  !q.st.runs && decide (q.st ≠ .idle) && (decide (q.mission = .armStart) || decide (q.wait = .sequential))

/-- Where the wire passes to the sequencer, acquisition drives it no more (R300). -/
def Dev.wireHandover (was : Bool) (d : Dev) : Dev :=
  if !was && d.wireBlocked then { d with acq := { d.acq with wireDrive := none } } else d

/-- An outcome takes effect: state, reports, breaker commands, the wire, the start or stop of the law (R60, R118, R492). On
leaving IDLE the RWL settings of the GFM page are taken (R27, R52). While the law runs on, the breaker pins wait for the voted
word 28 (R104). -/
def Dev.adopt (t : Nat) (l : LawState) (d : Dev) : Dev :=
  let o := l.out
  let ran := d.running && l.seq.st.runs
  let live := if d.triad.law.seq.st = .idle && l.seq.st != .idle then d.gfmRegs else d.triad.live
  let was := d.wireBlocked
  let d := { d with triad := { d.triad with law := l.quiet, live := live, brkCmd := if ran then d.triad.brkCmd else l.seq.brk } }
  let d := (d.showLaw l).showOut o
  let d := (d.brkSync t).wireHandover was
  let d := if o.wireDrive then { d with acq := { d.acq with wireDrive := some t } } else d
  let d := if l.seq.st.runs || l.seq.st = .idle then { d with triad := { d.triad with wireEdge := none } } else d
  let d := if o.started then d.each (fun k d => d.grant k (some { l with out := { SampleOut.none with flags := o.flags } })) (List.range 3)
    else d
  let d := if o.legsOff && !d.pw.seqHold then d.allLegsOff t else d
  let d := if l.seq.st.runs then d
    else { d.each (fun k d => d.vacate k) (List.range 3) with pw := { d.pw with seqHold := true } }
  let d := if l.seq.st.runs then d
    else { d with triad := { d.triad with hold := false, holdCnt := 0, holdShut := none } }
  d.settle t

/-! ## TRANSIT commands (R73) -/

/-- A write of CTRL.CMD: code 0 does nothing; a second write replaces the first. -/
def Dev.transitCmd (code : Nat) (d : Dev) : Dev :=
  if code = 0 then d
  else ({ d with triad := { d.triad with cmd := some code } }).put pTRANSIT TRANSIT.STATUS_CMD_PENDING 1

/-! ## The triad tick (R61) -/

/-- A triad tick falls at t (R155); None acts in debug halt or in
IDLE (R160, R454). -/
def Dev.triadDue (t : Nat) (d : Dev) : Bool :=
  !d.pw.halted && !d.boot.idle && !d.boot.gauze && d.triad.tickAt.all (fun a => decide (a < t)) &&
    d.onGrid t (d.get (pENG 12) TE.TICK_PHASE_TICKS) d.triad.live.period

/-- Four counts in the layout of R58. -/
def countWord (l : List Nat) : Word :=
  BitVec.ofNat 32 (l.getD 0 0 + l.getD 1 0 * 2 ^ 8 + l.getD 2 0 * 2 ^ 16 + l.getD 3 0 * 2 ^ 24)

/-- GROUP_ASSIGNED follows the assignment (R58). -/
def Dev.assignedWord (d : Dev) : Word := countWord d.groupCounts.assigned

/-- GROUP_ACTIVE is updated before each triad sample (R58). -/
def Dev.groupRegs (d : Dev) : Dev :=
  d.setReg (GFM.GROUP_ACTIVE_GA.addr pGFM 0) (countWord d.groupCounts.active)

/-- A grant is withdrawn (R111, R116). -/
def Dev.withdraw (k : Nat) (d : Dev) : Dev :=
  let n := (d.pos k).holder
  let d := d.vacate k
  let d := d.putAt pVOTER VOTER.HEALTH_PASS_RUN n 0
  ((d.raise pVOTER VOTER.IRQ_RAW_SELFTEST_FAIL).voterFault 7 k n 0).spareReady

/-- The tick of sample s + 2: a loaded candidate takes the checkpoint of s + 1 and joins; an unfinished load is withdrawn;
during a hold it waits (R109, R111, R115). -/
def Dev.joinOrWithdraw (k : Nat) (d : Dev) : Dev :=
  let x := d.pos k
  if x.st = .loading && decide (x.grantAt + 2 ≤ d.triad.sampleNo) && !d.triad.hold then
    if x.loaded then
      d.setPos k { x with st := .counted, law := d.triad.ckpt }
    else d.withdraw k
  else d

/-- Faults in the record of position k in this sample: words combined by exclusive or. -/
def upsetWords (k : Nat) (ups : List (Fin 3 × Fin 32 × Word)) (ws : List Word) : List Word :=
  (List.range 32).map (fun j =>
    ups.foldl (fun w u => if u.1.val = k && u.2.1.val = j then w ^^^ u.2.2 else w) (ws.getD j 0))

/-- The open bytes of a state block in the buffer at `a` (R105; log entry 13). -/
def blockCells (a sample : Nat) : List Host.Cell :=
  (List.range 512).map (fun j => (a + j, Config.stateBlockByte (a + j) sample))

/-- The state of the tick before any member runs: number, counts, sets, joining, and the inputs presented. -/
def Dev.tickBegin (t : Nat) (d : Dev) : Dev :=
  let n := if d.triad.tickAt.isNone then 0 else d.triad.sampleNo + 1
  let d := { d with triad := { d.triad with sampleNo := n, tickAt := some t, sampleOpen := true } }
  let d := (d.groupRegs.applySets).putFlag pTRANSIT TRANSIT.STATUS_TIME_LOCKED d.bus.nt.locked
  d.each (fun k d => d.joinOrWithdraw k) (List.range 3)

/-- The latched inputs are used up. -/
def Dev.tickUsed (d : Dev) : Dev :=
  let d := { d with triad := { d.triad with cmd := none }, boot := { d.boot with stopDue := false },
                    pw := { d.pw with dev := { d.pw.dev with fresh := false } } }
  d.put pTRANSIT TRANSIT.STATUS_CMD_PENDING 0

/-! ## Events of the sequencer, the law and ride-through -/

/-- A transition of the law outside the tick: the outcome in force and every holder take it. -/
def Dev.lawEvent (m : List Host.Cell) (t : Nat) (f : LawIn → LawState → LawState) (d : Dev) : Dev :=
  let i := d.lawIn m t
  let d := d.each (fun k d =>
    let x := d.pos k
    if x.st = .counted || x.st = .suspended then d.setPos k { x with law := (f i x.law.quiet).quiet } else d)
    (List.range 3)
  d.adopt t (f i d.triad.law.quiet)

/-- R44: an input beyond HOLD_MAX. -/
def LawState.evHoldExpired (i : LawIn) (l : LawState) : LawState :=
  let fs := i.v ++ i.i
  if (List.range 6).any (fun k => (fs.getD k ⟨false, 0, 0⟩).holdMax < (l.inputs.getD k ⟨none, 0⟩).held) then
    l.shutdown i 0x10
  else l

/-- R45: eight consecutive non-finite samples. -/
def LawState.evNonFinite (i : LawIn) (l : LawState) : LawState := if 8 ≤ l.nonFinite then l.shutdown i 0x10 else l

/-- R69: a following-error timer stands at FE_CYC. -/
def LawState.evFe (i : LawIn) (l : LawState) : LawState :=
  let p := i.prf.fePEn && decide (i.prf.feCyc ≤ l.feP)
  let v := i.prf.feVEn && decide (i.prf.feCyc ≤ l.feV)
  if l.seq.st.runs && !l.seq.st.feHold && (p || v) then
    let l := if p then l.prfEvent 3 else l
    let l := if v then l.prfEvent 4 else l
    if i.prf.feAction then l.shutdown i 0x0F else l
  else l

/-- R90: entry by saturation is decided. -/
def LawState.evSat (i : LawIn) (l : LawState) : LawState :=
  if i.frt.rtEn && i.frt.satEntry && l.seq.outClosed && l.seq.st.rtStates && decide (i.frt.satN ≤ l.rt.satRun) &&
      !l.rt.pendEntry then
    let l := l.frtEvent 2
    { l with rt := { l.rt with pendEntry := true } }
  else l

/-- R93: ride-through lasts beyond TMAX_MS; the trip acts in the next sample. -/
def LawState.evTmax (i : LawIn) (l : LawState) : LawState :=
  if i.frt.rtEn && decide (l.seq.st = .rideThrough) && decide (msTaps i.frt.tmaxMs < l.rtElapsed i.t) then
    (l.frtEvent 4).decideStop (!i.frt.tripStop) 0x0E
  else l

/-- R94: the exit count is reached; RECOVER follows. -/
def LawState.evExit (i : LawIn) (l : LawState) : LawState :=
  if l.seq.st = .rideThrough && decide (i.frt.exitN ≤ l.rt.exitRun) then
    (if l.rt.pendExit then l else l.frtEvent 3).rtLeave i
  else l

/-- The end of the 20 ms ramp of R44 or of R115. -/
def Dev.rampEnd (m : List Host.Cell) (t : Nat) (d : Dev) : Dev :=
  match d.triad.holdShut with
  | some s => if s + msTaps 20 ≤ t then d.lawEvent m t (fun i l => l.toIdle i (some 0x10)) else d
  | none => d.lawEvent m t (fun i l => l.trRampEnd i)

/-- GFM.CTRL.SNAP (R54): words of the active voted record and of the checkpoint written with it. -/
def Dev.gfmSnap (m : List Host.Cell) (d : Dev) : Dev :=
  let a := if (d.byte m 0x100F0300).toNat % 2 = 1 then 0x100F0280 else 0x100F0200
  let w (k : Nat) : Nat := (d.word m (a + 4 * k)).toNat
  let c := d.triad.ckpt
  let d := d.put pGFM GFM.OBS_P c.pf.toNat
  let d := d.put pGFM GFM.OBS_Q c.qf.toNat
  let d := d.put pGFM GFM.OBS_W (w 3)
  let d := d.put pGFM GFM.OBS_V c.vStar.toNat
  let d := d.put pGFM GFM.OBS_LIMIT (w 14)
  let d := d.put pGFM GFM.OBS_ILIM (w 13)
  let d := d.put pGFM GFM.SET_P (w 16)
  let d := d.put pGFM GFM.SET_Q (w 17)
  let d := d.put pGFM GFM.SET_W (w 18)
  let d := d.put pGFM GFM.SET_V (w 19)
  d.put pGFM GFM.SAMPLE_NO (w 1)

/-! ## The commands -/

/-- GFM_COMMIT (R49 to R51). -/
def execGfmCommit (t : Nat) (s : State) : Host.Outcome State Fault Refusal := runReg t (fun _ d => d.gfmCommit) s
/-- PROFILE_COMMIT (R65). -/
def execProfileCommit (t : Nat) (s : State) : Host.Outcome State Fault Refusal := runReg t (fun _ d => d.prfCommit) s
/-- TRANSIT_COMMIT (R100). -/
def execTransitCommit (t : Nat) (s : State) : Host.Outcome State Fault Refusal := runReg t (fun _ d => d.trCommit) s
/-- FRT_COMMIT (R102). -/
def execFrtCommit (t : Nat) (s : State) : Host.Outcome State Fault Refusal := runReg t (fun _ d => d.frtCommit) s
/-- GFM_SNAP (R54). -/
def execGfmSnap (t : Nat) (s : State) : Host.Outcome State Fault Refusal := runReg t (fun m d => d.gfmSnap m) s
/-- HOLD_EXPIRED (R44). -/
def execHoldExpired (t : Nat) (s : State) : Host.Outcome State Fault Refusal :=
  run t (fun m d => d.lawEvent m t (fun i l => l.evHoldExpired i)) s
/-- NONFINITE_LIMIT (R45). -/
def execNonfiniteLimit (t : Nat) (s : State) : Host.Outcome State Fault Refusal :=
  run t (fun m d => d.lawEvent m t (fun i l => l.evNonFinite i)) s
/-- SHUTDOWN_RAMP_END (R44, R115). -/
def execShutdownRampEnd (t : Nat) (s : State) : Host.Outcome State Fault Refusal := run t (fun m d => d.rampEnd m t) s
/-- FE_EXPIRED (R69). -/
def execFeExpired (t : Nat) (s : State) : Host.Outcome State Fault Refusal :=
  run t (fun m d => d.lawEvent m t (fun i l => l.evFe i)) s
/-- BLACK_START (R73, R77). -/
def execBlackStart (t : Nat) (s : State) : Host.Outcome State Fault Refusal := runReg t (fun _ d => d.transitCmd 1) s
/-- ARM_START (R73, R78). -/
def execArmStart (t : Nat) (s : State) : Host.Outcome State Fault Refusal := runReg t (fun _ d => d.transitCmd 2) s
/-- ATTACH (R73, R80). -/
def execAttach (t : Nat) (s : State) : Host.Outcome State Fault Refusal := runReg t (fun _ d => d.transitCmd 3) s
/-- RECONNECT (R73). -/
def execReconnect (t : Nat) (s : State) : Host.Outcome State Fault Refusal := runReg t (fun _ d => d.transitCmd 4) s
/-- ISLAND (R73, R85). -/
def execIsland (t : Nat) (s : State) : Host.Outcome State Fault Refusal := runReg t (fun _ d => d.transitCmd 5) s
/-- STOP (R73). -/
def execStop (t : Nat) (s : State) : Host.Outcome State Fault Refusal := runReg t (fun _ d => d.transitCmd 6) s
/-- ABORT_SYNC (R73). -/
def execAbortSync (t : Nat) (s : State) : Host.Outcome State Fault Refusal := runReg t (fun _ d => d.transitCmd 7) s
/-- DEAD_MS_EXPIRED (R77). -/
def execDeadMsExpired (t : Nat) (s : State) : Host.Outcome State Fault Refusal :=
  run t (fun m d => d.lawEvent m t (fun i l => l.trDeadbus i)) s
/-- BRK_FB_TIMEOUT (R74). -/
def execBrkFbTimeout (t : Nat) (s : State) : Host.Outcome State Fault Refusal :=
  run t (fun m d => d.lawEvent m t (fun i l => l.trFbTimeout i)) s
/-- START_INSTANT (R78). -/
def execStartInstant (t : Nat) (s : State) : Host.Outcome State Fault Refusal :=
  run t (fun m d => d.lawEvent m t (fun i l => l.trStart i)) s
/-- LEAD_WIRE_INSTANT (R79). -/
def execLeadWireInstant (t : Nat) (s : State) : Host.Outcome State Fault Refusal :=
  run t (fun m d => d.lawEvent m t (fun i l => l.trLeadWire i)) s
/-- FAR_SIDE_SETTLED (R80, R83). -/
def execFarSideSettled (t : Nat) (s : State) : Host.Outcome State Fault Refusal :=
  run t (fun m d => d.lawEvent m t (fun i l => l.trFarSettled i)) s
/-- SYNC_CLOSE (R82). -/
def execSyncClose (t : Nat) (s : State) : Host.Outcome State Fault Refusal :=
  run t (fun m d => d.lawEvent m t (fun i l => l.trSyncClose i)) s
/-- SYNC_TIMEOUT (R83). -/
def execSyncTimeout (t : Nat) (s : State) : Host.Outcome State Fault Refusal :=
  run t (fun m d => d.lawEvent m t (fun i l => l.trSyncTimeout i)) s
/-- RT_SAT_COUNT (R90). -/
def execRtSatCount (t : Nat) (s : State) : Host.Outcome State Fault Refusal :=
  run t (fun m d => d.lawEvent m t (fun i l => l.evSat i)) s
/-- RT_TMAX_EXPIRED (R93). -/
def execRtTmaxExpired (t : Nat) (s : State) : Host.Outcome State Fault Refusal :=
  run t (fun m d => d.lawEvent m t (fun i l => l.evTmax i)) s
/-- RT_EXIT (R94). -/
def execRtExit (t : Nat) (s : State) : Host.Outcome State Fault Refusal :=
  run t (fun m d => d.lawEvent m t (fun i l => l.evExit i)) s

end Sys2Proof.Machine
end

