-- ==== Sys2Proof/Machine/Voter.lean ====
section
/-!
DEFINITION. The voter: the vote, leases, grants, the spare, the hold, the comparator test, and the two segment roles
(04_reference_triad.md).
-/
namespace Sys2Proof.Machine

/-! ## The vote (R106) -/

/-- What the voter sees of one counted position: its record, or `none` where it is missing. -/
abbrev Ballot := Nat × Option (List Word)

/-- Two records agree; a missing record differs from every other. -/
def agrees (a b : Option (List Word)) : Bool :=
  match a, b with
  | some x, some y => decide (x = y)
  | _, _ => false

/-- The outcome: the agreeing positions, the dissenter, and MODE (R125). -/
structure Verdict where
  agree : List Nat
  dissent : Option Nat
  mode : Nat

/-- The table of R106. -/
def vote : List Ballot → Verdict
  | [a, b, c] =>
    if agrees a.2 b.2 && agrees b.2 c.2 then ⟨[a.1, b.1, c.1], none, 0⟩
    else if agrees a.2 b.2 then ⟨[a.1, b.1], some c.1, 1⟩
    else if agrees a.2 c.2 then ⟨[a.1, c.1], some b.1, 1⟩
    else if agrees b.2 c.2 then ⟨[b.1, c.1], some a.1, 1⟩
    else ⟨[], none, 3⟩
  | [a, b] => if agrees a.2 b.2 then ⟨[a.1, b.1], none, 2⟩ else ⟨[], none, 3⟩
  | _ => ⟨[], none, 3⟩

/-- The lowest word in which two records differ. -/
def firstDiff (a b : List Word) : Nat := (List.range 32).find? (fun j => a.getD j 0 != b.getD j 0) |>.getD 0

/-- The 32 words at an address. -/
def Dev.record (m : List Host.Cell) (a : Nat) (d : Dev) : List Word := (List.range 32).map (fun j => d.word m (a + 4 * j))

/-- The positions counted in this sample (R106, R108). -/
def Dev.countedPos (d : Dev) : List Nat :=
  (List.range 3).filter (fun k => decide ((d.pos k).st = .counted) && decide (d.triad.sampleNo ≤ (d.pos k).expiry))

/-- The instant at which the record of position k was complete, within the deadline. -/
def completed (k deadline : Nat) (done : List (Fin 3 × Nat)) : Option Nat :=
  (done.find? (fun x => decide (x.1.val = k) && decide (x.2 ≤ deadline))).map (·.2)

/-- The ballots of this sample. -/
def Dev.ballots (m : List Host.Cell) (deadline : Nat) (done : List (Fin 3 × Nat)) (d : Dev) : List Ballot :=
  d.countedPos.map (fun k =>
    (k, (completed k deadline done).map (fun _ => d.record m (0x100F0000 + 0x80 * k))))

/-- Renew a lease (R108). -/
def Dev.renew (k : Nat) (d : Dev) : Dev :=
  let x := d.pos k
  if x.withheld then d else d.setPos k { x with expiry := d.triad.sampleNo + 3 }

/-- A holder is outvoted (R106, R116): not renewed, suspended from the next sample, its pass run gone. -/
def Dev.outvote (m : List Host.Cell) (k : Nat) (voted : List Word) (missing : Bool) (d : Dev) : Dev :=
  let x := d.pos k
  let word := if missing then 0 else firstDiff (d.record m (0x100F0000 + 0x80 * k)) voted
  let d := d.setPos k { x with st := .suspended }
  let d := { d with triad := { d.triad with outvotedAt := d.triad.tickAt.getD 0 + 1 } }
  let d := d.setRole x.holder .suspended
  let d := d.putAt pVOTER VOTER.HEALTH_PASS_RUN x.holder 0
  let f := if k = 0 then VOTER.DISAGREE_POS0 else if k = 1 then VOTER.DISAGREE_POS1 else VOTER.DISAGREE_POS2
  ((d.count pVOTER f).raise pVOTER VOTER.IRQ_RAW_OUTVOTED).voterFault (if missing then 2 else 1) k x.holder word

/-- Publish a record in the inactive buffer and make it active (R17, R106); while the comparator test runs the active record
holds (R119). -/
def Dev.publish (ws : List Word) (d : Dev) : Dev :=
  if d.triad.testBusy then d else
  let b := !d.triad.bufB
  let d := d.pokeWords (if b then 0x100F0280 else 0x100F0200) ws
  let d := d.pokeWords 0x100F0300 [if b then 1 else 0]
  { d with triad := { d.triad with bufB := b } }

/-- The checkpoint of position k: its state block into the inactive buffer, the ring entry (R105, R107). -/
def Dev.checkpoint (m : List Host.Cell) (k : Nat) (l : LawState) (d : Dev) : Dev :=
  let n := d.triad.sampleNo
  let b := !d.triad.ckptB
  let e := l.ring.headD ⟨.zero, .zero, .zero⟩
  let dst := if b then 0x100F0C00 else 0x100F0A00
  let d := d.stage ((List.range 512).map (fun j => (dst + j, d.byte m (0x100F0400 + 0x200 * k + j))))
  let d := d.pokeWords (0x100F1000 + 24 * (n % 2 ^ 32 % 600)) [e.v.x, e.v.y, e.i.x, e.i.y, e.far.x, e.far.y]
  { d with triad := { d.triad with ckpt := l.quiet, ckptSample := n, ckptB := b } }

/-- A joiner first counted in this sample: TAKEOVER, or FAILBACK for a home member after a withheld renewal (R109, R117). -/
def Dev.joined (k : Nat) (d : Dev) : Dev :=
  let x := d.pos k
  if x.st = .counted && x.loaded && decide (x.grantAt < d.triad.sampleNo) && decide ((d.engine x.holder).role = .loading) then
    let d := d.setRole x.holder .counted
    if x.back then (d.raise pVOTER VOTER.IRQ_RAW_FAILBACK).count pVOTER VOTER.EVENTS_FAILBACKS
    else (d.raise pVOTER VOTER.IRQ_RAW_TAKEOVER).count pVOTER VOTER.EVENTS_TAKEOVERS
  else d

/-! ## The voter step (R106 to R118) -/

/-- The home member of a position held by the spare has its 64 passes (R117). -/
def Dev.failbackDue (k : Nat) (d : Dev) : Bool :=
  let x := d.pos k
  x.st = .counted && decide (x.holder < 12) && !x.withheld && d.flag pVOTER VOTER.VOTE_CFG_FAILBACK_EN &&
    d.eligible (12 + k)

/-- The renewal of the spare in position k is withheld from now on (R117). -/
def Dev.withhold (k : Nat) (d : Dev) : Dev :=
  if d.failbackDue k then d.setPos k { d.pos k with withheld := true } else d

/-- A lease that is not renewed ends with the step of its expiry sample (R108, R117). -/
def Dev.expire (k : Nat) (d : Dev) : Dev :=
  let x := d.pos k
  if (x.st = .suspended || (x.st = .counted && x.withheld)) && decide (x.expiry ≤ d.triad.sampleNo) then
    let d := d.vacate k
    d.setPos k { d.pos k with back := x.withheld }
  else d

/-- The held record with words 6 to 10 scaled (R115; log entry 14). -/
def scaledRecord (since t : Nat) (ws : List Word) : List Word :=
  (List.range 32).map (fun j =>
    let w := ws.getD j 0
    if 6 ≤ j && j ≤ 10 then ((FV.of w).mul (rampFactor since (min t (since + msTaps 20)))).w else w)

/-- The ninth consecutive no-majority sample (R115). -/
def Dev.holdShutdown (m : List Host.Cell) (t : Nat) (d : Dev) : Dev :=
  if d.triad.hold && decide (9 ≤ d.triad.holdCnt) && d.triad.holdShut.isNone && d.running then
    let a := if d.triad.bufB then 0x100F0280 else 0x100F0200
    let d := { d with triad := { d.triad with holdShut := some t, heldRec := d.record m a } }
    let d := (d.raise pVOTER VOTER.IRQ_RAW_HOLD_SHUTDOWN).raise pGFM GFM.IRQ_RAW_HOLD_EXPIRED
    d.adopt t (d.triad.law.quiet.shutdown (d.lawIn m t) 0x10)
  else d

/-- VOTE_STAT and STATUS (R124, R125). -/
def Dev.voteStat (mode : Nat) (d : Dev) : Dev :=
  let d := { d with triad := { d.triad with mode := mode } }
  let d := d.put pVOTER VOTER.VOTE_STAT_MODE mode
  let d := d.put pVOTER VOTER.VOTE_STAT_HOLD_CNT (min 8 d.triad.holdCnt)
  d.putFlag pVOTER VOTER.STATUS_HOLD d.triad.hold

/-- A waiting load keeps its lease through a no-majority sample (R108, R115; log entry 23). -/
def Dev.keepLoad (k : Nat) (d : Dev) : Dev :=
  let x := d.pos k
  if x.st = .loading then d.setPos k { x with expiry := d.triad.sampleNo + 3 } else d

/-- A sample without a majority (R115): leases of counted holders are renewed, nothing is published. -/
def Dev.noMajority (m : List Host.Cell) (t : Nat) (d : Dev) : Dev :=
  let d := d.each (fun k d => d.renew k) d.countedPos
  let d := d.each (fun k d => d.keepLoad k) (List.range 3)
  let d := if d.triad.hold then d else (d.raise pVOTER VOTER.IRQ_RAW_NO_MAJORITY).voterFault 3 0 15 0
  let d := { d with triad := { d.triad with hold := true, holdCnt := min 9 (d.triad.holdCnt + 1) } }
  (d.voteStat 3).holdShutdown m t

/-- A sample with a voted record: renewals, the outvote, the record, the checkpoint, the outcome (R60, R106, R107). -/
def Dev.majority (m : List Host.Cell) (t : Nat) (v : Verdict) (missing : Bool) (d : Dev) : Dev :=
  let k0 := v.agree.headD 0
  let l := (d.pos k0).law
  let ws := d.record m (0x100F0000 + 0x80 * k0)
  let d := d.each (fun k d => d.renew k) v.agree
  let d := match v.dissent with | some k => d.outvote m k ws missing | none => d
  let d := { d with triad := { d.triad with hold := false, holdCnt := 0, lastVoted := some d.triad.sampleNo } }
  let d := ((((d.voteStat v.mode).publish ws).checkpoint m k0 l).adopt t l).windowVote t
  ({ d with triad := { d.triad with brkCmd := bitsGet (ws.getD 28 0) 23 16 } }).brkSync t

/-- Leases that end and positions that stand vacant (R109, R110). -/
def Dev.leases (d : Dev) : Dev :=
  let d := d.each (fun k d => d.expire k) (List.range 3)
  if d.running && d.triad.holdShut.isNone then d.each (fun k d => d.grant k none) (List.range 3) else d

/-- The voter step while the law runs. -/
def Dev.voterRun (m : List Host.Cell) (t deadline : Nat) (done : List (Fin 3 × Nat)) (d : Dev) : Dev :=
  match d.triad.holdShut with
  | some s =>
    let d := d.publish (scaledRecord s t d.triad.heldRec)
    if s + msTaps 20 ≤ t then d.adopt t (d.triad.law.quiet.toIdle (d.lawIn m t) (some 0x10)) else d
  | none =>
    let d := d.each (fun k d => d.withhold k) (List.range 3)
    let d := d.each (fun k d => d.joined k) d.countedPos
    let v := vote (d.ballots m deadline done)
    let missing := v.dissent.any (fun k => (completed k deadline done).isNone)
    let lost := d.felt.failed.contains 0x10
    let d := { d with felt := { d.felt with failed := d.felt.failed.filter (fun p => decide (p ≠ 0x10)) } }
    let d := if v.agree.isEmpty || lost then d.noMajority m t else d.majority m t v missing
    d.leases

/-! ## Self-tests (R116) -/

/-- The engine runs self-tests: cold spare, recovering, or triad standby while the law does not run. -/
def Dev.tests (n : Nat) (d : Dev) : Bool :=
  !d.inPosition n && (if n < 12 then d.spareEn && decide (d.spare = n) else true)

/-- The position that engine n loads, or has joined without being counted yet (R111). -/
def Dev.loadingPos (n : Nat) (d : Dev) : Option Nat :=
  (List.range 3).find? (fun k => decide ((d.pos k).holder = n) &&
    (decide ((d.pos k).st = .loading) ||
      (decide ((d.pos k).st = .counted) && decide ((d.engine n).role = .loading))))

/-- A failed pass: its part is 1 to 4. -/
def Dev.testFailed (n part : Nat) (d : Dev) : Dev :=
  let d := d.putAt pVOTER VOTER.HEALTH_LAST_FAIL n part
  let d := d.countAt pVOTER VOTER.HEALTH_FAIL_CNT n
  let d := d.putAt pVOTER VOTER.HEALTH_PASS_RUN n 0
  (d.raise pVOTER VOTER.IRQ_RAW_SELFTEST_FAIL).voterFault 7 0 n 0

/-- SPARE_HAS_LEGS (R114). -/
def Dev.spareLegs (d : Dev) : Dev :=
  if d.spareEn && !(d.engLegs d.spare).isEmpty then
    (d.raise pVOTER VOTER.IRQ_RAW_SPARE_HAS_LEGS).voterFault 5 0 d.spare 0
  else d

/-- A self-test pass of engine n ends. -/
def Dev.selftest (n : Nat) (fail : Option (Fin 4)) (d : Dev) : Dev :=
  if d.boot.idle then d else
  match d.loadingPos n, fail with
  | some k, some part => (d.testFailed n (part.val + 1)).withdraw k
  | some _, none => d
  | none, _ =>
    if d.tests n then
      let old := (d.engine n).role
      let d := d.setRole n (d.idleRole n)
      let d := (d.putAt pVOTER VOTER.HEALTH_ROLE n (d.engine n).role.code).showState n
      let d := match fail with
        | some part => d.testFailed n (part.val + 1)
        | none => d.countAt pVOTER VOTER.HEALTH_PASS_RUN n
      (if n < 12 && old != .coldSpare then d.spareLegs else d).spareReady
    else d

/-! ## VOTE_CFG (R125), the comparator test and the counters (R124) -/

/-- An ignored write of VOTE_CFG. -/
def Dev.voteIgnored (cause : Nat) (d : Dev) : Dev :=
  let d := d.raise pVOTER VOTER.IRQ_RAW_WRITE_IGNORED
  if cause = 0 then d else d.put pVOTER VOTER.FAULT_CODE_CAUSE cause

/-- A write of VOTE_CFG with the page open. -/
def Dev.voteCfg (w : Word) (t : Nat) (d : Dev) : Dev :=
  let spare := bitsGet w 3 0
  let en := decide (bitsGet w 8 8 = 1)
  if d.running then d.voteIgnored 6
  else if 12 ≤ spare then d.voteIgnored 0
  else if en && !(d.spareEn && decide (d.spare = spare)) && (d.engine spare).st != .off then d.voteIgnored 8
  else
    let old := d.spare
    let d := d.put pVOTER VOTER.VOTE_CFG_SPARE spare
    let d := d.putFlag pVOTER VOTER.VOTE_CFG_SPARE_EN en
    let d := d.put pVOTER VOTER.VOTE_CFG_FAILBACK_EN (bitsGet w 9 9)
    let d := d.setRole old (d.idleRole old)
    ((d.setRole spare (d.idleRole spare)).spareLegs.spareReady).settle t

/-- A write of CTRL.TEST: ignored while the law runs. -/
def Dev.voterTest (d : Dev) : Dev :=
  if d.running then d
  else ({ d with triad := { d.triad with testBusy := true } }).put pVOTER VOTER.STATUS_TEST_BUSY 1

/-- The comparator test ends with its result. -/
def Dev.voterTestDone (pass : Bool) (d : Dev) : Dev :=
  if d.triad.testBusy then
    let d := { d with triad := { d.triad with testBusy := false, testPass := pass } }
    (d.put pVOTER VOTER.STATUS_TEST_BUSY 0).putFlag pVOTER VOTER.STATUS_TEST_PASS pass
  else d

/-- A write of CTRL.CLR_CNT. -/
def Dev.voterClr (d : Dev) : Dev :=
  ((d.put pVOTER VOTER.DISAGREE_POS0 0).put pVOTER VOTER.DISAGREE_POS1 0).put pVOTER VOTER.DISAGREE_POS2 0

/-! ## The segment roles (R121 to R123) -/

def Dev.segRole (pc : Bool) (d : Dev) : SegRole := if pc then d.triad.pcRole else d.triad.tmRole

/-- A role with the registers that show it; gaining or losing it is ROLE_CHANGE (R124, R125). -/
def Dev.setSegRole (pc : Bool) (x : SegRole) (d : Dev) : Dev :=
  let holds (s : Nat) : Bool := decide (s = 1) || decide (s = 3)
  let change := holds (d.segRole pc).st != holds x.st
  let d := if pc then { d with triad := { d.triad with pcRole := x } } else { d with triad := { d.triad with tmRole := x } }
  let d := d.put pVOTER (if pc then VOTER.ROLE_STATUS_PC_STATE else VOTER.ROLE_STATUS_TM_STATE) x.st
  let d := d.put pVOTER (if pc then VOTER.PC_HOLDER_ADDR else VOTER.TM_HOLDER_ADDR) x.holderAddr
  if change then d.raise pVOTER VOTER.IRQ_RAW_ROLE_CHANGE else d

/-- The rank of this unit, and whether it contests the role. -/
def Dev.roleRank (pc : Bool) (d : Dev) : Nat := d.get pVOTER (if pc then VOTER.ROLE_CFG_PC_RANK else VOTER.ROLE_CFG_TM_RANK)
def Dev.roleEn (pc : Bool) (d : Dev) : Bool := d.flag pVOTER (if pc then VOTER.ROLE_CFG_PC_EN else VOTER.ROLE_CFG_TM_EN)

/-- Eligibility of R122. -/
def Dev.roleEligible (pc : Bool) (d : Dev) : Bool :=
  decide (d.get pPBUS PBUS.STATUS_ERR_STATE = 0) && !d.flag pPBUS PBUS.STATUS_ALONE && !d.boot.bypass &&
    (!pc || !d.mp.overload)

/-- An error-free role frame from another unit (R121 rule 3): silence ends, an unsent claim is dropped. A reclaim frame has
role codes of its own (R364): it makes the holder fall silent and is no role frame for the others (R122). -/
def Dev.roleRx (pc : Bool) (addr : Nat) (rank : Option Nat) (reclaim : Bool) (d : Dev) : Dev :=
  let x := d.segRole pc
  if reclaim then (if x.st = 1 then d.setSegRole pc { x with st := 3 } else d)
  else d.setSegRole pc { x with silent := 0, st := if x.st = 2 then 0 else x.st, holderAddr := addr, holderRank := rank }

/-- This unit's role frame was sent without error (R121 rules 1 and 2). -/
def Dev.roleTx (pc : Bool) (d : Dev) : Dev :=
  let x := d.segRole pc
  if x.st = 1 || x.st = 2 then
    d.setSegRole pc { x with st := 1, lease := 4, silent := 0, holderAddr := d.get pPBUS PBUS.OWN_ADDR_ADDR,
                             holderRank := some (d.roleRank pc), eligibleRun := 0 }
  else d

/-- A claim (R121 rule 2, R123). -/
def Dev.roleClaim (pc : Bool) (d : Dev) : Dev :=
  let x := d.segRole pc
  let r := d.roleRank pc
  if d.roleEligible pc && d.roleEn pc && decide (r ≠ 15) && decide (x.st = 0) && decide (5 + r ≤ x.silent) then
    d.setSegRole pc { x with st := 2 }
  else d

/-- The lease of a role has run out (R121 rule 1). -/
def Dev.roleExpire (pc : Bool) (d : Dev) : Dev :=
  let x := d.segRole pc
  if (x.st = 1 || x.st = 3) && decide (x.lease = 0) then d.setSegRole pc { x with st := 0 } else d

/-- A reclaim frame is sent (R122): the run of eligible cycles starts again. -/
def Dev.roleReclaim (pc : Bool) (d : Dev) : Dev :=
  let x := d.segRole pc
  if d.roleEligible pc && d.roleEn pc && decide (64 ≤ x.eligibleRun) && decide (x.st = 0) &&
      x.holderRank.any (fun h => decide (d.roleRank pc < h)) then
    d.setSegRole pc { x with eligibleRun := 0 }
  else d

/-- A basic cycle ends: silence, leases, eligible runs (R121, R122). -/
def Dev.roleCycle (pc : Bool) (d : Dev) : Dev :=
  let x := d.segRole pc
  let lower := x.holderRank.any (fun h => decide (d.roleRank pc < h))
  d.setSegRole pc { x with
    silent := x.silent + 1, lease := x.lease - 1,
    eligibleRun := if d.roleEligible pc && d.roleEn pc && lower then x.eligibleRun + 1 else 0 }

/-! ## The commands -/

/-- HOLD_SHUTDOWN (R115). -/
def execHoldShutdown (t : Nat) (s : State) : Host.Outcome State Fault Refusal := run t (fun m d => d.holdShutdown m t) s
/-- LEASE_EXPIRY (R108). -/
def execLeaseExpiry (k : Fin 3) (t : Nat) (s : State) : Host.Outcome State Fault Refusal :=
  run t (fun _ d => if d.triad.sampleOpen then d else d.expire k.val) s
/-- SPARE_LOAD_DONE (R111). -/
def execSpareLoadDone (k : Fin 3) (t : Nat) (s : State) : Host.Outcome State Fault Refusal :=
  run t (fun _ d =>
    if (d.pos k.val).st = .loading then d.setPos k.val { d.pos k.val with loaded := true } else d) s
/-- SELFTEST_PASS_DONE (R116): `fail` is the part that failed. -/
def execSelftestPassDone (n : Fin 15) (fail : Option (Fin 4)) (t : Nat) (s : State) : Host.Outcome State Fault Refusal :=
  run t (fun _ d => d.selftest n.val fail) s
/-- FAILBACK (R117). -/
def execFailback (k : Fin 3) (t : Nat) (s : State) : Host.Outcome State Fault Refusal := run t (fun _ d => d.withhold k.val) s
/-- VOTER_TEST (R124). -/
def execVoterTest (t : Nat) (s : State) : Host.Outcome State Fault Refusal := runReg t (fun _ d => d.voterTest) s
/-- VOTER_TEST_DONE (R124). -/
def execVoterTestDone (pass : Bool) (t : Nat) (s : State) : Host.Outcome State Fault Refusal :=
  run t (fun _ d => d.voterTestDone pass) s
/-- VOTER_CLR_CNT (R124). -/
def execVoterClrCnt (t : Nat) (s : State) : Host.Outcome State Fault Refusal := runReg t (fun _ d => d.voterClr) s
/-- ROLE_FRAME_RX (R121). -/
def execRoleFrameRx (pc : Bool) (addr : BitVec 20) (rank : Option (Fin 16)) (reclaim : Bool) (t : Nat) (s : State) :
    Host.Outcome State Fault Refusal :=
  run t (fun _ d => d.roleRx pc addr.toNat (rank.map (·.val)) reclaim) s
/-- ROLE_FRAME_TX (R121). -/
def execRoleFrameTx (pc : Bool) (t : Nat) (s : State) : Host.Outcome State Fault Refusal := run t (fun _ d => d.roleTx pc) s
/-- ROLE_CLAIM (R121, R123). -/
def execRoleClaim (pc : Bool) (t : Nat) (s : State) : Host.Outcome State Fault Refusal := run t (fun _ d => d.roleClaim pc) s
/-- ROLE_LEASE_EXPIRY (R121). -/
def execRoleLeaseExpiry (pc : Bool) (t : Nat) (s : State) : Host.Outcome State Fault Refusal :=
  run t (fun _ d => d.roleExpire pc) s
/-- ROLE_RECLAIM (R122). -/
def execRoleReclaim (pc : Bool) (t : Nat) (s : State) : Host.Outcome State Fault Refusal :=
  run t (fun _ d => d.roleReclaim pc) s

end Sys2Proof.Machine
end

