-- ==== Sys2Proof/Machine/Acq.lean ====
section
/-!
DEFINITION. Acquisition and triggering (R283 to R311).
-/
namespace Sys2Proof.Machine

/-! ## Settings -/

/-- P_acq in taps; channels; the bytes of a stored sample (R283 to R285). -/
def Dev.acqTaps (d : Dev) : Nat := max 1 (d.get pACQ ACQ.ACQ_PERIOD_TICKS) * 32
def Dev.acqCh (d : Dev) : Nat := d.get pACQ ACQ.ACQ_CFG_NCH + 1
/-- Segment size, the base of segment s, and the body capacity B (R285). -/
def Dev.segSize (d : Dev) : Nat := 0x400000 / 2 ^ d.get pACQ ACQ.ACQ_CFG_SEG_LOG2
def Dev.segBase (s : Nat) (d : Dev) : Nat := 0x20000000 + s * d.segSize
def Dev.bodyCap (d : Dev) : Nat := max 1 ((d.segSize - 256) / (4 * d.acqCh))
/-- The ring of a stream holds the whole memory (R305). -/
def Dev.streamCap (d : Dev) : Nat := 0x400000 / (4 * d.acqCh)

/-- PULSE_US in taps. -/
def Dev.pulseTaps (d : Dev) : Nat := usTaps (d.get pTRIG TRIG.WIRE_CFG_PULSE_US)

/-- Change the acquisition state; STATUS shows it. -/
def Dev.setAcq (a : Acq) (d : Dev) : Dev :=
  let d := { d with acq := a }
  ((d.put pACQ ACQ.STATUS_STATE a.st.code).put pACQ ACQ.STATUS_SEG a.seg).put pACQ ACQ.STATUS_RATE_K a.k

/-- A fault of the ACQ page. -/
def Dev.acqFault (cause off : Nat) (d : Dev) : Dev :=
  (d.put pACQ ACQ.FAULT_CODE_CAUSE cause).put pACQ ACQ.FAULT_CODE_OFFSET off

/-! ## Registration (R292, R293, R311) -/

/-- A trigger registers while acquisition is armed. -/
def Dev.register (x : Trigger) (d : Dev) : Dev :=
  if d.acq.st = .idle || d.acq.st = .stream || d.acq.st = .full then d
  else { d with acq := { d.acq with cands := d.acq.cands ++ [x] } }

/-- A received instant less DLY_COMP (R293). -/
def Dev.compensated (t : Nat) (d : Dev) : Nat := ((t : Int) - sgn 32 (d.get pTRIG TRIG.DLY_COMP_TAPS)).toNat

/-- The instants of each device event, as positive numbers that grow (R311). -/
def Dev.eventMarks (d : Dev) : List (List Nat) :=
  [(List.range 48).filterMap (fun n => if (d.tripOf n).set then some ((d.tripOf n).regAt + 1) else none),
   (List.range 4).filterMap (fun g => if (d.grp g).tripped then some ((d.grp g).regAt + 1) else none),
   if d.pw.dev.tripped then [d.pw.dev.regAt + 1] else [],
   (d.triad.law.rt.lastEntry.map (· + 1)).toList,
   if d.triad.outvotedAt = 0 then [] else [d.triad.outvotedAt],
   if d.triad.law.seq.since = 0 then [] else [d.triad.law.seq.since + 1],
   d.safe.piDropAt.toList.map (fun a => d.nextTick a + 1),
   d.prec.unverAt.toList.map (· + 1)]

/-- Events since the last capture instant become triggers where enabled. The marks of events 3 to 5 are triad ticks, and the
received instant is t_k, TICK_PHASE before (log entry 16). -/
def Dev.eventTriggers (d : Dev) : Dev :=
  let marks := d.eventMarks
  let old := d.acq.seen
  let fresh (b : Nat) : List Nat := (marks.getD b []).filter (fun x => decide (old.getD b 0 < x))
  let d := { d with acq := { d.acq with
    seen := (List.range 8).map (fun b => (marks.getD b []).foldl max (old.getD b 0)) } }
  if d.flag pTRIG TRIG.TRIG_CFG_EVT_EN then
    d.each (fun b d =>
      if d.bit pTRIG TRIG.EVT_MASK_EVT b then
        let inst (x : Nat) : Nat := if b = 3 || b = 4 || b = 5 then d.sampleInstant (x - 1) else x - 1
        d.each (fun x d => d.register ⟨0x10 + b, d.compensated (inst x), none, 0⟩) (fresh b)
      else d) (List.range 8)
  else d

/-! ## Arm (R288, R298) -/

/-- The exponent taken at arm: the smallest that keeps the stored rate within 400 MB/s, and in a stream within STREAM_MBPS. -/
def Dev.acqK0 (d : Dev) : Nat :=
  let p := d.get pACQ ACQ.ACQ_PERIOD_TICKS
  let ok (k : Nat) : Bool :=
    decide (4 * d.acqCh ≤ p * 2 ^ k) &&
      (decide (d.get pACQ ACQ.ACQ_CFG_MODE ≠ 2) ||
        decide (12800 * d.acqCh ≤ d.get pACQ ACQ.STREAM_MBPS_MBPS * p * 2 ^ k))
  ((List.range 8).find? ok).getD 7

/-- The 250 us that the pre-trigger ring holds in addition for the trigger bus (R302). -/
def Dev.acqExtra (d : Dev) : Nat :=
  if d.flag pTRIG TRIG.TRIG_CFG_TB_IN then
    let n := d.get pACQ ACQ.ACQ_PERIOD_TICKS * 2 ^ d.acqK0
    (100000 + n - 1) / max 1 n
  else 0

/-- Check 0x1. -/
def Dev.armSpace (d : Dev) : Option (Nat × Nat) :=
  if d.get pACQ ACQ.PRE_SAMPLES + d.get pACQ ACQ.POST_SAMPLES + d.acqExtra ≤ d.bodyCap then none else some (1, 0x048)

/-- Check 0x2. -/
def Dev.armLevel (d : Dev) : Option (Nat × Nat) :=
  let c := d.get pTRIG TRIG.TRIG_CFG_LVL_CH
  if !d.flag pTRIG TRIG.TRIG_CFG_LVL_EN then none
  else if d.flagAt pACQ ACQ.CH_KIND c then some (2, 0x080 + 4 * c)
  else if d.acqCh ≤ c || d.get pTRIG TRIG.TRIG_CFG_EDGE = 3 then some (2, 0x040)
  else none

/-- Check 0x3. -/
def Dev.armSources (d : Dev) : Option (Nat × Nat) :=
  (List.range d.acqCh).findSome? (fun c =>
    let s := d.getAt pACQ ACQ.CH_SRC c
    if (if d.flagAt pACQ ACQ.CH_KIND c then decide (s % 4 = 0) else decide (s < 64)) then none else some (3, 0x080 + 4 * c))

/-- Check 0x5. -/
def Dev.armRanges (d : Dev) : Option (Nat × Nat) :=
  let r (o : Nat) (ok : Bool) : Option (Nat × Nat) := if ok then none else some (5, o)
  let n (f : FieldSpec) : Nat := d.get pACQ f
  let dly := sgn 32 (d.get pTRIG TRIG.DLY_COMP_TAPS)
  [r 0x040 (decide (n ACQ.ACQ_CFG_MODE ≠ 3) && decide (n ACQ.ACQ_CFG_SEG_LOG2 ≤ 6)),
   r 0x044 (decide (100 ≤ n ACQ.ACQ_PERIOD_TICKS) && decide (n ACQ.ACQ_PERIOD_TICKS ≤ 4000000)),
   r 0x048 (decide (1 ≤ n ACQ.PRE_SAMPLES) && decide (n ACQ.PRE_SAMPLES ≤ 1048512)),
   r 0x04C (decide (1 ≤ n ACQ.POST_SAMPLES) && decide (n ACQ.POST_SAMPLES ≤ 1048512)),
   r 0x054 (decide (1 ≤ n ACQ.AUTO_MS_MS)),
   r 0x058 (decide (1 ≤ n ACQ.STREAM_MBPS_MBPS) && decide (n ACQ.STREAM_MBPS_MBPS ≤ 256)),
   r 0x050 (decide (-1280000 ≤ dly) && decide (dly ≤ 1280000)),
   r 0x054 (decide (1 ≤ d.get pTRIG TRIG.WIRE_CFG_PULSE_US))].findSome? id

/-- The arm checks: cause and offset. -/
def Dev.armRefusal (d : Dev) : Option (Nat × Nat) :=
  [d.armSpace, d.armLevel, d.armSources, if d.acq.st = .idle then none else some (4, 0x008), d.armRanges].findSome? id

/-- Segment s is full; mark it. -/
def Dev.segFull (s : Nat) (d : Dev) : Bool :=
  if s < 32 then (d.get pACQ ACQ.SEG_FULL0_FULL).testBit s else (d.get pACQ ACQ.SEG_FULL1_FULL).testBit (s - 32)
def Dev.markSeg (s : Nat) (b : Bool) (d : Dev) : Dev :=
  if s < 32 then d.putBit pACQ ACQ.SEG_FULL0_FULL s b else d.putBit pACQ ACQ.SEG_FULL1_FULL (s - 32) b

/-- Some of the `n` bytes from address a on belong to a record that is not released (R304). -/
def Dev.inRecord (a n : Nat) (d : Dev) : Bool := d.acq.held.any (fun h => decide (h.2.1 < a + n) && decide (a < h.2.1 + h.2.2))

/-- The lowest free segment: no part of it belongs to a record that is not released. -/
def Dev.freeSeg (d : Dev) : Option Nat :=
  (List.range (2 ^ d.get pACQ ACQ.ACQ_CFG_SEG_LOG2)).find? (fun s => !d.segFull s && !d.inRecord (d.segBase s) d.segSize)

/-- Enter FILL with segment s (R287). -/
def Dev.enterFill (s : Nat) (d : Dev) : Dev :=
  d.setAcq { d.acq with
    st := .fill, seg := s, rates := [(0, d.acq.k)], rateLimit := false, ring := [], total := 0, post := 0, gaps := [],
    gapCnt := 0, cands := [], placed := none, waiting := none, forceDue := false }

/-- Take the lowest free segment, or enter FULL. -/
def Dev.fillOrFull (d : Dev) : Dev :=
  match d.freeSeg with
  | some s => d.enterFill s
  | none => (d.setAcq { d.acq with st := .full }).raise pACQ ACQ.IRQ_RAW_FULL

/-- CTRL.ARM (R287, R288). -/
def Dev.acqArm (d : Dev) : Dev :=
  let d := d.eventTriggers
  match d.armRefusal with
  | some (c, o) => (d.raise pACQ ACQ.IRQ_RAW_ARM_REFUSED).acqFault c o
  | none =>
    let k := d.acqK0
    let d := d.setAcq { d.acq with k := k, kWait := 0, lvlPrev := none, riseArmed := true, fallArmed := true }
    if d.get pACQ ACQ.ACQ_CFG_MODE = 2 then
      let d := d.setAcq { d.acq with
        st := .stream, seg := 0, unread := [], readPos := 0, drop := false, blockNo := 0, cands := [], ring := [], total := 0 }
      if 0 < d.mp.shed then d.raise pACQ ACQ.IRQ_RAW_STREAM_PAUSED else d
    else d.fillOrFull

/-! ## Completion (R286, R287) -/

/-- The rate entries of the header: from the oldest stored sample on. -/
def rateEntries (oldest : Nat) (rs : List (Nat × Nat)) : List Word :=
  let rs := rs.reverse
  let before := rs.filter (fun r => decide (r.1 ≤ oldest))
  let k0 := (before.getLast?.map (·.2)).getD 0
  let es := (0, k0) :: (rs.filter (fun r => decide (oldest < r.1))).map (fun r => (r.1 - oldest, r.2))
  (List.range 8).map (fun j =>
    match es[j]? with
    | some e => BitVec.ofNat 32 (e.1 % 2 ^ 20 + e.2 * 2 ^ 20 + 2 ^ 31)
    | none => 0)

/-- The samples a record holds, newest first: POST after the trigger instant, at most PRE before it. -/
def recordSamples (pre : Nat) (instant : Nat) (ring : List Stored) : List Stored :=
  let post := ring.filter (fun s => decide (instant < s.instant))
  post ++ (ring.filter (fun s => decide (s.instant ≤ instant))).take pre

/-- The header (R286). -/
def Dev.header (short : Bool) (p : Placed) (d : Dev) : List Word :=
  let w (n : Nat) : Word := BitVec.ofNat 32 n
  let rs := recordSamples (d.get pACQ ACQ.PRE_SAMPLES) p.trig.instant d.acq.ring
  let o := rs.getLastD ⟨0, 0, 0⟩
  let post := (rs.filter (fun s => decide (p.trig.instant < s.instant))).length
  let gaps := (d.acq.gaps.reverse.filter (fun g => decide (o.no ≤ g))).map (fun g => g - o.no)
  let src := p.trig.source
  let flags := p.forced.toNat + 2 * p.late.toNat + 4 * (decide (gaps ≠ [])).toNat + 8 * short.toNat +
    16 * d.acq.rateLimit.toNat + 32 * p.time.isSome.toNat + 64 * (decide (src = 2)).toNat + 128 * (decide (src = 3)).toNat
  let t := p.time.getD (0, 0)
  [w (1 + (d.acqCh - 1) * 65536), w (d.get pACQ ACQ.ACQ_CNT_RECORDS), w flags, w (d.get pACQ ACQ.ACQ_PERIOD_TICKS),
   w (rs.length - post), w post, w (o.no % d.bodyCap), w o.instant, w o.index, w p.trig.instant,
   w (p.trig.instant / d.acqTaps + 2 ^ 32 - o.index % 2 ^ 32), w (p.sub + src * 256), w p.cause, t.1, t.2, w p.addr] ++
  rateEntries o.no d.acq.rates ++
  [w (min 65535 gaps.length)] ++ (List.range 4).map (fun j => w (gaps.getD j 0)) ++
  [d.wordAt pTRIG TRIG.DLY_COMP_TAPS 0, 0, 0] ++ (List.range 16).map (fun c => d.wordAt pACQ ACQ.CH_KIND c) ++
  List.replicate 16 0

/-- The record completes: header, segment full, hold-off. -/
def Dev.completeRecord (short : Bool) (t : Nat) (d : Dev) : Dev :=
  match d.acq.placed with
  | none => d
  | some p =>
    let d := d.count pACQ ACQ.ACQ_CNT_RECORDS
    let s := d.acq.seg
    let d := d.pokeWords (d.segBase s) (d.header short p)
    let d := (d.markSeg s true).raise pACQ ACQ.IRQ_RAW_RECORD_DONE
    d.setAcq { d.acq with
      st := .holdoff, holdAt := t, holdCnt := 0, placed := none, cands := [], held := (s, d.segBase s, d.segSize) :: d.acq.held }

/-- RECORD_DONE: all POST samples are written. -/
def Dev.recordDone (t : Nat) (d : Dev) : Dev :=
  if d.acq.st = .post && decide (d.get pACQ ACQ.POST_SAMPLES ≤ d.acq.post) then d.completeRecord false t else d

/-- The triggers registered in FILL so far are ignored and counted (R289). -/
def Dev.fillIgnore (d : Dev) : Dev :=
  if d.acq.st = .fill then
    let d := d.eventTriggers
    let d := d.put pACQ ACQ.ACQ_CNT_FILL_IGNORED (min 255 (d.get pACQ ACQ.ACQ_CNT_FILL_IGNORED + d.acq.cands.length))
    { d with acq := { d.acq with cands := [] } }
  else d

/-- CTRL.STOP (R287). -/
def Dev.acqStop (t : Nat) (d : Dev) : Dev :=
  let d := d.fillIgnore
  let d := if d.acq.st = .post then d.completeRecord true t else d
  d.setAcq { d.acq with st := .idle, cands := [], waiting := none, placed := none, forceDue := false, unread := [] }

/-- ACQ_READY: PRE stored samples since FILL (R287). -/
def Dev.acqReady (t : Nat) (d : Dev) : Dev :=
  if d.acq.st = .fill && decide (d.get pACQ ACQ.PRE_SAMPLES ≤ d.acq.total) then
    let d := d.fillIgnore
    d.setAcq { d.acq with st := .ready, readyAt := t, forceDue := false }
  else d

/-- HOLDOFF_END (R290). -/
def Dev.holdoffEnd (t : Nat) (d : Dev) : Dev :=
  let h := d.get pACQ ACQ.HOLDOFF
  let ended := if d.flag pACQ ACQ.ACQ_CFG_HOLD_EVT then decide (h ≤ d.acq.holdCnt) else decide (d.acq.holdAt + usTaps h ≤ t)
  if d.acq.st = .holdoff && ended then
    if d.get pACQ ACQ.ACQ_CFG_MODE = 1 then d.fillOrFull else d.setAcq { d.acq with st := .idle, cands := [] }
  else d

/-- AUTO_TRIGGER: no trigger within AUTO_MS of READY (R291). -/
def Dev.autoTrigger (t : Nat) (d : Dev) : Dev :=
  if d.acq.st = .ready && d.flag pACQ ACQ.ACQ_CFG_AUTO && decide (d.acq.readyAt + msTaps (d.get pACQ ACQ.AUTO_MS_MS) ≤ t) then
    { d with acq := { d.acq with forceDue := true } }
  else d

/-- Segment s of the present division is free. -/
def Dev.segUsable (s : Nat) (d : Dev) : Bool :=
  decide (s < 2 ^ d.get pACQ ACQ.ACQ_CFG_SEG_LOG2) && !d.inRecord (d.segBase s) d.segSize

/-- SEG_RELEASE (R304). -/
def Dev.segRelease (s : Nat) (d : Dev) : Dev :=
  if d.segFull s then
    let d := d.markSeg s false
    let d := { d with acq := { d.acq with held := d.acq.held.filter (fun h => decide (h.1 ≠ s)) } }
    if d.acq.st = .full then (match d.freeSeg with | some k => d.enterFill (if d.segUsable s then s else k) | none => d) else d
  else d

/-! ## Triggers (R294, R295) -/

/-- The level crossing between two samples (R295): the trigger where one occurs. -/
def crossing (thr x0 x1 : Int) (t p : Nat) : Trigger :=
  let num := (thr - x0).natAbs * 256
  let den := max 1 (x1 - x0).natAbs
  let q := max 1 ((num + den - 1) / den)
  if 256 ≤ q then ⟨1, t, some 0, 0⟩ else ⟨1, t - p + roundEven (q * p) 256, some q, 0⟩

/-- The level test at a capture instant. -/
def Dev.levelTest (x : Option Int) (t : Nat) (d : Dev) : Dev :=
  let thr := sgn 24 (d.get pTRIG TRIG.LVL_THR)
  let hy : Int := d.get pTRIG TRIG.LVL_HYST
  let edge := d.get pTRIG TRIG.TRIG_CFG_EDGE
  let a := d.acq
  match x with
  | none => { d with acq := { a with lvlPrev := none } }
  | some v =>
    let p := d.acqTaps
    let rise := a.lvlPrev.any (fun u => decide (u < thr) && decide (thr ≤ v))
    let fall := a.lvlPrev.any (fun u => decide (thr < u) && decide (v ≤ thr))
    let hit := (rise && a.riseArmed && edge ≠ 1) || (fall && a.fallArmed && edge ≠ 0)
    let c := crossing thr (a.lvlPrev.getD 0) v t p
    let d := { d with acq := { a with
      lvlPrev := some v, riseArmed := decide (v ≤ thr - hy) || (a.riseArmed && !rise),
      fallArmed := decide (thr + hy ≤ v) || (a.fallArmed && !fall) } }
    if hit then d.register c else d

/-- Order among equal instants (R294). -/
def sourceOrder (s : Nat) : Nat := if s = 1 then 0 else if 0x10 ≤ s then 1 else s

/-- The trigger that places the record: the earliest, ties in the order of R294. -/
def earliest : List Trigger → Option Trigger
  | [] => none
  | x :: xs => match earliest xs with
    | none => some x
    | some y =>
      if y.instant < x.instant || (y.instant = x.instant && sourceOrder y.source < sourceOrder x.source) then some y else some x

/-- Drive the trigger wire. -/
def Dev.driveWire (t : Nat) (d : Dev) : Dev :=
  ({ d with acq := { d.acq with wireDrive := some t } }).raise pTRIG TRIG.IRQ_RAW_WIRE_DRIVEN

/-- Place the record (R294). `cause` is the cause instant of the drive that the wire edge answers, `drove` whether this unit
drove the wire for the trigger itself; with either, or a bus frame to send, CAUSE_STAMP keeps the local cause instant (R286). -/
def Dev.place (x : Trigger) (cause : Option Nat) (drove : Bool) (d : Dev) : Dev :=
  let o := (d.acq.ring.getLastD ⟨0, 0, 0⟩).instant
  let late := decide (x.instant < o)
  let sends := d.flag pTRIG TRIG.TRIG_CFG_TB_OUT && x.source ≠ 3
  let cause := cause.getD (if drove || sends then x.instant else max x.instant o)
  let x := if late then { x with instant := o, sub := some 0 } else x
  let p := d.acqTaps
  let sub := x.sub.getD (x.instant % p * 256 / p)
  let time := if d.bus.nt.locked then some (ntWords (d.bus.nt.taps x.instant)) else none
  let addr := if x.source = 3 then x.sender else d.get pPBUS PBUS.OWN_ADDR_ADDR
  let d := { d with acq := { d.acq with
    placed := some ⟨x, sub, late, decide (x.source = 5), cause, time, addr⟩, waiting := none,
    post := (d.acq.ring.filter (fun (y : Stored) => decide (x.instant < y.instant))).length,
    tbPend := if sends then some x.instant else d.acq.tbPend } }
  let d := (d.setAcq { d.acq with st := .post }).raise pACQ ACQ.IRQ_RAW_TRIGGERED
  let d := if late then d.raise pACQ ACQ.IRQ_RAW_LATE else d
  ((d.put pTRIG TRIG.LAST_STAMP x.instant).put pTRIG TRIG.LAST_INFO_SOURCE x.source).put pTRIG TRIG.LAST_INFO_SUB sub

/-- The decision in READY. -/
def Dev.decideReady (t : Nat) (d : Dev) : Dev :=
  let out := d.flag pTRIG TRIG.TRIG_CFG_WIRE_OUT && !d.wireBlocked
  let both := out && d.flag pTRIG TRIG.TRIG_CFG_WIRE_IN
  match d.acq.waiting with
  | some w =>
    (match earliest (d.acq.cands.filter (fun x => decide (x.source = 2))) with
     | some x => d.place x (some w.instant) false
     | none => d)
  | none =>
    let cs := if d.acq.cands.isEmpty && d.acq.forceDue then [⟨5, t, some 0, 0⟩] else d.acq.cands
    match earliest cs with
    | none => d
    | some x =>
      let d := if x.source = 5 then (d.raise pACQ ACQ.IRQ_RAW_FORCED).count pACQ ACQ.ACQ_CNT_FORCED else d
      if x.source = 2 || !out then d.place x none false
      else if both then ({ d with acq := { d.acq with waiting := some x, waitAt := t } }).driveWire t
      else (d.driveWire t).place x none true

/-- The triggers of an instant are decided, ignored or counted (R289, R290, R294). -/
def Dev.decideTriggers (t : Nat) (d : Dev) : Dev :=
  let n := d.acq.cands.length
  let d := match d.acq.st with
    | .fill => d.fillIgnore
    | .ready => d.decideReady t
    | .holdoff => { d with acq := { d.acq with holdCnt := d.acq.holdCnt + n } }
    | .idle | .post | .full | .stream => d
  { d with acq := { d.acq with cands := [] } }

/-! ## The capture instant (R283, R284, R298) -/

/-- The word of channel c at instant t: the latest final sample at least 40 ticks old, or the Canvas word. -/
def Dev.channelWord (m : List Host.Cell) (c t : Nat) (d : Dev) : Word :=
  let s := d.getAt pACQ ACQ.CH_SRC c
  if d.flagAt pACQ ACQ.CH_KIND c then d.word m (0x10000000 + s / 4 * 4)
  else
    match (d.acq.finals.toArray.getD (s % 64) []).find? (fun f => decide (f.1 + tickTaps 40 ≤ t)) with
    | some f => f.2
    | none => 0

/-- The value of the level channel where valid. -/
def Dev.levelValue (m : List Host.Cell) (t : Nat) (d : Dev) : Option Int :=
  let w := d.channelWord m (d.get pTRIG TRIG.TRIG_CFG_LVL_CH) t
  if w.getLsbD 7 then some (sgn 24 (w.toNat / 256)) else none

/-- The rate exponent rises by one (R298). -/
def Dev.halve (d : Dev) : Dev :=
  let k := d.acq.k + 1
  (d.setAcq { d.acq with k := k, kWait := 2 ^ k, rates := (d.acq.total, k) :: d.acq.rates }).raise pACQ ACQ.IRQ_RAW_RATE_HALVED

/-- A record or stream is under way (R298). -/
def AcqSt.records : AcqSt → Bool
  | .fill | .ready | .post | .stream => true
  | .idle | .holdoff | .full => false

/-- The rate rule at a capture instant; `buf` is what the write buffer holds. -/
def Dev.rateStep (buf : Nat) (d : Dev) : Dev :=
  let a := d.acq
  let full := decide (1536 < buf) || (decide (a.st = .stream) && decide (0x300000 < a.unread.length * 4 * d.acqCh))
  if a.st.records && a.kWait = 0 && full && decide (a.k < 7) then d.halve
  else { d with acq := { a with kWait := a.kWait - 1 } }

/-- A gap in the record (R286). -/
def Dev.gap (no off : Nat) (d : Dev) : Dev :=
  ({ d with acq := { d.acq with gaps := no :: d.acq.gaps } }.raise pACQ ACQ.IRQ_RAW_GAP).acqFault 7 off

/-- The channels of a stored sample land at body position `a`. -/
def Dev.storeChannels (m : List Host.Cell) (a t : Nat) (d : Dev) : Dev :=
  d.pokeWords a ((List.range d.acqCh).map (fun c => d.channelWord m c t))

/-- The first channel whose Canvas read failed. -/
def Dev.failedCh (fails : List Nat) (d : Dev) : Option Nat :=
  (List.range d.acqCh).find? (fun c => fails.contains c && d.flagAt pACQ ACQ.CH_KIND c)

/-- A stored sample of number `no` lands at `a`, or leaves a gap there: where the write buffer has no room for it, or a Canvas
read failed after its retry (R284, R286, R298). -/
def Dev.storeOrGap (m : List Host.Cell) (no a t buf : Nat) (fails : List Nat) (d : Dev) : Dev :=
  if 2048 < buf + 4 * d.acqCh then
    let d := d.gap no 0
    if d.acq.k = 7 then { d with acq := { d.acq with rateLimit := true } } else d
  else match d.failedCh fails with
    | some c => d.gap no (0x080 + 4 * c)
    | none => d.storeChannels m a t

/-- A stored sample of a record. -/
def Dev.storeRecord (m : List Host.Cell) (t index buf : Nat) (fails : List Nat) (d : Dev) : Dev :=
  let no := d.acq.total
  let d := d.storeOrGap m no (d.segBase d.acq.seg + 256 + no % d.bodyCap * (4 * d.acqCh)) t buf fails
  let keep := d.get pACQ ACQ.PRE_SAMPLES + d.acqExtra
  let ring := ⟨no, t, index⟩ :: d.acq.ring
  let instant := (d.acq.placed.map (fun p => p.trig.instant)).getD t
  { d with acq := { d.acq with
    total := no + 1, ring := if d.acq.st = .post then ring else ring.take keep,
    post := if d.acq.st = .post && decide (instant < t) then d.acq.post + 1 else d.acq.post } }

/-- A stored sample of a stream: with the ring full the newest is dropped (R305); a record that is not released is not
overwritten (R304). -/
def Dev.storeStream (m : List Host.Cell) (t index buf : Nat) (fails : List Nat) (d : Dev) : Dev :=
  let n := d.acq.unread.length
  let a := 0x20000000 + (d.acq.readPos + n) % d.streamCap * (4 * d.acqCh)
  if d.streamCap ≤ n || d.inRecord a (4 * d.acqCh) then
    ({ d with acq := { d.acq with drop := true } }).count pACQ ACQ.STREAM_DROPS
  else
    let d := d.storeOrGap m d.acq.total a t buf fails
    { d with acq := { d.acq with total := d.acq.total + 1, unread := d.acq.unread ++ [(index, d.acq.k)] } }

/-- The capture index of the instant t; in bypass t is the instant rounded to the bypass period (R283, R306). -/
def Dev.captureIndex (t : Nat) (d : Dev) : Nat :=
  (if d.boot.bypass then (t + d.acqTaps / 2) / d.acqTaps else t / d.acqTaps) % 2 ^ 32

/-- A capture instant falls at t. -/
def Dev.captureDue (t : Nat) (d : Dev) : Bool :=
  d.acq.capAt.all (fun a => decide (a < t)) && d.onGrid t 0 (d.acqTaps / 32)

/-- CAPTURE_INSTANT. -/
def Dev.capture (m : List Host.Cell) (buf : Nat) (fails : List Nat) (t : Nat) (d : Dev) : Dev :=
  if d.captureDue t then
    let d := { d with acq := { d.acq with capAt := some t } }
    let d := d.eventTriggers
    if d.acq.st = .idle then d
    else
      let index := d.captureIndex t
      let d := if d.flag pTRIG TRIG.TRIG_CFG_LVL_EN then d.levelTest (d.levelValue m t) t else d
      let d := (d.decideTriggers t).rateStep buf
      if index % 2 ^ d.acq.k ≠ 0 then d
      else
        match d.acq.st with
        | .stream => d.storeStream m t index buf fails
        | .fill | .ready => d.storeRecord m t index buf fails
        | .post => if d.acq.post < d.get pACQ ACQ.POST_SAMPLES then d.storeRecord m t index buf fails else d
        | .idle | .holdoff | .full => d
  else d

/-! ## Sources outside the capture grid (R292, R300 to R302) -/

/-- CTRL.SOFT: the first tick after the write. -/
def Dev.soft (t : Nat) (d : Dev) : Dev := d.register ⟨4, d.nextTick (t + 1), none, 0⟩

/-- The wire has been low since `since`: a low level held for FILT + 1 ticks is a falling edge, and its stamp is the first low
tick (R79, R300). -/
def Dev.wireFall (since t : Nat) (d : Dev) : Dev :=
  let stamp := d.nextTick since
  if d.flag pTRIG TRIG.STATUS_WIRE_LOW || t < stamp + d.get pTRIG TRIG.WIRE_CFG_FILT * d.tickRes then d
  else
    let d := d.put pTRIG TRIG.STATUS_WIRE_LOW 1
    if d.wireBlocked then
      { d with triad := { d.triad with wireEdge := some (d.triad.wireEdge.getD stamp) } }
    else if d.flag pTRIG TRIG.TRIG_CFG_WIRE_IN then
      (d.raise pTRIG TRIG.IRQ_RAW_WIRE_EDGE).register ⟨2, d.compensated stamp, none, 0⟩
    else d

/-- The wire reads high again. -/
def Dev.wireRise (d : Dev) : Dev := d.put pTRIG TRIG.STATUS_WIRE_LOW 0

/-- The drive ends after PULSE_US; a record that has waited for the edge as long is placed at its cause instant (R294). -/
def Dev.pulseEnd (t : Nat) (d : Dev) : Dev :=
  let d := if d.acq.wireDrive.any (fun s => decide (s + d.pulseTaps ≤ t)) then
      { d with acq := { d.acq with wireDrive := none } }
    else d
  match d.acq.waiting with
  | some w =>
    if d.acq.waitAt + d.pulseTaps ≤ t && d.acq.st = .ready && !d.acq.cands.any (fun x => decide (x.source = 2)) then
      d.place w none true
    else d
  | none => d

/-- Local timebase instant of a network time, to the nearest tap (R390). -/
def Dev.localOf (taps t : Nat) (d : Dev) : Nat :=
  let n := d.bus.nt
  let diff : Int := (taps : Int) * 1000000000 - n.nano t
  let r : Int := 1000000000 + n.rate
  (((t : Int) * r + diff) * 2 + r).toNat / (2 * r.toNat)

/-- One bit of the CRC-8 with polynomial 0x07. -/
def crc8Bit (c : BitVec 8) (b : Bool) : BitVec 8 := if c.msb != b then (c <<< 1) ^^^ 0x07 else c <<< 1

/-- The CRC-8 over ADDR and TYPE, most significant bit first, from zero (R301; the order and the start are log entry 52). -/
def tbCrc (addr : BitVec 20) (type : BitVec 4) : BitVec 8 :=
  (List.range 24).foldl (fun c k => crc8Bit c ((addr ++ type).getMsbD k)) 0

/-- How long a frame of the trigger bus lasts (R301). -/
def tbFrameTaps : Nat := usTaps 104

/-- TB_FRAME_TX: the bus is idle; `won` is the outcome of arbitration (R301): the winner's frame, this unit's or another's,
occupies the bus. -/
def Dev.tbTx (won : Bool) (t : Nat) (d : Dev) : Dev :=
  match d.acq.tbPend with
  | none => d
  | some instant =>
    let d := { d with acq := { d.acq with tbPend := none } }
    if !d.bus.nt.locked then d.put pTRIG TRIG.FAULT_CODE_CAUSE 4
    else
      let d := { d with acq := { d.acq with tbBusy := t + tbFrameTaps } }
      if won then
        let w := ntWords (d.bus.nt.taps instant)
        let addr := BitVec.ofNat 20 (d.get pPBUS PBUS.OWN_ADDR_ADDR)
        ({ d with acq := { d.acq with tbSent := some ⟨addr, 1, tbCrc addr 1, w.1, w.2⟩ } }).raise pTRIG TRIG.IRQ_RAW_TB_TX
      else d.raise pTRIG TRIG.IRQ_RAW_TB_LOST

/-- A discarded frame. -/
def Dev.tbDiscard (cause : Nat) (d : Dev) : Dev :=
  ((d.count pTRIG TRIG.TB_CNT_DISCARDS).raise pTRIG TRIG.IRQ_RAW_TB_DISCARD).put pTRIG TRIG.FAULT_CODE_CAUSE cause

/-- TB_FRAME_RX: a frame has ended; its checks, and the trigger it is (R302). -/
def Dev.tbRx (f : TbFrame) (t : Nat) (d : Dev) : Dev :=
  let d := { d with acq := { d.acq with tbBusy := min d.acq.tbBusy t } }
  if !d.flag pTRIG TRIG.TRIG_CFG_TB_IN || !d.bus.nt.locked then d
  else if f.crc ≠ tbCrc f.addr f.type then d.tbDiscard 1
  else if f.type ≠ 1 then d.tbDiscard 3
  else
    let time := ntOfWords f.lo f.hi
    let now := d.bus.nt.taps t
    if now < time || time + msTaps 1000 < now then d.tbDiscard 2
    else
      let at' := d.localOf time t
      let d := (d.raise pTRIG TRIG.IRQ_RAW_TB_RX).count pTRIG TRIG.TB_CNT_RX
      let d := ((d.put pTRIG TRIG.TB_TIME_LO f.lo.toNat).put pTRIG TRIG.TB_TIME_HI f.hi.toNat).put pTRIG TRIG.TB_SRC_ADDR f.addr.toNat
      let d := if at' + usTaps 250 < t then d.raise pTRIG TRIG.IRQ_RAW_TB_LATE else d
      d.register ⟨3, d.compensated at', none, f.addr.toNat⟩

/-! ## Streaming (R305) -/

/-- The samples of one block: up to 64 with one exponent. -/
def blockLen (k : Nat) : Nat → List (Nat × Nat) → Nat
  | 0, _ => 0
  | _, [] => 0
  | n + 1, (_, j) :: xs => if j = k then blockLen k n xs + 1 else 0

/-! ## The commands -/

/-- ACQ_ARM (R287, R288). -/
def execAcqArm (t : Nat) (s : State) : Host.Outcome State Fault Refusal := runReg t (fun _ d => d.acqArm) s
/-- ACQ_STOP (R287). -/
def execAcqStop (t : Nat) (s : State) : Host.Outcome State Fault Refusal := runReg t (fun _ d => d.acqStop t) s
/-- CAPTURE_INSTANT (R283, R294). -/
def execCaptureInstant (buf : Fin 2049) (fails : List (Fin 16)) (t : Nat) (s : State) : Host.Outcome State Fault Refusal :=
  run t (fun m d => d.capture m buf.val (fails.map Fin.val) t) s
/-- ACQ_READY (R287). -/
def execAcqReady (t : Nat) (s : State) : Host.Outcome State Fault Refusal := run t (fun _ d => d.acqReady t) s
/-- RECORD_DONE (R286, R287). -/
def execRecordDone (t : Nat) (s : State) : Host.Outcome State Fault Refusal := run t (fun _ d => d.recordDone t) s
/-- HOLDOFF_END (R290). -/
def execHoldoffEnd (t : Nat) (s : State) : Host.Outcome State Fault Refusal := run t (fun _ d => d.holdoffEnd t) s
/-- AUTO_TRIGGER (R291). -/
def execAutoTrigger (t : Nat) (s : State) : Host.Outcome State Fault Refusal := run t (fun _ d => d.autoTrigger t) s
/-- SEG_RELEASE (R304). -/
def execSegRelease (seg : Fin 64) (t : Nat) (s : State) : Host.Outcome State Fault Refusal :=
  runReg t (fun _ d => d.segRelease seg.val) s
/-- SOFT (R292). -/
def execSoft (t : Nat) (s : State) : Host.Outcome State Fault Refusal := runReg t (fun _ d => d.soft t) s
/-- WIRE_EDGE (R300): since when the wire is low. -/
def execWireEdge (since t : Nat) (s : State) : Host.Outcome State Fault Refusal := run t (fun _ d => d.wireFall since t) s
/-- WIRE_RISE (R300). -/
def execWireRise (t : Nat) (s : State) : Host.Outcome State Fault Refusal := run t (fun _ d => d.wireRise) s
/-- WIRE_PULSE_END (R294, R300). -/
def execWirePulseEnd (t : Nat) (s : State) : Host.Outcome State Fault Refusal := run t (fun _ d => d.pulseEnd t) s
/-- TB_FRAME_TX (R301). -/
def execTbFrameTx (won : Bool) (t : Nat) (s : State) : Host.Outcome State Fault Refusal := run t (fun _ d => d.tbTx won t) s
/-- TB_FRAME_RX (R302). -/
def execTbFrameRx (addr : BitVec 20) (type : BitVec 4) (crc : BitVec 8) (lo hi : Word) (t : Nat) (s : State) :
    Host.Outcome State Fault Refusal :=
  run t (fun _ d => d.tbRx ⟨addr, type, crc, lo, hi⟩ t) s

end Sys2Proof.Machine
end

