-- ==== Sys2Proof/Machine/Buckram.lean ====
section
/-!
DEFINITION. The Buckram safety island (R336 to R357, R493).
-/
namespace Sys2Proof.Machine

/-! ## Inputs -/

def Dev.safeIn (i : Nat) (d : Dev) : SafeIn := d.safe.ins.toArray.getD i .reset
def Dev.setSafeIn (i : Nat) (x : SafeIn) (d : Dev) : Dev := { d with safe := { d.safe with ins := d.safe.ins.setIfInBounds i x } }

/-- The input is in use; it is a guard. -/
def Dev.inEn (i : Nat) (d : Dev) : Bool := d.flagAt pSAFE SAFE.IN_CFG_EN i
def Dev.inGuard (i : Nat) (d : Dev) : Bool := d.flagAt pSAFE SAFE.IN_CFG_GUARD i

/-- The channel is in its run state (R342). -/
def Dev.chanRun (i : Nat) (chanB : Bool) (d : Dev) : Bool :=
  let x := d.safeIn i
  if chanB then x.b != d.flagAt pSAFE SAFE.IN_CFG_ANTIVALENT i else x.a

/-- The input demands stop (R342). -/
def Dev.demands (i : Nat) (d : Dev) : Bool := d.inEn i && !(d.chanRun i false && d.chanRun i true)

/-- TESTED of an input (R340, R346). -/
def Dev.isTested (i : Nat) (d : Dev) : Bool := d.inEn i && (!d.inGuard i || d.safe.tested.testBit i)

/-- A mask over the eight inputs. -/
def maskOf (f : Nat → Bool) : Nat := (List.range 8).foldl (fun a i => if f i then a + 2 ^ i else a) 0

/-! ## Run permission (R339) -/

/-- The conditions of R339. -/
def Dev.mayRun (d : Dev) : Bool :=
  d.safe.configured && !d.lockOpen pSAFE && d.safe.lockouts.isEmpty &&
    (List.range 8).all (fun i => !d.demands i && (!d.inEn i || d.isTested i)) && !d.safe.coreDown &&
    (d.safe.armed.isSome || d.safe.halt)

/-- The SAFE page shows the state (R356). -/
def Dev.safeShow (d : Dev) : Dev :=
  let s := d.safe
  let p := pSAFE
  let d := (d.put p SAFE.STATUS_DEMAND (maskOf (fun i => d.demands i))).put p SAFE.STATUS_TESTED (maskOf (fun i => d.isTested i))
  let d := (d.putFlag p SAFE.STATUS_HALT s.halt).putFlag p SAFE.STATUS_STALL_ARMED s.armed.isSome
  let d := (d.putFlag p SAFE.STATUS_CONFIGURED s.configured).putFlag p SAFE.STATUS_LOCK_OPEN (d.lockOpen p)
  let d := (d.putFlag p SAFE.STATUS_PI1_ON s.pi1).putFlag p SAFE.STATUS_PI0_ON s.pi0
  let d := (d.putFlag p SAFE.STATUS_LEGS_OFF s.legsOff).putFlag p SAFE.STATUS_LOCKOUT (!s.lockouts.isEmpty)
  let d := (d.putFlag p SAFE.STATUS_PERMIT_PIN s.permitPin).putFlag p SAFE.STATUS_RUN_PERMIT s.runPermit
  (d.put p SAFE.IN_LEVEL_A (maskOf (fun i => (d.safeIn i).a))).put p SAFE.IN_LEVEL_B (maskOf (fun i => (d.safeIn i).b))

/-- Permission is formed anew (R337, R339, R341, R348): its loss forces the legs off and drops the outputs. -/
def Dev.safeEval (t : Nat) (d : Dev) : Dev :=
  let ok := d.mayRun
  let s := d.safe
  if ok = s.runPermit then d.safeShow
  else if ok then
    (({ d with safe := { s with runPermit := true, legsOff := false } }.raise pSAFE SAFE.IRQ_RAW_PERMIT_GAINED).safeShow).settle t
  else
    let drop := if s.pi0 || s.pi1 then some t else s.piDropAt
    let d := { d with safe := { s with runPermit := false, legsOff := true, pi0 := false, pi1 := false, piDropAt := drop } }
    ((d.raise pSAFE SAFE.IRQ_RAW_PERMIT_LOST).safeShow).settle t

/-- A start (R340): guard inputs must be tested again. -/
def Dev.safeStart (d : Dev) : Dev :=
  let d := { d with safe := { d.safe with tested := 0 } }
  d.each (fun i d =>
    let x := d.safeIn i
    d.setSafeIn i { x with opened := false, timer := x.timer.map (fun tm => { tm with stale := true }) }) (List.range 8)

/-! ## Lock-outs (R353, R354) -/

/-- FAULT_CODE of the SAFE page; while a lock-out is in force it keeps the first one's. -/
def Dev.safeFault (cause index : Nat) (chanB : Bool) (d : Dev) : Dev :=
  if d.safe.lockouts.isEmpty then
    ((d.put pSAFE SAFE.FAULT_CODE_CAUSE cause).putFlag pSAFE SAFE.FAULT_CODE_CHANNEL chanB).put pSAFE
      SAFE.FAULT_CODE_INDEX index
  else d

/-- Declare a lock-out cause. -/
def Dev.lockout (cause index : Nat) (chanB : Bool) (d : Dev) : Dev :=
  let d := (d.safeFault cause index chanB).raise pSAFE SAFE.IRQ_RAW_LOCKOUT
  let d := (d.raiseBit pSAFE SAFE.STATUS_LO_CAUSES (cause - 1)).count pSAFE SAFE.CNT_LOCKOUTS
  { d with safe := { d.safe with lockouts := d.safe.lockouts ++ [(cause, index)] } }

/-- The cause has been cleared since `fallAt` (R354). -/
def Dev.causeCleared (pinsLow : Bool) (fallAt : Nat) (c : Nat × Nat) (d : Dev) : Bool :=
  let since (x : Option Nat) : Bool := x.any (fun a => decide (a ≤ fallAt))
  match c.1 with
  | 1 => since (d.safeIn c.2).agreeSince
  | 2 => pinsLow
  | 3 => since d.safe.armed
  | _ => since d.safe.oscOkSince

/-- SAFE_RST_PULSE: a pulse of `len` filter ticks whose falling level was accepted at `fallAt`; `pinsLow`: every output pin
read low from then on. A level of fewer than 32 filter ticks is never accepted. -/
def Dev.safeRst (len fallAt : Nat) (pinsLow : Bool) (t : Nat) (d : Dev) : Dev :=
  if d.safe.lockouts.isEmpty || decide (len < 32) then d
  else if 3200 ≤ len && len ≤ 96000 && d.safe.lockouts.all (fun c => d.causeCleared pinsLow fallAt c) then
    let d := { d with safe := { d.safe with lockouts := [] } }
    let d := (d.put pSAFE SAFE.STATUS_LO_CAUSES 0).raise pSAFE SAFE.IRQ_RAW_LOCKOUT_CLEARED
    let d := d.putBit pRST RST.KIND_SEEN_KINDS 5 true
    d.safeStart.safeEval t
  else (d.count pSAFE SAFE.CNT_RST_REJECTS).raise pSAFE SAFE.IRQ_RAW_RST_REJECTED

/-! ## Changes of an input (R343 to R346) -/

/-- T_disc in filter ticks. -/
def Dev.discTicks (i : Nat) (d : Dev) : Nat := d.getAt pSAFE SAFE.IN_CFG_DISC_MS i * 32

/-- The discrepancy fault (R345): names the channel that has not accepted X since the timer started, or that left it. -/
def Dev.discFault (i : Nat) (d : Dev) : Dev :=
  let x := d.safeIn i
  match x.timer with
  | none => d
  | some tm => (d.setSafeIn i { x with timer := none }).lockout 1 i (if tm.followed then tm.left else !tm.chanB)

/-- The timer has run beyond T_disc at filter tick ft. -/
def Dev.discOver (i ft : Nat) (late : Bool) (d : Dev) : Bool :=
  match (d.safeIn i).timer with
  | some tm => if late then decide (tm.start + d.discTicks i < ft) else decide (tm.start + d.discTicks i ≤ ft)
  | none => false

/-- Both channels hold X: the interval is measured, a guard's test advances (R345, R346). -/
def Dev.discDone (i ft : Nat) (tm : DiscTimer) (d : Dev) : Dev :=
  let x := d.safeIn i
  let d := (d.put pSAFE SAFE.LAST_DISC_INPUT i).put pSAFE SAFE.LAST_DISC_TICKS (min 65535 (ft - tm.start))
  if tm.run then
    let pass := x.opened && d.inGuard i && !tm.stale
    let d := d.setSafeIn i { x with timer := none, opened := false }
    if pass then { d with safe := { d.safe with tested := d.safe.tested ||| 2 ^ i } } else d
  else d.setSafeIn i { x with timer := none, opened := !tm.stale }

/-- The timer after a change of one channel. -/
def Dev.discStep (i : Nat) (chanB : Bool) (ft : Nat) (d : Dev) : Dev :=
  let me := d.chanRun i chanB
  let other := d.chanRun i (!chanB)
  let x := d.safeIn i
  match x.timer with
  | none => if me = other then d else d.setSafeIn i { x with timer := some ⟨me, chanB, ft, false, false, false⟩ }
  | some tm =>
    if me = tm.run && other = tm.run then d.discDone i ft tm
    else if chanB ≠ tm.chanB && me = tm.run then d.setSafeIn i { x with timer := some { tm with followed := true } }
    else if me ≠ tm.run then d.setSafeIn i { x with timer := some { tm with left := chanB } }
    else d

/-- N filter ticks of an input's filter (R343). -/
def Dev.filterTicks (i : Nat) (d : Dev) : Nat := 16 * (d.getAt pSAFE SAFE.IN_CFG_FILT i + 1)

/-- A pin that holds its level at every filter tick from `since` to `ft` has held it at `n` consecutive samples (R343). -/
def heldFor (n since ft : Nat) : Bool := decide (since + n ≤ ft + 1)

/-- A filtered level changes (R343 to R346). -/
def Dev.safeInput (i : Nat) (chanB high : Bool) (since ft t : Nat) (d : Dev) : Dev :=
  let x := d.safeIn i
  if (if chanB then x.b else x.a) = high || !heldFor (d.filterTicks i) since ft then d
  else
    let d := if d.discOver i ft true then d.discFault i else d
    let was := d.demands i
    let x := d.safeIn i
    let d := d.setSafeIn i (if chanB then { x with b := high } else { x with a := high })
    let d := if d.inEn i then d.discStep i chanB ft else d
    let same := decide (d.chanRun i false = d.chanRun i true)
    let d := d.setSafeIn i { d.safeIn i with agreeSince := if same then some t else none }
    let d := if d.demands i && !was then
        (d.raise pSAFE SAFE.IRQ_RAW_STOP_DEMAND).count pSAFE SAFE.CNT_STOPS
      else d
    d.safeEval t

/-- DISCREPANCY_FAULT: the timer reaches T_disc (R345). -/
def Dev.discExpire (i ft t : Nat) (d : Dev) : Dev := if d.discOver i ft false then (d.discFault i).safeEval t else d

/-! ## Outputs (R348, R349) -/

/-- CTRL.PI_ON bit k. -/
def Dev.piOn (k : Nat) (t : Nat) (d : Dev) : Dev :=
  if d.safe.runPermit && d.bit pSAFE SAFE.PI_CFG_EN k then
    ({ d with safe := if k = 0 then { d.safe with pi0 := true } else { d.safe with pi1 := true } }).safeEval t
  else d.raise pSAFE SAFE.IRQ_RAW_PI_REFUSED

/-- CTRL.PI_OFF bit k. -/
def Dev.piOff (k : Nat) (t : Nat) (d : Dev) : Dev :=
  ({ d with safe := if k = 0 then { d.safe with pi0 := false } else { d.safe with pi1 := false } }).safeEval t

/-- A write of CTRL on the SAFE page: an output named by both goes off (R348). -/
def Dev.piWrite (on off t : Nat) (d : Dev) : Dev :=
  d.each (fun k d =>
    if off.testBit k then d.piOff k t else if on.testBit k then d.piOn k t else d) [0, 1]

/-- PI_READBACK_FAULT: a pin has differed from its command for more than 32 filter ticks (R349). -/
def Dev.piReadback (k : Nat) (chanB high : Bool) (ticks t : Nat) (d : Dev) : Dev :=
  if high ≠ (if k = 0 then d.safe.pi0 else d.safe.pi1) && decide (32 < ticks) then (d.lockout 2 k chanB).safeEval t else d

/-! ## Monitor and oscillator (R351, R352) -/

/-- STALL_MONITOR_ARMED: 100 us of running timebase without a gap, after a reset, a Gauze exit or a debug halt. -/
def Dev.stallArm (since t : Nat) (d : Dev) : Dev :=
  if d.safe.armed.isNone && !d.pw.halted && !d.safe.coreDown && decide (max since d.safe.runFrom + usTaps 100 ≤ t) then
    ({ d with safe := { d.safe with armed := some t, halt := false, oscBad := false } }).safeEval t
  else d

/-- A debug halt disarms the monitor; item 7 holds through it (R339, R351). -/
def Dev.safeHalt (t : Nat) (d : Dev) : Dev := ({ d with safe := { d.safe with armed := none, halt := true } }).safeEval t

/-- STALL: an armed monitor sees no edge for 10 us. -/
def Dev.stall' (last t : Nat) (d : Dev) : Dev :=
  if d.safe.armed.isSome && decide (last + usTaps 10 ≤ t) then
    let d := (d.raise pSAFE SAFE.IRQ_RAW_STALL).lockout 3 0 false
    ({ d with safe := { d.safe with armed := none } }).safeEval t
  else d

/-- OSC_WINDOW: one window in timebase ticks against its nominal 4,000,000; OSC_DEV is the deviation of its length in 0.01 %,
towards zero (log entry 53). -/
def Dev.oscWindow (ticks : Nat) (t : Nat) (d : Dev) : Dev :=
  if d.safe.armed.isSome then
    let x : Int := (ticks : Int) - 4000000
    let v := max (-32768) (min 32767 (Int.tdiv x 400))
    let bad := decide (320000 < x.natAbs)
    let d := d.put pSAFE SAFE.OSC_DEV (BitVec.ofInt 16 v).toNat
    let lock := bad && d.safe.oscBad
    let d := { d with safe := { d.safe with oscBad := bad,
                                            oscOkSince := if bad then none else some (d.safe.oscOkSince.getD t) } }
    if lock then (d.lockout 4 0 false).safeEval t else d
  else d

/-! ## The lock of the SAFE page (R339, R340, R356) -/

/-- LOCK closes: configured, and a start. -/
def Dev.safeClose (t : Nat) (d : Dev) : Dev :=
  let d := d.closeLock pSAFE
  (({ d with safe := { d.safe with configured := true } }).safeStart).safeEval t

/-- An unlock completes: refused without the permit. -/
def Dev.safeOpen (t : Nat) (d : Dev) : Dev :=
  if d.safe.permitPin then (d.put pSAFE HDR.LOCK_OPEN 1).safeEval t
  else ((d.closeLock pSAFE).raise pSAFE SAFE.IRQ_RAW_UNLOCK_REFUSED).safeFault 6 0 false

/-- SAFE_PERMIT_ASSERTED and SAFE_PERMIT_RELEASE: the pin has held the level at 32 filter ticks (R356). -/
def Dev.permitPin (high : Bool) (since ft t : Nat) (d : Dev) : Dev :=
  if !heldFor 32 since ft then d else
  let d := ({ d with safe := { d.safe with permitPin := high } }).safeShow
  if !high && d.lockOpen pSAFE then d.safeClose t else d

/-- A write of IN_CFGi or PI_CFG while LOCK is open (R356). -/
def Dev.safeCfg (i : Nat) (w : Word) (t : Nat) (d : Dev) : Dev :=
  let ms := bitsGet w 24 16
  if ms < 10 || 500 < ms then (d.raise pSAFE SAFE.IRQ_RAW_WRITE_REFUSED).safeFault 7 0 false
  else
    let was := d.demands i
    let d := d.setReg (SAFE.IN_CFG_EN.addr pSAFE i) w
    let x := d.safeIn i
    let same := decide (d.chanRun i false = d.chanRun i true)
    let d := d.setSafeIn i { x with timer := if d.inEn i then x.timer else none,
                                    agreeSince := if same then some (x.agreeSince.getD t) else none }
    let d := if d.demands i && !was then (d.raise pSAFE SAFE.IRQ_RAW_STOP_DEMAND).count pSAFE SAFE.CNT_STOPS else d
    d.safeEval t

/-! ## The commands -/

/-- SAFE_INPUT_ACCEPTED (R343 to R346): input, channel, the level of its pin, the filter tick since which the pin has held it,
the present filter tick. -/
def execSafeInputAccepted (i : Fin 8) (chanB high : Bool) (since ft t : Nat) (s : State) :
    Host.Outcome State Fault Refusal :=
  run t (fun _ d => d.safeInput i.val chanB high since ft t) s
/-- DISCREPANCY_FAULT (R345). -/
def execDiscrepancyFault (i : Fin 8) (ft t : Nat) (s : State) : Host.Outcome State Fault Refusal :=
  run t (fun _ d => d.discExpire i.val ft t) s
/-- PI_ON (R348). -/
def execPiOn (k : Fin 2) (t : Nat) (s : State) : Host.Outcome State Fault Refusal := runReg t (fun _ d => d.piOn k.val t) s
/-- PI_OFF (R348). -/
def execPiOff (k : Fin 2) (t : Nat) (s : State) : Host.Outcome State Fault Refusal := runReg t (fun _ d => d.piOff k.val t) s
/-- PI_READBACK_FAULT (R349): output, channel, the level of its pin, and for how many filter ticks it has differed. -/
def execPiReadbackFault (k : Fin 2) (chanB high : Bool) (ticks t : Nat) (s : State) : Host.Outcome State Fault Refusal :=
  run t (fun _ d => d.piReadback k.val chanB high ticks t) s
/-- STALL_MONITOR_ARMED (R351): the end of the timebase's last gap. -/
def execStallMonitorArmed (since t : Nat) (s : State) : Host.Outcome State Fault Refusal := run t (fun _ d => d.stallArm since t) s
/-- STALL (R351): the last edge of the timebase. -/
def execStall (last t : Nat) (s : State) : Host.Outcome State Fault Refusal := run t (fun _ d => d.stall' last t) s
/-- OSC_WINDOW (R352): the timebase ticks of a window of 320 filter ticks. -/
def execOscWindow (ticks : Nat) (t : Nat) (s : State) : Host.Outcome State Fault Refusal :=
  run t (fun _ d => d.oscWindow ticks t) s
/-- SAFE_RST_PULSE (R354). -/
def execSafeRstPulse (len fallAt : Nat) (pinsLow : Bool) (t : Nat) (s : State) : Host.Outcome State Fault Refusal :=
  run t (fun _ d => d.safeRst len fallAt pinsLow t) s
/-- SAFE_PERMIT_RELEASE (R356). -/
def execSafePermitRelease (since ft t : Nat) (s : State) : Host.Outcome State Fault Refusal :=
  run t (fun _ d => d.permitPin false since ft t) s
/-- SAFE_PERMIT_ASSERTED (R356). -/
def execSafePermitAsserted (since ft t : Nat) (s : State) : Host.Outcome State Fault Refusal :=
  run t (fun _ d => d.permitPin true since ft t) s

end Sys2Proof.Machine
end

