-- ==== Sys2Proof/Machine/FeltBase.lean ====
section
/-!
DEFINITION. Writes to memory by a requester port, with the protected regions (R105, R143, R144, R152, R240, R276, R317, R371).
-/
namespace Sys2Proof.Machine

/-- A discarded write to a protected region is counted (R276, R277). -/
def Dev.regionDiscard (port : Nat) (d : Dev) : Dev :=
  let d := d.count pFELT FELT.RETRY_CNT_REGION_DISCARDS
  let d := d.raise pFELT FELT.IRQ_RAW_REGION_DISCARD
  ((d.put pFELT FELT.FAULT_CODE_CAUSE 5).put pFELT FELT.FAULT_CODE_PORT port).put pFELT FELT.FAULT_CODE_TAG 0

/-- A mailbox write of engine n is discarded (R143, R144). -/
def Dev.mboxDrop (n : Nat) (d : Dev) : Dev := d.raise (pENG n) CE.IRQ_RAW_MBOX_DROP

/-- The engine writes of R152 that are discarded: reported while the page is open. -/
def Dev.engIgnored (n : Nat) (d : Dev) : Dev :=
  if d.lockOpen (pENG n) then (d.raise (pENG n) TE.IRQ_RAW_WRITE_IGNORED).engCause n 6 else d

/-- The state code of transmit buffer n (R372, R401). -/
def Dev.txCode (n : Nat) (d : Dev) : Nat := (d.reg (pBUF * 0x1000 + 0x200 + 4 * (n / 8))).toNat / 16 ^ (n % 8) % 16

/-- The inbound half at offset `o` of a mailbox is the active one. -/
def Dev.inboundActive (n o : Nat) (d : Dev) : Bool := decide (0x100 ≤ o) == (d.engine n).inB

/-- A write by port to address a: whether it lands, and the device after what is reported. -/
def Dev.guardWrite (port a : Nat) (d : Dev) : Bool × Dev :=
  if 0x100F0000 ≤ a && a < 0x100F4840 then
    if (0x0C ≤ port && port ≤ 0x0E) || port = 0x10 || (port < 12 && d.spareEn && d.spare = port) then (true, d)
    else (false, d.regionDiscard port)
  else if 0x100E0000 ≤ a && a < 0x100E3000 then
    let n := (a - 0x100E0000) / 0x400
    let o := a % 0x400
    if o < 0x200 then
      if port = 0x0F || port = 0x17 || port = n then
        if (d.engine n).mboxLatched || d.inboundActive n o then (false, d.mboxDrop n) else (true, d)
      else (false, (d.mboxDrop n).regionDiscard port)
    else if port = n then (true, d)
    else (false, (d.mboxDrop n).regionDiscard port)
  else if 0x100D0000 ≤ a && a < 0x100D1000 then
    if 0x11 ≤ port && port ≤ 0x14 then (true, d) else (false, d.regionDiscard port)
  else if 0x100C0000 ≤ a && a < 0x100C0200 then
    if port = 0x15 then (true, d) else (false, d.regionDiscard port)
  else if 0x100B0000 ≤ a && a < 0x100B2000 then
    let c := d.txCode ((a - 0x100B0000) / 0x80)
    if (port = 0x0F || port = 0x17) && (c = 0 || c = 5 || c = 6 || c = 7) then (true, d) else (false, d.regionDiscard port)
  else if 0x100B2000 ≤ a && a < 0x100B6000 then
    if port = 0x16 then (true, d) else (false, d.regionDiscard port)
  else if 0x30000000 ≤ a && a < 0x300F0000 then
    let n := (a - 0x30000000) / 0x10000
    if n < 12 && d.engCode n = 0 then (true, d) else (false, d.engIgnored n)
  else (true, d)

/-- A write of up to 16 bytes in one aligned unit: whole or not at all (R256). -/
def Dev.unitWrite (port a : Nat) (bs : List Byte) (d : Dev) : Dev :=
  let r := d.guardWrite port a
  if r.1 then r.2.pokes a bs else r.2

/-- The bytes of a transfer cut into its aligned units (R256). -/
def unitsOf : Nat → Nat → List Byte → List (Nat × List Byte)
  | 0, _, _ => []
  | _, _, [] => []
  | k + 1, a, b :: bs =>
    let n := 16 - a % 16
    (a, (b :: bs).take n) :: unitsOf k (a + n) ((b :: bs).drop n)

/-- A write of a transaction, unit by unit. -/
def Dev.memWrite (port a : Nat) (bs : List Byte) (d : Dev) : Dev :=
  d.each (fun u d => d.unitWrite port u.1 u.2) (unitsOf 5 a bs)

/-- The bytes of a transfer. -/
def Dev.bytes (m : List Host.Cell) (a len : Nat) (d : Dev) : List Byte := (List.range len).map (fun j => d.byte m (a + j))

/-- The word of four bytes, lowest first. -/
def wordOf (bs : List Byte) : Word :=
  BitVec.ofNat 32 ((bs.getD 0 0).toNat + (bs.getD 1 0).toNat * 256 + (bs.getD 2 0).toNat * 65536 +
    (bs.getD 3 0).toNat * 16777216)

end Sys2Proof.Machine
end

