-- ==== Sys2Proof/Machine/BusBase.lean ====
section
/-!
DEFINITION. The transmit buffers of the peer bus and the hold of shedding level 3, their expiry, and the receive halves (R275, R371,
R372, R374 to R376, R385).
-/
namespace Sys2Proof.Machine

/-- The state codes of R372. -/
def txEMPTY : Nat := 0
def txPENDING : Nat := 1
def txACTIVE : Nat := 2
def txBUSOFF : Nat := 3
def txHELD : Nat := 4
def txEXPIRED : Nat := 5
def txFAILED : Nat := 6
def txABORTED : Nat := 7

/-- Set the state code of transmit buffer n. -/
def Dev.setTxCode (n c : Nat) (d : Dev) : Dev :=
  let a := pBUF * 0x1000 + 0x200 + 4 * (n / 8)
  d.setReg a (bitsPut (d.reg a) (4 * (n % 8) + 3) (4 * (n % 8)) c)

def Dev.txBuf (n : Nat) (d : Dev) : TxBuf := d.bus.tx.toArray.getD n .reset
def Dev.setTxBuf (n : Nat) (x : TxBuf) (d : Dev) : Dev := { d with bus := { d.bus with tx := d.bus.tx.setIfInBounds n x } }

/-- Buffer n is requested and waits or is on the bus: its descriptor takes no writes (R401). -/
def Dev.txBusy (n : Nat) (d : Dev) : Bool :=
  let c := d.txCode n
  c = txPENDING || c = txACTIVE || c = txBUSOFF || c = txHELD

/-- KIND and BUF of a matrix entry. -/
def entryKind (w : Word) : Nat := bitsGet w 1 0
def entryBuf (w : Word) : Nat := bitsGet w 13 8

/-- A slot buffer: an exclusive entry of the active matrix names it (R372); entries of column 0 are ignored (R385). -/
def Dev.isSlot (n : Nat) (d : Dev) : Bool :=
  d.bus.active.any (fun e => decide (e.1 % 24 ≠ 0) && decide (entryKind e.2 = 1) && decide (entryBuf e.2 = n))

/-- SHED level 3 holds the pending arbitrating buffers and no others (R275, R372, R388). -/
def Dev.busShed (d : Dev) : Dev :=
  let hold := decide (d.mp.shed = 3)
  let d := d.putFlag pPBUS PBUS.STATUS_SHED_HOLD hold
  d.each (fun n d =>
    let c := d.txCode n
    if c = txPENDING && hold && !d.isSlot n then d.setTxCode n txHELD
    else if c = txHELD && (!hold || d.isSlot n) then d.setTxCode n txPENDING
    else d) (List.range 64)

/-- A frame for MP that finds a full backlog is dropped (R274). -/
def Dev.backlogDrop (chain : Bool) (d : Dev) : Dev :=
  let d := d.count pFELT (if chain then FELT.CHAIN_Q_DROPS else FELT.BUS_Q_DROPS)
  let d := d.raise pFELT FELT.IRQ_RAW_BACKLOG_DROP
  ((d.put pFELT FELT.FAULT_CODE_CAUSE 6).put pFELT FELT.FAULT_CODE_PORT (if chain then 0x17 else 0x16)).put pFELT
    FELT.FAULT_CODE_TAG 0

/-- A frame for the MP stack (R274). -/
def Dev.busQueue (f : BusFrame) (d : Dev) : Dev :=
  if 64 ≤ d.bus.queue.length then d.backlogDrop false
  else
    let d := { d with bus := { d.bus with queue := d.bus.queue ++ [f] } }
    d.put pFELT FELT.BUS_Q_DEPTH d.bus.queue.length

/-- FAULT_CODE of the PBUS page. -/
def Dev.busFault (cause : Nat) (rx : Bool) (buf : Nat) (d : Dev) : Dev :=
  ((d.put pPBUS PBUS.FAULT_CODE_CAUSE cause).putFlag pPBUS PBUS.FAULT_CODE_RX rx).put pPBUS PBUS.FAULT_CODE_BUF buf

/-! ## Expiry (R374) -/

/-- The expiry of buffer n has passed at t without a completed transmission (R374). -/
def Dev.expired (n t : Nat) (d : Dev) : Bool :=
  let ms := d.getAt pBUF PBUS_BUF.TX_DESC_EXP_MS n
  let x := d.txBuf n
  decide (0 < ms) && !x.done && decide (x.reqAt + ms * 12800000 ≤ t)

/-- The buffer expires. -/
def Dev.txExpire (n : Nat) (d : Dev) : Dev :=
  ((d.setTxCode n txEXPIRED).raise pPBUS PBUS.IRQ_RAW_EXPIRED).count pPBUS PBUS.MISC_CNT_EXPIRED_CNT

/-- TX_EXPIRY: from PENDING, PENDING_BUSOFF or HELD. -/
def Dev.txExpiry (n t : Nat) (d : Dev) : Dev :=
  if d.txBusy n && decide (d.txCode n ≠ txACTIVE) && d.expired n t then d.txExpire n else d

/-! ## Receive halves (R371, R375, R376) -/

/-- The nibble of RX_STATE: OVR 8, SHADOW_FULL 4, ACTIVE 2, FULL 1. -/
def Dev.rxCode (n : Nat) (d : Dev) : Nat := (d.reg (pBUF * 0x1000 + 0x400 + 4 * (n / 8))).toNat / 16 ^ (n % 8) % 16
def Dev.setRxCode (n c : Nat) (d : Dev) : Dev :=
  let a := pBUF * 0x1000 + 0x400 + 4 * (n / 8)
  let d := d.setReg a (bitsPut (d.reg a) (4 * (n % 8) + 3) (4 * (n % 8)) c)
  d.putBit pBUF (if n < 32 then PBUS_BUF.RX_NEW0_NEW else PBUS_BUF.RX_NEW1_NEW) (n % 32) (c.testBit 0)

/-- The address of a receive half. -/
def rxAddr (n : Nat) (halfB : Bool) : Nat := 0x100B2000 + n * 0x100 + (if halfB then 0x80 else 0)

/-- RX_BUFFER_FLIP: the boundary of R376. -/
def Dev.rxFlip (n : Nat) (d : Dev) : Dev :=
  let c := d.rxCode n
  if c.testBit 2 && !c.testBit 0 then
    let halfB := !c.testBit 1
    let base := (if c.testBit 3 then 8 else 0) + (if halfB then 2 else 0)
    let f := d.bus.rxShadow.find? (fun x => decide (x.1 = n))
    let d := { d with bus := { d.bus with rxShadow := d.bus.rxShadow.filter (fun x => decide (x.1 ≠ n)) } }
    if d.flagAt pBUF PBUS_BUF.RX_CFG_TO_MP n then
      let d := d.setRxCode n (if halfB then 2 else 0)
      match f with | some x => d.busQueue x.2 | none => d
    else d.setRxCode n (base + 1)
  else d

/-- The receive buffer that a block write of the peer bus is for. -/
def rxPlace (port a : Nat) : Option Nat :=
  if port = 0x16 && decide (0x100B2000 ≤ a) && decide (a < 0x100B6000) then some ((a - 0x100B2000) / 0x100) else none

/-- A block write of a received frame is complete: with the last one the frame is committed to the shadow half (R376). -/
def Dev.rxLanded (n : Nat) (d : Dev) : Dev :=
  match d.bus.rxWrites.find? (fun x => decide (x.buf = n)) with
  | none => d
  | some x =>
    let rest := d.bus.rxWrites.filter (fun y => decide (y.buf ≠ n))
    if 1 < x.left then { d with bus := { d.bus with rxWrites := { x with left := x.left - 1 } :: rest } }
    else
      let d := { d with bus := { d.bus with rxWrites := rest, rxShadow := (n, x.frame) :: d.bus.rxShadow } }
      d.setRxCode n (d.rxCode n ||| 4)

/-- A block write of a received frame fails after its retry: the frame is lost (R375). -/
def Dev.rxLost (n : Nat) (d : Dev) : Dev :=
  if d.bus.rxWrites.any (fun x => decide (x.buf = n)) then
    let d := { d with bus := { d.bus with rxWrites := d.bus.rxWrites.filter (fun y => decide (y.buf ≠ n)) } }
    (d.raise pPBUS PBUS.IRQ_RAW_RX_WR_FAIL).busFault 7 true n
  else d

/-- What is due on the buffers at t: expiries and flips (R374, R376). -/
def Dev.busDue (t : Nat) (d : Dev) : Dev := d.each (fun n d => (d.txExpiry n t).rxFlip n) (List.range 64)

end Sys2Proof.Machine
end

