-- ==== Sys2Proof/Machine/Felt.lean ====
section
/-!
DEFINITION. Felt's transactions and arbitration (R254 to R271).
-/
namespace Sys2Proof.Machine

/-! ## Tags -/

def Dev.tag (k : Nat) (d : Dev) : Option Tx := d.felt.tags.toArray.getD k none
def Dev.arb (b : Nat) (d : Dev) : Arbiter := d.felt.arbs.toArray.getD b .reset
def Dev.setArb (b : Nat) (x : Arbiter) (d : Dev) : Dev := { d with felt := { d.felt with arbs := d.felt.arbs.setIfInBounds b x } }

/-- The tags that are occupied, as a number (R278). -/
def Dev.busyTags (d : Dev) : Nat := (List.range 48).foldl (fun a k => if (d.tag k).isSome then a + 2 ^ k else a) 0

/-- Set a tag and show it in TAG_BUSY. -/
def Dev.setTag (k : Nat) (x : Option Tx) (d : Dev) : Dev :=
  let d := { d with felt := { d.felt with tags := d.felt.tags.setIfInBounds k x } }
  let b := d.busyTags
  (d.put pFELT FELT.TAG_BUSY0_BUSY b).put pFELT FELT.TAG_BUSY1_BUSY (b / 2 ^ 32)

/-- The Canvas bank of an address (R256). -/
def bankOf (a : Nat) : Option Nat := if 0x10000000 ≤ a && a < 0x10100000 then some (a / 0x10000 % 16) else none

/-- The aligned units of a transaction. -/
def Tx.units (x : Tx) : List (Nat × List Byte) := unitsOf 5 x.addr (x.data.getD (List.replicate x.len 0))

/-- Handshakes remain. -/
def Tx.open' (x : Tx) : Bool := decide (x.progress < x.units.length)

/-- The tag of port p that asks bank b: its oldest transaction there with handshakes left (R255). -/
def Dev.asks (b p : Nat) (d : Dev) : Option Nat :=
  let ok (k : Nat) : Option (Nat × Nat) := match d.tag k with
    | some x => if bankOf x.addr = some b && x.open' then some (k, x.order) else none
    | none => none
  match ok (2 * p), ok (2 * p + 1) with
  | some u, some v => if v.2 < u.2 then some v.1 else some u.1
  | some u, none => some u.1
  | none, some v => some v.1
  | none, none => none

/-- The ports that ask bank b. -/
def Dev.asking (b : Nat) (d : Dev) : List Nat := (List.range 24).filter (fun p => (d.asks b p).isSome)

/-- Release the grant of bank b. -/
def Dev.release (b : Nat) (d : Dev) : Dev :=
  (d.setArb b { d.arb b with owner := none }).put (pARB b) ARB.STATUS_OWNER 0xFF

/-- Release whatever grant tag k holds. -/
def Dev.releaseTag (k : Nat) (d : Dev) : Dev :=
  d.each (fun b d => if (d.arb b).owner = some k then d.release b else d) (List.range 16)

/-- A request of port p at bank b counts its wait from zero. -/
def Dev.freshWait (b p : Nat) (d : Dev) : Dev :=
  let a := d.arb b
  d.setArb b { a with waits := a.waits.set p 0, starved := a.starved.filter (fun q => decide (q ≠ p)) }

/-! ## Targets without an arbiter (R257) -/

/-- The target of an address: one number for each bank and window; the register pages are one target. -/
def feltTarget (a : Nat) : Nat :=
  if a < 0x100000 then 0 else if a < 0x20000000 then a / 0x10000 else if a < 0x30000000 then 1 else a / 0x10000

/-- A target without an arbiter serves in the order of arrival (R257). -/
def Dev.firstThere (k : Nat) (x : Tx) (d : Dev) : Bool :=
  (List.range 48).all (fun j =>
    match d.tag j with
    | some y => decide (j = k) || !decide (feltTarget y.addr = feltTarget x.addr) || !y.open' || y.landing.isSome ||
        decide (x.arrival < y.arrival)
    | none => true)

/-- A handshake of tag k can take place: its bank has granted it, or it is first at its target; a read needs its landing
register empty (R259). -/
def Dev.handshakeDue (k : Nat) (x : Tx) (d : Dev) : Bool :=
  x.open' && x.landing.isNone &&
    (match bankOf x.addr with
     | some b => decide ((d.arb b).owner = some k)
     | none => d.firstThere k x)

/-- The handshakes that targets without an arbiter can now take begin at t (R267). -/
def Dev.beginAll (t : Nat) (d : Dev) : Dev :=
  d.each (fun k d =>
    match d.tag k with
    | some x =>
      if (bankOf x.addr).isNone && x.began.isNone && d.handshakeDue k x then
        { d with felt := { d.felt with tags := d.felt.tags.setIfInBounds k (some { x with began := some t }) } }
      else d
    | none => d) (List.range 48)

/-! ## Issue -/

/-- A free tag of port p. -/
def Dev.tagFor (p : Nat) (d : Dev) : Option Nat := [2 * p, 2 * p + 1].find? (fun k => (d.tag k).isNone)

/-- A transaction takes tag k. -/
def Dev.takeTag (k : Nat) (w : Waiting) (t : Nat) (d : Dev) : Dev :=
  let n := match w.data with | some bs => bs.length | none => w.len
  let d := match bankOf w.addr with
    | some b => if (d.asks b w.port).isNone then d.freshWait b w.port else d
    | none => d
  let x : Tx := ⟨w.data, w.addr, n, t, d.felt.issued, d.felt.issued, 0, false, none, [], none⟩
  ({ d.setTag k (some x) with felt := { (d.setTag k (some x)).felt with issued := d.felt.issued + 1 } }).beginAll t

/-- Issue a transaction on a free tag; with both occupied it waits until one frees (R255). -/
def Dev.feltIssue (p : Nat) (data : Option (List Byte)) (addr len t : Nat) (d : Dev) : Dev :=
  match d.tagFor p with
  | none => { d with felt := { d.felt with queue := d.felt.queue ++ [⟨p, data, addr, len⟩] } }
  | some k => d.takeTag k ⟨p, data, addr, len⟩ t

/-- The oldest request that waits for a tag of port p takes one that has become free. -/
def Dev.pumpOne (p t : Nat) (d : Dev) : Dev :=
  match d.tagFor p, d.felt.queue.find? (fun w => decide (w.port = p)) with
  | some k, some w => ({ d with felt := { d.felt with queue := d.felt.queue.erase w } }).takeTag k w t
  | _, _ => d

/-- After tags of port p have become free: waiting requests take them, and handshakes begin that now can. -/
def Dev.pump (p t : Nat) (d : Dev) : Dev := ((d.pumpOne p t).pumpOne p t).beginAll t

/-- FELT_REQUEST: a block that would cross a bank boundary is an access outside the map (R256). -/
def Dev.feltRequest (p : Nat) (data : Option (List Byte)) (addr len t : Nat) (d : Dev) : Dev :=
  let data := data.map (fun bs => bs.take 64)
  let n := match data with | some bs => bs.length | none => len
  if n = 0 then d
  else if (bankOf addr).isSome && bankOf addr ≠ bankOf (addr + n - 1) then d
  else d.feltIssue p data addr n t

/-- An engine's read has all its bytes: they wait for their use (R136). -/
def Dev.readArrived (p order : Nat) (bs : List Byte) (d : Dev) : Dev :=
  if p < 15 then
    let e := d.engine p
    d.setEngine p { e with pend := e.pend.map (fun x => if x.order = order then { x with bytes := some bs } else x) }
  else d

/-- A port empties its landing registers in the order of issue (R259): its oldest read always, the other once it is the
oldest. A read with all its bytes is complete. -/
def Dev.emptyTag (k : Nat) (d : Dev) : Dev :=
  match d.tag k with
  | none => d
  | some x =>
    let older := match d.tag (if k % 2 = 0 then k + 1 else k - 1) with
      | some y => y.data.isNone && decide (y.order < x.order)
      | none => false
    if older || x.data.isSome then d
    else
      match x.landing with
      | none => d
      | some bs =>
        let x := { x with landing := none, arrived := x.arrived ++ bs }
        if x.open' then d.setTag k (some x)
        else
          let d := d.setTag k none
          ({ d with felt := { d.felt with got := d.felt.got.setIfInBounds k x.arrived } }).readArrived (k / 2) x.order x.arrived

/-- Both tags of a port, twice: completing one may free the other. -/
def Dev.emptyPort (p : Nat) (d : Dev) : Dev :=
  (((d.emptyTag (2 * p)).emptyTag (2 * p + 1)).emptyTag (2 * p)).emptyTag (2 * p + 1)

/-! ## Arbitration (R260 to R266) -/

/-- The rank of a port; MP ranks below rank 15 (R260, R279). -/
def Dev.rankOf (p : Nat) (d : Dev) : Nat :=
  if p = 0x0F then 16 else bitsGet (d.reg (pARBCFG * 0x1000 + 0x40 + 4 * (p / 8))) (4 * (p % 8) + 3) (4 * (p % 8))

/-- a goes before b in the background (R260 step 2). -/
def Dev.before (b p q : Nat) (d : Dev) : Bool :=
  let w (x : Nat) : Nat := (d.arb b).waits.getD x 0
  decide (d.rankOf p < d.rankOf q) ||
    (decide (d.rankOf p = d.rankOf q) && (decide (w q < w p) || (decide (w p = w q) && decide (p < q))))

/-- The port the background picks. -/
def Dev.background (b : Nat) : List Nat → Dev → Option Nat
  | [], _ => none
  | p :: ps, d =>
    match Dev.background b ps d with
    | none => some p
    | some q => if d.before b p q then some p else some q

/-- The active slot-table entry under the pointer: its port where valid (R282). -/
def Dev.slotPort (b e : Nat) (d : Dev) : Option Nat :=
  let w := d.actAt (pARB b) ARB.SLOTS (e / 4)
  let x := w / 256 ^ (e % 4) % 256
  if 128 ≤ x then some (x % 32) else none

/-- One more round for a port that keeps waiting (R263): a wait beyond the threshold is counted once. -/
def Dev.waitRound (b p : Nat) (d : Dev) : Dev :=
  let a := d.arb b
  let w := a.waits.getD p 0 + 1
  let crosses := decide (d.get pARBCFG ARBCFG.STARVE_THR_ROUNDS < w) && !a.starved.contains p
  let d := d.setArb b { a with waits := a.waits.set p w, starved := if crosses then p :: a.starved else a.starved }
  let d := d.putAt (pARB b) ARB.PORT_STAT_WAIT_MAX p (max (d.getAt (pARB b) ARB.PORT_STAT_WAIT_MAX p) (min 65535 w))
  if crosses then
    (d.countAt (pARB b) ARB.PORT_STAT_STARVE p).raise (pARB b) ARB.IRQ_RAW_STARVE
  else d

/-- The latched set of a bank applies at its next decision (R265). -/
def Dev.arbApply (b : Nat) (d : Dev) : Dev :=
  if d.latched (pARB b) then
    let d := (d.applyLatch (pARB b)).put (pARB b) ARB.STATUS_COMMIT_PENDING 0
    (d.put (pARB b) ARB.STATUS_POINTER 0).raise (pARB b) ARB.IRQ_RAW_COMMIT_DONE
  else d

/-- The pointer after a decision: one on, but at entry 0 where a latched set has just applied (R260, R265, R276; log entry
52). -/
def Dev.nextPointer (b : Nat) (applied : Bool) (d : Dev) : Nat :=
  if applied then 0 else (d.get (pARB b) ARB.STATUS_POINTER + 1) % max 1 (d.act (pARB b) ARB.ARB_CFG_TABLE_LEN)

/-- Grant bank b to port p. -/
def Dev.grantBank (b p t : Nat) (d : Dev) : Dev :=
  let a := d.arb b
  let d := d.setArb b { a with owner := d.asks b p, units := 0, burst := d.act (pARB b) ARB.ARB_CFG_BURST, since := t,
                               waits := a.waits.set p 0, starved := a.starved.filter (fun q => decide (q ≠ p)),
                               preempted := none }
  d.put (pARB b) ARB.STATUS_OWNER p

/-- The request of port p at bank b is the one last preempted there (R261). -/
def Dev.wasPreempted (b p : Nat) (d : Dev) : Bool :=
  match (d.asks b p).bind d.tag, (d.arb b).preempted with
  | some x, some o => decide (x.order = o)
  | _, _ => false

/-- A decision of bank b (R260, R261, R265). -/
def Dev.decision (b t : Nat) (d : Dev) : Dev :=
  let ask := d.asking b
  if (d.arb b).owner.isSome || ask.isEmpty then d
  else
    let applied := d.latched (pARB b)
    let d := d.arbApply b
    let fresh := ask.filter (fun p => !d.wasPreempted b p)
    let cand := if fresh.isEmpty then ask else fresh
    let slot := (d.slotPort b (d.get (pARB b) ARB.STATUS_POINTER)).bind (fun p => if cand.contains p then some p else none)
    let pick := match slot with | some p => some p | none => d.background b cand
    let d := d.put (pARB b) ARB.STATUS_POINTER (d.nextPointer b applied)
    let d := d.countWrap (pARB b) ARB.ROUNDS
    match pick with
    | none => d
    | some p =>
      let d := if slot.isNone then d.count (pARB b) ARB.ARB_CNT_BG_GRANTS else d
      let d := d.grantBank b p t
      d.each (fun q d => d.waitRound b q) (ask.filter (fun q => decide (q ≠ p)))

/-- The owner of a bank cannot begin its next handshake: its landing register is full (R259). -/
def Dev.idleHold (b : Nat) (d : Dev) : Bool :=
  match (d.arb b).owner.bind d.tag with
  | some x => x.landing.isSome
  | none => false

/-- A step of Felt's timers, in taps: 8 ticks; in bypass whole bypass periods (R267, R276). -/
def Dev.feltStep (d : Dev) : Nat := if d.boot.bypass then max 256 d.edgeRes else 256

/-- The units a grant has used by t: completed handshakes and each 8 ticks of idle holding (R261). -/
def Dev.unitsUsed (b t : Nat) (d : Dev) : Nat :=
  (d.arb b).units + (if d.idleHold b then (t - (d.arb b).since) / d.feltStep else 0)

/-- Idle units are counted in when a handshake can begin again. -/
def Dev.idleCharge (b t : Nat) (d : Dev) : Dev :=
  let a := d.arb b
  if d.idleHold b then d.setArb b { a with units := d.unitsUsed b t, since := t } else d

/-- The port empties what it can; idle units of its banks are counted first (R259, R261). -/
def Dev.deliver (p t : Nat) (d : Dev) : Dev :=
  let d := d.each (fun b d => if (d.arb b).owner.any (fun k => decide (k / 2 = p)) then d.idleCharge b t else d) (List.range 16)
  d.emptyPort p

/-- PREEMPT: the units have run out (R261). -/
def Dev.preempt (b t : Nat) (d : Dev) : Dev :=
  let a := d.arb b
  match a.owner with
  | some k =>
    if decide (a.burst ≠ 0) && decide (a.burst ≤ d.unitsUsed b t) then
      let d := (d.release b).freshWait b (k / 2)
      let d := d.setArb b { d.arb b with preempted := (d.tag k).map (fun x => x.order) }
      (d.count (pARB b) ARB.ARB_CNT_PREEMPTS).raise (pARB b) ARB.IRQ_RAW_PREEMPT
    else d
  | none => d

/-! ## Aborts (R258, R267 to R270) -/

/-- A program's read (R136): its failure leaves the stall in place; any other failure is its port's to handle. -/
def Dev.programRead (p : Nat) (x : Tx) (d : Dev) : Bool :=
  decide (p < 15) && x.data.isNone && (d.engine p).pend.any (fun r => decide (r.order = x.order))

/-- A lost record of a converter (R317, R320): where it fails a PCS check, the other converter's record is written again, with
UNVERIFIED (log entry 53). -/
def Dev.recordLost (c slot t : Nat) (d : Dev) : Dev :=
  let d' := d.pcGap c
  if d.pcsAwaits c slot then
    let o := 1 - c
    let ws := (d.conv o).issued
    let ws := ws.set 3 (ws.getD 3 0 ||| 1)
    (d'.pcsUnlanded t).feltIssue 0x15 (some (ws.flatMap wordBytes)) (pcSlot o slot) 16 t
  else d'

/-- What a failed write means to the converters and the peer bus (R317, R375). -/
def Dev.writeLost (port a t : Nat) (d : Dev) : Dev :=
  match pcPlace port a, rxPlace port a with
  | some r, _ => d.recordLost r.1 r.2 t
  | none, some n => d.rxLost n
  | none, none => d

/-- What a completed write means to them (R320, R376). -/
def Dev.writeLanded (port a t : Nat) (d : Dev) : Dev :=
  match pcPlace port a, rxPlace port a with
  | some r, _ => d.pcLanded r.1 r.2 t
  | none, some n => d.rxLanded n
  | none, none => d

/-- A failed transaction (R269): counted, and what its port does about it. -/
def Dev.txFailed (k : Nat) (x : Tx) (t : Nat) (d : Dev) : Dev :=
  let p := k / 2
  let d := (d.count pFELT FELT.ERR_CNT_FAIL_CNT).raise pFELT FELT.IRQ_RAW_TX_FAILED
  let d := ((d.put pFELT FELT.FAULT_CODE_CAUSE 4).put pFELT FELT.FAULT_CODE_PORT p).put pFELT FELT.FAULT_CODE_TAG k
  let d := d.setTag k none
  let d := d.writeLost p x.addr t
  if x.retried && !d.programRead p x then
    { d with felt := { d.felt with failed := if d.felt.failed.contains p then d.felt.failed else p :: d.felt.failed } }
  else d

/-- A filter writer's frame is lost (R241). -/
def Dev.frameLost (x : Tx) (d : Dev) : Dev :=
  let i := (x.addr - 0x100D0000) / 0x40 % 64
  (d.countAt (sdPage i) SDF.CNT_WR_FAIL (i % 8)).raise (sdPage i) SDF.IRQ_RAW_WR_FAIL

/-- An abort: the request is withdrawn, the grant released, and the port's retry policy applies. -/
def Dev.abort (k t : Nat) (d : Dev) : Dev :=
  match d.tag k with
  | none => d
  | some x =>
    let p := k / 2
    let d := d.releaseTag k
    let d := if 0x11 ≤ p && p ≤ 0x14 then (d.setTag k none).frameLost x
      else if x.retried then d.txFailed k x t
      else
        let d := d.count pFELT FELT.RETRY_CNT_RETRIES
        let d := match bankOf x.addr with | some b => d.freshWait b p | none => d
        let n := d.felt.issued
        let d := d.setTag k (some { x with
          issuedAt := t, arrival := n, progress := 0, retried := true, landing := none, arrived := [], began := none })
        { d with felt := { d.felt with issued := n + 1 } }
    (d.deliver p t).pump p t

/-- Record an abort on the FELT page. -/
def Dev.abortReport (cause k : Nat) (d : Dev) : Dev :=
  let d := ((d.put pFELT FELT.FAULT_CODE_CAUSE cause).put pFELT FELT.FAULT_CODE_PORT (k / 2)).put pFELT FELT.FAULT_CODE_TAG k
  match cause with
  | 1 => (d.count pFELT FELT.TO_CNT_HS_TO_CNT).raise pFELT FELT.IRQ_RAW_HS_TIMEOUT
  | 2 => (d.count pFELT FELT.TO_CNT_TX_TO_CNT).raise pFELT FELT.IRQ_RAW_TX_TIMEOUT
  | _ => (d.count pFELT FELT.ERR_CNT_TOKEN_CNT).raise pFELT FELT.IRQ_RAW_TOKEN_ERR

/-- When the handshake that tag k has in progress began: at its bank's grant or the handshake before, or at its turn at a
target without an arbiter (R267). -/
def Dev.hsSince (k : Nat) (x : Tx) (d : Dev) : Option Nat :=
  if d.handshakeDue k x then
    (match bankOf x.addr with | some b => some (d.arb b).since | none => x.began)
  else none

/-- HS_TIMEOUT: the handshake of tag k has not completed in 2 us (R267). -/
def Dev.hsTimeout (k t : Nat) (d : Dev) : Dev :=
  match d.tag k with
  | some x => if (d.hsSince k x).any (fun a => decide (a + usTaps 2 ≤ t)) then (d.abortReport 1 k).abort k t else d
  | none => d

/-- The transaction that reaches the 20 us limit first: issued first, then the lower tag (R268). -/
def Dev.oldest (t : Nat) (d : Dev) : Option Nat :=
  (List.range 48).foldl (fun best k =>
    match d.tag k with
    | some x =>
      if x.issuedAt + usTaps 20 ≤ t then
        (match best with
         | none => some k
         | some j => match d.tag j with
           | some y => if x.issuedAt < y.issuedAt then some k else some j
           | none => some k)
      else best
    | none => best) none

/-- TX_TIMEOUT (R268). -/
def Dev.txTimeout (t : Nat) (d : Dev) : Dev :=
  match d.oldest t with
  | some k => (d.abortReport 2 k).abort k t
  | none => d

/-- The reads of an engine's cut sample are abandoned, with those that wait for a tag: no abort, no count (R270). -/
def Dev.abandon (p : Nat) (d : Dev) : Dev :=
  let d := { d with felt := { d.felt with queue := d.felt.queue.filter (fun w => w.data.isSome || decide (w.port ≠ p)) } }
  let d := d.each (fun k d =>
    match d.tag k with
    | some x => if x.data.isNone then (d.releaseTag k).setTag k none else d
    | none => d) [2 * p, 2 * p + 1]
  ({ d with felt := { d.felt with failed := d.felt.failed.filter (fun q => decide (q ≠ p)) } }).pump p d.now

/-! ## Commit (R265) -/

/-- The first entry of the shadow table that names a port it may not. -/
def Dev.badEntry (b : Nat) (d : Dev) : Option (Nat × Nat) :=
  (List.range 128).findSome? (fun e =>
    let x := d.getAt (pARB b) ARB.SLOTS (e / 4) / 256 ^ (e % 4) % 256
    if x < 128 then none
    else if x % 32 = 0x0F then some (1, e)
    else if 0x17 < x % 32 then some (2, e)
    else none)

/-- Why a commit of a bank's set is refused: cause and entry. -/
def Dev.arbRefusal (b : Nat) (d : Dev) : Option (Nat × Nat) :=
  let n := d.get (pARB b) ARB.ARB_CFG_TABLE_LEN
  match d.badEntry b with
  | some x => some x
  | none => if n = 0 || 128 < n then some (3, 0) else none

/-- ARB_COMMIT. -/
def Dev.arbCommit (b : Nat) (d : Dev) : Dev :=
  match d.arbRefusal b with
  | some (c, e) =>
    ((d.raise (pARB b) ARB.IRQ_RAW_COMMIT_REFUSED).put (pARB b) ARB.FAULT_CODE_CAUSE c).put (pARB b) ARB.FAULT_CODE_ENTRY e
  | none => (d.latch (pARB b)).put (pARB b) ARB.STATUS_COMMIT_PENDING 1

/-- ARBnn.CTRL.CLR_CNT (R280). -/
def Dev.arbClear (b : Nat) (d : Dev) : Dev :=
  let p := pARB b
  let d := (((d.put p ARB.ROUNDS 0).put p ARB.HANDSHAKES 0).put p ARB.ARB_CNT_BG_GRANTS 0).put p ARB.ARB_CNT_PREEMPTS 0
  d.each (fun k d => d.putAt p ARB.PORT_STAT_STARVE k 0) (List.range 24)

/-- FELT.CTRL.CLR_CNT (R277). -/
def Dev.feltClear (d : Dev) : Dev :=
  let z (a : Nat) (d : Dev) : Dev := d.setReg (pFELT * 0x1000 + a) 0
  (((z 0x048 (z 0x044 (z 0x040 d))).put pFELT FELT.CHAIN_Q_DROPS 0)).put pFELT FELT.BUS_Q_DROPS 0

end Sys2Proof.Machine
end

