-- ==== Sys2Proof/Machine/Leg.lean ====
section
/-!
DEFINITION. The leg modulators: shadows and latches, update boundaries, the switching function, dead time, overrides,
refresh, groups, calibration, debug halt (R166 to R200, R495).
-/
namespace Sys2Proof.Machine

/-! ## Sets (R169, R174, R177) -/

/-- The period shadow that a fraction converts with (R177). -/
def Dev.fracPeriod (n : Nat) (d : Dev) : Nat :=
  match d.legCounted n with
  | some g => setUnits (d.reg (pGRP g * 0x1000 + 0x4C))
  | none => setUnits (d.reg (pLEG n * 0x1000 + 0x40))

/-- The value of a duty fraction against a period: none for NaN; the Bool says that it was clamped (R177). -/
def fracDuty (w : Word) (per : Nat) : Option (Nat × Bool) :=
  if isNaN w then none
  else if fExp w = 255 then some (if fSign w then (0, true) else (per, true))
  else if fSign w then some (0, decide (w.toNat % 2 ^ 31 ≠ 0))
  else if 0x3F800000 < w.toNat then some (per, true)
  else
    let man := if fExp w = 0 then fFrac w else 2 ^ 23 + fFrac w
    let sh := 150 - max 1 (fExp w)
    some (divEven (man * per) (2 ^ sh), false)

/-- The leg is listed on a running engine: that engine (R150, R176). -/
def Dev.legOwner (n : Nat) (d : Dev) : Option Nat :=
  (List.range 12).find? (fun e => d.flag (pENG e) CE.CTRL_RUN && (d.engLegs e).any (fun m => decide (m = n)))

/-- A write to an owned leg's set is discarded and reported (R176). -/
def Dev.foreignWrite (n port : Nat) (d : Dev) : Dev :=
  let p := pLEG n
  (((d.count p LEG.CNT_FOREIGN).raise p LEG.IRQ_RAW_FOREIGN_WRITE).put p LEG.FAULT_CODE_CAUSE 3).put p
    LEG.FAULT_CODE_SOURCE port

/-- Latch the three shadows (R174, R175). -/
def Dev.legLatch (n t : Nat) (d : Dev) : Dev :=
  let b := pLEG n * 0x1000
  d.setLeg n { d.leg n with latched := some ⟨d.reg (b + 0x40), d.reg (b + 0x44), d.reg (b + 0x48), t⟩,
                            staleNew := false, staleOld := false, pairStale := false }

/-- Auto mode acts as a COMMIT after a duty write (R175). -/
def Dev.autoLatch (n t : Nat) (d : Dev) : Dev :=
  if d.flag (pLEG n) LEG.CFG_COMMIT_MODE then d.legLatch n t else d

/-- A PERIOD or PHASE write that no latch has taken up (R175). -/
def Dev.staleMark (n : Nat) (d : Dev) : Dev :=
  if d.flag (pLEG n) LEG.CFG_COMMIT_MODE then d.setLeg n { d.leg n with staleNew := true } else d

/-- Enter a fraction into the DUTY shadow; false for NaN (R177). -/
def Dev.enterFrac (n : Nat) (w : Word) (d : Dev) : Bool × Dev :=
  let p := pLEG n
  match fracDuty w (d.fracPeriod n) with
  | none => (false, ((d.raise p LEG.IRQ_RAW_NAN_DUTY).put p LEG.FAULT_CODE_CAUSE 2).put p LEG.FAULT_CODE_SOURCE 0)
  | some (v, c) =>
    let d := d.setReg (p * 0x1000 + 0x44) (BitVec.ofNat 32 v)
    (true, if c then d.raise p LEG.IRQ_RAW_DUTY_CLAMP else d)

/-! ## Boundaries (R172, R173) -/

/-- Period, phase, whether a clamp acted, and the count unit that a leg takes at a period start. -/
def Dev.legTarget (n start : Nat) (d : Dev) : Nat × Nat × Bool × Nat :=
  match d.legCounted n with
  | some g =>
    let u := 2 ^ d.get (pGRP g) GRP.ILV_CFG_PRESCALE
    let gs := d.groupSet g n start
    let p := periodTaps gs.1 u
    let l := d.leg n
    if decide (start < (d.grp g).spreadAt + leadTaps) && decide (p.1 = l.per) then (l.per, l.phi, p.2, u)
    else (p.1, gs.2 * u % p.1, p.2, u)
  | none =>
    match d.spreadOf n with
    | some g => ((d.leg n).per, (d.leg n).phi, false, 2 ^ d.get (pGRP g) GRP.ILV_CFG_PRESCALE)
    | none =>
      let u := 2 ^ d.get (pLEG n) LEG.CFG_PRESCALE
      let b := pLEG n * 0x1000 + 0x800
      let p := periodTaps (setUnits (d.reg (b + 0x40))) u
      (p.1, setUnits (d.reg (b + 0x48)) * u % p.1, p.2, u)

/-- The latched set applies: the active copies take it (R174). -/
def Dev.applySet (n : Nat) (x : LegSet) (d : Dev) : Dev :=
  let b := pLEG n * 0x1000 + 0x800
  let d := ((d.setReg (b + 0x40) x.period).setReg (b + 0x44) x.duty).setReg (b + 0x48) x.phase
  (d.setLeg n { d.leg n with latched := none }).raise (pLEG n) LEG.IRQ_RAW_COMMIT_DONE

/-- The set changes period or phase of a leg that uses its own (R172). -/
def Dev.setMoves (n : Nat) (x : LegSet) (d : Dev) : Bool :=
  let u := 2 ^ d.get (pLEG n) LEG.CFG_PRESCALE
  let p := (periodTaps (setUnits x.period) u).1
  (d.spreadOf n).isNone && (decide (p ≠ (d.leg n).per) || decide (setUnits x.phase * u % p ≠ (d.leg n).phi))

/-- A period start is a boundary of the leg (R172). -/
def LegCfg.startBoundary (c : LegCfg) : Bool := !c.centre || decide (c.upd ≠ 1)
/-- The peak is a boundary of the leg. -/
def LegCfg.peakBoundary (c : LegCfg) : Bool := c.centre && (decide (c.upd = 1) || decide (c.upd = 2))

/-- A boundary passes over the writes that no latch has taken up: the second one for the older of them (R175). -/
def Dev.staleStep (n : Nat) (d : Dev) : Dev :=
  let l := d.leg n
  let d := d.setLeg n { l with staleNew := false, staleOld := l.staleNew, pairStale := l.pairStale || l.staleOld }
  if l.staleOld then d.raise (pLEG n) LEG.IRQ_RAW_PAIR_STALE else d

/-- The active duty of a leg in taps. -/
def Dev.dutyTaps (n u : Nat) (d : Dev) : Nat := setUnits (d.reg (pLEG n * 0x1000 + 0x844)) * u

/-- The end of a period at S: EFF_DUTY (R190). -/
def Dev.closePeriod (n start : Nat) (d : Dev) : Dev :=
  let l := d.leg n
  let on := l.hsAcc + (if l.hs then start - l.hsMark else 0)
  let d := d.setLeg n { l with hsAcc := 0, hsMark := start, cbcPeriod := false, peakDone := false }
  d.setReg (pLEG n * 0x1000 + 0x60) (BitVec.ofNat 32 (on % 2 ^ 24))

/-- The edges of a new period. -/
def Dev.layEdges (n u start : Nat) (d : Dev) : Dev :=
  let l := d.leg n
  let c := d.legCfg n
  let es := flipLevels l.invert (periodLevels c.centre u start l.len l.duty)
  let old := l.edges.filter (fun e => decide (e.1 < start))
  d.setLeg n { l with edges := dedupe l.s (old ++ es) }

/-- The instant of the peak (R171). -/
def Leg.peak (u : Nat) (l : Leg) : Nat := l.start + l.len / 2 / u * u

/-- The count unit in force. -/
def Dev.unitOf (n : Nat) (d : Dev) : Nat :=
  match d.spreadOf n with
  | some g => 2 ^ d.get (pGRP g) GRP.ILV_CFG_PRESCALE
  | none => 2 ^ d.get (pLEG n) LEG.CFG_PRESCALE

/-- The set, the transitional period and the phase at a period start (R172, R173). -/
def Dev.enterPeriod (n start : Nat) (d : Dev) : Dev :=
  let p := pLEG n
  let c := d.legCfg n
  let take := (d.leg n).latched.bind (fun x =>
    if decide (x.at' + leadTaps ≤ start) && (c.startBoundary ||
        (d.setMoves n x && decide (x.at' + leadTaps ≤ (d.leg n).peak (d.unitOf n)))) then some x else none)
  let d := match take with
    | some x => d.applySet n x
    | none => d
  let tg := d.legTarget n start
  let l := d.leg n
  let moves := decide (tg.1 ≠ l.per) || decide (tg.2.1 ≠ l.phi)
  let len := if moves then gridFrom (start + (tg.1 + 1) / 2) tg.2.1 tg.1 - start else tg.1
  let duty := d.dutyTaps n tg.2.2.2
  let full := decide (tg.1 < duty) || decide (len < duty)
  let d := if (take.isSome || moves) && tg.2.2.1 then
      ((d.raise p LEG.IRQ_RAW_PERIOD_CLAMP).put p LEG.FAULT_CODE_CAUSE 1).put p LEG.FAULT_CODE_SOURCE 0 else d
  let d := if (take.isSome || moves) && full then d.raise p LEG.IRQ_RAW_DUTY_CLAMP else d
  let d := if decide (tg.1 ≠ l.per) then d.sdLinked n start else d
  let inv := if c.invert != l.invert && decide (l.invertAt + leadTaps ≤ start) then c.invert else l.invert
  let dut := if full then len else duty
  let d := d.setLeg n { d.leg n with per := tg.1, phi := tg.2.1, start := start, len := len, invert := inv, duty := dut }
  let d := d.setReg (p * 0x1000 + 0x5C) (BitVec.ofNat 32 (tg.2.1 / tg.2.2.2 % 2 ^ 21))
  d.layEdges n tg.2.2.2 start

/-- A counted leg has taken the latched group set at S (R179). -/
def Dev.takeGroup (n start : Nat) (d : Dev) : Dev :=
  match d.legCounted n with
  | none => d
  | some g =>
    let x := d.grp g
    match x.latched with
    | none => d
    | some (_, _, at') =>
      if decide (at' + leadTaps ≤ start) && !x.taken.any (fun m => decide (m = n)) then
        d.setGrp g { x with taken := x.taken ++ [n] }
      else d

/-- The peak of a centre-aligned period: only the duty changes (R172). -/
def Dev.atPeak (n : Nat) (d : Dev) : Dev :=
  let c := d.legCfg n
  let u := d.unitOf n
  let l := d.leg n
  let pk := l.peak u
  let d := d.setLeg n { l with peakDone := true }
  if !c.peakBoundary then d
  else
    let d := d.staleStep n
    match l.latched with
    | some x =>
      if decide (x.at' + leadTaps ≤ pk) && !d.setMoves n x then
        (let d := d.applySet n x
         let d := if (d.spreadOf n).isNone && (periodTaps (setUnits x.period) u).2 then
             ((d.raise (pLEG n) LEG.IRQ_RAW_PERIOD_CLAMP).put (pLEG n) LEG.FAULT_CODE_CAUSE 1).put (pLEG n)
               LEG.FAULT_CODE_SOURCE 0 else d
         let want := d.dutyTaps n u
         let full := decide (l.per < want) || decide (l.len < want)
         let d := if full then d.raise (pLEG n) LEG.IRQ_RAW_DUTY_CLAMP else d
         let duty := if full then l.len else want
         let fin := l.start + centreOff u l.len duty + duty
         let es : List (Nat × Bool) :=
           if fin ≤ pk then [(pk, false)] else if l.len ≤ duty then [(pk, true)] else [(pk, true), (fin, false)]
         let old := l.edges.filter (fun e => decide (e.1 < pk))
         d.setLeg n { d.leg n with duty := duty, edges := dedupe l.s (old ++ flipLevels l.invert es) })
      else d
    | none => d

/-! ## Edges of s (R181, R182) -/

/-- The next instant at which s takes a level, from the edges `es` on: those laid, with what a latched set changes at a peak to
come, and those that the next period will lay as sets, phases and INVERT stand now. -/
def Dev.nextLevel (n : Nat) (lvl : Bool) (es : List (Nat × Bool)) (d : Dev) : Option Nat :=
  let d := d.setLeg n { d.leg n with edges := es }
  let d := if (d.legCfg n).centre && !(d.leg n).peakDone then d.atPeak n else d
  match (d.leg n).edges.find? (fun e => decide (e.2 = lvl)) with
  | some e => some e.1
  | none =>
    let s0 := (d.leg n).start + (d.leg n).len
    (((d.takeGroup n s0).enterPeriod n s0).leg n).edges.find? (fun e => decide (e.2 = lvl)) |>.map (·.1)

/-- The interval that would begin with a turn-on of the switch that level `up` selects, computed for `on`, is shorter than
MIN_PULSE as placed (R182, R195). -/
def Dev.shortPulse (n : Nat) (up : Bool) (on : Nat) (rest : List (Nat × Bool)) (d : Dev) : Bool :=
  let c := d.legCfg n
  match d.nextLevel n (!up) rest with
  | some f => decide (floorTo c.res f < ceilTo c.res on + c.minPulse)
  | none => false

/-- An on-interval that would be shorter than MIN_PULSE: both its edges are cancelled (R182). -/
def Dev.dropPulse (n : Nat) (d : Dev) : Dev :=
  ((d.setLeg n { d.leg n with dropping := true }).count (pLEG n) LEG.CNT_DROPS).raise (pLEG n) LEG.IRQ_RAW_PULSE_DROP

/-- An edge of s to level `up` at e. -/
def Dev.edge (n : Nat) (up : Bool) (e : Nat) (rest : List (Nat × Bool)) (d : Dev) : Dev :=
  let c := d.legCfg n
  let d := d.setLeg n { d.leg n with s := up, edges := rest }
  let l := d.leg n
  if !l.live || l.refresh.isSome then d
  else if l.dropping then d.setLeg n { l with dropping := false }
  else if (if up then l.hs else l.ls) then d
  else
    let off := floorTo c.res e
    let on := e + if up then c.dtLH else c.dtHL
    if d.shortPulse n up on rest then d.dropPulse n
    else
      let l := if up then l.offLs c off else l.offHs c off
      let l := if l.turnOn.any (fun x => x.high != up) then { l with turnOn := none } else l
      d.setLeg n (l.schedule up on)

/-- The release of a leg at a period start at least 100 ns after it (R191): the leg acts as if the switch that s does not select
had just turned off, and the selected one follows after its dead time unless MIN_PULSE drops its interval (R182). -/
def Dev.releaseAt (n start : Nat) (d : Dev) : Dev :=
  let l := d.leg n
  let c := d.legCfg n
  if l.live || (d.legHeld n).isSome || !l.freeSince.any (fun f => decide (f + leadTaps ≤ start)) then d
  else
    let s := (l.edges.filter (fun e => decide (e.1 ≤ start))).foldl (fun _ e => e.2) l.s
    let rest := l.edges.filter (fun e => decide (start < e.1))
    let on := start + if s then c.dtLH else c.dtHL
    let short := d.shortPulse n s on rest
    let d := d.setLeg n ({ l with live := true, freeSince := none, s := s, dropping := false, refresh := none,
                                  turnOn := if short then none else some ⟨s, on, false⟩, edges := rest }.offBy c (!s) start)
    if short then (d.count (pLEG n) LEG.CNT_DROPS).raise (pLEG n) LEG.IRQ_RAW_PULSE_DROP else d

/-- A period start at S. -/
def Dev.periodStart (n start : Nat) (d : Dev) : Dev :=
  let d := d.closePeriod n start
  let d := d.takeGroup n start
  let d := (d.enterPeriod n start).releaseAt n start
  if (d.legCfg n).startBoundary then d.staleStep n else d

/-- UPDATE_BOUNDARY: the next period start, or the peak, if it has come by t; starts that went unreported are skipped whole. -/
def Dev.boundary (n t : Nat) (d : Dev) : Dev :=
  let l := d.leg n
  let next := l.start + l.len
  if d.pw.halted then d
  else if next ≤ t then d.periodStart n (next + (t - next) / max 1 l.per * l.per)
  else if (d.legCfg n).centre && !l.peakDone && decide (l.peak (d.unitOf n) ≤ t) then d.atPeak n
  else d

/-- SWITCH_RISE or SWITCH_FALL: the next edge, if it has that level and has come by t. -/
def Dev.switchEdge (n : Nat) (up : Bool) (t : Nat) (d : Dev) : Dev :=
  if d.pw.halted then d
  else match (d.leg n).edges with
    | (e, b) :: rest => if b = up && decide (e ≤ t) then d.edge n up e rest else d
    | [] => d

/-! ## Refresh (R187 to R189) -/

/-- The instant at which the high side has been on for INTERVAL_US. -/
def Dev.refreshDue (n : Nat) (d : Dev) : Option Nat := (d.leg n).hsSince.map (fun h => h + (d.legCfg n).interval)

def Dev.refresh (n t : Nat) (d : Dev) : Dev :=
  let c := d.legCfg n
  let l := d.leg n
  match d.refreshDue n with
  | none => d
  | some r =>
    if c.refreshEn && l.live && !d.pw.halted && decide (r ≤ t) && l.refresh.isNone then
      (let l := { l.offHs c (floorTo c.res r) with refresh := some .before, dropping := false, turnOn := none }
       let d := d.setLeg n (l.schedule false (r + c.dtHL))
       (d.countWrap (pLEG n) LEG.REFRESH_CNT).raise (pLEG n) LEG.IRQ_RAW_REFRESH)
    else d

def Dev.refreshEnd (n t : Nat) (d : Dev) : Dev :=
  let c := d.legCfg n
  let l := d.leg n
  match l.refresh with
  | some (.pulse f) =>
    if decide (floorTo c.res f ≤ t) && !d.pw.halted then
      d.setLeg n { l.offLs c (floorTo c.res f) with refresh := some .after, turnOn := some ⟨l.s, f + c.dtLH, false⟩ }
    else d
  | some .before => d
  | some .after => d
  | none => d

/-- R189: no refresh; both switches off and a trip. -/
def Dev.bootUv (n t : Nat) (d : Dev) : Dev :=
  match d.refreshDue n with
  | none => d
  | some r => if !(d.legCfg n).refreshEn && decide (r ≤ t) && !d.pw.halted then d.trip n 0x16 false r else d

/-! ## Groups (R178, R179) -/

/-- The legs an ASSIGN word names. -/
def assignLegs (half : Nat) (w : Word) : List Nat :=
  if half = 0 then (List.range 32).filter (fun k => w.toNat.testBit k)
  else ((List.range 16).filter (fun k => w.toNat.testBit k)).map (· + 32)

/-- The refusal of an ASSIGN write: cause and leg (R178). -/
def Dev.assignRefusal (g half : Nat) (w : Word) (d : Dev) : Option (Nat × Nat) :=
  let new := assignLegs half w
  let old := (d.groupLegs g).filter (fun n => decide ((n < 32) = (half = 0)))
  let keep := (d.groupLegs g).filter (fun n => decide ((n < 32) ≠ (half = 0)))
  let added := new.filter (fun n => !old.contains n)
  let changed := (List.range 48).filter (fun n => (new.contains n) != (old.contains n) &&
    decide ((n < 32) = (half = 0)))
  match new.find? (fun n => (List.range 4).any (fun h => decide (h ≠ g) && d.inGroup h n)) with
  | some n => some (1, n)
  | none =>
    if 16 < new.length + keep.length then some (2, added.headD 0)
    else match changed.find? (fun n => d.flag (pLEG n) LEG.CTRL_EN) with
      | some n => some (3, n)
      | none => if d.running then some (4, changed.headD 0) else none

def Dev.assign (g half : Nat) (w : Word) (t : Nat) (d : Dev) : Dev :=
  let p := pGRP g
  if !d.lockOpen p then d
  else match d.assignRefusal g half w with
    | some (c, n) => ((d.raise p GRP.IRQ_RAW_ASSIGN_REFUSED).put p GRP.FAULT_CODE_CAUSE c).put p GRP.FAULT_CODE_LEG n
    | none =>
      let old := d.groupLegs g
      let d := d.setReg (p * 0x1000 + 0x40 + 4 * half) w
      let d := if (d.grp g).tripped then d.markHeld 0x18 ((d.groupLegs g).filter (fun n => !old.contains n)) else d
      d.settle t

def Dev.groupCommit (g t : Nat) (d : Dev) : Dev :=
  let b := pGRP g * 0x1000
  d.setGrp g { d.grp g with latched := some (d.reg (b + 0x4C), d.reg (b + 0x50), t), taken := [],
                            alone := (d.counted g).isEmpty }

/-- The latched group set becomes active once every leg still counted has taken it, or 40 ticks after the latch where none was
counted then (R179) or none is any more (log entry 34). -/
def Dev.groupActive (g t : Nat) (d : Dev) : Dev :=
  let x := d.grp g
  let c := d.counted g
  match x.latched with
  | none => d
  | some (gp, bp, at') =>
    if (if x.alone || c.isEmpty then decide (at' + leadTaps ≤ t) else c.all (fun n => x.taken.contains n)) then
      (let b := pGRP g * 0x1000
       let d := (d.setReg (b + 0x84C) gp).setReg (b + 0x850) bp
       (d.setGrp g { x with latched := none, taken := [] }).raise (pGRP g) GRP.IRQ_RAW_COMMIT_DONE)
    else d

/-! ## Overrides -/

/-- A write of CTRL.FORCE (R183, R198). -/
def Dev.force (n v t : Nat) (d : Dev) : Dev :=
  let p := pLEG n
  if v = 3 then (d.put p LEG.FAULT_CODE_CAUSE 5).put p LEG.FAULT_CODE_SOURCE 0
  else (d.put p LEG.CTRL_FORCE v).settle t

/-- A write of CTRL.EN (R191). -/
def Dev.enable (n : Nat) (on : Bool) (t : Nat) (d : Dev) : Dev := (d.putFlag (pLEG n) LEG.CTRL_EN on).settle t

/-- A write of CTRL.INVERT (R184). -/
def Dev.invert (n : Nat) (on : Bool) (t : Nat) (d : Dev) : Dev :=
  if d.flag (pLEG n) LEG.CTRL_INVERT = on then d
  else (d.putFlag (pLEG n) LEG.CTRL_INVERT on).setLeg n { d.leg n with invertAt := t }

/-! ## Calibration (R168) and debug halt (R192, R194) -/

def Dev.calStart (d : Dev) : Dev := { d with pw := { d.pw with calBusy := true, tapsValid := false } }

/-- The outcome of a full calibration: none, or the cause and line of its failure. -/
def Dev.calDone (us : Nat) (code : Nat) (err : Option (Nat × Nat)) (d : Dev) : Dev :=
  if !d.pw.calBusy then d
  else
    let d := d.put pPWMTB PWMTB.CAL_TIME_US us
    let d := d.put pPWMTB PWMTB.CAL_CODE_REF_CODE code
    let d := d.count pPWMTB PWMTB.CAL_COUNT
    match err with
    | none =>
      ({ d with pw := { d.pw with calBusy := false, tapsValid := !d.boot.bypass } }).raise pPWMTB PWMTB.IRQ_RAW_CAL_DONE
    | some (c, line) =>
      (((({ d with pw := { d.pw with calBusy := false, tapsValid := false } }).raise pPWMTB PWMTB.IRQ_RAW_CAL_ERR).put pPWMTB
        PWMTB.FAULT_CODE_CAUSE c).put pPWMTB PWMTB.FAULT_CODE_LINE line)

/-- The high side's on-time in the period that runs as debug halt ends at t: a switch that was on stayed on (R190, R192); what
lies before that period is not counted in it. -/
def Leg.haltOn (start t : Nat) (l : Leg) : Nat :=
  (if start ≤ l.start then l.hsAcc else 0) + (if l.hs then t - max l.hsMark start else 0)

/-- The leg as it leaves debug halt: off, waiting for a period start (R194). -/
def Dev.resumeLeg (t n : Nat) (d : Dev) : Dev :=
  let x := d.leg n
  let off := d.nextTick t
  let l := (x.bothOff (d.legCfg n) off).realign t
  d.setLeg n { l with live := false, heldBy := 5, hsAcc := x.haltOn l.start off,
                      freeSince := if (d.legHeld n).isSome then none else some t }

/-- LSTATE word parts of a leg's STATUS (R198, R228). -/
def Dev.legStatus (n t : Nat) (d : Dev) : Word :=
  let l := d.leg n
  let x := d.tripOf n
  let q := quietTaps (d.get (pLEG n) LEG.TRIP_CFG_TRIP_QUIET)
  let own := d.legOwner n
  let b (v : Bool) (k : Nat) : Nat := v.toNat * 2 ^ k
  BitVec.ofNat 32 (d.legState n + b l.latched.isSome 3 + b l.pairStale 4 +
    b (l.hsSince.any (fun h => decide (h ≤ l.start))) 5 + b own.isSome 6 + own.getD 15 * 128 +
    b (!d.pw.tapsValid) 11 + b x.set 16 + b (x.set && x.sources.any (fun s => !d.srcQuiet t q s)) 17 + b x.bootUv 18 +
    b l.gsLs 19 + b l.gsHs 20 + b l.scLo 21 + b l.scHi 22)

/-- TRIP_SRC (R229). -/
def Dev.tripSrc (n : Nat) (d : Dev) : Word :=
  let ss := (d.tripOf n).sources
  let m (f : TripSrc → Bool) : Nat := (List.range 11).foldl (fun v k =>
    v + (ss.any (fun s => decide (s.cause = 0x10 + k) && f s)).toNat * 2 ^ k) 0
  BitVec.ofNat 32 (m (fun _ => true) + m (fun s => d.srcActive s) * 65536)

/-- STATUS of a group page (R200, R230). -/
def Dev.grpStatus (g t : Nat) (d : Dev) : Word :=
  let x := d.grp g
  let mode := d.get (pGRP g) GRP.ILV_CFG_MODE
  let b (v : Bool) (k : Nat) : Nat := v.toNat * 2 ^ k
  BitVec.ofNat 32 (b (decide (mode = 1) || decide (mode = 2)) 0 + b x.latched.isSome 1 + b x.tripped 16 +
    b (x.tripped && !d.grpQuiet g t) 17 + b x.multiSc 18)

/-! ## The commands -/

/-- A write of a leg's shadow set from a port: an owned leg discards it (R176). -/
def Dev.ownedOr (n port : Nat) (f : Dev → Dev) (d : Dev) : Dev :=
  if (d.legOwner n).isSome then d.foreignWrite n port else f d

/-- LEG_COMMIT (R174): leg, requester port. -/
def execLegCommit (n : Fin 48) (port : Fin 24) (t : Nat) (s : State) : Host.Outcome State Fault Refusal :=
  runReg t (fun _ d => d.ownedOr n port (fun d => d.legLatch n t)) s

/-- DUTY_WRITE (R175): a one in a reserved bit is R10's. -/
def execDutyWrite (n : Fin 48) (port : Fin 24) (w : Word) (t : Nat) (s : State) : Host.Outcome State Fault Refusal :=
  runRegF t (fun _ d => if 2 ^ 21 ≤ w.toNat then .error .reservedBit
    else .ok (d.ownedOr n port (fun d => (d.setReg (pLEG n * 0x1000 + 0x44) w).autoLatch n t))) s

/-- The effect of DUTY_FRAC_WRITE on a leg under register control (R177). -/
def Dev.fracWrite (n : Nat) (w : Word) (t : Nat) (d : Dev) : Dev :=
  let r := d.enterFrac n w
  if r.1 then r.2.autoLatch n t else r.2

/-- DUTY_FRAC_WRITE (R177). -/
def execDutyFracWrite (n : Fin 48) (port : Fin 24) (w : Word) (t : Nat) (s : State) :
    Host.Outcome State Fault Refusal :=
  runReg t (fun _ d => d.ownedOr n port (fun d => d.fracWrite n w t)) s

/-- UPDATE_BOUNDARY (R172). -/
def execUpdateBoundary (n : Fin 48) (t : Nat) (s : State) : Host.Outcome State Fault Refusal :=
  run t (fun _ d => d.boundary n t) s

/-- SWITCH_RISE (R181). -/
def execSwitchRise (n : Fin 48) (t : Nat) (s : State) : Host.Outcome State Fault Refusal :=
  run t (fun _ d => d.switchEdge n true t) s

/-- SWITCH_FALL (R181). -/
def execSwitchFall (n : Fin 48) (t : Nat) (s : State) : Host.Outcome State Fault Refusal :=
  run t (fun _ d => d.switchEdge n false t) s

/-- DEAD_TIME_END (R202). -/
def execDeadTimeEnd (n : Fin 48) (t : Nat) (s : State) : Host.Outcome State Fault Refusal :=
  run t (fun _ d => if d.pw.halted then d else d.placeTurnOn n t) s

/-- FORCE_OFF (R183). -/
def execForceOff (n : Fin 48) (t : Nat) (s : State) : Host.Outcome State Fault Refusal :=
  runReg t (fun _ d => d.force n 1 t) s

/-- FORCE_LOW (R183). -/
def execForceLow (n : Fin 48) (t : Nat) (s : State) : Host.Outcome State Fault Refusal :=
  runReg t (fun _ d => d.force n 2 t) s

/-- FORCE_RELEASE (R183). -/
def execForceRelease (n : Fin 48) (t : Nat) (s : State) : Host.Outcome State Fault Refusal :=
  runReg t (fun _ d => d.force n 0 t) s

/-- LEG_INVERT (R184). -/
def execLegInvert (n : Fin 48) (on : Bool) (t : Nat) (s : State) : Host.Outcome State Fault Refusal :=
  runReg t (fun _ d => d.invert n on t) s

/-- LEG_ENABLE (R191). -/
def execLegEnable (n : Fin 48) (t : Nat) (s : State) : Host.Outcome State Fault Refusal :=
  runReg t (fun _ d => d.enable n true t) s

/-- LEG_DISABLE (R191). -/
def execLegDisable (n : Fin 48) (t : Nat) (s : State) : Host.Outcome State Fault Refusal :=
  runReg t (fun _ d => d.enable n false t) s

/-- REFRESH (R187). -/
def execRefresh (n : Fin 48) (t : Nat) (s : State) : Host.Outcome State Fault Refusal :=
  run t (fun _ d => d.refresh n t) s

/-- REFRESH_PULSE_END (R187). -/
def execRefreshPulseEnd (n : Fin 48) (t : Nat) (s : State) : Host.Outcome State Fault Refusal :=
  run t (fun _ d => d.refreshEnd n t) s

/-- BOOT_UV_FULL_DUTY (R189). -/
def execBootUvFullDuty (n : Fin 48) (t : Nat) (s : State) : Host.Outcome State Fault Refusal :=
  run t (fun _ d => d.bootUv n t) s

/-- CAL (R168): no effect during a calibration (R196). -/
def execCal (t : Nat) (s : State) : Host.Outcome State Fault Refusal :=
  runReg t (fun _ d => if d.pw.calBusy then d else d.calStart) s

/-- CAL_DONE (R168): duration, reference code, outcome. -/
def execCalDone (us : Fin 401) (code : Fin 64) (err : Option (Fin 3 × Fin 128)) (t : Nat) (s : State) :
    Host.Outcome State Fault Refusal :=
  run t (fun _ d => d.calDone us code (match err with
    | none => none
    | some (c, l) => if c.val = 0 then none else some (c.val, l.val))) s

/-- ASSIGN_WRITE (R178): group, half, value; a one in a reserved bit of ASSIGN1 is R10's. -/
def execAssignWrite (g : Fin 4) (half : Fin 2) (w : Word) (t : Nat) (s : State) : Host.Outcome State Fault Refusal :=
  runRegF t (fun _ d => if half.val = 1 && decide (65536 ≤ w.toNat) then .error .reservedBit else .ok (d.assign g half w t)) s

/-- GROUP_COMMIT (R179). -/
def execGroupCommit (g : Fin 4) (t : Nat) (s : State) : Host.Outcome State Fault Refusal :=
  runReg t (fun _ d => d.groupCommit g t) s

/-- GROUP_SET_ACTIVE (R179). -/
def execGroupSetActive (g : Fin 4) (t : Nat) (s : State) : Host.Outcome State Fault Refusal :=
  run t (fun _ d => d.groupActive g t) s

end Sys2Proof.Machine
end

