-- ==== Sys2Proof/Machine/LegProg.lean ====
section
/-!
DEFINITION. The vendor leg program (R145 to R148) and the engine's windows (R127, R131, R142).
-/
namespace Sys2Proof.Machine

/-! ## Windows of an engine -/

/-- The program and the data window (R127). -/
def progBase (n : Nat) : Nat := 0x30000000 + n * 0x10000
def dataBase (n : Nat) : Nat := 0x38000000 + n * 0x10000

/-- The active inbound half and the outbound half that a sample writes (R142, R144). -/
def Dev.inBase (n : Nat) (d : Dev) : Nat := 0x100E0000 + n * 0x400 + (if (d.engine n).inB then 0x100 else 0)
def Dev.outBase (n : Nat) (d : Dev) : Nat := 0x100E0000 + n * 0x400 + (if (d.engine n).outB then 0x200 else 0x300)
/-- The active voted record buffer (R105). -/
def Dev.votedBase (d : Dev) : Nat := if d.triad.bufB then 0x100F0280 else 0x100F0200

/-- Bytes whose layout the spec does not give: the state window of the vendor program (R145; log entry 13). -/
def Dev.openBytes (a len : Nat) (d : Dev) : Dev :=
  let k := d.free
  { d with free := k + 1 }.stage ((List.range len).map (fun j => (a + j, Config.stateBlockByte (a + j) k)))

/-- Both halves of the state window load from the init section (R134, R151, R153); that of the vendor program is in ROM
(R145). -/
def Dev.loadWindow (m : List Host.Cell) (n : Nat) (d : Dev) : Dev :=
  let d := d.setEngine n { d.engine n with vendor := .init, vendorWork := .init }
  if d.flag (pENG n) CE.ENG_CFG_VENDOR_PROG && decide (n < 12) then d.openBytes (dataBase n + 0x3000) 4096
  else if n < 12 then
    let bs := (List.range 2048).map (fun j => d.byte m (progBase n + 0x7800 + j))
    (d.pokes (dataBase n + 0x3000) bs).pokes (dataBase n + 0x3800) bs
  else d.openBytes (dataBase n + 0x3000) 4096

/-- The words of the state window that the sample wrote become the committed state (R131). -/
def Dev.commitWindow (m : List Host.Cell) (n : Nat) (d : Dev) : Dev :=
  if d.flag (pENG n) CE.ENG_CFG_VENDOR_PROG && !d.inPosition n then
    d.pokes (dataBase n + 0x3000) ((List.range 2048).map (fun j => d.byte m (dataBase n + 0x3800 + j)))
  else
    d.each (fun o d => d.pokeWords (dataBase n + 0x3000 + o) [d.word m (dataBase n + 0x3800 + o)]) (d.engine n).written

/-! ## The parameter set (R146) -/

/-- A setting greater than 0, to hi. -/
def rangePos (hi w : Word) : Option Nat := if isNonFinite w then some 2 else if fLt 0 w && fLe w hi then none else some 1

/-- The check of word j of the set; `valid k` says that slot k is in use. -/
def paramCheck (valid : Nat → Bool) (j : Nat) (w : Word) : Bool :=
  let f (lo hi : Word) : Bool := decide (rangeF lo hi w = none)
  match j with
  | 0 => f 0 (fq 100 1)
  | 1 => f 0 (fq 1000000 1)
  | 2 => f 0 (fq 1000 1)
  | 3 => f 0 (fq 1 1)
  | 4 => f 0 (fq 1 2)
  | 5 => f (fq 1 2) (fq 1 1)
  | 6 => decide (w.toNat < 64)
  | 7 => decide (rangePos (fq 1 1) w = none)
  | 8 => f 0 (fq 2000 1)
  | 9 => decide (rangePos (fq 100000 1) w = none)
  | 10 => decide (rangePos (fq 1000 1) w = none)
  | 11 => decide (w.toNat < 2)
  | _ =>
    if 16 ≤ j && j < 32 then
      !valid ((j - 16) / 2) || (if j % 2 = 0 then decide (w.toNat < 64) else decide (rangePos (fq 1 1) w = none))
    else decide (w = 0)

/-- The set passes. -/
def paramsOk (valid : Nat → Bool) (ws : List Word) : Bool :=
  (List.range 64).all (fun j => paramCheck valid j (ws.getD j 0))

/-! ## One sample -/

/-- Slots in use with their legs, in slot order (R163). -/
def Dev.engSlots (n : Nat) (d : Dev) : List (Nat × Nat) :=
  (List.range 8).filterMap (fun k =>
    let w := d.get (pENG n) (if k < 4 then CE.LEG_LIST0_SLOTS else CE.LEG_LIST1_SLOTS)
    let b := w / 256 ^ (k % 4) % 256
    if 128 ≤ b then some (k, b % 64) else none)

/-- The voted references of R47: the three phase currents and the neutral in A, the four feedforward voltages in V, and the
flags. The angle keeps turning beyond half a turn (R48). -/
def vendorRefs (v : List Word) (sampleStamp : Word) (sixty : Bool) (ib vb : Word) : List FV × List FV × FFlags :=
  let g (j : Nat) : FV := .of (v.getD j 0)
  let ticks : Int := (sampleStamp - v.getD 0 0).toInt / 32
  let dt := (fOfInt ticks).mul (fc 25 (10 ^ 10))
  let turn := ((((g 3).mul (fn (if sixty then 60 else 50))).mul dt).mul fTurn).toTurn
  let th : Word := v.getD 2 0 + turn.1
  let p := invPark ⟨g 6, g 7⟩ th
  let q := invPark ⟨g 8, g 9⟩ (0 - th)
  let i := invClarke ⟨p.x.add q.x, p.y.add q.y⟩ (g 10)
  let e := invClarke (invPark ⟨g 4, g 5⟩ th) (fn 0)
  let cur := [i.1.mul (.of ib), i.2.1.mul (.of ib), i.2.2.mul (.of ib), (((fn 3).neg).mul (g 10)).mul (.of ib)]
  let vff := [e.1.mul (.of vb), e.2.1.mul (.of vb), e.2.2.mul (.of vb), fn 0]
  (cur, vff, (cur ++ vff).foldl (fun a x => a.union x.fl) turn.2)

/-- What one leg of the sample gives: its four outbound words, the duty it writes, its integrator, clamp, non-finite. -/
structure SlotOut where
  i : Word
  iRef : Word
  d : Word
  x : Word
  write : Bool
  sat : Bool
  bad : Bool
  fl : FFlags

/-- One leg (R145 step 3): its frame value, its phase reference over the active legs of its group, its feedforward. -/
def vendorLeg (par : List Word) (k period : Nat) (low : Bool) (raw : Int) (ref vff vdc : FV) (count : Nat) (x0 : Word) :
    SlotOut :=
  let g (j : Nat) : FV := .of (par.getD j 0)
  let iRef := ref.div (fOfNat count)
  let i := (fOfInt raw).mul (g (17 + 2 * k))
  if low then ⟨i.w, iRef.w, (fq 1 2), x0, true, false, false, iRef.fl.union i.fl⟩
  else
    let e := iRef.sub i
    let x := FV.of x0
    let u := ((g 0).mul e).add x
    let d0 := (fc 1 2).add ((((g 3).mul vff).add u).div vdc)
    let d := d0.clamp (g 4) (g 5)
    if isNonFinite d.w then ⟨i.w, iRef.w, d.w, x0, false, false, true, d.fl⟩
    else
      let sat := decide (d.w ≠ d0.w)
      let ts := (fOfNat period).mul (fc 25 (10 ^ 10))
      let r := if (par.getD 11 0).getLsbD 0 then (integrate (g 1) (g 2) ts x e (d.sub (fc 1 2)) sat).1 else .of 0
      ⟨i.w, iRef.w, d.w, r.w, true, sat, false, d.fl.union r.fl⟩

/-- The inputs a sample reads, each counted once (R148). -/
def Dev.vendorInputs (m : List Host.Cell) (n : Nat) (stamp : Word) (ins : List Nat) (hs : List HeldInput) (d : Dev) :
    List HeldInput :=
  let per := d.get (pENG n) CE.TICK_PERIOD_TICKS * 32
  ins.eraseDups.foldl (fun hs j =>
    let f := d.frame m j stamp.toNat per
    hs.set j ((hs.getD j ⟨none, 0⟩).take ⟨f.1, f.2, 0⟩)) hs

/-- The input has been held for longer than HOLD_MAX (R148). -/
def Dev.inputExpired (hs : List HeldInput) (j : Nat) (d : Dev) : Bool :=
  decide (d.get (sdPage j) SDF.HOLD_MAX_SAMPLES < (hs.getD j ⟨none, 0⟩).held)

/-- Groups the program faults in this sample: expired inputs, and the eighth non-finite duty (R148). -/
def Dev.vendorFaults (n : Nat) (v : VendorState) (d : Dev) : List Nat :=
  match v.params with
  | none => []
  | some p =>
    let legs := (d.engSlots n).filterMap (fun s => (d.groupOf s.2).map (fun g => (s.1, g)))
    let bad := legs.filter (fun s =>
      d.inputExpired v.held ((p.getD 6 0).toNat % 64) || d.inputExpired v.held ((p.getD (16 + 2 * s.1) 0).toNat % 64) ||
        decide (8 ≤ v.nonFinite.getD s.1 0))
    (bad.map (·.2)).eraseDups

/-- The outbound half (R147). -/
def vendorOut (no flags vdc : Word) (slots : List Word) : List Word :=
  [no, flags, vdc, 0] ++ slots ++ List.replicate 27 0 ++ [no]

/-- The sample of the vendor leg program, begun at the tick (R145 to R148): its carried state becomes committed at the
deadline, its leg writes are staged, its outbound half is written. -/
def Dev.vendorRun (m : List Host.Cell) (n t : Nat) (desc : List Word) (reread : Bool) (d : Dev) : Dev :=
  let slots := d.engSlots n
  let e := d.engine n
  let v := e.vendor
  let v := if reread then
      let ws := (List.range 64).map (fun j => d.word m (d.inBase n + 4 * j))
      if paramsOk (fun k => slots.any (fun s => decide (s.1 = k))) ws then { v with params := some ws, reject := false }
      else { v with reject := true }
    else v
  let no := desc.getD 2 0
  let d := d.openBytes (dataBase n + 0x3800) 2048
  match v.params with
  | none =>
    let flags : Word := BitVec.ofNat 32 (v.reject.toNat + 2)
    (d.setEngine n { e with vendorWork := v }).pokeWords (d.outBase n) (vendorOut no flags 0 (List.replicate 32 0))
  | some p =>
    let stamp := desc.getD 1 0
    let served := slots.filterMap (fun s => (d.groupOf s.2).map (fun g => (s.1, s.2, g)))
    let idx (k : Nat) : Nat := (p.getD (16 + 2 * k) 0).toNat % 64
    let dc := (p.getD 6 0).toNat % 64
    let ins := dc :: slots.map (fun s => idx s.1)
    let held := d.vendorInputs m n stamp ins v.held
    let value (j : Nat) : Int := (held.getD j ⟨none, 0⟩).value
    let vdc := (fOfInt (value dc)).mul (.of (p.getD 7 0))
    let low := fLt vdc.w (p.getD 8 0)
    let voted := (List.range 16).map (fun j => d.word m (d.votedBase + 4 * j))
    let refs := vendorRefs voted stamp (d.flag pGFM GFM.GFM_CFG_F_NOM) (p.getD 9 0) (p.getD 10 0)
    let ga := (desc.getD 3 0).toNat
    let per := d.triad.live.period
    let outs := served.map (fun s =>
      (s, vendorLeg p s.1 per low (value (idx s.1)) (refs.1.getD s.2.2 (fn 0)) (refs.2.1.getD s.2.2 (fn 0)) vdc
            (ga / 256 ^ s.2.2 % 32) (v.x.getD s.1 0)))
    let x := outs.foldl (fun xs o => xs.set o.1.1 o.2.x) v.x
    let nf := outs.foldl (fun ns o => ns.set o.1.1 (if o.2.bad then ns.getD o.1.1 0 + 1 else 0)) v.nonFinite
    let v := { v with x := x, held := held, nonFinite := nf }
    let hold := ins.any (fun j => decide (0 < (held.getD j ⟨none, 0⟩).held))
    let sat := outs.foldl (fun a o => if o.2.sat then a + 2 ^ (8 + o.1.1) else a) 0
    let flags : Word := BitVec.ofNat 32 (v.reject.toNat + 4 * low.toNat + 8 * hold.toNat +
      16 * (outs.any (fun o => o.2.bad)).toNat + sat)
    let words := outs.foldl (fun (ws : List Word) o =>
      (((ws.set (4 * o.1.1) o.2.i).set (4 * o.1.1 + 1) o.2.iRef).set (4 * o.1.1 + 2) o.2.d).set (4 * o.1.1 + 3) o.2.x)
      (List.replicate 32 0)
    let staged : List StagedWrite := (outs.filter (fun o => o.2.write)).map (fun o => ⟨o.1.2.1, 0, o.2.d⟩)
    let fl := outs.foldl (fun a o => a.union o.2.fl) (vdc.fl.union refs.2.2)
    let d := d.setEngine n { e with vendorWork := v, staged := staged }
    let d := (d.pokeWords (d.outBase n) (vendorOut no flags vdc.w words)).fpFlags n fl
    d.each (fun g d => d.gfault g t) (d.vendorFaults n v)

/-- The hold of the input of slot k, or of the DC link, has expired in the sample in progress (R148). -/
def Dev.legHoldExpired (n k t : Nat) (d : Dev) : Dev :=
  let v := (d.engine n).vendorWork
  match v.params, (d.engSlots n).find? (fun s => decide (s.1 = k)) with
  | some p, some s =>
    if d.inputExpired v.held ((p.getD 6 0).toNat % 64) || d.inputExpired v.held ((p.getD (16 + 2 * k) 0).toNat % 64) then
      (match d.groupOf s.2 with | some g => d.gfault g t | none => d)
    else d
  | _, _ => d

/-- Eight consecutive samples of slot k gave a non-finite duty (R148). -/
def Dev.legNonFinite (n k t : Nat) (d : Dev) : Dev :=
  match (d.engSlots n).find? (fun s => decide (s.1 = k)) with
  | some s =>
    if decide (8 ≤ (d.engine n).vendorWork.nonFinite.getD k 0) then
      (match d.groupOf s.2 with | some g => d.gfault g t | none => d)
    else d
  | none => d

end Sys2Proof.Machine
end

