-- ==== Sys2Proof/Machine/Engine.lean ====
section
/-!
DEFINITION. The life of an engine: ticks, deadlines, misses, start, stop, restart, faults, mailboxes, debug halt, and MP's
housekeeping (R129 to R135, R143, R151 to R154, R159, R192, R194, R275).
-/
namespace Sys2Proof.Machine

/-- The tick of engine n falls at t (R129). -/
def Dev.tickDue (n t : Nat) (d : Dev) : Bool :=
  d.onGrid t (d.get (pENG n) CE.TICK_PHASE_TICKS) (d.get (pENG n) CE.TICK_PERIOD_TICKS)

/-- The descriptor of a tick (R128); a sample in a triad position counts its instant with TE0's phase (R155). A triad engine
owns no mailbox (R142): its IN_BASE and OUT_BASE are open (log entry 3). -/
def Dev.descriptor (n t : Nat) (flip : Bool) (d : Dev) : List Word × Dev :=
  let e := d.engine n
  let w (k : Nat) : Word := BitVec.ofNat 32 k
  let flags := flip.toNat + e.first.toNat * 2 + e.legsOff.toNat * 4 + e.missedLast.toNat * 8 +
    (d.inPosition n).toNat * 16 + (d.engLegs n).length * 256
  let phase := d.get (pENG (if d.inPosition n then 12 else n)) CE.TICK_PHASE_TICKS
  let a := if n < 12 then (w (d.inBase n), d) else d.drawWord
  let b := if n < 12 then (w (d.outBase n), a.2) else a.2.drawWord
  ([d.stampOf t, d.stampOf (t - tickTaps phase), w e.sampleNo, d.wordAt pGFM GFM.GROUP_ACTIVE_GA 0, w flags, a.1, b.1, w d.votedBase], b.2)

/-- A sample of engine n begins at the tick t (R129): descriptor, program address 0, general registers zero. The device comes
with the descriptor. -/
def Dev.startSample (n t : Nat) (st : EngSt) (flip : Bool) (d : Dev) : List Word × Dev :=
  let x := d.descriptor n t flip
  let d := x.2.pokeWords (dataBase n) x.1
  let e := d.engine n
  (x.1, d.setEngine n { e with
    st := st, regs := Vector.replicate 32 0, pc := 0, stack := [], pend := [], written := [], staged := [],
    sampleNo := (e.sampleNo + 1) % 2 ^ 32, first := false, tickAt := some t, doneAt := none, unacked := false,
    vendorWork := e.vendor })

/-- The inbound flip of a tick that starts a sample (R143). -/
def Dev.mboxFlip (n : Nat) (d : Dev) : Dev :=
  let e := d.engine n
  if e.mboxLatched then
    let d := d.setEngine n { e with mboxLatched := false, inB := !e.inB }
    let d := (d.put (pENG n) CE.STATUS_COMMIT_PENDING 0).putFlag (pENG n) CE.STATUS_IN_ACTIVE (!e.inB)
    d.raise (pENG n) CE.IRQ_RAW_COMMIT_DONE
  else d

/-- An accepted resume acts at the tick (R134). -/
def Dev.resumeAct (m : List Host.Cell) (n : Nat) (d : Dev) : Dev :=
  let e := d.engine n
  if e.resumeDue then
    let d := d.loadWindow m n
    let d := d.setEngine n { d.engine n with resumeDue := false, first := true, legsOff := false, releaseDue := true }
    d.put (pENG n) CE.STATUS_LEGS_FORCED_OFF 0
  else d

/-- The sample in progress ends without a commit and without a miss (R133). -/
def Dev.cutSample (n : Nat) (d : Dev) : Dev :=
  let d := (d.abandon n).feedDrop n
  let e := d.engine n
  d.setEngine n { e with
    tickAt := none, doneAt := none, unacked := false, pend := [], staged := [], written := [],
    missedLast := e.missedLast || e.tickAt.isSome }

/-- A tick (R129): a sample starts if the engine waits or runs. -/
def Dev.engineTick (m : List Host.Cell) (n t : Nat) (d : Dev) : Dev :=
  let e := d.engine n
  if d.spareEn && decide (d.spare = n) then d
  else if d.tickDue n t && (e.st = .wait || e.st = .run) && !d.pw.halted && !d.boot.idle && !d.boot.gauze && e.tickAt.all (fun a => decide (a < t)) then
    let flip := e.mboxLatched
    let d := (d.resumeAct m n).mboxFlip n
    let first := (d.engine n).first
    let x := d.startSample n t .run flip
    let vendor := d.flag (pENG n) CE.ENG_CFG_VENDOR_PROG
    let d := (x.2.showState n).putFlag (pENG n) CE.STATUS_VENDOR vendor
    if vendor then d.vendorRun m n t x.1 (flip || first) else d
  else if (d.boot.idle || d.boot.gauze) && d.tickDue n t && e.st = .run && !d.pw.halted then
    let d := d.cutSample n
    (d.setEngine n { d.engine n with st := .wait }).showState n
  else d

/-- Legs of the engine's list go off and stay off (R133, R151, R153). -/
def Dev.engineLegsOff (n t : Nat) (d : Dev) : Dev :=
  (d.each (fun l d => d.setLeg l { d.leg l with engOff := some n }) (d.engLegs n)).settle t

/-- The legs switch again after a complete sample (R134, R151). -/
def Dev.engineLegsOn (n t : Nat) (d : Dev) : Dev :=
  let e := d.engine n
  if e.releaseDue then
    let d := d.setEngine n { e with releaseDue := false }
    (d.each (fun l d => d.setLeg l { d.leg l with engOff := none }) (d.engLegs n)).settle t
  else d

/-- The legs of a third consecutive miss are forced off (R133). -/
def Dev.forceLegsOff (n t : Nat) (d : Dev) : Dev :=
  let d := d.setEngine n { d.engine n with legsOff := true, releaseDue := false }
  let d := (d.put (pENG n) CE.STATUS_LEGS_FORCED_OFF 1).raise (pENG n) CE.IRQ_RAW_MISS_OFF
  d.engineLegsOff n t

/-- The third consecutive miss stands and its legs are not forced off yet (R133). -/
def Dev.missOff (n t : Nat) (d : Dev) : Dev :=
  let e := d.engine n
  if decide (d.get (pENG n) CE.MISS_STAT_CONSEC = 3) && !e.legsOff && (e.st = .run || e.st = .wait) then
    d.forceLegsOff n t
  else d

/-- One staged write enters its shadow; true where it counts as a write of the sample (R176, R177). -/
def Dev.enterStaged (x : StagedWrite) (d : Dev) : Bool × Dev :=
  let b := pLEG x.leg * 0x1000
  match x.port with
  | 0 => d.enterFrac x.leg x.value
  | 1 => (true, d.setReg (b + 0x44) (BitVec.ofNat 32 (x.value.toNat % 2 ^ 21)))
  | 2 => (true, d.setReg (b + 0x40) (BitVec.ofNat 32 (x.value.toNat % 2 ^ 21)))
  | _ => (true, d.setReg (b + 0x48) (BitVec.ofNat 32 (x.value.toNat % 2 ^ 21)))

/-- The staged writes enter in order; the legs that took one latch their set (R131, R176). -/
def Dev.commitStaged (t : Nat) (ws : List StagedWrite) (d : Dev) : Dev :=
  let r := ws.foldl (fun (a : List Nat × Dev) x =>
    let e := a.2.enterStaged x
    (if e.1 && !a.1.contains x.leg then a.1 ++ [x.leg] else a.1, e.2)) ([], d)
  r.2.each (fun l d => d.legLatch l t) r.1

/-- The commit of a complete sample, which a triad position has too (R131, R135): state window, outbound mailbox, leg writes. -/
def Dev.commitSample (m : List Host.Cell) (n t arrived deadline : Nat) (d : Dev) : Dev :=
  let e := d.engine n
  let d := d.commitWindow m n
  let d := d.setEngine n { e with
    outB := if n < 12 then !e.outB else e.outB, tickAt := none, doneAt := none, pend := [], staged := [], written := [],
    missedLast := false, vendor := e.vendorWork }
  let d := if n < 12 then d.putFlag (pENG n) CE.STATUS_OUT_ACTIVE (!e.outB) else d
  (((d.sampleDone n arrived deadline).commitStaged t e.staged)).feedApply n t

/-- The commit of a leg engine's sample, with its run of complete samples (R131, R133). -/
def Dev.sampleCommit (m : List Host.Cell) (n t arrived deadline : Nat) (d : Dev) : Dev :=
  let p := pENG n
  let d := ((d.put p CE.MISS_STAT_CONSEC 0).count p CE.CLEAN_RUN).commitSample m n t arrived deadline
  d.engineLegsOn n t

/-- A cut at the deadline: a deadline miss (R132, R133). -/
def Dev.sampleMiss (n t : Nat) (d : Dev) : Dev :=
  let p := pENG n
  let old := d.get p CE.MISS_STAT_CONSEC
  let d := (d.cutSample n).sampleMissed n
  let d := (d.put p CE.MISS_STAT_CONSEC (min 3 (old + 1))).put p CE.CLEAN_RUN 0
  if old = 2 then d.forceLegsOff n t else d

/-- The commit deadline (R131 to R133). `arrival` is when the completion signal of the vendor leg program arrived, which a
failed transaction of its port keeps back (R269); that of a user program is its DONE's. -/
def Dev.sampleDeadline (m : List Host.Cell) (n t : Nat) (arrival : Option Nat) (d : Dev) : Dev :=
  let e := d.engine n
  match e.tickAt with
  | none => d
  | some a =>
    let deadline := a + tickTaps (d.get (pENG n) CE.DEADLINE_TICKS)
    if e.st = .run && decide (deadline ≤ t) && !d.pw.halted then
      let arr := if !d.flag (pENG n) CE.ENG_CFG_VENDOR_PROG then e.doneAt
        else if d.felt.failed.contains n then none
        else arrival
      match arr with
      | some x => if x ≤ deadline then d.sampleCommit m n t x deadline else d.sampleMiss n t
      | none => d.sampleMiss n t
    else d

/-- CTRL.LEG_RESUME (R134). -/
def Dev.legResume (n : Nat) (d : Dev) : Dev :=
  let e := d.engine n
  if decide (64 ≤ d.get (pENG n) CE.CLEAN_RUN) && (e.st = .wait || e.st = .run) then
    d.setEngine n { e with resumeDue := true }
  else (d.raise (pENG n) CE.IRQ_RAW_RESUME_REFUSED).engCause n 0xA

/-- Why a start is refused (R151). -/
def Dev.runRefusal (n : Nat) (d : Dev) : Option Nat :=
  let p := pENG n
  let legs := d.engLegs n
  let per := d.get p CE.TICK_PERIOD_TICKS
  if legs.any (fun l => decide (47 < l)) || decide (legs.eraseDups.length ≠ legs.length) ||
      legs.any (fun l => (List.range 12).any (fun e =>
        decide (e ≠ n) && d.flag (pENG e) CE.CTRL_RUN && (d.engLegs e).contains l)) then some 7
  else if per < 800 || 400000 < per || per ≤ d.get p CE.TICK_PHASE_TICKS || d.get p CE.DEADLINE_TICKS < 40 ||
      per < d.get p CE.DEADLINE_TICKS + 40 then some 8
  else if d.spareEn && d.spare = n then some 9
  else none

/-- CTRL.RUN = 1 (R151). -/
def Dev.engineRun (m : List Host.Cell) (n : Nat) (d : Dev) : Dev :=
  let p := pENG n
  let e := d.engine n
  if e.st = .off then
    match d.runRefusal n with
    | some c => ((d.put p CE.CTRL_RUN 0).raise p CE.IRQ_RAW_START_REFUSED).engCause n c
    | none =>
      let d := (d.loadWindow m n).put p CE.CTRL_RUN 1
      let d := d.setEngine n { d.engine n with
        st := .wait, regs := Vector.replicate 32 0, pc := 0, stack := [], first := true, releaseDue := true,
        legsOff := false, missedLast := false, resumeDue := false }
      let d := (d.put p CE.MISS_STAT_CONSEC 0).put p CE.CLEAN_RUN 0
      (d.put p CE.STATUS_LEGS_FORCED_OFF 0).showState n
  else d

/-- An engine that stops runs the vendor leg program no more (R161). -/
def Dev.vendorOff (n : Nat) (d : Dev) : Dev := if n < 12 then d.put (pENG n) CE.STATUS_VENDOR 0 else d

/-- CTRL.RUN = 0 (R151): a cut, legs off, OFF. -/
def Dev.engineStop (n t : Nat) (d : Dev) : Dev :=
  let e := d.engine n
  let d := d.put (pENG n) CE.CTRL_RUN 0
  if e.st = .off || e.st = .role then d
  else
    let d := d.cutSample n
    let d := d.setEngine n { d.engine n with st := .off, restartAt := none, releaseDue := false, resumeDue := false }
    ((d.vendorOff n).showState n).engineLegsOff n t

/-- A write of CTRL.RUN; in IDLE it takes effect at the exit (R151, R454). -/
def Dev.runWrite (m : List Host.Cell) (n : Nat) (on : Bool) (t : Nat) (d : Dev) : Dev :=
  if d.boot.idle then d.putFlag (pENG n) CE.CTRL_RUN on else if on then d.engineRun m n else d.engineStop n t

/-- An engine restart (R153). -/
def Dev.restart (m : List Host.Cell) (n t : Nat) (d : Dev) : Dev :=
  let p := pENG n
  let d := (d.cutSample n).loadWindow m n
  let e := d.engine n
  let d := d.setEngine n { e with
    st := .restart, regs := Vector.replicate 32 0, pc := 0, stack := [], restartAt := some t, releaseDue := false,
    resumeDue := false, legsOff := if n < 12 then true else e.legsOff }
  let d := ((d.count p TE.RESTARTS).vendorOff n).showState n
  if n < 12 then
    let d := (d.put p CE.MISS_STAT_CONSEC 0).put p CE.CLEAN_RUN 0
    (d.put p CE.STATUS_LEGS_FORCED_OFF 1).engineLegsOff n t
  else d

/-- A write of CTRL.RESTART (cause 0xB). -/
def Dev.restartWrite (m : List Host.Cell) (n t : Nat) (d : Dev) : Dev :=
  (d.restart m n t).engCause n 0xB

/-- The restart completes (R153): the engine waits for its next tick. -/
def Dev.restartDone (n : Nat) (d : Dev) : Dev :=
  let e := d.engine n
  if e.st = .restart then
    let st : EngSt := if 12 ≤ n then .role else if d.flag (pENG n) CE.CTRL_RUN then .wait else .off
    let d := d.setEngine n { e with st := st, first := true, restartAt := none }
    (d.showState n).raise (pENG n) TE.IRQ_RAW_RESTARTED
  else d

/-- An engine fault (R154). -/
def Dev.engFault (m : List Host.Cell) (n cause t : Nat) (d : Dev) : Dev :=
  let p := pENG n
  let d := (d.put p TE.FAULT_CODE_CAUSE cause).put p TE.FAULT_CODE_ADDR (d.engine n).pc
  let d := d.raise p TE.IRQ_RAW_ENGINE_FAULT
  if d.flag p TE.ENG_CFG_AUTO_RESTART then d.restart m n t
  else
    let d := d.cutSample n
    let d := ((d.setEngine n { d.engine n with st := .fault, releaseDue := false }).vendorOff n).showState n
    if n < 12 then
      let d := d.setEngine n { d.engine n with legsOff := true }
      (d.put p CE.STATUS_LEGS_FORCED_OFF 1).engineLegsOff n t
    else d

/-- A write of CEnn.COMMIT (R143). -/
def Dev.ceCommit (n : Nat) (d : Dev) : Dev :=
  (d.setEngine n { d.engine n with mboxLatched := true }).put (pENG n) CE.STATUS_COMMIT_PENDING 1

/-! ## Debug halt (R160, R192, R194, R432) -/

/-- Entry to debug halt while it is permitted. -/
def Dev.debugHalt (t : Nat) (d : Dev) : Dev :=
  if d.flag pSYS SYS.DBG_CTRL_DBG_EN && !d.pw.halted then
    let d := { d with boot := { d.boot with wdogStop := some (d.boot.wdogStop.getD t) } }
    let d := ({ d with pw := { d.pw with halted := true } }).safeHalt t
    let d := (d.put pSYS SYS.STATUS_HALTED 1).put pSYS SYS.DBG_CTRL_HALT 1
    d.each (fun n d =>
      let e := d.engine n
      (d.setEngine n { e with stHeld := e.st, st := if d.engCode n = 0 then .off else .halted }).showState n) (List.range 15)
  else d

/-- Leaving debug halt: legs off until a period start, interrupted samples cut without a miss. -/
def Dev.debugResume (t : Nat) (d : Dev) : Dev :=
  if d.pw.halted then
    let d := { d with boot := { d.boot with wdogStop := none,
                                            wdogAt := d.boot.wdogAt + (t - d.boot.wdogStop.getD t) } }
    let d := { d with pw := { d.pw with halted := false }, safe := { d.safe with runFrom := t }, triad := { d.triad with sampleOpen := false } }
    let d := (d.put pSYS SYS.STATUS_HALTED 0).put pSYS SYS.DBG_CTRL_HALT 0
    let d := d.each (fun n d =>
      let d := d.cutSample n
      let e := d.engine n
      let st := if e.stHeld = .run then .wait else e.stHeld
      (d.setEngine n { e with st := if e.st = .halted then st else e.st }).showState n) (List.range 15)
    (d.each (fun n d => d.resumeLeg t n) (List.range 48)).settle t
  else d

/-- A write of DBG_CTRL.HALT = 1: refused with cause 0x3 while DBG_EN = 0. -/
def Dev.dbgHaltWrite (t : Nat) (d : Dev) : Dev :=
  if d.flag pSYS SYS.DBG_CTRL_DBG_EN then d.debugHalt t
  else (d.raise pSYS SYS.IRQ_RAW_REFUSED).put pSYS SYS.FAULT_CODE_CAUSE 3

/-! ## MP's housekeeping (R159, R275) -/

/-- Set the shedding level; each change is reported. -/
def Dev.setShed (k : Nat) (d : Dev) : Dev :=
  if d.mp.shed = k then d
  else
    let d := if d.acq.st = .stream && decide (0 < k) && decide (d.mp.shed = 0) then d.raise pACQ ACQ.IRQ_RAW_STREAM_PAUSED else d
    ((({ d with mp := { d.mp with shed := k } }).put pFELT FELT.STATUS_SHED k).raise pFELT FELT.IRQ_RAW_SHED_CHANGE).busShed

/-- Three consecutive overruns. -/
def Dev.overloadSet (d : Dev) : Dev :=
  if decide (d.get pMP MP.HK_STAT_CONSEC = 3) && !d.mp.overload then
    let d := { d with mp := { d.mp with overload := true, shedRun := 0, cleanRun := 0 } }
    let d := (d.put pMP MP.STATUS_MP_OVERLOAD 1).raise pMP MP.IRQ_RAW_OVERLOAD_SET
    (d.setShed 1).count pFELT FELT.SHED_CNT
  else d

/-- 64 ticks without overrun. -/
def Dev.overloadClear (d : Dev) : Dev :=
  if d.mp.overload && decide (64 ≤ d.mp.cleanRun) then
    let d := { d with mp := { d.mp with overload := false, shedRun := 0 } }
    ((d.put pMP MP.STATUS_MP_OVERLOAD 0).raise pMP MP.IRQ_RAW_OVERLOAD_CLEAR).setShed 0
  else d

/-- Three more consecutive overruns raise the level. -/
def Dev.shedUp (d : Dev) : Dev :=
  if d.mp.overload && decide (3 ≤ d.mp.shedRun) && decide (d.mp.shed < 3) then
    ({ d with mp := { d.mp with shedRun := 0 } }).setShed (d.mp.shed + 1)
  else d

/-- A housekeeping tick falls HK_PERIOD after the one before, the first HK_PERIOD after reset; MP stands still in Gauze
(R159, R456; log entry 51). -/
def Dev.hkDue (t : Nat) (d : Dev) : Bool :=
  !d.boot.gauze && decide (d.mp.hkAt + usTaps (d.get pMP MP.HK_PERIOD_US) ≤ t)

/-- A housekeeping tick. -/
def Dev.hkTick (t : Nat) (d : Dev) : Dev :=
  if !d.hkDue t then d else
  let d := { d with mp := { d.mp with hkAt := t } }
  if d.mp.hkBusy then
    let d := (d.count pMP MP.HK_STAT_OVERRUNS).raise pMP MP.IRQ_RAW_OVERRUN
    let d := d.put pMP MP.HK_STAT_CONSEC (min 3 (d.get pMP MP.HK_STAT_CONSEC + 1))
    let d := { d with mp := { d.mp with cleanRun := 0, shedRun := d.mp.shedRun + (if d.mp.overload then 1 else 0) } }
    d.overloadSet.shedUp
  else
    let d := d.put pMP MP.HK_STAT_CONSEC 0
    ({ d with mp := { d.mp with hkBusy := true, cleanRun := d.mp.cleanRun + 1, shedRun := 0 } }).overloadClear

/-! ## The commands -/

/-- ENGINE_TICK (R129). -/
def execEngineTick (n : Fin 12) (t : Nat) (s : State) : Host.Outcome State Fault Refusal :=
  run t (fun m d => d.engineTick m n.val t) s
/-- SAMPLE_DEADLINE (R131 to R133). -/
def execSampleDeadline (n : Fin 12) (arrival : Option Nat) (t : Nat) (s : State) : Host.Outcome State Fault Refusal :=
  run t (fun m d => d.sampleDeadline m n.val t arrival) s
/-- MISS_OFF (R133). -/
def execMissOff (n : Fin 12) (t : Nat) (s : State) : Host.Outcome State Fault Refusal := run t (fun _ d => d.missOff n.val t) s
/-- LEG_RESUME (R134). -/
def execLegResume (n : Fin 12) (t : Nat) (s : State) : Host.Outcome State Fault Refusal := runReg t (fun _ d => d.legResume n.val) s
/-- ENGINE_RUN (R151). -/
def execEngineRun (n : Fin 12) (t : Nat) (s : State) : Host.Outcome State Fault Refusal :=
  runReg t (fun m d => d.runWrite m n.val true t) s
/-- ENGINE_STOP (R151). -/
def execEngineStop (n : Fin 12) (t : Nat) (s : State) : Host.Outcome State Fault Refusal :=
  runReg t (fun m d => d.runWrite m n.val false t) s
/-- RESTART (R153). -/
def execRestart (n : Fin 15) (t : Nat) (s : State) : Host.Outcome State Fault Refusal :=
  runReg t (fun m d => d.restartWrite m n.val t) s
/-- RESTART_DONE (R153). -/
def execRestartDone (n : Fin 15) (t : Nat) (s : State) : Host.Outcome State Fault Refusal := run t (fun _ d => d.restartDone n.val) s
/-- CE_COMMIT (R143). -/
def execCeCommit (n : Fin 12) (t : Nat) (s : State) : Host.Outcome State Fault Refusal := runReg t (fun _ d => d.ceCommit n.val) s
/-- LEG_HOLD_EXPIRED (R148). -/
def execLegHoldExpired (n : Fin 12) (k : Fin 8) (t : Nat) (s : State) : Host.Outcome State Fault Refusal :=
  run t (fun _ d => d.legHoldExpired n.val k.val t) s
/-- LEG_NONFINITE_LIMIT (R148). -/
def execLegNonfiniteLimit (n : Fin 12) (k : Fin 8) (t : Nat) (s : State) : Host.Outcome State Fault Refusal :=
  run t (fun _ d => d.legNonFinite n.val k.val t) s
/-- HK_TICK (R159). -/
def execHkTick (t : Nat) (s : State) : Host.Outcome State Fault Refusal := run t (fun _ d => d.hkTick t) s
/-- HK_DONE (R159). -/
def execHkDone (t : Nat) (s : State) : Host.Outcome State Fault Refusal :=
  runReg t (fun _ d => { d with mp := { d.mp with hkBusy := false } }) s
/-- MP_OVERLOAD_SET (R159, R275). -/
def execMpOverloadSet (t : Nat) (s : State) : Host.Outcome State Fault Refusal := run t (fun _ d => d.overloadSet) s
/-- MP_OVERLOAD_CLEAR (R159, R275). -/
def execMpOverloadClear (t : Nat) (s : State) : Host.Outcome State Fault Refusal := run t (fun _ d => d.overloadClear) s
/-- SHED_LEVEL_UP (R275). -/
def execShedLevelUp (t : Nat) (s : State) : Host.Outcome State Fault Refusal := run t (fun _ d => d.shedUp) s
/-- DBG_CTRL_HALT (R432). -/
def execDbgCtrlHalt (t : Nat) (s : State) : Host.Outcome State Fault Refusal := runReg t (fun _ d => d.dbgHaltWrite t) s
/-- DBG_CTRL_RESUME (R432). -/
def execDbgCtrlResume (t : Nat) (s : State) : Host.Outcome State Fault Refusal := runReg t (fun _ d => d.debugResume t) s

end Sys2Proof.Machine
end

