-- ==== Sys2Proof/Machine/Pbus.lean ====
section
/-!
DEFINITION. The Tchitin peer bus: buffers, frames, errors and bus-off, the schedule matrix, network time (R358 to R401).
-/
namespace Sys2Proof.Machine

/-! ## Rates and cycles (R359, R366, R384, R400) -/

/-- T_d in ticks (R359). -/
def busBit (drate : Nat) : Nat := [400, 200, 100, 80, 50].getD drate 400

/-- T_max(L) in ticks (R366). -/
def tMax (len drate : Nat) : Nat := 20000 + (36 + 8 * len + (34 + 8 * len) / 4) * busBit drate

/-- The fit allowance of R386 and R387: T_max(L) + 25 us in ticks. -/
def tFit (len drate : Nat) : Nat := tMax len drate + 10000

/-- The basic cycle in ticks (R400). -/
def cycleTicks (code : Nat) : Nat := [100000, 200000, 400000, 800000, 1600000, 2000000, 4000000].getD code 400000

def Dev.drate (d : Dev) : Nat := d.get pPBUS PBUS.PB_CFG_DRATE
def Dev.cycle (d : Dev) : Nat := cycleTicks (d.get pTIME PBUS_TIME.NT_CFG_CYCLE)
/-- The basic cycle in units of 10^-9 tap. -/
def Dev.cycleNano (d : Dev) : Int := (d.cycle : Int) * 32 * 1000000000

def Dev.voile (d : Dev) : Bool := d.flag pPBUS PBUS.PB_CFG_VOILE
def Dev.busOff (d : Dev) : Bool := decide (d.get pPBUS PBUS.STATUS_ERR_STATE = 2)
/-- The controller receives; it may also send (R361, R381 to R383). -/
def Dev.busHears (d : Dev) : Bool :=
  d.flag pPBUS PBUS.CTRL_ON && d.flag pPBUS PBUS.STATUS_SYNCED && !d.boot.bypass && !d.busOff
def Dev.busSends (d : Dev) : Bool := d.busHears && !d.voile

/-! ## Frames on the wire (R359, R362, R363) -/

/-- The bits of a number, most significant first. -/
def msbBits (n v : Nat) : List Bool := (List.range n).map (fun j => v.testBit (n - 1 - j))

/-- The 48 bits that the header CRC covers; BRS is dominant without a rate switch. -/
def headerBits (f : BusFrame) (drate : Nat) : List Bool :=
  msbBits 29 f.ident ++ [decide (drate ≠ 0)] ++ msbBits 3 f.typ ++ msbBits 7 f.data.length ++ msbBits 8 f.seq

/-- One bit of the header CRC. -/
def crc17Bit (r : Nat) (b : Bool) : Nat :=
  let s := r * 2 % 2 ^ 17
  if r.testBit 16 != b then s ^^^ 0x1685B else s

/-- The header CRC (R363). -/
def headerCrc (f : BusFrame) (drate : Nat) : Nat := (headerBits f drate).foldl crc17Bit 0x1FFFF

/-- The time of bits with their stuff bits (R362): each bit with its length and that of a stuff bit after it. -/
def stuffedTaps : Bool → Nat → List (Bool × Nat × Nat) → Nat
  | _, _, [] => 0
  | last, n, (b, u, v) :: xs =>
    let k := if b = last then n + 1 else 1
    if k = 5 then u + v + stuffedTaps (!b) 1 xs else u + stuffedTaps b k xs

/-- The time of a frame from SOF to the end of its last EOF bit; the bits of a rate switch are at the old rate up to their
sample point (R359, R362; log entry 53). -/
def Dev.frameTaps (f : BusFrame) (d : Dev) : Nat :=
  let dr := d.get pPBUS PBUS.PB_CFG_DRATE
  let td := busBit dr * 32
  let n := 12800
  let nsp := d.get pPBUS PBUS.PB_TIMING_NSP
  let dsp := d.get pPBUS PBUS.PB_TIMING_DSP
  let brs := if dr = 0 then n else (n * nsp + td * (100 - dsp)) / 100
  let del := if dr = 0 then n else (td * dsp + n * (100 - nsp)) / 100
  let hdr := headerBits f dr
  let bits := (false, n, n) :: (hdr.take 29).map (fun b => (b, n, n)) ++ [(decide (dr ≠ 0), brs, td)] ++
    (hdr.drop 30 ++ msbBits 17 (headerCrc f dr) ++ f.data.flatMap (fun b => msbBits 8 b.toNat)).map (fun b => (b, td, td))
  stuffedTaps true 0 bits + del + 9 * n

/-! ## Network time (R390 to R394) -/

def Dev.setNt (n : NetTime) (d : Dev) : Dev := { d with bus := { d.bus with nt := n } }

/-- Network time crosses a whole multiple of the cycle plus `off` at tap t. -/
def Dev.ntCross (off : Int) (t : Nat) (d : Dev) : Bool :=
  let n := d.bus.nt
  n.valid && decide ((n.nanoI t - off) / d.cycleNano ≠ (n.nanoI ((t : Int) - 1) - off) / d.cycleNano)

/-- The cycle number (R384). -/
def Dev.cycleNo (t : Nat) (d : Dev) : Nat := (d.bus.nt.nano t / d.cycleNano % 64).toNat

/-- The PBUS_TIME page shows network time's state (R391, R394, R400). -/
def Dev.ntShow (d : Dev) : Dev :=
  let n := d.bus.nt
  let p := pTIME
  let d := (d.putFlag p PBUS_TIME.STATUS_LOCKED n.locked).putFlag p PBUS_TIME.STATUS_NT_VALID n.valid
  let d := (d.putFlag p PBUS_TIME.STATUS_MASTER_ACTIVE n.sending).putFlag p PBUS_TIME.STATUS_HOLDOVER n.holdover
  d.put p PBUS_TIME.RATE_PPB (BitVec.ofInt 32 n.rate).toNat

/-- Network time is set to `v` units of 10^-9 tap at tap t, its rate kept. -/
def NetTime.setAt (v : Int) (t : Nat) (n : NetTime) : NetTime := { n with anchor := t, base := v, slew := 0, slewLen := 0 }

/-- Holdover: the lock ends, network time runs on (R394). -/
def NetTime.hold (n : NetTime) : NetTime := { n with locked := false, holdover := n.valid, good := 0, sending := false }

/-- The lock is lost (R394). -/
def Dev.lockLost (d : Dev) : Dev :=
  let d := if d.bus.nt.locked then d.raise pTIME PBUS_TIME.IRQ_RAW_LOCK_LOST else d
  (d.setNt d.bus.nt.hold).ntShow

/-- NT_LOCK_LOST: MISS_N consecutive cycles without an accepted REF. -/
def Dev.ntMiss (d : Dev) : Dev :=
  let n := d.bus.nt
  if n.locked && n.masterAt.isNone && decide (d.get pTIME PBUS_TIME.NT_CFG_MISS_N ≤ n.missed) then d.lockLost else d

/-- NT_LOCK_GAINED (R393). -/
def Dev.ntGain (d : Dev) : Dev :=
  let n := d.bus.nt
  if !n.locked && n.masterAt.isNone && decide (max 1 (d.get pTIME PBUS_TIME.NT_CFG_LOCK_N) ≤ n.good) then
    ((d.setNt { n with locked := true, holdover := false }).raise pTIME PBUS_TIME.IRQ_RAW_LOCK_GAINED).ntShow
  else d

/-- The largest of a list of integers less the smallest. -/
def spread (l : List Int) : Int :=
  l.foldl (fun m x => max m x) (l.headD 0) - l.foldl (fun m x => min m x) (l.headD 0)

/-- NT_STEP: three consecutive rejected REFs whose implied offsets agree (R394). -/
def Dev.ntStep (t : Nat) (d : Dev) : Dev :=
  let n := d.bus.nt
  if decide (3 ≤ n.rejects.length) && decide (spread (n.rejects.take 3) ≤ (d.get pTIME PBUS_TIME.LOCK_ERR_TAPS : Int)) then
    let n' := { (n.setAt (((t : Int) + n.rejects.headD 0) * 1000000000) t) with rejects := [] }
    ((d.setNt n').raise pTIME PBUS_TIME.IRQ_RAW_STEP).lockLost
  else d

/-- MASTER: a write of PBUS_TIME.CTRL.MASTER (R391). -/
def Dev.ntMaster (on : Bool) (t : Nat) (d : Dev) : Dev :=
  let n := d.bus.nt
  let d := d.putFlag pTIME PBUS_TIME.CTRL_MASTER on
  if on then
    if n.masterAt.isSome then d
    else
      let n := if n.valid then
          let off := n.nano t / 1000000000 - t
          n.setAt (((t : Int) + (off + 16) / 32 * 32) * 1000000000) t
        else n.setAt 0 (t / 32 * 32 + 32)
      (d.setNt { n with valid := true, rate := 0, masterAt := some t, sending := false, locked := false, holdover := false,
                        rejects := [], good := 0, missed := 0 }).ntShow
  else
    if n.masterAt.isNone then d
    else (d.setNt { n.hold with masterAt := none, setPend := false }).ntShow

/-- SET: a write of PBUS_TIME.CTRL.SET (R391, R396). -/
def Dev.ntSet (d : Dev) : Dev :=
  let n := d.bus.nt
  if n.masterAt.isSome then d.setNt { n with setPend := true } else d.put pTIME PBUS_TIME.FAULT_CODE_CAUSE 3

/-- NT_SET applies at a cycle boundary, as a step. -/
def Dev.ntSetApply (t : Nat) (d : Dev) : Dev :=
  let n := d.bus.nt
  if n.setPend && n.masterAt.isSome then
    let v := ntOfWords (d.wordAt pTIME PBUS_TIME.NT_SET_LO 0) (d.wordAt pTIME PBUS_TIME.NT_SET_HI 0)
    ((d.setNt { (n.setAt ((v : Int) * 1000000000) t) with setPend := false }).raise pTIME PBUS_TIME.IRQ_RAW_SET_DONE).ntShow
  else d

/-- A REF that is not sent or fails (R391). -/
def Dev.refFail (d : Dev) : Dev :=
  (d.raise pTIME PBUS_TIME.IRQ_RAW_REF_TX_FAIL).put pTIME PBUS_TIME.FAULT_CODE_CAUSE 5

/-- A rejected REF (R392). -/
def Dev.refReject (cause : Nat) (d : Dev) : Dev :=
  let d := (d.raise pTIME PBUS_TIME.IRQ_RAW_REF_REJECT).count pTIME PBUS_TIME.REF_CNT_REJECTS
  if cause = 0 then d else d.put pTIME PBUS_TIME.FAULT_CODE_CAUSE cause

/-- The rate and the offset after an accepted REF with error e taps (R393). -/
def Dev.refCorrect (e : Int) (t : Nat) (d : Dev) : Dev :=
  let n := d.bus.nt
  let tcyc : Int := (d.cycle : Int) * 32
  let r := max (-200000) (min 200000 (n.rate + e * 1000000000 / (8 * tcyc)))
  let near := decide (e.natAbs ≤ d.get pTIME PBUS_TIME.LOCK_ERR_TAPS)
  let n := { (n.setAt (n.nano t) t) with rate := r, slew := e * 500000000, slewLen := d.cycle * 32 }
  ((d.setNt { n with good := if near then n.good + 1 else 0, seen := true, rejects := [] }).countWrap pTIME
    PBUS_TIME.REF_CNT_ACCEPTED).ntShow

/-- The time service takes a REF frame with words lo and hi, stamped s (R392). -/
def Dev.refTime (lo hi : Word) (seq len s t : Nat) (d : Dev) : Dev :=
  let p := pTIME
  let d := d.put p PBUS_TIME.REF_STAMP (BitVec.ofNat 32 s).toNat
  if d.bus.nt.masterAt.isSome then d
  else if len ≠ 8 then (d.setNt { d.bus.nt with good := 0, rejects := [] }).refReject 0
  else
    let r := (lo.toNat * 400000000 + hi.toNat) * 32
    let off : Int := (r : Int) + d.get p PBUS_TIME.PROP_DLY_TAPS - s
    let d := if d.bus.nt.valid then d
      else (d.setNt { (d.bus.nt.setAt (((t : Int) + off) * 1000000000) t) with valid := true }).ntShow
    let e := (s : Int) + off - d.bus.nt.tapsI s
    let d := d.put p PBUS_TIME.LAST_ERR_TAPS (BitVec.ofInt 32 e).toNat
    let c := d.cycle * 32
    if 400000000 ≤ hi.toNat then (d.setNt { d.bus.nt with good := 0, rejects := [] }).refReject 0
    else if r % c ≠ 0 || seq ≠ r / c % 64 then (d.setNt { d.bus.nt with good := 0, rejects := [] }).refReject 1
    else if d.get p PBUS_TIME.STEP_THR_TAPS < e.natAbs then
      (d.setNt { d.bus.nt with good := 0, rejects := (off :: d.bus.nt.rejects).take 3 }).refReject 2
    else d.refCorrect e t

/-! ## Error state (R378 to R381) -/

/-- Bus-off: requested buffers wait with their contents (R381). -/
def Dev.enterBusOff (d : Dev) : Dev :=
  let d := (d.count pPBUS PBUS.ERR_STAT_BUSOFF_CNT).put pPBUS PBUS.STATUS_TX_BUSY 0
  let d := { d with bus := { d.bus with cur := none } }
  d.each (fun n d =>
    let c := d.txCode n
    if c = txPENDING || c = txACTIVE || c = txHELD then d.setTxCode n txBUSOFF else d) (List.range 64)

/-- The error state follows the counters; each change sets its bit (R379). -/
def Dev.errState (d : Dev) : Dev :=
  let p := pPBUS
  if d.busOff then d
  else
    let tec := d.get p PBUS.ERR_CNT_TEC
    let st := if 256 ≤ tec then 2 else if 128 ≤ tec || 128 ≤ d.get p PBUS.ERR_CNT_REC then 1 else 0
    if st = d.get p PBUS.STATUS_ERR_STATE then d
    else
      let d := d.put p PBUS.STATUS_ERR_STATE st
      match st with
      | 2 => (d.raise p PBUS.IRQ_RAW_BUS_OFF).enterBusOff
      | 1 => d.raise p PBUS.IRQ_RAW_ERR_PASSIVE
      | _ => d.raise p PBUS.IRQ_RAW_ERR_ACTIVE

/-- TEC rises by 8, to 256 at most (R378, R379). -/
def Dev.tecUp (d : Dev) : Dev := d.put pPBUS PBUS.ERR_CNT_TEC (min 256 (d.get pPBUS PBUS.ERR_CNT_TEC + 8))

/-- Another node heard this one, or it heard another: it is not alone (R380). -/
def Dev.notAlone (d : Dev) : Dev := (d.put pPBUS PBUS.ERR_STAT_ACK_RUN 0).put pPBUS PBUS.STATUS_ALONE 0

/-- PB_ALONE (R380). -/
def Dev.alone (d : Dev) : Dev :=
  if decide (16 ≤ d.get pPBUS PBUS.ERR_STAT_ACK_RUN) && !d.flag pPBUS PBUS.STATUS_ALONE then
    (d.put pPBUS PBUS.STATUS_ALONE 1).raise pPBUS PBUS.IRQ_RAW_ALONE
  else d

/-! ## Transmit buffers (R371 to R375) -/

/-- The address of transmit buffer n. -/
def txAddr (n : Nat) : Nat := 0x100B0000 + n * 0x80

/-- The frame a transmit buffer holds (R371). -/
def Dev.txFrame (m : List Host.Cell) (n : Nat) (d : Dev) : BusFrame :=
  let w0 := d.word m (txAddr n)
  let w1 := d.word m (txAddr n + 4)
  { typ := bitsGet w0 31 29, ident := bitsGet w0 28 0, seq := bitsGet w1 15 8,
    data := d.bytes m (txAddr n + 16) (bitsGet w1 6 0), sof := 0 }

/-- The priority class of an identifier. -/
def classOf (ident : Nat) : Nat := ident / 2 ^ 20

/-- The header check of R373. -/
def headerOk (f : BusFrame) : Bool :=
  decide (f.data.length ≤ 64) &&
    (if f.typ ≤ 2 then decide (2 ≤ classOf f.ident) else decide (f.typ = 4) && decide (classOf f.ident = 1))

/-- The state a request waits in: bus-off, held, pending. -/
def Dev.waitCode (n : Nat) (d : Dev) : Nat :=
  if d.busOff then txBUSOFF
  else if d.mp.shed = 3 && !d.isSlot n then txHELD else txPENDING

/-- TX_REQ (R373). -/
def Dev.txReq (n t : Nat) (d : Dev) : Dev :=
  let d := d.txExpiry n t
  if d.txBusy n then d
  else
    let x := d.txBuf n
    (d.setTxBuf n ⟨t, false, false, (x.seq + 1) % 256⟩).setTxCode n (d.waitCode n)

/-- TX_ABORT (R374). -/
def Dev.txAbort (n t : Nat) (d : Dev) : Dev :=
  let d := d.txExpiry n t
  if d.txCode n = txACTIVE then d.setTxBuf n { d.txBuf n with abort := true }
  else if d.txBusy n then d.setTxCode n txABORTED
  else d

/-- An attempt ends without success (R373, R374, R388, R391). -/
def Dev.attemptFail (x : Sending) (t : Nat) (d : Dev) : Dev :=
  let d := ({ d with bus := { d.bus with cur := none } }).put pPBUS PBUS.STATUS_TX_BUSY 0
  match x.buf with
  | none => d.refFail
  | some n =>
    if (d.txBuf n).abort then d.setTxCode n txABORTED
    else if d.expired n t then d.txExpire n
    else if d.flagAt pBUF PBUS_BUF.TX_DESC_ONE_SHOT n || (x.excl && !d.flagAt pBUF PBUS_BUF.TX_DESC_REPEAT n) then
      (d.setTxCode n txFAILED).raise pPBUS PBUS.IRQ_RAW_TX_FAIL
    else d.setTxCode n (d.waitCode n)

/-- The attempt to send a frame with its SOF at t. -/
def Dev.attempt (buf : Option Nat) (excl : Bool) (f : BusFrame) (t : Nat) (d : Dev) : Sending :=
  ⟨buf, excl, { f with sof := t }, headerCrc f d.drate, t + d.frameTaps f⟩

/-- SOF is sent: the attempt is on the bus. -/
def Dev.launch (x : Sending) (d : Dev) : Dev :=
  let d := match x.buf with | some n => d.setTxCode n txACTIVE | none => d
  ({ d with bus := { d.bus with cur := some x } }).put pPBUS PBUS.STATUS_TX_BUSY 1

/-- The sequence/slot field (R364). -/
def Dev.fillSeq (n : Nat) (slot : Option Nat) (f : BusFrame) (d : Dev) : BusFrame :=
  if d.flagAt pBUF PBUS_BUF.TX_DESC_SEQ_AUTO n then { f with seq := slot.getD (d.txBuf n).seq } else f

/-- The controller reads buffer n, checks its header and starts it; `readFail`: the read failed after its retry; `lost`:
arbitration is lost (R373 to R375). -/
def Dev.startBuf (m : List Host.Cell) (n : Nat) (slot : Option Nat) (readFail lost : Bool) (t : Nat) (d : Dev) : Dev :=
  if readFail then (d.raise pPBUS PBUS.IRQ_RAW_BUF_FAIL).busFault 6 false n
  else
    let f := d.txFrame m n
    if !headerOk f then (d.setTxCode n txFAILED).busFault 0xA false n
    else
      let x := d.attempt (some n) slot.isSome (d.fillSeq n slot f) t
      let d := d.launch x
      if lost then d.attemptFail x t else d

/-! ## The schedule matrix (R384 to R389) -/

/-- The active column starts in use, column 0 first. -/
def Dev.colStarts (d : Dev) : List Nat :=
  0 :: ((List.range 23).map (fun j => d.actAt pSCHED PBUS_SCHED.COL_START_TICKS j)).takeWhile (fun s => decide (s ≠ 0))

/-- The active entry (c, j). -/
def Dev.entry (c j : Nat) (d : Dev) : Word := storeGet (fun _ => 0) d.bus.active (c * 24 + j)

/-- The column that holds position `pos` (taps within the cycle). -/
def Dev.colAt (pos : Nat) (d : Dev) : Nat := (d.colStarts.filter (fun s => decide (s * 32 ≤ pos))).length - 1

/-- The end of column j in ticks within the cycle. -/
def Dev.colEnd (j : Nat) (d : Dev) : Nat := d.colStarts.getD (j + 1) d.cycle

/-- An arbitrating window of row c. -/
def Dev.arbitrates (c j : Nat) (d : Dev) : Bool := decide (j ≠ 0) && decide (entryKind (d.entry c j) = 0)

/-- The start of the next window after column j of row c that is not arbitrating, in ticks within the cycle: column 0 of the
next cycle at the latest. -/
def Dev.nextBarrier (c j : Nat) (d : Dev) : Nat :=
  match (List.range 24).find? (fun k => decide (j < k) && decide (k < d.colStarts.length) && !d.arbitrates c k) with
  | some k => d.colStarts.getD k d.cycle
  | none => d.cycle

/-- Position within the cycle in taps. -/
def Dev.cyclePos (t : Nat) (d : Dev) : Nat := d.bus.nt.taps t % (d.cycle * 32)

/-- The fit test of R386 for a frame of `len` bytes started at t. -/
def Dev.fits (len t : Nat) (d : Dev) : Bool :=
  if d.bus.nt.valid then
    let pos := d.cyclePos t
    let c := d.cycleNo t
    let j := d.colAt pos
    d.arbitrates c j && decide (pos + tFit len d.drate * 32 ≤ d.nextBarrier c j * 32)
  else true

/-- The pending arbitrating buffer with the lowest identifier, then number, that fits (R373). -/
def Dev.pickBuf (m : List Host.Cell) (t : Nat) (d : Dev) : Option Nat :=
  (List.range 64).foldl (fun best n =>
    if decide (d.txCode n = txPENDING) && !d.isSlot n && d.fits (d.txFrame m n).data.length t then
      (match best with
       | some b => if (d.txFrame m n).ident < (d.txFrame m b).ident then some n else some b
       | none => some n)
    else best) none

/-- PB_START_OPPORTUNITY (R373, R386). -/
def Dev.startOpp (m : List Host.Cell) (readFail lost : Bool) (t : Nat) (d : Dev) : Dev :=
  let d := d.busDue t
  if d.busSends && d.bus.cur.isNone then
    match d.pickBuf m t with
    | some n => d.startBuf m n none readFail lost t
    | none => d
  else d

/-- The exclusive column that starts at t, if any. -/
def Dev.exclusiveAt (t : Nat) (d : Dev) : Option Nat :=
  (List.range 24).find? (fun j => decide (0 < j) && decide (j < d.colStarts.length) &&
    decide (entryKind (d.entry (d.cycleNo t) j) = 1) &&
    d.ntCross ((d.colStarts.getD j 0 : Int) * 32 * 1000000000) t)

/-- EXCLUSIVE_WINDOW (R387, R388); `idle`: the bus is idle. -/
def Dev.exclusive (m : List Host.Cell) (idle readFail lost : Bool) (t : Nat) (d : Dev) : Dev :=
  if !(d.flag pPBUS PBUS.CTRL_ON && !d.boot.bypass && !d.voile) then d
  else
    match d.exclusiveAt t with
    | none => d
    | some j =>
      let d := d.busDue t
      let c := d.cycleNo t
      let n := entryBuf (d.entry c j)
      let fit := decide (d.colStarts.getD j 0 + tFit (d.txFrame m n).data.length d.drate ≤ d.colEnd j)
      if d.busSends && d.bus.cur.isNone && idle && decide (d.txCode n = txPENDING) && fit then
        d.startBuf m n (some (j + 32 * (c % 8))) readFail lost t
      else (d.raise pPBUS PBUS.IRQ_RAW_TT_MISS).count pPBUS PBUS.MISC_CNT_TT_MISS_CNT

/-- The shadow column starts and entry (c, j). -/
def Dev.shadowCol (j : Nat) (d : Dev) : Nat := d.getAt pSCHED PBUS_SCHED.COL_START_TICKS (j - 1)
def Dev.shadowEntry (k : Nat) (d : Dev) : Word := storeGet (fun _ => 0) d.bus.shadow k

/-- The shadow columns in use beyond column 0. -/
def Dev.shadowCols (d : Dev) : List Nat :=
  ((List.range 23).map (fun j => d.shadowCol (j + 1))).takeWhile (fun s => decide (s ≠ 0))

/-- Why a commit of the schedule is refused: cause and entry (R389, R399). -/
def Dev.schedRefusal (d : Dev) : Option (Nat × Nat) :=
  let cs := d.shadowCols
  let order := (List.range 24).find? (fun j => decide (0 < j) && decide (j ≤ cs.length) &&
    !(decide (cs.getD (j - 1) 0 < d.cycle) && (decide (j = 1) || decide (cs.getD (j - 2) 0 < cs.getD (j - 1) 0))))
  let used (k : Nat) : Bool := decide (k % 24 ≠ 0)
  let kind3 := d.bus.shadow.find? (fun e => used e.1 && decide (entryKind e.2 = 3))
  let twice := d.bus.shadow.find? (fun e => used e.1 && decide (entryKind e.2 = 1) &&
    d.bus.shadow.any (fun f => used f.1 && decide (f.1 / 24 = e.1 / 24) && decide (f.1 < e.1) &&
      decide (entryKind f.2 = 1) && decide (entryBuf f.2 = entryBuf e.2)))
  match order with
  | some j => some (1, j)
  | none =>
    if d.shadowCol 1 < tFit 8 d.drate then some (2, 1)
    else match kind3 with
      | some e => some (3, e.1)
      | none => match twice with
        | some e => some (4, e.1)
        | none => none

/-- PBUS_SCHED_COMMIT (R389). -/
def Dev.schedCommit (t : Nat) (d : Dev) : Dev :=
  let p := pSCHED
  match d.schedRefusal with
  | some (c, e) =>
    ((d.raise p PBUS_SCHED.IRQ_RAW_COMMIT_REFUSED).put p PBUS_SCHED.FAULT_CODE_CAUSE c).put p PBUS_SCHED.FAULT_CODE_ENTRY e
  | none =>
    let l : SchedLatch := ⟨(List.range 23).map (fun j => d.shadowCol (j + 1)), d.bus.shadow, t⟩
    ({ d with bus := { d.bus with latch := some l } }).put p PBUS_SCHED.STATUS_COMMIT_PENDING 1

/-- The latched set applies at a boundary of cycle 0 at least 10 us after the latch (R389). -/
def Dev.schedApply (t : Nat) (d : Dev) : Dev :=
  match d.bus.latch with
  | none => d
  | some l =>
    if d.cycleNo t = 0 && decide (l.latchedAt + usTaps 10 ≤ t) then
      let d := { d with bus := { d.bus with latch := none, active := l.entries } }
      let d := d.each (fun j d => d.setReg (PBUS_SCHED.COL_START_TICKS.addr pSCHED j + 0x800) (BitVec.ofNat 32 (l.cols.getD j 0)))
        (List.range 23)
      ((d.put pSCHED PBUS_SCHED.STATUS_COMMIT_PENDING 0).raise pSCHED PBUS_SCHED.IRQ_RAW_COMMIT_DONE).busShed
    else d

/-- The REF frame of a boundary (R364, R391). -/
def Dev.refFrame (t : Nat) (d : Dev) : BusFrame :=
  let w := ntWords (d.bus.nt.taps t)
  let be (x : Word) : List Byte := wordBytes x
  { typ := 3, ident := d.get pPBUS PBUS.OWN_ADDR_ADDR, seq := d.cycleNo t, data := be w.1 ++ be w.2, sof := t }

/-- The time master's REF at a cycle boundary: a single attempt (R391). -/
def Dev.refSend (idle lost : Bool) (t : Nat) (d : Dev) : Dev :=
  let n := d.bus.nt
  if n.masterAt.any (fun a => decide (a + usTaps 10 ≤ t)) && d.busSends then
    let d := (d.setNt { n with sending := true, locked := n.valid }).ntShow
    if idle && d.bus.cur.isNone then
      let x := d.attempt none false (d.refFrame t) t
      let d := d.launch x
      if lost then d.attemptFail x t else d
    else d.refFail
  else if n.masterAt.isSome && n.sending then (d.setNt { n with sending := false, locked := false }).ntShow
  else d

/-- CYCLE_BOUNDARY (R384, R389, R391, R394; R121). -/
def Dev.cycleBoundary (idle lost : Bool) (t : Nat) (d : Dev) : Dev :=
  if d.ntCross 0 t then
    let d := d.ntSetApply t
    let d := d.put pTIME PBUS_TIME.CYCLE_NO (d.cycleNo t)
    let n := d.bus.nt
    let d := if n.masterAt.isSome then d
      else d.setNt { n with missed := if n.seen then 0 else n.missed + 1, seen := false }
    let d := ((d.roleCycle true).roleCycle false).schedApply t
    d.refSend idle lost t
  else d

/-! ## Receiving (R367 to R370, R376, R377) -/

/-- A frame laid out in a half (R371). -/
def halfBytes (f : BusFrame) : List Byte :=
  [BitVec.ofNat 32 (f.typ % 8 * 2 ^ 29 + f.ident % 2 ^ 29), BitVec.ofNat 32 (f.data.length % 128 + f.seq % 256 * 256),
   BitVec.ofNat 32 f.sof, (0 : Word)].flatMap wordBytes ++ f.data

/-- RX_RELEASE (R376, R401): a flip that is due comes first. -/
def Dev.rxRelease (n : Nat) (d : Dev) : Dev :=
  let d := d.rxFlip n
  d.setRxCode n (d.rxCode n % 8 / 2 * 2)

/-- A frame for receive buffer n (R371, R376, R377): written into its inactive half through port 0x16, in blocks of up to 64
bytes. -/
def Dev.rxStore (n : Nat) (f : BusFrame) (t : Nat) (d : Dev) : Dev :=
  let d := d.rxFlip n
  let c := d.rxCode n
  if (c.testBit 2 && c.testBit 0) || d.bus.rxWrites.any (fun x => decide (x.buf = n)) then
    ((d.setRxCode n (c % 8 + 8)).raise pPBUS PBUS.IRQ_RAW_RX_OVR).count pPBUS PBUS.MISC_CNT_RX_OVR_CNT
  else
    let a := rxAddr n (!c.testBit 1)
    let bs := halfBytes f
    let two := decide (64 < bs.length)
    let d := { d with bus := { d.bus with rxWrites := ⟨n, if two then 2 else 1, f⟩ :: d.bus.rxWrites } }
    let d := d.feltIssue 0x16 (some (bs.take 64)) a 64 t
    if two then d.feltIssue 0x16 (some (bs.drop 64)) (a + 64) 64 t else d

/-- The frame matches no buffer or no unit. -/
def Dev.rxNoMatch (d : Dev) : Dev := (d.raise pPBUS PBUS.IRQ_RAW_RX_NOMATCH).count pPBUS PBUS.MISC_CNT_RX_NOMATCH

/-- The frame is addressed to this unit (R369). -/
def Dev.addressed (f : BusFrame) (d : Dev) : Bool :=
  let a := f.ident % 2 ^ 20
  match f.typ with
  | 0 => decide (a / 64 = d.get pPBUS PBUS.OWN_ADDR_ADDR / 64)
  | 1 => (List.range 8).any (fun k => d.flagAt pPBUS PBUS.GROUP_EN k && decide (d.getAt pPBUS PBUS.GROUP_ADDR k = a))
  | _ => true

/-- The receive buffer that takes a frame (R370). -/
def Dev.rxMatch (f : BusFrame) (d : Dev) : Option Nat :=
  (List.range 64).find? (fun n =>
    d.flagAt pBUF PBUS_BUF.RX_CFG_EN n && (d.getAt pBUF PBUS_BUF.RX_CFG_TYPE_MASK n).testBit f.typ &&
    decide (d.getAt pBUF PBUS_BUF.RX_CFG_CLASS_LO n ≤ classOf f.ident) &&
    decide (classOf f.ident ≤ d.getAt pBUF PBUS_BUF.RX_CFG_CLASS_HI n))

/-- A received frame is routed (R369, R370). -/
def Dev.rxRoute (f : BusFrame) (t : Nat) (d : Dev) : Dev :=
  let leg := f.ident % 64
  if 5 ≤ f.typ || (f.typ = 0 && (0x34 ≤ leg && leg ≤ 0x3E)) then d.rxNoMatch
  else if f.typ = 4 then d.busQueue f
  else if !d.addressed f then d
  else match d.rxMatch f with
    | some n => d.rxStore n f t
    | none => if d.flag pPBUS PBUS.PB_CFG_UNMATCHED_TO_MP then d.busQueue f else d.rxNoMatch

/-- A frame from another node ends without error (R367, R378, R380, R382). -/
def Dev.rxCommit (d : Dev) : Dev :=
  let p := pPBUS
  let rec' := d.get p PBUS.ERR_CNT_REC
  let d := (d.countWrap p PBUS.FRAME_CNT_RX_OK).raise p PBUS.IRQ_RAW_RX_DONE
  if d.voile then d.notAlone
  else ((d.put p PBUS.ERR_CNT_REC (if 127 < rec' then 120 else rec' - 1)).notAlone).errState

/-- The word of four bytes of a data field from offset o. -/
def dataWord (f : BusFrame) (o : Nat) : Word := wordOf ((f.data.drop o).take 4)

/-! ## Transmission ends, errors -/

/-- PB_FRAME_TX_DONE at the end of the frame's last EOF bit (R360, R367, R373, R378, R380, R391); `loop`: the loop delay
measured. -/
def Dev.txDone (loop t : Nat) (d : Dev) : Dev :=
  match d.bus.cur with
  | none => d
  | some x =>
    if t < x.fin then d else
    let p := pPBUS
    let d := (({ d with bus := { d.bus with cur := none } }).put p PBUS.STATUS_TX_BUSY 0).put p PBUS.LOOP_DLY_TAPS loop
    let d := (d.countWrap p PBUS.FRAME_CNT_TX_OK).notAlone
    let d := (d.put p PBUS.ERR_CNT_TEC (d.get p PBUS.ERR_CNT_TEC - 1)).errState
    match x.buf with
    | none => d.raise pTIME PBUS_TIME.IRQ_RAW_REF_TX_OK
    | some n =>
      let d := d.putBit pBUF (if n < 32 then PBUS_BUF.TX_DONE0_DONE else PBUS_BUF.TX_DONE1_DONE) (n % 32) true
      let d := d.raise p PBUS.IRQ_RAW_TX_DONE
      let b := d.txBuf n
      let again := d.flagAt pBUF PBUS_BUF.TX_DESC_REPEAT n && !b.abort
      (d.setTxBuf n { b with done := true, abort := false }).setTxCode n (if again then d.waitCode n else txEMPTY)

/-- A dominant stretch on PB_TXD beside the controller's own frames; a Voile node drives none (R368, R382). -/
def Dev.pbDrive (xs : List (Nat × Nat)) (d : Dev) : Dev :=
  { d with bus := { d.bus with drove := if d.voile then [] else xs } }

/-- The error flag of R367: six nominal bits from the next bit boundary, dominant where the node is error-active. -/
def Dev.errorFlag (t : Nat) (d : Dev) : List (Nat × Nat) :=
  if d.get pPBUS PBUS.STATUS_ERR_STATE = 0 then [(t, 6 * 12800)] else []

/-- PB_ERROR (R367, R378 to R382): a bus error of code 1 bit, 2 stuff, 3 header CRC, 4 form, 5 acknowledgement, found while
receiving or while transmitting; t is the nominal bit boundary at which the error flag starts. `ack`: the start of the ACK slot
of the frame being received, where it has passed. -/
def Dev.busError (code : Nat) (rx : Bool) (ack : Option Nat) (t : Nat) (d : Dev) : Dev :=
  let p := pPBUS
  if !d.busHears then d
  else if rx then
    if d.bus.cur.isSome || code = 5 then d
    else
      let d := (d.count p PBUS.ERR_EVT_RX_ERR).busFault code true 0
      let d := d.pbDrive ((ack.map (fun a => (a, 12800))).toList ++ d.errorFlag t)
      if d.voile then d else (d.count p PBUS.ERR_CNT_REC).errState
  else
    match d.bus.cur with
    | none => d
    | some x =>
      if code = 3 then d
      else
        let d := (d.pbDrive (d.errorFlag t)).count p PBUS.ERR_EVT_TX_ERR
        let d := d.busFault code false (x.buf.getD 0)
        let d := if code = 5 then d.count p PBUS.ERR_STAT_ACK_RUN else d.put p PBUS.ERR_STAT_ACK_RUN 0
        let d := if code = 5 && d.get p PBUS.STATUS_ERR_STATE ≠ 0 then d else d.tecUp
        (d.attemptFail x t).errState

/-- PB_FRAME_RX and REF_RX (R363, R367 to R370): a frame whose header CRC is wrong ends in an error; another is acknowledged, in
the ACK slot nine nominal bits before its end, and goes where it is addressed. -/
def Dev.frameRx (f : BusFrame) (crc t : Nat) (d : Dev) : Dev :=
  if !(d.busHears && d.bus.cur.isNone) then d
  else if crc ≠ headerCrc f d.drate then d.busError 3 true none t
  else
    let d := (d.pbDrive [(t - 9 * 12800, 12800)]).rxCommit
    if f.typ = 3 then d.refTime (dataWord f 0) (dataWord f 4) f.seq f.data.length f.sof t else d.rxRoute f t

/-! ## The controller on and off the bus (R358, R359, R361, R381, R383) -/

/-- An attempt on the bus is cut without an error. -/
def Dev.busCut (t : Nat) (d : Dev) : Dev := match d.bus.cur with | some x => d.attemptFail x t | none => d

/-- The controller must see 11 recessive bits again (R361). -/
def Dev.busUnsync (t : Nat) (d : Dev) : Dev :=
  (({ d with bus := { d.bus with joinAt := t } }).put pPBUS PBUS.STATUS_SYNCED 0).put pPBUS PBUS.STATUS_IDLE 0

/-- PB_ON: refused with a reserved DRATE (R359). -/
def Dev.pbOn (t : Nat) (d : Dev) : Dev :=
  if d.flag pPBUS PBUS.CTRL_ON then d
  else if 5 ≤ d.drate then d.put pPBUS PBUS.FAULT_CODE_CAUSE 8
  else ((d.put pPBUS PBUS.CTRL_ON 1).putFlag pPBUS PBUS.STATUS_VOILE d.voile).busUnsync t

/-- PB_OFF. -/
def Dev.pbOff (t : Nat) (d : Dev) : Dev :=
  if d.flag pPBUS PBUS.CTRL_ON then
    let d := (d.busCut t).put pPBUS PBUS.CTRL_ON 0
    let n := d.bus.nt
    ((d.setNt { n with sending := false, locked := n.locked && n.masterAt.isNone }).ntShow).busUnsync t
  else d

/-- PB_STBY (R358): high while off the bus or in Gauze. -/
def Dev.pbStby (d : Dev) : Bool := !d.flag pPBUS PBUS.CTRL_ON || d.boot.gauze

/-- Eleven recessive bits since `since` have been seen (R361, R381). -/
def Dev.eleven (since t : Nat) (d : Dev) : Bool := decide (max since d.bus.joinAt + 11 * 12800 ≤ t)

/-- PB_SYNCED: 11 consecutive recessive bits (R361); during recovery one of the occurrences of R381. -/
def Dev.pbSynced (since t : Nat) (d : Dev) : Dev :=
  if !d.flag pPBUS PBUS.CTRL_ON || d.boot.bypass || !d.eleven since t then d
  else
    let d := { d with bus := { d.bus with joinAt := t } }
    if d.flag pPBUS PBUS.STATUS_RECOVERING then
      d.put pPBUS PBUS.ERR_STAT_BUSOFF_RCV (min 127 (d.get pPBUS PBUS.ERR_STAT_BUSOFF_RCV + 1))
    else (d.put pPBUS PBUS.STATUS_SYNCED 1).put pPBUS PBUS.STATUS_IDLE 1

/-- RECOVER: ignored outside bus-off (R381). -/
def Dev.recover (t : Nat) (d : Dev) : Dev :=
  if d.busOff && !d.flag pPBUS PBUS.STATUS_RECOVERING then
    (({ d with bus := { d.bus with joinAt := t } }).put pPBUS PBUS.STATUS_RECOVERING 1).put pPBUS PBUS.ERR_STAT_BUSOFF_RCV 0
  else d

/-- BUSOFF_RECOVERED: the 128th occurrence (R381). -/
def Dev.recovered (since t : Nat) (d : Dev) : Dev :=
  if d.busOff && d.flag pPBUS PBUS.STATUS_RECOVERING && decide (127 ≤ d.get pPBUS PBUS.ERR_STAT_BUSOFF_RCV) &&
      d.flag pPBUS PBUS.CTRL_ON && !d.boot.bypass && d.eleven since t then
    let p := pPBUS
    let d := { d with bus := { d.bus with joinAt := t } }
    let d := ((d.put p PBUS.ERR_CNT_TEC 0).put p PBUS.ERR_CNT_REC 0).put p PBUS.ERR_STAT_BUSOFF_RCV 128
    let d := ((d.put p PBUS.STATUS_RECOVERING 0).put p PBUS.STATUS_ERR_STATE 0).raise p PBUS.IRQ_RAW_ERR_ACTIVE
    (d.busDue t).each (fun n d => if d.txCode n = txBUSOFF then d.setTxCode n (d.waitCode n) else d) (List.range 64)
  else d

/-- The timebase enters bypass: offline, network time holds over (R383, R394). -/
def Dev.busOffline (t : Nat) (d : Dev) : Dev :=
  let d := (d.busCut t).busUnsync t
  (d.setNt d.bus.nt.hold).ntShow

/-- The timebase returns from bypass. -/
def Dev.busOnline (t : Nat) (d : Dev) : Dev := d.busUnsync t

/-- Gauze exit: counters zeroed, error-active, integration again (R361, R396). -/
def Dev.busGauzeExit (d : Dev) : Dev :=
  let p := pPBUS
  let z (a : Nat) (d : Dev) : Dev := d.setReg (p * 0x1000 + a) 0
  let d := (z 0x05C (z 0x054 (z 0x04C (z 0x048 d))))
  let d := ((d.put p PBUS.STATUS_ERR_STATE 0).put p PBUS.STATUS_RECOVERING 0).put p PBUS.STATUS_ALONE 0
  let d := { d with bus := { d.bus with
    cur := none, rxWrites := [], drove := [], tx := d.bus.tx.map (fun (x : TxBuf) => { x with reqAt := 0 }),
    latch := d.bus.latch.map (fun (l : SchedLatch) => { l with latchedAt := 0 }) } }
  let d := (d.put p PBUS.STATUS_TX_BUSY 0).busUnsync 0
  d.each (fun n d => if d.txCode n = txBUSOFF then d.setTxCode n (d.waitCode n) else d) (List.range 64)

/-- A read of NT_LO: the present network time; it captures NT_HI (R400). -/
def Dev.ntRead (t : Nat) (d : Dev) : Word × Dev :=
  let w := if d.bus.nt.valid then ntWords (d.bus.nt.taps t) else (0, 0)
  (w.1, ({ d with bus := { d.bus with ntHi := w.2 } }).put pTIME PBUS_TIME.NT_HI w.2.toNat)

end Sys2Proof.Machine
end

