-- ==== Sys2Proof/Machine/ChainBase.lean ====
section
/-!
DEFINITION. The chain: frames, links, credit, enumeration, breaks, events (R402 to R415, R419, R420, R425).
-/
namespace Sys2Proof.Machine

/-! ## Frames (R406, R407) -/

def ChainFrame.typ (f : ChainFrame) : Nat := bitsGet f.w0 31 28
def ChainFrame.dest (f : ChainFrame) : Nat := bitsGet f.w0 27 22
def ChainFrame.bcast (f : ChainFrame) : Bool := f.w0.getLsbD 15
def ChainFrame.lseq (f : ChainFrame) : Nat := bitsGet f.w0 13 8
def ChainFrame.len (f : ChainFrame) : Nat := bitsGet f.w2 31 25
def ChainFrame.tag (f : ChainFrame) : Nat := bitsGet f.w2 20 16

/-- One bit of the CRC-16 with generator 0x1021. -/
def crcBit (c : Nat) (b : Bool) : Nat :=
  let x := c * 2 % 65536
  if (c / 32768 % 2 = 1) != b then x ^^^ 0x1021 else x

/-- One byte, most significant bit first. -/
def crcByte (c : Nat) (b : Byte) : Nat :=
  [7, 6, 5, 4, 3, 2, 1, 0].foldl (fun c k => crcBit c (b.getLsbD k)) c

/-- HCRC (R407): over bytes 0 to 7, 10 and 11 of the header. -/
def ChainFrame.crc (f : ChainFrame) : Nat :=
  (wordBytes f.w0 ++ wordBytes f.w1 ++ (wordBytes f.w2).drop 2).foldl crcByte 0xFFFF

/-- The frame with a link sequence and a header CRC. -/
def ChainFrame.seal (f : ChainFrame) (seq : Nat) : ChainFrame :=
  let f := { f with w0 := bitsPut f.w0 13 8 seq }
  { f with w2 := bitsPut f.w2 15 0 f.crc }

/-- The payload words that LEN announces; a READ carries none (R408). -/
def ChainFrame.payloadLen (f : ChainFrame) : Nat :=
  if f.typ = 2 || f.typ = 3 || f.typ = 0xA || f.typ = 0xB then f.len else 0

/-- Types in use (R408). -/
def ChainFrame.known (f : ChainFrame) : Bool := decide (1 ≤ f.typ) && decide (f.typ ≤ 0xB)

/-- The classes of R410; 0 goes first. -/
def ChainFrame.cls (f : ChainFrame) : Nat :=
  if f.typ = 1 || f.typ = 2 || f.typ = 0xB then 1 else if f.typ = 0xA then 2 else 0

/-- A request of the host (READ, WRITE, CMD to one unit). -/
def ChainFrame.request (f : ChainFrame) : Bool := !f.bcast && (f.typ = 1 || f.typ = 2 || f.typ = 5)

/-! ## Ports -/

def Dev.port (up : Bool) (d : Dev) : ChainPort := if up then d.chain.up else d.chain.dn

/-- Set a port with the bits that show it (R430, R431). -/
def Dev.setPort (up : Bool) (x : ChainPort) (d : Dev) : Dev :=
  let d := { d with chain := if up then { d.chain with up := x } else { d.chain with dn := x } }
  let d := d.put pCHAIN (if up then CHAIN.STATUS_UP_LINK else CHAIN.STATUS_DN_LINK) x.link
  d.put pCHAIN (if up then CHAIN.CREDIT_UP_TX else CHAIN.CREDIT_DN_TX) x.credit

/-- The port runs at the low rate (R402). -/
def Dev.rateLow (up : Bool) (d : Dev) : Bool := d.boot.bypass || d.boot.gauze || (d.port up).peerLow

/-- A frame waits at a port. -/
def Dev.sendOn (up : Bool) (f : ChainFrame) (d : Dev) : Dev :=
  let x := d.port up
  d.setPort up { x with out := x.out ++ [f] }

/-- Position, 0 where none is held; position - 1. -/
def Dev.position (d : Dev) : Nat := d.get pCHAIN CHAIN.POSITION_POS
def Dev.addressed' (d : Dev) : Bool := d.flag pCHAIN CHAIN.STATUS_ADDRESSED
def Dev.ownSrc (d : Dev) : Nat := (d.position + 63) % 64
def Dev.epoch (d : Dev) : Nat := d.get pCHAIN CHAIN.STATUS_EPOCH
def Dev.epochMax (d : Dev) : Nat := d.get pCHAIN CHAIN.STATUS_EPOCH_MAX
/-- The unit is the end of the chain (R412, R414). -/
def Dev.isEnd (d : Dev) : Bool := d.flag pCHAIN CHAIN.STATUS_END

/-- A frame of this unit. -/
def Dev.frameOf (typ : Nat) (bcast : Bool) (addr : Word) (len stat tag : Nat) (ws : List Word) (d : Dev) : ChainFrame :=
  { w0 := BitVec.ofNat 32 (typ * 2 ^ 28 + d.ownSrc * 2 ^ 16 + bcast.toNat * 2 ^ 15 + d.epoch % 256), w1 := addr,
    w2 := BitVec.ofNat 32 (len % 128 * 2 ^ 25 + stat % 16 * 2 ^ 21 + tag % 32 * 2 ^ 16), payload := ws }

/-- An EVENT of this unit (R408, R420). -/
def Dev.event (code pos epoch len : Nat) (d : Dev) : Dev :=
  d.sendOn true (d.frameOf 9 false (BitVec.ofNat 32 (code * 2 ^ 24 + pos % 128 * 2 ^ 16 + epoch % 256 * 256 + len % 128)) 0 0 0 [])

/-- The response to a request of type `typ`, class and tag kept (R408, R418). -/
def Dev.respond (typ : Nat) (addr : Word) (tag stat : Nat) (ws : List Word) (d : Dev) : ChainFrame :=
  d.frameOf (if typ = 1 then 3 else if typ = 2 then 4 else 6) false addr ws.length stat tag ws

/-- Status 0x4: the target lies beyond a break or the end (R414, R418). -/
def Dev.unreachable (typ : Nat) (addr : Word) (tag : Nat) (d : Dev) : Dev :=
  (d.count pCHAIN CHAIN.XACT_UNREACH).sendOn true (d.respond typ addr tag 4 [])

/-! ## Enumeration (R412, R413, R415) -/

/-- a is newer than b (R412). -/
def epochNewer (a b : Nat) : Bool := let x := (a + 256 - b % 256) % 256; decide (1 ≤ x) && decide (x ≤ 127)

/-- The high-water mark rises to a newer epoch. -/
def Dev.raiseEpoch (e : Nat) (d : Dev) : Dev :=
  if epochNewer e d.epochMax then d.put pCHAIN CHAIN.STATUS_EPOCH_MAX e else d

/-- ENUM goes downstream with this unit's position. -/
def Dev.sendEnum (e : Nat) (d : Dev) : Dev :=
  d.sendOn false (d.frameOf 7 false (BitVec.ofNat 32 (d.position + e % 256 * 256)) 0 0 0 [])

/-- R415: ENUM with the own position and a new epoch. -/
def Dev.reEnum (d : Dev) : Dev :=
  if d.addressed' && decide (d.chain.dn.link = 2) then
    let e := (d.epochMax + 1) % 256
    let d := d.put pCHAIN CHAIN.STATUS_EPOCH_MAX e
    ({ d with chain := { d.chain with enum := some (e, false) } }).sendEnum e
  else d

/-- The plant address takes a position (R412, R432). -/
def Dev.takeAddr (pos : Nat) (d : Dev) : Dev :=
  let old := d.get pSYS SYS.PLANT_ADDR_POSITION
  let d := d.put pSYS SYS.PLANT_ADDR_POSITION (pos - 1)
  let d := d.put pPBUS PBUS.OWN_ADDR_ADDR (d.reg (SYS.PLANT_ADDR_POSITION.addr pSYS 0)).toNat
  if old = pos - 1 then d else d.raise pSYS SYS.IRQ_RAW_ADDR_CHANGED

/-- ENUM_DONE goes upstream with a length and an epoch. -/
def Dev.sendEnumDone (len e : Nat) (d : Dev) : Dev :=
  d.sendOn true (d.frameOf 8 false (BitVec.ofNat 32 (len + e % 256 * 256)) 0 0 0 [])

/-- ENUM received from sender position p with epoch e (R412). -/
def Dev.enumRx (p e : Nat) (d : Dev) : Dev :=
  let c := pCHAIN
  if 64 < p + 1 then
    let d := { d with chain := { d.chain with overflow := true } }
    let d := ((d.put c CHAIN.POSITION_POS 0).put c CHAIN.STATUS_ADDRESSED 0).put c CHAIN.FAULT_CODE_CAUSE 5
    (d.raise c CHAIN.IRQ_RAW_OVERFLOW).event 3 0 0 0
  else
    let own := if epochNewer e d.epochMax then e else (d.epochMax + 1) % 256
    let d := { d with chain := { d.chain with overflow := false, enum := none } }
    let d := (d.put c CHAIN.STATUS_EPOCH own).put c CHAIN.STATUS_EPOCH_MAX own
    let d := ((d.put c CHAIN.POSITION_POS (p + 1)).put c CHAIN.STATUS_ADDRESSED 1).takeAddr (p + 1)
    let d := d.raise c CHAIN.IRQ_RAW_ENUM_DONE
    let d := if d.chain.dn.link = 2 && !d.flag c CHAIN.CTRL_CLOSE_DN then (d.put c CHAIN.STATUS_END 0).sendEnum own
      else ((d.put c CHAIN.STATUS_END 1).put c CHAIN.POSITION_LENGTH (p + 1)).sendEnumDone (p + 1) own
    if d.boot.muslin then d.event 5 d.position 0 0 else d

/-- ENUM_DONE returned from downstream (R412, R415). -/
def Dev.enumDone (len e : Nat) (d : Dev) : Dev :=
  let d := (d.put pCHAIN CHAIN.POSITION_LENGTH len).raiseEpoch e
  match d.chain.enum with
  | none => d.sendEnumDone len e
  | some (sent, second) =>
    if e ≠ sent && !second then
      let e2 := (e + 1) % 256
      let d := { d with chain := { d.chain with enum := some (e2, true) } }
      (d.raiseEpoch e2).sendEnum e2
    else ({ d with chain := { d.chain with enum := none } }).event 2 (d.position + 1) e len

/-- An EVENT from downstream is passed on; TOPOLOGY raises the mark (R415, R420). -/
def Dev.eventRx (w : Word) (src : Nat) (d : Dev) : Dev :=
  let d := if bitsGet w 31 24 = 2 then d.raiseEpoch (bitsGet w 15 8) else d
  if d.addressed' then
    let f := d.frameOf 9 false w 0 0 0 []
    d.sendOn true { f with w0 := bitsPut f.w0 21 16 src }
  else d

/-! ## Links (R402, R403, R405, R414) -/

/-- The link carries frames, or trains anew after a change of rate without having been lost (R402): its credits and its
unacknowledged frames together are the receiver's buffers. -/
def ChainPort.alive (x : ChainPort) : Bool :=
  decide (x.link = 2) || (decide (x.link = 1) && (decide (x.credit ≠ 0) || !x.unacked.isEmpty))

/-- The last LSEQ whose frame, with all before it, has been received and has freed its buffer (R404, R409). -/
def ChainPort.freed (x : ChainPort) : Nat :=
  match x.rxBufs with
  | [] => (x.rxSeq + 63) % 64
  | f :: _ => (f.lseq + 63) % 64

/-- An acknowledgement, with its credit, unless CHAIN_Q is full or the link trains (R404, R411). -/
def Dev.ackSend (up : Bool) (seq : Nat) (d : Dev) : Dev :=
  let x := d.port up
  if (up && decide (32 ≤ d.chain.queue.length)) || x.link ≠ 2 then d.setPort up { x with ackHeld := some seq }
  else d.setPort up { x with lastSet := (0x3C, seq), ackHeld := none, lastTx := d.now }

/-- A port that has freed buffers acknowledges their frames; `x`: the port before. -/
def Dev.freedSince (up : Bool) (x : ChainPort) (d : Dev) : Dev :=
  if x.freed = (d.port up).freed then d else d.ackSend up (d.port up).freed

/-- LINK_UP: `chars` consecutive characters without an error, of which the rule asks 256 (R403). A link that was not lost, only
trained anew, goes on where it stood (R402, R429). -/
def Dev.linkUp (up : Bool) (chars t : Nat) (d : Dev) : Dev :=
  let x := d.port up
  if x.link = 2 || x.link = 3 || decide (chars < 256) then d
  else if x.alive then
    let d := d.setPort up { x with link := 2, lastRx := t }
    match x.ackHeld with | some q => d.ackSend up q | none => d
  else
    let d := d.setPort up { x with
      link := 2, credit := 8, txSeq := 0, rxSeq := 0, unacked := [], ackHeld := none, lastRx := t,
      rxBufs := x.rxBufs.map (fun f => { f with w0 := bitsPut f.w0 13 8 0 }) }
    if up then
      if d.flag pCHAIN CHAIN.STATUS_ORPHAN then (d.put pCHAIN CHAIN.STATUS_ORPHAN 0).raise pCHAIN CHAIN.IRQ_RAW_UP_REGAINED else d
    else
      let d := d.put pCHAIN CHAIN.STATUS_END 0
      let d := if d.chain.broken then
          (({ d with chain := { d.chain with broken := false } }).count pCHAIN CHAIN.BREAKS_HEALS).raise pCHAIN
            CHAIN.IRQ_RAW_DN_HEALED
        else d
      d.reEnum

/-- Requests that waited for the lost link are answered in place of their targets (R414). -/
def Dev.answerHeld (f : ChainFrame) (d : Dev) : Dev := if f.request then d.unreachable f.typ f.w1 f.tag else d

/-- A lost link (R414); cause 0x3 after 16 retransmissions of one frame. -/
def Dev.linkLost (up : Bool) (limit : Bool) (d : Dev) : Dev :=
  let x := d.port up
  if !x.alive then d
  else
    let d := d.put pCHAIN CHAIN.FAULT_CODE_CAUSE (if limit then 3 else if up then 2 else 1)
    if up then
      let d := d.setPort true { x with link := 0, credit := 0, unacked := [] }
      (d.put pCHAIN CHAIN.STATUS_ORPHAN 1).raise pCHAIN CHAIN.IRQ_RAW_UP_LOST
    else
      let d := d.setPort false { x with link := 0, credit := 0, unacked := [], out := [] }
      let d := { d with chain := { d.chain with broken := true, enum := none } }
      let d := (d.raise pCHAIN CHAIN.IRQ_RAW_DN_BREAK).count pCHAIN CHAIN.BREAKS_BREAKS
      let d := d.putFlag pCHAIN CHAIN.STATUS_END d.addressed'
      let d := if d.addressed' then d.event 1 d.position 0 0 else d
      d.each (fun f d => d.answerHeld f) (x.unacked.map (fun u => u.frame) ++ x.out)

/-- LINK_LOST: the port has received neither a frame nor, since `ka`, a keep-alive for 100 us (R272, R403). -/
def Dev.rxTimeout (up : Bool) (ka t : Nat) (d : Dev) : Dev :=
  if max (d.port up).lastRx ka + usTaps 100 ≤ t then d.linkLost up false else d

/-- KEEPALIVE_SEND: 10 us without sending (R403). -/
def Dev.keepalive (up : Bool) (t : Nat) (d : Dev) : Dev :=
  let x := d.port up
  if x.link = 2 && decide (x.lastTx + usTaps 10 ≤ t) then d.setPort up { x with lastSet := (0xBC, 0), lastTx := t } else d

/-- ACK: frames up to `seq` are released and their credit returns (R404, R409). -/
def Dev.ackRx (up : Bool) (seq : Nat) (d : Dev) : Dev :=
  let x := d.port up
  match x.unacked.findIdx? (fun u => decide (u.seq = seq)) with
  | some i => d.setPort up { x with unacked := x.unacked.drop (i + 1), credit := min 8 (x.credit + i + 1) }
  | none => d

/-- Count on one half of a counter pair of R431. -/
def Dev.chainCount (upF dnF : FieldSpec) (up : Bool) (n : Nat) (d : Dev) : Dev :=
  let f := if up then upF else dnF
  d.put pCHAIN f (min f.max (d.get pCHAIN f + n))

/-- NAK: retransmission in order from the named frame (R405). -/
def Dev.nakRx (up : Bool) (seq t : Nat) (d : Dev) : Dev :=
  let x := d.port up
  match x.unacked.findIdx? (fun u => decide (u.seq = seq)) with
  | some i =>
    let again := (x.unacked.drop i).map (fun u => { u with retx := u.retx + 1 })
    let d := d.setPort up { x with unacked := x.unacked.take i ++ again, lastTx := t }
    let d := d.chainCount CHAIN.RETX_UP CHAIN.RETX_DN up again.length
    if again.any (fun u => decide (16 ≤ u.retx)) then d.linkLost up true else d
  | none => d

/-- RATE: the neighbour changes its rate; the link trains again (R402). -/
def Dev.rateRx (up full : Bool) (d : Dev) : Dev :=
  let x := d.port up
  if x.link = 0 || x.link = 3 then d.setPort up { x with peerLow := !full }
  else d.setPort up { x with peerLow := !full, link := 1 }

/-- The unit changes its own rate: RATE is sent on each running port, and the links train again (R402). -/
def Dev.ownRate (full : Bool) (d : Dev) : Dev :=
  d.each (fun up d =>
    let x := d.port up
    if x.link = 1 || x.link = 2 then d.setPort up { x with link := 1, lastSet := (0xFC, full.toNat) } else d) [true, false]

/-- Payload words with the bytes of code errors decoded as zero (R405). -/
def blankBytes (bad : List Nat) (ws : List Word) : List Word :=
  (ws.zipIdx).map (fun p =>
    wordOf ((wordBytes p.1).zipIdx.map (fun q => if bad.contains (4 * p.2 + q.2) then (0 : Byte) else q.1)))

/-- CHAIN_FRAME_RX (R405, R407, R408): `eof` false where EOF is missing; `bad` the payload bytes with a code error. -/
def Dev.chainRx (up : Bool) (f : ChainFrame) (eof : Bool) (bad : List Nat) (t : Nat) (d : Dev) : Dev :=
  let x := { d.port up with lastRx := t }
  if x.link ≠ 2 then d
  else
    let crcOk := decide (bitsGet f.w2 15 0 = f.crc)
    let good := crcOk && eof && decide (f.payload.length = f.payloadLen) && decide (f.payloadLen ≤ 64) &&
      decide (f.lseq = x.rxSeq) && decide (x.rxBufs.length < 8)
    if !good then
      let d := (d.chainCount CHAIN.HDR_ERR_UP CHAIN.HDR_ERR_DN up 1).raise pCHAIN CHAIN.IRQ_RAW_HDR_ERR
      let d := if crcOk then d else d.put pCHAIN CHAIN.FAULT_CODE_CAUSE 4
      d.setPort up { x with lastSet := (0x7C, x.rxSeq), lastTx := t }
    else
      let d := d.setPort up { x with rxSeq := (x.rxSeq + 1) % 64 }
      let d := d.chainCount CHAIN.CODE_ERR_UP CHAIN.CODE_ERR_DN up bad.length
      let d := if f.known then
          let y := d.port up
          d.setPort up { y with rxBufs := y.rxBufs ++ [{ f with payload := blankBytes bad f.payload }] }
        else d.put pCHAIN CHAIN.FAULT_CODE_CAUSE 6
      d.freedSince up x

/-- A frame that has been acted on leaves its receive buffer, and its credit returns (R404, R409). -/
def Dev.consume (up : Bool) (p : ChainFrame → Bool) (d : Dev) : Dev :=
  let x := d.port up
  (d.setPort up { x with rxBufs := x.rxBufs.eraseP p }).freedSince up x

/-! ## Forwarding (R409, R410) -/

/-- A received frame is only passed on by this unit. -/
def Dev.passes (fromUp : Bool) (f : ChainFrame) (d : Dev) : Bool :=
  if fromUp then !f.bcast && decide (f.dest ≠ d.ownSrc) && (f.typ = 1 || f.typ = 2 || f.typ = 5 || f.typ = 0xB)
  else f.typ = 3 || f.typ = 4 || f.typ = 6 || f.typ = 0xA || f.typ = 0xB

/-- The first frame of the lowest class. -/
def firstOf (fs : List ChainFrame) : Option ChainFrame :=
  [0, 1, 2].findSome? (fun c => fs.find? (fun f => decide (f.cls = c)))

/-- CHAIN_FRAME_FORWARD: one frame leaves through a port; within a class own and forwarded frames take turns. A downstream
request for a unit beyond the end is answered in its place (R414). -/
def Dev.chainForward (up : Bool) (t : Nat) (d : Dev) : Dev :=
  let x := d.port up
  let held := (d.port (!up)).rxBufs.filter (fun f => d.passes (!up) f)
  let pass := if d.addressed' && !d.chain.overflow then firstOf held else none
  if x.link = 2 then
    let own := firstOf x.out
    let useOwn := match own, pass with
      | some a, some b => decide (a.cls < b.cls) || (decide (a.cls = b.cls) && x.fwd)
      | some _, none => true
      | none, _ => false
    match (if useOwn then own else pass) with
    | none => d
    | some f =>
      if x.credit = 0 then d
      else
        let g := f.seal x.txSeq
        let d := if useOwn then d else d.consume (!up) (fun h => decide (h = f))
        let x := d.port up
        d.setPort up { x with
          out := if useOwn then x.out.erase f else x.out, credit := x.credit - 1, txSeq := (x.txSeq + 1) % 64,
          unacked := x.unacked ++ [⟨x.txSeq, g, 0⟩], lastTx := t, fwd := !useOwn }
  else if !up && !x.alive then
    match pass with
    | some f => (d.consume true (fun h => decide (h = f))).answerHeld f
    | none => d
  else d

/-- CLOSE_DN (R412, R415, R430). -/
def Dev.closeDn (close : Bool) (d : Dev) : Dev :=
  let was := d.flag pCHAIN CHAIN.CTRL_CLOSE_DN
  let d := d.putFlag pCHAIN CHAIN.CTRL_CLOSE_DN close
  let x := d.chain.dn
  if close then
    if was then d
    else
      let d := d.setPort false { x with link := 3, credit := 0, unacked := [], out := [] }
      let d := d.putFlag pCHAIN CHAIN.STATUS_END d.addressed'
      d.each (fun f d => d.answerHeld f) (x.unacked.map (fun u => u.frame) ++ x.out)
  else if was then d.setPort false { x with link := 1 } else d

/-- CHAIN_CLR_CNT (R430). -/
def Dev.chainClr (d : Dev) : Dev :=
  let z (o : Nat) (d : Dev) : Dev := d.setReg (pCHAIN * 0x1000 + o) 0
  ((((z 0x44 d |> z 0x48) |> z 0x4C).put pCHAIN CHAIN.XACT_LATE_DISCARDS 0).put pCHAIN CHAIN.XACT_UNREACH 0) |> z 0x58

/-! ## MAIL and the backlogs (R274, R411) -/

/-- MAIL for this unit's MP. -/
def Dev.mailRx (f : ChainFrame) (d : Dev) : Dev :=
  let d := d.consume true (fun h => decide (h.typ = 0xB) && decide (h.w1 = f.w1) && decide (h.payload = f.payload))
  if 32 ≤ d.chain.queue.length then d.backlogDrop true
  else
    let d := { d with chain := { d.chain with queue := d.chain.queue ++ [f] } }
    d.put pFELT FELT.CHAIN_Q_DEPTH d.chain.queue.length

/-- MP's stack takes a frame; room in CHAIN_Q returns the withheld credit. -/
def Dev.backlogTaken (chain : Bool) (d : Dev) : Dev :=
  if chain then
    let d := { d with chain := { d.chain with queue := d.chain.queue.drop 1 } }
    let d := d.put pFELT FELT.CHAIN_Q_DEPTH d.chain.queue.length
    match d.chain.up.ackHeld with
    | some seq => d.ackSend true seq
    | none => d
  else
    let d := { d with bus := { d.bus with queue := d.bus.queue.drop 1 } }
    d.put pFELT FELT.BUS_Q_DEPTH d.bus.queue.length

/-! ## Arming (R299, R419, R432) -/

/-- A chain arm command acts on this unit. -/
def Dev.armGroup (g : Nat) (d : Dev) : Dev :=
  if g ≠ 0 && d.get pTRIG TRIG.TRIG_CFG_ARM_GRP = g then d.acqArm else d

/-- A broadcast command goes out on a port. -/
def Dev.sendCmd (up : Bool) (w : Word) (d : Dev) : Dev := d.sendOn up (d.frameOf 5 true w 0 0 0 [])

/-- A write of SYS.CMD_OUT. -/
def Dev.cmdOut (w : Word) (d : Dev) : Dev :=
  if bitsGet w 31 24 = 3 then ((d.sendCmd true w).sendCmd false w).armGroup (bitsGet w 2 0)
  else (d.raise pSYS SYS.IRQ_RAW_REFUSED).put pSYS SYS.FAULT_CODE_CAUSE 2

/-! ## Streaming (R305, R421) -/

/-- The STREAM fragments of a block from byte offset `o` on: payloads of up to 64 words. -/
def Dev.fragments (no : Nat) : Nat → Nat → List Word → Dev → List ChainFrame
  | 0, _, _, _ => []
  | k + 1, o, ws, d =>
    let last := decide (ws.length ≤ 64)
    let f := d.frameOf 0xA false (BitVec.ofNat 32 (last.toNat * 2 ^ 31 + no % 32768 * 2 ^ 16 + o)) (min 64 ws.length) 0 0 (ws.take 64)
    if last then [f] else f :: Dev.fragments no k (o + 256) (ws.drop 64) d

/-- STREAM_BLOCK: one block of stored samples waits at the upstream port, as STREAM_MBPS allows (R305). -/
def Dev.streamBlock (m : List Host.Cell) (t : Nat) (d : Dev) : Dev :=
  match d.acq.unread with
  | [] => d
  | (i, k) :: _ =>
    if d.acq.st = .stream && decide (d.mp.shed = 0) && decide (d.acq.nextBlock ≤ t) then
      let n := blockLen k 64 d.acq.unread
      let c := d.acqCh
      let words := (List.range n).flatMap (fun j =>
        let a := 0x20000000 + (d.acq.readPos + j) % d.streamCap * (4 * c)
        (List.range c).map (fun x => d.word m (a + 4 * x)))
      let block := [BitVec.ofNat 32 i, BitVec.ofNat 32 (k + 8 * d.acq.drop.toNat)] ++ words
      let fs := d.fragments d.acq.blockNo 17 0 block
      let d := { d with acq := { d.acq with
        unread := d.acq.unread.drop n, readPos := (d.acq.readPos + n) % d.streamCap, drop := false, block := block,
        blockNo := (d.acq.blockNo + 1) % 32768,
        nextBlock := t + block.length * 32 * 12800 / max 1 (d.get pACQ ACQ.STREAM_MBPS_MBPS) } }
      d.each (fun f d => d.sendOn true f) fs
    else d

/-! ## Interrupts (R425) -/

/-- The page requests an interrupt; the SYS page also with PSI_IRQ_RAW (R231). -/
def Dev.pageIrq (p : Nat) (d : Dev) : Bool :=
  pageMapped p && (decide (d.reg (p * 0x1000 + 0x10) &&& d.reg (p * 0x1000 + 0x14) ≠ 0) ||
    (decide (p = pSYS) && decide (d.reg 0x208 &&& d.reg 0x20C ≠ 0)))

/-- The OR of all requests. -/
def Dev.irqOr (d : Dev) : Bool := (List.range 0xB1).any (fun p => d.pageIrq p)

/-- A word of PAGE_IRQ (R432). -/
def Dev.pageIrqWord (w : Nat) (d : Dev) : Word :=
  BitVec.ofNat 32 ((List.range 32).foldl (fun a k => if d.pageIrq (32 * w + k) then a + 2 ^ k else a) 0)

/-- EVENT_IRQ: MP and the host learn of the requests. -/
def Dev.irqEval (t : Nat) (d : Dev) : Dev :=
  let now := d.irqOr
  let c := d.chain
  let send := now && d.flag pSYS SYS.IRQ_ROUTE_HOST && c.irqSent.all (fun a => decide (a + usTaps 100 ≤ t) || !c.irqOr)
  let d := { d with chain := { c with irqOr := now, mpIrq := now && d.flag pSYS SYS.IRQ_ROUTE_MP,
                                      irqSent := if send then some t else c.irqSent } }
  if send then d.event 4 d.position 0 0 else d

end Sys2Proof.Machine
end

