-- ==== Sys2Proof/Machine/Clock.lean ====
section
/-!
DEFINITION. Timebase and clock synthesis: PLL, bypass, clock outputs (R433 to R443).
-/
namespace Sys2Proof.Machine

def Dev.setPll (p : Pll) (d : Dev) : Dev :=
  ({ d with boot := { d.boot with pll := p } }).put pCLK CLK.STATUS_PLL_STATE p.st

/-- The PLL is not locked. -/
def Dev.unlock (d : Dev) : Dev := d.put pCLK CLK.STATUS_LOCKED 0

/-- A declared entry to bypass; nothing where the timebase already runs in bypass. -/
def Dev.bypassDeclare (act : Bool) (d : Dev) : Dev :=
  if d.boot.bypass || d.boot.bypassDue.isSome then d else { d with boot := { d.boot with bypassDue := some act } }

/-- The first valid band entry from i on (R434). -/
def Dev.nextBand (i : Nat) (d : Dev) : Option Nat :=
  (List.range 16).find? (fun k => decide (i ≤ k) && d.flagAt pCLK CLK.BAND_VALID k)

/-- No entry qualifies (R434). -/
def Dev.searchFail (t : Nat) (d : Dev) : Dev :=
  let d := (d.raise pCLK CLK.IRQ_RAW_SEARCH_FAIL).put pCLK CLK.FAULT_CODE_CAUSE 4
  d.setPll { d.boot.pll with st := 1, failedAt := some t }

/-- A band search begins (R434). -/
def Dev.startSearch (t : Nat) (d : Dev) : Dev :=
  let d := d.unlock
  match d.nextBand 0 with
  | some k => d.setPll ⟨1, k, none, false, 0, none⟩
  | none => d.searchFail t

/-- PLL_ENABLE (R434). -/
def Dev.pllEnable (t : Nat) (d : Dev) : Dev :=
  if d.flag pCLK CLK.CTRL_PLL_EN then d else (d.put pCLK CLK.CTRL_PLL_EN 1).startSearch t

/-- PLL_DISABLE: bypass without an action (R436). -/
def Dev.pllDisable (d : Dev) : Dev :=
  let d := (d.put pCLK CLK.CTRL_PLL_EN 0).unlock
  (d.setPll .reset).bypassDeclare false

/-- RESEARCH (R434); from the locked state it enters bypass as R439 states. -/
def Dev.research (t : Nat) (d : Dev) : Dev :=
  if d.flag pCLK CLK.CTRL_PLL_EN then (d.startSearch t).bypassDeclare true else d

/-- |count - 16,384| ≤ tol. -/
def countWithin (count tol : Nat) : Bool := decide (((count : Int) - 16384).natAbs ≤ tol)

/-- BAND_WINDOW (R434). -/
def Dev.bandWindow (count t : Nat) (d : Dev) : Dev :=
  let p := d.boot.pll
  if p.st = 1 && p.failedAt.isNone then
    let d := (d.put pCLK CLK.FB_COUNT_COUNT count).put pCLK CLK.FB_COUNT_BAND p.band
    if countWithin count (d.get pCLK CLK.BAND_TOL_COUNTS) then d.setPll { p with st := 2, opened := false, good := 0 }
    else match d.nextBand (p.band + 1) with
      | some k => d.setPll { p with band := k }
      | none => d.searchFail t
  else d

/-- SEARCH_RETRY: 10 ms after a failed search (R434). -/
def Dev.searchRetry (t : Nat) (d : Dev) : Dev :=
  if d.flag pCLK CLK.CTRL_PLL_EN && decide (d.boot.pll.st = 1) &&
      d.boot.pll.failedAt.any (fun a => decide (a + usTaps 10000 ≤ t)) then
    d.startSearch t
  else d

/-- Lock is lost with a cause; the search restarts at once (R436). -/
def Dev.pllLost (cause t : Nat) (d : Dev) : Dev :=
  let d := (d.raise pCLK CLK.IRQ_RAW_LOCK_LOST).put pCLK CLK.FAULT_CODE_CAUSE cause
  (d.startSearch t).bypassDeclare true

/-- PLL_WINDOW (R435, R436). -/
def Dev.pllWindow (count t : Nat) (d : Dev) : Dev :=
  let p := d.boot.pll
  if p.st = 2 then
    let d := d.put pCLK CLK.FB_COUNT_COUNT count
    if !p.opened then d.setPll { p with opened := true }
    else if countWithin count (d.get pCLK CLK.LOCK_CFG_LOCK_TOL) then
      if max 1 (d.get pCLK CLK.LOCK_CFG_LOCK_N) ≤ p.good + 1 then
        let d := (d.put pCLK CLK.STATUS_LOCKED 1).put pCLK CLK.STATUS_EVER_LOCKED 1
        (d.raise pCLK CLK.IRQ_RAW_LOCK_GAINED).setPll { p with st := 3, good := p.good + 1, lockedAt := some t }
      else d.setPll { p with good := p.good + 1 }
    else d.setPll { p with good := 0 }
  else if p.st = 3 then
    let d := d.put pCLK CLK.FB_COUNT_COUNT count
    if countWithin count (d.get pCLK CLK.LOCK_CFG_UNLOCK_TOL) then d else d.pllLost 1 t
  else d

/-- VCO_STOPPED (R436). -/
def Dev.vcoStopped (t : Nat) (d : Dev) : Dev := if d.boot.pll.st = 2 || d.boot.pll.st = 3 then d.pllLost 2 t else d

/-- REF_LOST (R436, R437, R442): the PLL waits for the reference. -/
def Dev.refLost (d : Dev) : Dev :=
  if d.boot.refOk || d.boot.pll.st ≠ 0 then
    let d := ({ d with boot := { d.boot with refOk := false } }).put pCLK CLK.STATUS_REF_OK 0
    let d := (d.raise pCLK CLK.IRQ_RAW_REF_LOST).put pCLK CLK.FAULT_CODE_CAUSE 3
    let d := d.unlock.setPll .reset
    if d.boot.bypass then ({ d with boot := { d.boot with bypassOsc := true } }).put pCLK CLK.STATUS_BYP_SRC 1
    else d.bypassDeclare true
  else d

/-- The last 16 windows of 1,024 reference cycles each hold 2,048 ± 102 periods of the internal oscillator (R436). -/
def refGood (counts : List (BitVec 16)) : Bool :=
  decide (16 ≤ counts.length) &&
    (counts.drop (counts.length - 16)).all (fun c => decide (1946 ≤ c.toNat) && decide (c.toNat ≤ 2150))

/-- REF_BACK (R436): the counts of the windows. -/
def Dev.refBack (counts : List (BitVec 16)) (t : Nat) (d : Dev) : Dev :=
  if d.boot.refOk || !refGood counts then d
  else
    let d := ({ d with boot := { d.boot with refOk := true } }).put pCLK CLK.STATUS_REF_OK 1
    let d := d.raise pCLK CLK.IRQ_RAW_REF_BACK
    let d := if d.boot.bypass then
        ({ d with boot := { d.boot with bypassOsc := false } }).put pCLK CLK.STATUS_BYP_SRC 0
      else d
    if d.flag pCLK CLK.CTRL_PLL_EN && decide (d.boot.pll.st = 0) then d.startSearch t else d

/-- The action of R439 at an entry to bypass from the locked state. -/
def Dev.bypassAction (t : Nat) (d : Dev) : Dev :=
  if d.flag pCLK CLK.CLK_CFG_BYPASS_ACTION then d
  else if d.running then { d with boot := { d.boot with stopDue := true, holdDue := true } }
  else ({ d with boot := { d.boot with hold := true } }).settle t

/-- BYPASS_ENTRY: the timebase switches (R437, R439; R195, R244, R383, R402). -/
def Dev.bypassEntry (t : Nat) (d : Dev) : Dev :=
  match d.boot.bypassDue with
  | none => d
  | some act =>
    let d := { d with boot := { d.boot with bypassDue := none, bypass := true, bypassOsc := !d.boot.refOk, bypassAt := t },
                      pw := { d.pw with tapsValid := false, calBusy := false } }
    let d := (d.put pCLK CLK.STATUS_BYPASS 1).putFlag pCLK CLK.STATUS_BYP_SRC d.boot.bypassOsc
    let d := (d.raise pCLK CLK.IRQ_RAW_BYPASS_ENTER).count pCLK CLK.BYP_STAT_ENTRIES
    let d := ((d.sdResetAll t).busOffline t).ownRate false
    if act then d.bypassAction t else d

/-- BYPASS_RETURN: RETURN_MS of unbroken lock (R438). -/
def Dev.bypassReturn (t : Nat) (d : Dev) : Dev :=
  let ms := max 1 (d.get pCLK CLK.CLK_CFG_RETURN_MS)
  if d.boot.bypass && decide (d.boot.pll.st = 3) && d.boot.pll.lockedAt.any (fun a => decide (a + ms * 12800000 ≤ t)) then
    let d := { d with boot := { d.boot with bypass := false, bypassOsc := false, hold := false, holdDue := false, stopDue := false } }
    let d := (d.put pCLK CLK.STATUS_BYPASS 0).put pCLK CLK.STATUS_BYP_SRC 0
    let d := d.put pCLK CLK.BYP_STAT_LAST_MS (min 65535 ((t - d.boot.bypassAt) / 12800000))
    let d := ((d.raise pCLK CLK.IRQ_RAW_BYPASS_EXIT).calStart).sdResetAll t
    ((d.busOnline t).ownRate true).settle t
  else d

/-! ## Clock outputs (R440, R441) -/

def Dev.tbOut (k : Nat) (d : Dev) : TbOut := d.boot.tb.toArray.getD k .reset
def Dev.setTbOut (k : Nat) (x : TbOut) (d : Dev) : Dev := { d with boot := { d.boot with tb := d.boot.tb.setIfInBounds k x } }

/-- The period of output k and the offset of its edges, in taps. -/
def Dev.tbPeriod (k : Nat) (d : Dev) : Nat := max 4 (d.getAt pCLK CLK.TB_DIV_DIV k) * 32
def Dev.tbDelay (k : Nat) (d : Dev) : Nat := d.getAt pCLK CLK.TB_DLY_DLY k

/-- The first rising edge of output k at or after `a` (R440). -/
def Dev.tbEdge (k a : Nat) (d : Dev) : Nat :=
  let p := d.tbPeriod k
  let y := d.tbDelay k
  if a ≤ y then y - (y - a) / p * p else y + (a - y + p - 1) / p * p

/-- The high phase of output k whose computed rising edge is at `e`: from one pin edge to the next, each rounded as R195 says
(R440; no rounding but in bypass, where the phase may vanish). -/
def Dev.tbPhase (k e : Nat) (d : Dev) : Nat × Nat :=
  let r := if d.boot.bypass then d.edgeRes else 1
  ((e + r - 1) / r * r, (e + d.tbPeriod k / 32 / 2 * 32) / r * r)

/-- The high phase output k is in at t, if it is in one. -/
def Dev.tbHigh (k t : Nat) (d : Dev) : Option (Nat × Nat) :=
  (d.tbOut k).startAt.bind (fun s =>
    if s ≤ t then
      let h := d.tbPhase k (s + (t - s) / d.tbPeriod k * d.tbPeriod k)
      if h.1 ≤ t && t < h.2 then some h else none
    else none)

/-- The level of the TBCLK pin k at t: low outside the high phases of a running output, low in Gauze, and low from the end of
the phase in which the output was stopped (R440, R441). -/
def Dev.tbLevel (k t : Nat) (d : Dev) : Bool :=
  !d.boot.gauze && (d.tbHigh k t).isSome && (d.tbOut k).stopAt.all (fun a => decide (t < a))

/-- Link-class output k runs: its source is there, timebase or reference (R441). -/
def Dev.lkRuns (k : Nat) (d : Dev) : Bool :=
  d.flagAt pCLK CLK.LK_CFG_EN k && !d.boot.gauze && d.boot.inReset.isNone &&
    (if d.flagAt pCLK CLK.LK_CFG_SRC k then d.boot.refOk else !d.boot.bypass)

/-- TB_OUT_ENABLE (R440, R239). -/
def Dev.tbEnable (k t : Nat) (d : Dev) : Dev :=
  if d.bit pCLK CLK.TB_EN_EN k then d
  else
    let e := d.tbEdge k (t + tickTaps 40)
    let d := (d.putBit pCLK CLK.TB_EN_EN k true).setTbOut k ⟨some e, none⟩
    d.sdClockOn k e

/-- TB_OUT_DISABLE: the high phase in progress ends (R440). -/
def Dev.tbDisable (k t : Nat) (d : Dev) : Dev :=
  if d.bit pCLK CLK.TB_EN_EN k then
    let fin := ((d.tbHigh k t).map Prod.snd).getD t
    (d.putBit pCLK CLK.TB_EN_EN k false).setTbOut k { d.tbOut k with stopAt := some fin }
  else d

/-- A write of TB_EN. -/
def Dev.tbEnWrite (w : Word) (t : Nat) (d : Dev) : Dev :=
  d.each (fun k d => if w.getLsbD k then d.tbEnable k t else d.tbDisable k t) (List.range 8)

/-- A write that R440 to R442 ignore. -/
def Dev.clkIgnored (cause out : Nat) (d : Dev) : Dev :=
  ((d.raise pCLK CLK.IRQ_RAW_WRITE_IGNORED).put pCLK CLK.FAULT_CODE_CAUSE cause).put pCLK CLK.FAULT_CODE_OUTPUT out

/-- A write of TB_DIVk. -/
def Dev.tbDivWrite (k : Nat) (w : Word) (d : Dev) : Dev :=
  if bitsGet w 15 0 < 4 then d.clkIgnored 7 k
  else if d.bit pCLK CLK.TB_EN_EN k then d.clkIgnored 5 k
  else d.putAt pCLK CLK.TB_DIV_DIV k w.toNat

/-- A write of TB_DLYk. -/
def Dev.tbDlyWrite (k : Nat) (w : Word) (d : Dev) : Dev :=
  if d.bit pCLK CLK.TB_EN_EN k then d.clkIgnored 5 k else d.putAt pCLK CLK.TB_DLY_DLY k w.toNat

/-- A write of LK_CFGk (R440 to R442). -/
def Dev.lkWrite (k : Nat) (w : Word) (d : Dev) : Dev :=
  let old := d.wordAt pCLK CLK.LK_CFG_DIV k
  if bitsGet w 1 1 = 0 && bitsGet w 15 8 < 2 then d.clkIgnored 7 (8 + k)
  else if bitsGet w 5 4 = 3 then d.clkIgnored 6 (8 + k)
  else if d.flagAt pCLK CLK.LK_CFG_EN k then
    let d := if bitsGet w 31 1 = bitsGet old 31 1 then d else d.clkIgnored 5 (8 + k)
    d.putAt pCLK CLK.LK_CFG_EN k (bitsGet w 0 0)
  else d.setReg (CLK.LK_CFG_DIV.addr pCLK k) w

/-- A write of CLK_CFG: REF_SEL only while PLL_EN = 0 (R442, R444). -/
def Dev.clkCfgWrite (w : Word) (d : Dev) : Dev :=
  let sel := d.get pCLK CLK.CLK_CFG_REF_SEL
  let d := (d.put pCLK CLK.CLK_CFG_RETURN_MS (bitsGet w 15 8)).put pCLK CLK.CLK_CFG_BYPASS_ACTION (bitsGet w 1 1)
  if d.flag pCLK CLK.CTRL_PLL_EN && decide (bitsGet w 0 0 ≠ sel) then d.clkIgnored 5 0
  else d.put pCLK CLK.CLK_CFG_REF_SEL (bitsGet w 0 0)

/-- A write of CLK.CTRL. -/
def Dev.clkCtrlWrite (w : Word) (t : Nat) (d : Dev) : Dev :=
  let d := if w.getLsbD 0 then d.pllEnable t else if d.flag pCLK CLK.CTRL_PLL_EN then d.pllDisable else d
  if w.getLsbD 1 then d.research t else d

/-! ## The commands -/

/-- PLL_ENABLE (R434). -/
def execPllEnable (t : Nat) (s : State) : Host.Outcome State Fault Refusal := runReg t (fun _ d => d.pllEnable t) s
/-- PLL_DISABLE (R436). -/
def execPllDisable (t : Nat) (s : State) : Host.Outcome State Fault Refusal := runReg t (fun _ d => d.pllDisable) s
/-- RESEARCH (R434). -/
def execResearch (t : Nat) (s : State) : Host.Outcome State Fault Refusal := runReg t (fun _ d => d.research t) s
/-- BAND_WINDOW (R434). -/
def execBandWindow (count : BitVec 16) (t : Nat) (s : State) : Host.Outcome State Fault Refusal :=
  run t (fun _ d => d.bandWindow count.toNat t) s
/-- SEARCH_RETRY (R434). -/
def execSearchRetry (t : Nat) (s : State) : Host.Outcome State Fault Refusal := run t (fun _ d => d.searchRetry t) s
/-- PLL_WINDOW (R435, R436). -/
def execPllWindow (count : BitVec 16) (t : Nat) (s : State) : Host.Outcome State Fault Refusal :=
  run t (fun _ d => d.pllWindow count.toNat t) s
/-- VCO_STOPPED (R436). -/
def execVcoStopped (t : Nat) (s : State) : Host.Outcome State Fault Refusal := run t (fun _ d => d.vcoStopped t) s
/-- REF_LOST (R436). -/
def execRefLost (t : Nat) (s : State) : Host.Outcome State Fault Refusal := run t (fun _ d => d.refLost) s
/-- REF_BACK (R436): the internal-oscillator counts of the windows since the reference was lost. -/
def execRefBack (counts : List (BitVec 16)) (t : Nat) (s : State) : Host.Outcome State Fault Refusal :=
  run t (fun _ d => d.refBack counts t) s
/-- BYPASS_ENTRY (R437, R439). -/
def execBypassEntry (t : Nat) (s : State) : Host.Outcome State Fault Refusal := run t (fun _ d => d.bypassEntry t) s
/-- BYPASS_RETURN (R438). -/
def execBypassReturn (t : Nat) (s : State) : Host.Outcome State Fault Refusal := run t (fun _ d => d.bypassReturn t) s
/-- TB_OUT_ENABLE (R440). -/
def execTbOutEnable (k : Fin 8) (t : Nat) (s : State) : Host.Outcome State Fault Refusal :=
  runReg t (fun _ d => d.tbEnable k.val t) s
/-- TB_OUT_DISABLE (R440). -/
def execTbOutDisable (k : Fin 8) (t : Nat) (s : State) : Host.Outcome State Fault Refusal :=
  runReg t (fun _ d => d.tbDisable k.val t) s

end Sys2Proof.Machine
end

