-- ==== Sys2Proof/Machine/Crypto.lean ====
section
/-!
DEFINITION. SHA-256 and ECDSA over P-256, which R21 and R463 name without defining: PRESUMED, from FIPS 180-4 and FIPS 186-4
(log entry 40).
-/
namespace Sys2Proof.Machine

/-! ## SHA-256 -/

/-- The 64 round constants of FIPS 180-4. -/
def shaK : List Word :=
  [0x428a2f98, 0x71374491, 0xb5c0fbcf, 0xe9b5dba5, 0x3956c25b, 0x59f111f1, 0x923f82a4, 0xab1c5ed5,
   0xd807aa98, 0x12835b01, 0x243185be, 0x550c7dc3, 0x72be5d74, 0x80deb1fe, 0x9bdc06a7, 0xc19bf174] ++
  [0xe49b69c1, 0xefbe4786, 0x0fc19dc6, 0x240ca1cc, 0x2de92c6f, 0x4a7484aa, 0x5cb0a9dc, 0x76f988da,
   0x983e5152, 0xa831c66d, 0xb00327c8, 0xbf597fc7, 0xc6e00bf3, 0xd5a79147, 0x06ca6351, 0x14292967] ++
  [0x27b70a85, 0x2e1b2138, 0x4d2c6dfc, 0x53380d13, 0x650a7354, 0x766a0abb, 0x81c2c92e, 0x92722c85,
   0xa2bfe8a1, 0xa81a664b, 0xc24b8b70, 0xc76c51a3, 0xd192e819, 0xd6990624, 0xf40e3585, 0x106aa070] ++
  [0x19a4c116, 0x1e376c08, 0x2748774c, 0x34b0bcb5, 0x391c0cb3, 0x4ed8aa4a, 0x5b9cca4f, 0x682e6ff3,
   0x748f82ee, 0x78a5636f, 0x84c87814, 0x8cc70208, 0x90befffa, 0xa4506ceb, 0xbef9a3f7, 0xc67178f2]

/-- The initial hash value of FIPS 180-4. -/
def shaInit : List Word :=
  [0x6a09e667, 0xbb67ae85, 0x3c6ef372, 0xa54ff53a, 0x510e527f, 0x9b05688c, 0x1f83d9ab, 0x5be0cd19]

def shaRot (x : Word) (n : Nat) : Word := x.rotateRight n
def shaS0 (x : Word) : Word := shaRot x 2 ^^^ shaRot x 13 ^^^ shaRot x 22
def shaS1 (x : Word) : Word := shaRot x 6 ^^^ shaRot x 11 ^^^ shaRot x 25
def shaT0 (x : Word) : Word := shaRot x 7 ^^^ shaRot x 18 ^^^ x >>> 3
def shaT1 (x : Word) : Word := shaRot x 17 ^^^ shaRot x 19 ^^^ x >>> 10

/-- k further words of the message schedule; `w` holds the last sixteen, oldest first. -/
def shaSchedule : Nat → List Word → List Word
  | 0, _ => []
  | k + 1, w =>
    let x := shaT1 (w.getD 14 0) + w.getD 9 0 + shaT0 (w.getD 1 0) + w.getD 0 0
    x :: shaSchedule k (w.drop 1 ++ [x])

/-- One round on the eight working words a to h. -/
def shaRound (v : List Word) (kw : Word × Word) : List Word :=
  match v with
  | [a, b, c, d, e, f, g, h] =>
    let t := h + shaS1 e + ((e &&& f) ^^^ (~~~e &&& g)) + kw.1 + kw.2
    [t + shaS0 a + ((a &&& b) ^^^ (a &&& c) ^^^ (b &&& c)), a, b, c, d + t, e, f, g]
  | _ => v

/-- One block of sixteen words. -/
def shaBlock (h w : List Word) : List Word :=
  ((h.zip ((shaK.zip (w ++ shaSchedule 48 w)).foldl shaRound h))).map (fun p => p.1 + p.2)

/-- A number as n bytes, most significant first, and back. -/
def bytesBE : Nat → Nat → List Byte
  | 0, _ => []
  | n + 1, x => BitVec.ofNat 8 (x / 256 ^ n) :: bytesBE n x
def natBE (bs : List Byte) : Nat := bs.foldl (fun a b => a * 256 + b.toNat) 0

/-- The message with its padding and its length in bits. -/
def shaPad (bs : List Byte) : List Byte :=
  bs ++ [0x80] ++ List.replicate ((119 - bs.length % 64) % 64) 0 ++ bytesBE 8 (8 * bs.length)

/-- The first k blocks of a padded message. -/
def shaBlocks : Nat → List Byte → List Word → List Word
  | 0, _, h => h
  | k + 1, bs, h =>
    shaBlocks k (bs.drop 64) (shaBlock h ((List.range 16).map (fun j => BitVec.ofNat 32 (natBE ((bs.drop (4 * j)).take 4)))))

/-- SHA-256: eight words, the first first. -/
def sha256 (bs : List Byte) : List Word := let m := shaPad bs; shaBlocks (m.length / 64) m shaInit

/-! ## P-256 -/

def p256P : Nat := 0xffffffff00000001000000000000000000000000ffffffffffffffffffffffff
def p256N : Nat := 0xffffffff00000000ffffffffffffffffbce6faada7179e84f3b9cac2fc632551
def p256B : Nat := 0x5ac635d8aa3a93e7b3ebbd55769886bc651d06b0cc53b0f63bce3c3e27d2604b
def p256Gx : Nat := 0x6b17d1f2e12c4247f8bce6e563a440f277037d812deb33a0f4a13945d898c296
def p256Gy : Nat := 0x4fe342e2fe1a7f9b8ee7eb4a7c0f9e162bce33576b315ececbb6406837bf51f5

/-- a to the power e modulo m: the k low bits of e. -/
def powMod (m : Nat) : Nat → Nat → Nat → Nat
  | 0, _, _ => 1
  | k + 1, a, e => let r := powMod m k (a * a % m) (e / 2); if e % 2 = 1 then a * r % m else r

/-- The inverse modulo a prime m of 256 bits. -/
def invMod (m a : Nat) : Nat := powMod m 256 (a % m) (m - 2)

/-- a - b modulo p, both below p. -/
def p256Sub (a b : Nat) : Nat := (a + p256P - b) % p256P

/-- A point in Jacobian coordinates; z = 0 is the point at infinity. -/
structure P256 where
  x : Nat
  y : Nat
  z : Nat
  deriving DecidableEq, Repr

def P256.double (a : P256) : P256 :=
  let p := p256P
  let d := a.z * a.z % p
  let g := a.y * a.y % p
  let b := a.x * g % p
  let e := 3 * (p256Sub a.x d * ((a.x + d) % p)) % p
  let x := p256Sub (e * e % p) (8 * b % p)
  ⟨x, p256Sub (e * p256Sub (4 * b % p) x % p) (8 * (g * g) % p), 2 * (a.y * a.z) % p⟩

def P256.add (a b : P256) : P256 :=
  if a.z = 0 then b
  else if b.z = 0 then a
  else
    let p := p256P
    let za := a.z * a.z % p
    let zb := b.z * b.z % p
    let u := a.x * zb % p
    let v := a.y * b.z % p * zb % p
    let h := p256Sub (b.x * za % p) u
    let r := p256Sub (b.y * a.z % p * za % p) v
    if h = 0 then (if r = 0 then a.double else ⟨1, 1, 0⟩)
    else
      let hh := h * h % p
      let hhh := h * hh % p
      let w := u * hh % p
      let x := p256Sub (p256Sub (r * r % p) hhh) (2 * w % p)
      ⟨x, p256Sub (r * p256Sub w x % p) (v * hhh % p), h * (a.z * b.z % p) % p⟩

/-- k times a point, k of 256 bits. -/
def P256.mul (k : Nat) (a : P256) : P256 :=
  (List.range 256).foldl (fun r i => let r := r.double; if k.testBit (255 - i) then r.add a else r) ⟨1, 1, 0⟩

/-- A point of the curve other than infinity. -/
def p256On (x y : Nat) : Bool :=
  decide (x < p256P) && decide (y < p256P) && decide (y * y % p256P = (x * x * x + (p256P - 3) * x + p256B) % p256P)

/-- The signature r, s, is valid under the key for the hash. -/
def ecdsaValid (x y r s hash : Nat) : Bool :=
  let n := p256N
  let w := invMod n s
  let q := (P256.mul (hash * w % n) ⟨p256Gx, p256Gy, 1⟩).add (P256.mul (r * w % n) ⟨x, y, 1⟩)
  p256On x y && decide (1 ≤ r) && decide (r < n) && decide (1 ≤ s) && decide (s < n) && decide (q.z ≠ 0) &&
    decide (q.x * invMod p256P (q.z * q.z) % p256P % n = r)

/-- A key of X then Y and a signature of r then s, each 32 bytes big-endian (R462), over a SHA-256 hash. -/
def ecdsaOk (key sig : List Byte) (hash : List Word) : Bool :=
  ecdsaValid (natBE (key.take 32)) (natBE (key.drop 32)) (natBE (sig.take 32)) (natBE (sig.drop 32))
    (hash.foldl (fun a w => a * 2 ^ 32 + w.toNat) 0)

end Sys2Proof.Machine
end

