-- ==== Sys2Proof/Machine/Power.lean ====
section
/-!
DEFINITION. Supplies, core resets and what survives them, the watchdog, IDLE, Gauze, images and the boot registers (R445 to
R459, R462, R463, R466 to R469, R472).
-/
namespace Sys2Proof.Machine

/-! ## What survives (R452) -/

/-- Registers that a core reset of the kind leaves alone. OTP fuses survive all; the SAFE page, the ledger's counters and SEAL
configuration, boot attempts and history survive all but POR; the chain page and the plant address also PIN and WDOG. -/
def regKept (k : ResetKind) (a : Nat) : Bool :=
  let p := a / 0x1000
  let o := a % 0x1000
  let fuse := decide (p = pBOOT) && (decide (o = 0x50) || (decide (0x60 ≤ o) && decide (o < 0x80)))
  let retain := decide (p = pSAFE) || (decide (p = pLEDGER) && decide (0x40 ≤ o)) ||
    (decide (p = pBOOT) && (decide (o = 0x24) || decide (o = 0x40) || decide (o = 0x44) || decide (o = 0x54))) ||
    (decide (p = pRST) && (decide (o = 0x40) || decide (o = 0x44))) || (decide (p = pSYS) && decide (o = 0x6C))
  let place := decide (p = pCHAIN) || (decide (p = pSYS) && decide (o = 0x44)) || (decide (p = pPBUS) && decide (o = 0x80))
  match k with
  | .por => fuse
  | .bor | .chain => fuse || retain
  | .pin | .wdog => fuse || retain || place

/-- The class of memory contents that a core reset loses. -/
def wipeOf : ResetKind → Nat
  | .por | .bor => 1
  | .pin | .chain | .wdog => 2

/-- The ledger's own state survives all but POR; windows, converters and rings do not. -/
def Prec.survive (p : Prec) : Prec :=
  { Prec.reset with count := p.count, capHi := p.capHi, resDis := p.resDis, resChg := p.resChg, lifePrior := p.lifePrior,
                    lifeAt := p.lifeAt, plausAt := p.plausAt, plausBase := p.plausBase, tamper := p.tamper,
                    tamperLogged := p.tamperLogged, log := p.log, logLow := p.logLow }

/-- A slot that was being programmed is left with unknown contents (R475). -/
def Dev.slotLost (d : Dev) : Dev :=
  match d.boot.dlProg with
  | none => d
  | some k =>
    let bs := Config.slotOpen d.free
    let b := if k = 0 then { d.boot with slotA := bs } else { d.boot with slotB := bs }
    { d with boot := b, free := d.free + 1 }

/-- What of clocks, power and boot survives a core reset: supplies, flash, the image an attempt has loaded, which the history
records. -/
def Boot.survive (b : Boot) : Boot :=
  { Boot.reset with low := b.low, slotA := b.slotA, slotB := b.slotB, loaded := b.loaded, romDue := false }

/-- Every page's lock closes (R427). -/
def Dev.closeLocks (t : Nat) (d : Dev) : Dev :=
  let d := if d.lockOpen pSAFE then d.safeClose t else d
  let d := { d with arms := [] }
  d.each (fun p d => if pageMapped p && p ≠ pSAFE then d.closeLock p else d) (List.range 0xB1)

/-- The core parts at their reset values, registers and memories as R452 keeps them. -/
def Dev.coreReset (k : ResetKind) (d : Dev) : Dev :=
  let d := d.slotLost.wiped (wipeOf k)
  let por := decide (k = .por)
  let chainLost := por || decide (k = .bor) || decide (k = .chain)
  { d with
    regs := d.regs.filter (fun e => regKept k e.1), arms := [], latches := [], regRounds := 0, triad := .reset,
    eng := engReset, mp := .reset, pw := .reset, sense := .reset, felt := .reset, acq := .reset,
    prec := if por then .reset else d.prec.survive, safe := if por then .reset else d.safe, bus := .reset,
    chain := if chainLost then .reset else d.chain, boot := d.boot.survive }

/-- The bits of COUNTS and KIND_SEEN (R478). -/
def Dev.kindSeen (k : ResetKind) (d : Dev) : Dev :=
  let d := d.putBit pRST RST.KIND_SEEN_KINDS k.code true
  match k with
  | .por => d
  | .bor => d.count pRST RST.COUNTS_BOR
  | .pin => d.count pRST RST.COUNTS_PIN
  | .chain => d.count pRST RST.COUNTS_CHAIN
  | .wdog => d.count pRST RST.COUNTS_WDOG

/-- STATUS of the ledger shows what its retention domain holds (R328, R329). -/
def Dev.ledgerKept (d : Dev) : Dev := d.tamperShow.putFlag pLEDGER LEDGER.STATUS_LOG_FULL (decide (256 ≤ d.logUsed))

/-- A core reset is asserted (R447, R448, R339, R340): POR over all, BOR over the others. -/
def Dev.assertReset (k : ResetKind) (t : Nat) (d : Dev) : Dev :=
  let blocked := match d.boot.inReset, k with
    | none, _ => false
    | some _, .por => false
    | some .por, _ => true
    | some .bor, _ => true
    | some _, .bor => false
    | some _, _ => true
  if blocked then d
  else
    let d := if d.lockOpen pSAFE then d.safeClose t else d
    let d := (d.coreReset k).kindSeen k
    let d := if k = .por then d else d.ledgerKept
    let d := { d with boot := { d.boot with inReset := some k, resetAt := t },
                      safe := { d.safe with coreDown := true, armed := none, halt := false } }
    d.safeStart.safeEval t

/-- Supply k falls below its threshold: 0 VDD, 1 VDDIO18, 2 VDDIO33, 3 VDDA, 4 VDD_SAFE (R445, R448). -/
def Dev.supplyLow (k t : Nat) (d : Dev) : Dev :=
  let d := { d with boot := { d.boot with low := d.boot.low ||| 2 ^ k, returnAt := none } }
  let src := if d.boot.inReset = some .bor then d.get pRST RST.STATUS_BOR_SRC else 0
  let d := d.assertReset (if k = 4 then .por else .bor) t
  let d := { d with boot := { d.boot with returnAt := none } }
  let d := d.put pPWR PWR.STATUS_SUPPLY_OK (15 - d.boot.low % 16)
  if d.boot.inReset = some .bor then d.put pRST RST.STATUS_BOR_SRC (src ||| (if k < 4 then 2 ^ k else 0)) else d

/-- A supply below its threshold since `since` has crossed it after 2 µs (R445). -/
def Dev.supplyFalls (k since t : Nat) (d : Dev) : Dev := if since + usTaps 2 ≤ t then d.supplyLow k t else d

/-- SUPPLY_RETURN (R445): the release time starts once every supply has returned. -/
def Dev.supplyReturn (k t : Nat) (d : Dev) : Dev :=
  if d.boot.low.testBit k then
    let low := d.boot.low - 2 ^ k
    let d := { d with boot := { d.boot with low := low, returnAt := if low = 0 then some t else none } }
    d.put pPWR PWR.STATUS_SUPPLY_OK (15 - low % 16)
  else d

/-- PIN: RST_N has been low for `low` taps (R448): under 1 us never a reset, from 10 us always; between them open. -/
def Dev.pinReset (low t : Nat) (d : Dev) : Dev :=
  if low < usTaps 1 then d
  else if usTaps 10 ≤ low then d.assertReset .pin t
  else
    let r := d.drawBool
    if r.1 then r.2.assertReset .pin t else r.2

/-- RST_N_RELEASE. -/
def Dev.pinRelease (t : Nat) (d : Dev) : Dev :=
  if d.boot.inReset = some .pin && d.boot.returnAt.isNone then { d with boot := { d.boot with returnAt := some t } } else d

/-- The reset may be released at t (R448). -/
def Dev.releaseDue (t : Nat) (d : Dev) : Bool :=
  match d.boot.inReset with
  | none => d.boot.romDue
  | some .por => decide (d.boot.low = 0) && d.boot.returnAt.any (fun a => decide (a + usTaps 2000 ≤ t))
  | some .bor => decide (d.boot.low = 0) && d.boot.returnAt.any (fun a => decide (a + usTaps 1000 ≤ t))
  | some .pin => d.boot.returnAt.any (fun a => decide (a + usTaps 100 ≤ t))
  | some _ => decide (d.boot.resetAt + usTaps 100 ≤ t)

/-! ## E fixed anew (R433) -/

/-- Instants that survive lie before the new E: they become 0. -/
def Safe.rebase (s : Safe) : Safe :=
  { s with ins := s.ins.map (fun x => { x with agreeSince := x.agreeSince.map (fun _ => 0) }), armed := s.armed.map (fun _ => 0), runFrom := 0,
           oscOkSince := s.oscOkSince.map (fun _ => 0), piDropAt := s.piDropAt.map (fun _ => 0) }

def SdChain.rebase (x : SdChain) : SdChain := { x with latch := x.latch.map (fun l => (l.1, l.2.1, l.2.2.1, none)) }

def ChainPort.rebase (x : ChainPort) : ChainPort := { x with lastTx := 0, lastRx := 0 }

/-- The timebase starts with E at t, on the bypass clock; calibration runs, every chain of the sensing part resets (R168,
R244, R433). -/
def Dev.newEpoch (t : Nat) (d : Dev) : Dev :=
  let c := d.chain
  let d := { d with
    rebase := true, now := 0, sense := d.sense.map SdChain.rebase, mp := { d.mp with hkAt := 0 }, safe := d.safe.rebase,
    chain := { c with up := c.up.rebase, dn := c.dn.rebase, irqSent := c.irqSent.map (fun _ => 0) },
    prec := { d.prec with lifePrior := d.prec.lifePrior + (t - d.prec.lifeAt), lifeAt := 0 },
    boot := { d.boot with bypass := true, bypassOsc := !d.boot.refOk, bypassDue := none, bypassAt := 0, hold := false,
                          holdDue := false, stopDue := false, wdogAt := 0, wdogStop := none } }
  let d := (d.put pCLK CLK.STATUS_BYPASS 1).putFlag pCLK CLK.STATUS_BYP_SRC d.boot.bypassOsc
  (d.put pCLK CLK.STATUS_EVER_LOCKED 0).calStart.sdResetAll 0

/-! ## Watchdog (R451) -/

/-- The watchdog counts: MP runs firmware, no halt, no Gauze, no reset. -/
def Dev.wdogRuns (d : Dev) : Bool :=
  d.boot.firmware && d.boot.wdogStop.isNone && d.boot.inReset.isNone && !d.boot.gauze

/-- Time since the last service, in taps. -/
def Dev.wdogUsed (t : Nat) (d : Dev) : Nat :=
  if d.boot.firmware then d.boot.wdogStop.getD t - d.boot.wdogAt else 0

def Dev.wdogKick (t : Nat) (d : Dev) : Dev :=
  { d with boot := { d.boot with wdogAt := t, wdogStop := d.boot.wdogStop.map (fun _ => t) } }

def Dev.wdogWarn (t : Nat) (d : Dev) : Dev :=
  if d.wdogRuns && decide (usTaps 8000 ≤ d.wdogUsed t) then d.raise pRST RST.IRQ_RAW_WDOG_WARN else d

def Dev.wdogExpire (t : Nat) (d : Dev) : Dev :=
  if d.wdogRuns && decide (usTaps 10000 ≤ d.wdogUsed t) then d.assertReset .wdog t else d

/-! ## Failed attempts (R466, R467) -/

/-- Record a failed attempt. -/
def Dev.recordFail (cause src off : Nat) (d : Dev) : Dev :=
  let p := pBOOT
  let d := d.put p BOOT.HIST (d.get p BOOT.HIST * 256 + src % 4 * 64 + cause)
  let d := (d.put p BOOT.ATTEMPTS_COUNT (min 3 (d.get p BOOT.ATTEMPTS_COUNT + 1))).put p BOOT.ATTEMPTS_IN_ATTEMPT 0
  (d.put p BOOT.FAULT_CODE_CAUSE cause).put p BOOT.FAULT_CODE_OFFSET off

/-- The ROM or firmware ends a failed attempt with a WDOG reset. -/
def Dev.failAttempt (cause src off t : Nat) (d : Dev) : Dev :=
  ((d.recordFail cause src off).assertReset .wdog t).put pRST RST.STATUS_BOOT_END 1

/-- BOOT.CTRL.RUN_READY from a port (R466). -/
def Dev.runReady (port : Nat) (d : Dev) : Dev :=
  let p := pBOOT
  if port = 0x0F && !d.boot.muslin && !d.flag p BOOT.STATUS_RUN_READY then
    ((d.put p BOOT.ATTEMPTS_COUNT 0).put p BOOT.ATTEMPTS_IN_ATTEMPT 0).put p BOOT.STATUS_RUN_READY 1
  else d

/-- BOOT.CTRL.FAIL (R466). -/
def Dev.bootFail (t : Nat) (d : Dev) : Dev :=
  if d.flag pBOOT BOOT.STATUS_RUN_READY || d.boot.muslin then d else d.failAttempt 6 (d.get pBOOT BOOT.STATUS_SOURCE) 0 t

/-- ROLLBACK_ADV (R468). -/
def Dev.rollbackAdv (d : Dev) : Dev :=
  let p := pBOOT
  let v := d.get p BOOT.SEC_IMG_SEC
  if d.flag p BOOT.STATUS_RUN_READY && decide (d.get p BOOT.SEC_FUSE_CNT < v) && !d.boot.low.testBit 2 && !d.boot.low.testBit 3 then
    { d with boot := { d.boot with burn := some v } }
  else d

/-- ROLLBACK_DONE. -/
def Dev.rollbackDone (d : Dev) : Dev :=
  match d.boot.burn with
  | some v =>
    (({ d with boot := { d.boot with burn := none } }).put pBOOT BOOT.SEC_FUSE_CNT v).raise pBOOT BOOT.IRQ_RAW_ROLLBACK_DONE
  | none => d

/-! ## Images (R462, R463) -/

/-- A word of an image. -/
def imgWord (bs : List Byte) (o : Nat) : Word := wordOf ((bs.drop o).take 4)

/-- A section: type, engine code, target address, data. -/
structure Section where
  typ : Nat
  code : Nat
  addr : Nat
  data : List Byte
  deriving DecidableEq, Repr

/-- The sections of a body; none where a header is invalid. -/
def sections : Nat → List Byte → Option (List Section)
  | 0, _ => none
  | _, [] => some []
  | k + 1, b :: bs =>
    let all := b :: bs
    let w0 := imgWord all 0
    let typ := bitsGet w0 7 0
    let len := (imgWord all 8).toNat
    let size := (len + 15) / 16 * 16
    if (typ = 1 || typ = 2 || typ = 4 || typ = 5) && decide (16 + size ≤ all.length) then
      (sections k (all.drop (16 + size))).map (fun r =>
        ⟨typ, bitsGet w0 15 8, (imgWord all 4).toNat, (all.drop 16).take len⟩ :: r)
    else none

/-- The body of an image, and its sections. -/
def imgBody (bs : List Byte) : List Byte := (bs.drop 256).take (imgWord bs 8).toNat
def imgSections (bs : List Byte) : Option (List Section) := sections ((imgBody bs).length + 1) (imgBody bs)

/-- SEC_VER. -/
def imgSec (bs : List Byte) : Nat := bitsGet (imgWord bs 12) 5 0

/-- The header layout of R462. -/
def imgLayoutOk (bs : List Byte) : Bool :=
  let len := (imgWord bs 8).toNat
  decide (imgWord bs 4 = 0x48160001) && decide (len % 16 = 0) && decide (16 ≤ len) && decide (len ≤ 4194048) &&
    decide (256 + len ≤ bs.length) && (imgSections bs).isSome

/-- The first check of R463 that fails. -/
def imgResult (hash : List Word) (fuse : Nat) (bs : List Byte) : Nat :=
  let key := (bs.drop 0x20).take 64
  if imgWord bs 0 ≠ 0x4E5A5350 then 1
  else if !imgLayoutOk bs then 2
  else if sha256 key ≠ hash then 3
  else if imgSec bs < fuse then 4
  else if ecdsaOk key ((bs.drop 0x60).take 64) (sha256 (bs.take 0x60 ++ imgBody bs)) then 0 else 5

/-- The fused key hash. -/
def Dev.keyHash (d : Dev) : List Word := (List.range 8).map (fun k => d.wordAt pBOOT BOOT.KEY_HASH k)

/-- R463 applied to an image. -/
def Dev.imgCheck (bs : List Byte) (d : Dev) : Nat := imgResult d.keyHash (d.get pBOOT BOOT.SEC_FUSE_CNT) bs

/-- The downloaded image (R469). -/
def Dev.download (m : List Host.Cell) (d : Dev) : List Byte :=
  (List.range (min 4194304 (d.get pBOOT BOOT.DL_LEN_BYTES))).map (fun j => d.byte m (0x20000000 + j))

/-- DL_CHECK; ignored while DL_BUSY = 1 (R469). -/
def Dev.dlCheck (m : List Host.Cell) (d : Dev) : Dev :=
  if d.flag pBOOT BOOT.STATUS_DL_BUSY then d
  else
    let r := d.imgCheck (d.download m)
    let d := { d with boot := { d.boot with dlCheck := some r } }
    (d.put pBOOT BOOT.STATUS_DL_BUSY 1).put pBOOT BOOT.STATUS_DL_GOOD 0

/-- DL_DONE. -/
def Dev.dlDone (d : Dev) : Dev :=
  match d.boot.dlCheck with
  | none => d
  | some r =>
    let d := { d with boot := { d.boot with dlCheck := none } }
    let d := ((d.put pBOOT BOOT.STATUS_DL_BUSY 0).put pBOOT BOOT.SLOT_RES_DL r).raise pBOOT BOOT.IRQ_RAW_DL_DONE
    if r = 0 then d.put pBOOT BOOT.STATUS_DL_GOOD 1 else d.raise pBOOT BOOT.IRQ_RAW_DL_BAD

/-- DL_PROG. -/
def Dev.dlProg (d : Dev) : Dev :=
  if d.flag pBOOT BOOT.STATUS_DL_GOOD && !d.flag pBOOT BOOT.STATUS_DL_BUSY then
    ({ d with boot := { d.boot with dlProg := some (d.get pBOOT BOOT.BOOT_CFG_DL_SLOT) } }).put pBOOT BOOT.STATUS_DL_BUSY 1
  else d

/-- PROG_DONE: the slot holds the image, or the read-back failed. -/
def Dev.progDone (m : List Host.Cell) (ok : Bool) (d : Dev) : Dev :=
  match d.boot.dlProg with
  | none => d
  | some k =>
    let d := if ok then
        let bs := d.download m
        { d with boot := if k = 0 then { d.boot with slotA := bs } else { d.boot with slotB := bs } }
      else d.slotLost
    let d := ({ d with boot := { d.boot with dlProg := none } }).put pBOOT BOOT.STATUS_DL_BUSY 0
    d.raise pBOOT (if ok then BOOT.IRQ_RAW_PROG_DONE else BOOT.IRQ_RAW_PROG_FAIL)

/-! ## IDLE (R454, R455) -/

/-- A write refused on the PWR page. -/
def Dev.pwrRefused (cause : Nat) (d : Dev) : Dev := (d.raise pPWR PWR.IRQ_RAW_REFUSED).put pPWR PWR.FAULT_CODE_CAUSE cause

/-- IDLE. -/
def Dev.idleEnter (t : Nat) (d : Dev) : Dev :=
  if d.boot.idle || d.boot.gauze then d
  else if d.running then d.pwrRefused 1
  else
    let d := (({ d with boot := { d.boot with idle := true } }).put pPWR PWR.CTRL_IDLE 1).put pPWR PWR.STATUS_STATE 1
    (d.raise pPWR PWR.IRQ_RAW_IDLE_ENTRY).settle t

/-- An engine leaves IDLE. -/
def Dev.idleEngine (m : List Host.Cell) (t n : Nat) (d : Dev) : Dev :=
  let e := d.engine n
  let on := d.flag (pENG n) CE.CTRL_RUN
  if !on then (if e.st = .role then d else d.engineStop n t)
  else if e.st = .off then d.engineRun m n
  else if e.st = .wait || e.st = .run then
    let d := (d.cutSample n).loadWindow m n
    let d := d.setEngine n { d.engine n with st := .wait, first := true, releaseDue := !e.legsOff }
    (d.showState n).engineLegsOff n t
  else d

/-- IDLE_EXIT. -/
def Dev.idleLeave (m : List Host.Cell) (t : Nat) (d : Dev) : Dev :=
  if d.boot.idle then
    let d := (({ d with boot := { d.boot with idle := false } }).put pPWR PWR.CTRL_IDLE 0).put pPWR PWR.STATUS_STATE 0
    let d := d.raise pPWR PWR.IRQ_RAW_IDLE_EXIT
    (d.each (fun n d => d.idleEngine m t n) (List.range 12)).settle t
  else d

/-! ## Gauze (R456 to R459) -/

/-- GAUZE. -/
def Dev.gauzeEnter (t : Nat) (d : Dev) : Dev :=
  let st := d.get pPWR PWR.STATUS_STATE
  if d.running then d.pwrRefused 1
  else if st = 2 || st = 4 then d.pwrRefused 2
  else if st = 3 then d
  else
    let d := { d with boot := { d.boot with gauze := true, gauzeAt := t, idle := false, wake := none,
                                            wdogStop := some (d.boot.wdogStop.getD t) },
                      safe := { d.safe with coreDown := true, armed := none } }
    let d := ((d.put pPWR PWR.STATUS_STATE 2).put pPWR PWR.CTRL_IDLE 0).count pPWR PWR.GAUZE_CNT_ENTRIES
    let d := (d.closeLocks t).acqStop t
    let d := if d.flag pPWR PWR.GAUZE_CFG_PC_ON then d else (d.pcStop 0).pcStop 1
    (((d.pbOff t).ownRate false).safeEval t).settle t

/-- An engine stands still in Gauze: a cut without a miss; a control engine is OFF until firmware starts it again. -/
def Dev.gauzeEngine (n : Nat) (d : Dev) : Dev :=
  let d := d.cutSample n
  let e := d.engine n
  let st : EngSt := if 12 ≤ n || e.st = .role then .role else .off
  let d := d.setEngine n (Engine.reset e.role st)
  if n < 12 then ((d.put (pENG n) CE.CTRL_RUN 0).vendorOff n).showState n else d.showState n

/-- The sequencer without engines: IDLE, with the cause of the lost permission (R341). -/
def Dev.gauzeTriad (t : Nat) (d : Dev) : Dev :=
  let st := d.triad.law.seq.st
  let d := if st = .idle then d
    else (d.put pTRANSIT TRANSIT.FAULT_CODE_CAUSE 0xB).put pTRANSIT TRANSIT.FAULT_CODE_STATE_FROM st.code
  let d := d.adopt t .reset
  let x := d.triad
  { d with triad := { Triad.reset with paramSet := x.paramSet, tmRole := x.tmRole, pcRole := x.pcRole } }

/-- Converters in Gauze (R459): with PC_ON the windows go on, and the ledger starts a new Δt; without it they are lost. -/
def Dev.gauzeConv (t : Nat) (d : Dev) : Dev :=
  let p := d.prec
  if d.flag pPWR PWR.GAUZE_CFG_PC_ON then 
    { d with prec := { p with dcEnd := none, winStart := t, pend := none, kind := d.winWanted, transitional := true } }
  else
    { d with prec := { p with conv := Prec.reset.conv, winNo := 0, winStart := 0, kind := .fixed20, transitional := false,
                              pend := none, pcsWait := none, dcV := Prec.reset.dcV, dcEnd := none, feed := [] } }

/-- Felt without core power: no tag, no grant; with PC_ON the path of port 0x15 to bank 12 stays (R457). -/
def Dev.gauzeFelt (d : Dev) : Dev :=
  let f := d.felt
  let on := d.flag pPWR PWR.GAUZE_CFG_PC_ON
  let keeps (a : Nat) : Bool := on && decide (bankOf a = some 12)
  let d := { d with felt := { Felt.reset with issued := f.issued, queue := f.queue.filter (fun w => keeps w.addr && decide (w.port = 0x15)) } }
  let d := d.each (fun k d => d.setTag k (if k / 2 = 0x15 then (f.tags.toArray.getD k none).filter (fun x => keeps x.addr) else none))
    (List.range 48)
  let a := f.arbs.toArray.getD 12 .reset
  let stays := a.owner.any (fun k => (d.tag k).isSome)
  let d := if stays then d.setArb 12 a else d
  d.each (fun b d => if stays && decide (b = 12) then d else d.put (pARB b) ARB.STATUS_OWNER 0xFF) (List.range 16)

/-- Felt at a new E: the instants of what is under way. -/
def Felt.rebase (f : Felt) : Felt :=
  { f with tags := f.tags.map (fun x => x.map (fun (y : Tx) => { y with issuedAt := 0, began := y.began.map (fun _ => 0) })),
           arbs := f.arbs.map (fun a => { a with since := 0 }) }

/-- GAUZE_ENTRY_DONE: the PLL stops and core power is gated (R452, R456, R457). A wake event that has come meanwhile acts now
(R475). -/
def Dev.gauzeDone (t : Nat) (d : Dev) : Dev :=
  if d.get pPWR PWR.STATUS_STATE = 2 then
    let d := d.each (fun n d => d.gauzeEngine n) (List.range 15)
    let d := ((d.gauzeTriad t).gauzeConv t).gauzeFelt
    let d := d.wiped (if d.flag pPWR PWR.GAUZE_CFG_PC_ON then 4 else 3)
    let d := ({ d with sense := d.sense.map (fun (x : SdChain) => { SdChain.reset with latch := x.latch, m := x.m }) }).setAcq .reset
    let d := ((d.put pCLK CLK.CTRL_PLL_EN 0).unlock).setPll .reset
    let d := { d with boot := { d.boot with bypass := true, bypassDue := none } }
    let d := (d.setNt .reset).ntShow
    d.put pPWR PWR.STATUS_STATE (if d.boot.wake.isSome then 4 else 3)
  else d

/-- WAKE_N held low since `since`, which must be 1 ms (R458). -/
def Dev.wakeN (since t : Nat) (d : Dev) : Dev :=
  if d.bit pPWR PWR.GAUZE_CFG_WAKE_EN 0 && decide (since + usTaps 1000 ≤ t) then d.wakeBy 2 else d

/-- The wake timer (R458). -/
def Dev.wakeTimer (t : Nat) (d : Dev) : Dev :=
  let s := d.get pPWR PWR.WAKE_S_SECONDS
  if d.bit pPWR PWR.GAUZE_CFG_WAKE_EN 1 && s ≠ 0 && d.boot.gauze && d.lifeS d.boot.gauzeAt + s ≤ d.lifeS t then d.wakeBy 3
  else d

/-- Instants of a leg at a new E: its periods start at E + Φ + n P (R170). -/
def Leg.rebase (l : Leg) : Leg :=
  { Leg.reset with
    latched := l.latched.map (fun x => { x with at' := 0 }), staleNew := l.staleNew, staleOld := l.staleOld, pairStale := l.pairStale, per := l.per,
    phi := l.phi, len := if l.phi % l.per = 0 then l.per else l.phi % l.per, peakDone := true, duty := l.duty, invert := l.invert, gsHs := l.gsHs, gsLs := l.gsLs, scHiPos := l.scHiPos,
    scHiNeg := l.scHiNeg, scLoPos := l.scLoPos, scLoNeg := l.scLoNeg, engOff := l.engOff }
def TripSrc.rebase (x : TripSrc) : TripSrc := { x with reg := 0 }
def TripLatch.rebase (x : TripLatch) : TripLatch :=
  { x with regAt := 0, sources := x.sources.map TripSrc.rebase, loQuiet := 0, hiQuiet := 0, hsQuiet := 0, lsQuiet := 0,
           bothQuiet := 0 }
def Group.rebase (x : Group) : Group :=
  { x with latched := x.latched.map (fun l => (l.1, l.2.1, 0)), spreadAt := 0, regAt := 0, lastReg := 0,
           sources := x.sources.map TripSrc.rebase }
def DevLatch.rebase (x : DevLatch) : DevLatch :=
  { x with regAt := 0, lastReg := 0, sources := x.sources.map TripSrc.rebase, lossQuiet := 0 }
def BrkPair.rebase (x : BrkPair) : BrkPair := { x with cmdAt := x.cmdAt.map (fun _ => 0), differAt := x.differAt.map (fun _ => 0) }
def PowerStage.rebase (x : PowerStage) : PowerStage :=
  { x with
    legs := x.legs.map Leg.rebase, trips := x.trips.map TripLatch.rebase, groups := x.groups.map Group.rebase,
    dev := x.dev.rebase, brk := x.brk.map BrkPair.rebase,
    rps := { x.rps with goodSince := none, cmdAt := x.rps.cmdAt.map (fun _ => 0) }, seqHold := true }

/-- The converters at a new E (R459). -/
def Dev.wakeConv (d : Dev) : Dev :=
  let p := d.prec
  let d := { d with prec := { p with winStart := 0, pend := none, dcEnd := none, votedAt := 0,
                                     unverAt := p.unverAt.map (fun _ => 0), feedAt := p.feedAt.map (fun _ => 0),
                                     pcsWait := p.pcsWait.map (fun (w : PcsWait) => { w with fin := 0 }) } }
  d.each (fun c d =>
    let x := d.conv c
    d.setConv c { x with refSince := if d.flag (pPC c) PC.CTRL_REF_EN then some 0 else none,
                         ended := x.ended.map (fun (e : Ended) => { e with fin := 0 }),
                         pcs := x.pcs.map (fun (r : PcsResult) => { r with win := { r.win with fin := 0 } }) }) [0, 1]

/-- The counters that Gauze loses (R453). -/
def Dev.countersLost (d : Dev) : Dev :=
  let z (p o : Nat) (d : Dev) : Dev := d.setReg (p * 0x1000 + o) 0
  let d := d.each (fun b d => d.arbClear b) (List.range 16)
  let d := (d.feltClear).put pFELT FELT.SHED_CNT 0
  let d := d.each (fun n d => (z (pENG n) 0x058 (z (pENG n) 0x05C (z (pENG n) 0x068 (z (pENG n) 0x06C d))))) (List.range 15)
  let d := d.each (fun i d => (z (pSDF (i / 8)) (0x058 + i % 8 * 0x20) (z (pSDF (i / 8)) (0x05C + i % 8 * 0x20) d))) (List.range 64)
  z pACQ 0x068 (z pACQ 0x06C d)

/-- GAUZE_EXIT: after a wake event core power returns and the timebase starts with E fixed anew (R340, R452, R458). -/
def Dev.gauzeLeave (t : Nat) (d : Dev) : Dev :=
  if d.boot.gauze && decide (d.get pPWR PWR.STATUS_STATE = 4) && d.boot.wake.isSome then
    let d := d.newEpoch t
    let d := { d with boot := { d.boot with gauze := false, wake := none, gauzeAt := 0 }, pw := d.pw.rebase, felt := d.felt.rebase,
                      safe := { d.safe with coreDown := false } }
    let d := (d.wakeConv.countersLost.busGauzeExit).setNt .reset
    let d := (d.put pPWR PWR.STATUS_STATE 0).raise pPWR PWR.IRQ_RAW_WOKE
    (d.safeStart.safeEval 0).settle 0
  else d

/-! ## The commands -/

/-- POR (R448): since when VDD_SAFE has been below its threshold. -/
def execPor (since t : Nat) (s : State) : Host.Outcome State Fault Refusal := run t (fun _ d => d.supplyFalls 4 since t) s
/-- BOR (R448): supply k, and since when it has been below its threshold. -/
def execBor (k : Fin 4) (since t : Nat) (s : State) : Host.Outcome State Fault Refusal :=
  run t (fun _ d => d.supplyFalls k.val since t) s
/-- PIN (R448): RST_N has been low for `low` taps. -/
def execPin (low t : Nat) (s : State) : Host.Outcome State Fault Refusal := run t (fun _ d => d.pinReset low t) s
/-- SUPPLY_RETURN (R445): supply k, 4 being VDD_SAFE. -/
def execSupplyReturn (k : Fin 5) (t : Nat) (s : State) : Host.Outcome State Fault Refusal :=
  run t (fun _ d => d.supplyReturn k.val t) s
/-- RST_N_RELEASE (R448). -/
def execRstNRelease (t : Nat) (s : State) : Host.Outcome State Fault Refusal := run t (fun _ d => d.pinRelease t) s
/-- WDOG_KICK (R451). -/
def execWdogKick (t : Nat) (s : State) : Host.Outcome State Fault Refusal := runReg t (fun _ d => d.wdogKick t) s
/-- WDOG_WARN (R451). -/
def execWdogWarn (t : Nat) (s : State) : Host.Outcome State Fault Refusal := run t (fun _ d => d.wdogWarn t) s
/-- WDOG_EXPIRY (R451). -/
def execWdogExpiry (t : Nat) (s : State) : Host.Outcome State Fault Refusal := run t (fun _ d => d.wdogExpire t) s
/-- RUN_READY (R466): requester port. -/
def execRunReady (port : Fin 24) (t : Nat) (s : State) : Host.Outcome State Fault Refusal := runReg t (fun _ d => d.runReady port.val) s
/-- FAIL (R466). -/
def execFail (t : Nat) (s : State) : Host.Outcome State Fault Refusal := runReg t (fun _ d => d.bootFail t) s
/-- ROLLBACK_ADV (R468). -/
def execRollbackAdv (t : Nat) (s : State) : Host.Outcome State Fault Refusal := runReg t (fun _ d => d.rollbackAdv) s
/-- ROLLBACK_DONE (R468). -/
def execRollbackDone (t : Nat) (s : State) : Host.Outcome State Fault Refusal := run t (fun _ d => d.rollbackDone) s
/-- DL_CHECK (R469). -/
def execDlCheck (t : Nat) (s : State) : Host.Outcome State Fault Refusal := runReg t (fun m d => d.dlCheck m) s
/-- DL_PROG (R469). -/
def execDlProg (t : Nat) (s : State) : Host.Outcome State Fault Refusal := runReg t (fun _ d => d.dlProg) s
/-- PROG_DONE (R469): whether the read-back agreed. -/
def execProgDone (ok : Bool) (t : Nat) (s : State) : Host.Outcome State Fault Refusal := run t (fun m d => d.progDone m ok) s
/-- IDLE (R454). -/
def execIdle (t : Nat) (s : State) : Host.Outcome State Fault Refusal := runReg t (fun _ d => d.idleEnter t) s
/-- IDLE_EXIT (R455). -/
def execIdleExit (t : Nat) (s : State) : Host.Outcome State Fault Refusal := runReg t (fun m d => d.idleLeave m t) s
/-- GAUZE (R456). -/
def execGauze (t : Nat) (s : State) : Host.Outcome State Fault Refusal := runReg t (fun _ d => d.gauzeEnter t) s
/-- GAUZE_ENTRY_DONE (R456). -/
def execGauzeEntryDone (t : Nat) (s : State) : Host.Outcome State Fault Refusal := run t (fun _ d => d.gauzeDone t) s
/-- WAKE (R458). -/
def execWake (t : Nat) (s : State) : Host.Outcome State Fault Refusal := runReg t (fun _ d => d.wakeBy 1) s
/-- WAKE_N (R458). -/
def execWakeN (since t : Nat) (s : State) : Host.Outcome State Fault Refusal := run t (fun _ d => d.wakeN since t) s
/-- WAKE_TIMER (R458). -/
def execWakeTimer (t : Nat) (s : State) : Host.Outcome State Fault Refusal := run t (fun _ d => d.wakeTimer t) s
/-- GAUZE_EXIT (R458). -/
def execGauzeExit (t : Nat) (s : State) : Host.Outcome State Fault Refusal := run t (fun _ d => d.gauzeLeave t) s

end Sys2Proof.Machine
end

