-- ==== Sys2Proof/Machine/Access.lean ====
section
/-!
DEFINITION. Writes of registers (R10, R424 to R428): reserved bits, the access codes, the conditions of each page, and the
registers whose write acts. `port` is the requester port; `o` is the offset in the page.
-/
namespace Sys2Proof.Machine

/-! ## Reserved bits (R10) -/

/-- The bits that a field of the word at offset o covers. -/
def fieldMask (p o : Nat) : Nat := (wordFields p o).foldl (fun n f => n ||| f.mask) 0

/-- Reserved bits inside a packed field: bits 6:5 of a slot entry (R282), bit 6 of a leg slot (R162). -/
def packedReserved (p o : Nat) : Nat :=
  if pARB 0 ≤ p && p < pARB 0 + 16 && 0x100 ≤ o && o < 0x180 then 0x60606060
  else if pENG 0 ≤ p && p < pENG 12 && (o = 0x50 || o = 0x54) then 0x40404040
  else 0

/-- A write of w sets a reserved bit; LOCK is written as R427 says. -/
def reservedHit (p o : Nat) (w : Word) : Bool :=
  decide (o ≠ 0x1C) && (decide (w.toNat &&& (0xFFFFFFFF - fieldMask p (shadowOff p o)) ≠ 0) ||
    decide (w.toNat &&& packedReserved p (shadowOff p o) ≠ 0))

/-! ## Access codes (R424) -/

/-- What a field leaves of a write: `open'` says whether RWL fields take it. -/
def fieldWrite (open' : Bool) (w old : Word) (f : FieldSpec) : Word :=
  match f.acc with
  | .rw => bitsPut old f.hi f.lo (bitsGet w f.hi f.lo)
  | .rws => bitsPut old f.hi f.lo (bitsGet w f.hi f.lo)
  | .rwl => if open' then bitsPut old f.hi f.lo (bitsGet w f.hi f.lo) else old
  | .w1c => bitsPut old f.hi f.lo (bitsGet (old &&& ~~~w) f.hi f.lo)
  | .ro => old
  | .wo => old
  | .seal => old
  | .woSeal => old

/-- Every field of a word takes its bits. -/
def Dev.fieldsWrite (p o : Nat) (open' : Bool) (w : Word) (d : Dev) : Dev :=
  let a := p * 0x1000 + o
  d.setReg a ((wordFields p o).foldl (fieldWrite open' w) (d.reg a))

/-- The page's own condition for its RWL fields. -/
def Dev.rwlCond (p : Nat) (d : Dev) : Bool :=
  if pENG 0 ≤ p && p < pENG 12 then
    let n := p - pENG 0
    decide (d.engCode n = 0) || (decide ((d.engine n).role = .coldSpare) && !d.inPosition n)
  else if pENG 12 ≤ p && p < pENG 15 then !d.running
  else if pLEG 0 ≤ p && p < pLEG 48 then !d.flag p LEG.CTRL_EN
  else if pGRP 0 ≤ p && p < pGRP 4 then !(d.groupLegs (p - pGRP 0)).any (fun n => d.flag (pLEG n) LEG.CTRL_EN)
  else if p = pGFM then !d.running && decide (d.triad.law.seq.st = .idle)
  else if p = pTRANSIT then decide (d.triad.law.seq.st = .idle)
  else if p = pPC 0 || p = pPC 1 then !d.flag (pPC 0) PC.CTRL_RUN && !d.flag (pPC 1) PC.CTRL_RUN
  else if p = pPBUS || p = pTIME then !d.flag pPBUS PBUS.CTRL_ON
  else true

/-- What the page reports of an RWL write that its condition discards. -/
def Dev.rwlReport (p o : Nat) (d : Dev) : Dev :=
  if pENG 0 ≤ p && p < pENG 15 then d.engIgnored (p - pENG 0)
  else if pLEG 0 ≤ p && p < pLEG 48 then
    ((d.raise p LEG.IRQ_RAW_WRITE_IGNORED).put p LEG.FAULT_CODE_CAUSE 4).put p LEG.FAULT_CODE_SOURCE 0
  else if pGRP 0 ≤ p && p < pGRP 4 then d.raise p GRP.IRQ_RAW_WRITE_IGNORED
  else if p = pGFM then
    ((d.raise p GFM.IRQ_RAW_WRITE_IGNORED).put p GFM.FAULT_CODE_CAUSE 3).put p GFM.FAULT_CODE_OFFSET o
  else if p = pTRANSIT then d.raise p TRANSIT.IRQ_RAW_WRITE_IGNORED
  else if p = pPC 0 || p = pPC 1 then
    ((d.raise p PC.IRQ_RAW_WRITE_IGNORED).put p PC.FAULT_CODE_CAUSE 2).put p PC.FAULT_CODE_OFFSET o
  else if p = pPBUS then d.put p PBUS.FAULT_CODE_CAUSE 8
  else d

/-- A write that acts through the access codes alone. -/
def Dev.plainWrite (p o : Nat) (w : Word) (d : Dev) : Dev :=
  let cond := d.rwlCond p
  let open' := d.lockOpen p
  let rwl := (wordFields p o).any (fun f => decide (f.acc = .rwl))
  let d := d.fieldsWrite p o (open' && cond) w
  if open' && !cond && rwl then d.rwlReport p o else d

/-! ## LOCK and IRQ_CLR (R425, R427) -/

/-- Close the lock of a page; on the SAFE page Buckram starts from its new configuration (R356). -/
def Dev.lockClose (p t : Nat) (d : Dev) : Dev := if p = pSAFE then d.safeClose t else d.closeLock p

/-- A write of LOCK. -/
def Dev.lockWrite (p port : Nat) (w : Word) (t : Nat) (d : Dev) : Dev :=
  if d.lockOpen p then d.lockClose p t
  else
    match d.arms.find? (fun a => decide (a.page = p)) with
    | none =>
      if w.toNat = p then
        ({ d with arms := d.arms ++ [(⟨p, port, d.regRounds + 1⟩ : LockArm)] }).put p HDR.LOCK_ARMED 1
      else d.closeLock p
    | some a =>
      let d := d.closeLock p
      if a.port = port && decide (w = ~~~(BitVec.ofNat 32 p)) then
        (if p = pSAFE then d.safeOpen t else d.put p HDR.LOCK_OPEN 1)
      else d

/-- A write of IRQ_CLR; `ev` are the events of the same handshake, which stay set; a reserved position has no event (R10). -/
def Dev.irqClr (p : Nat) (w ev : Word) (d : Dev) : Dev :=
  d.setReg (p * 0x1000 + 0x10) ((d.reg (p * 0x1000 + 0x10) &&& ~~~w) ||| (ev &&& BitVec.ofNat 32 (fieldMask p 0x10)))

/-! ## SYS (R231, R432) -/

/-- PLANT_ADDR: refused while the peer bus is on. -/
def Dev.plantAddr (w : Word) (d : Dev) : Dev :=
  if !d.lockOpen pSYS then d
  else if d.flag pPBUS PBUS.CTRL_ON then (d.raise pSYS SYS.IRQ_RAW_REFUSED).put pSYS SYS.FAULT_CODE_CAUSE 1
  else
    let old := d.reg 0x44
    let d := d.fieldsWrite pSYS 0x44 true w
    let d := d.put pPBUS PBUS.OWN_ADDR_ADDR (d.reg 0x44).toNat
    if d.reg 0x44 = old then d else d.raise pSYS SYS.IRQ_RAW_ADDR_CHANGED

/-- RPS_CTRL.ARM (R221): from 0 to 1 clears REVERSE; 0 opens the switch. -/
def Dev.rpsArm (on : Bool) (d : Dev) : Dev :=
  if on then
    (if d.flag pSYS SYS.RPS_CTRL_ARM then d else d.setRps { d.pw.rps with reverse := false }).put pSYS SYS.RPS_CTRL_ARM 1
  else (d.put pSYS SYS.RPS_CTRL_ARM 0).rpsCmd false

/-- BRK_CFG: a changed FB_INV reads the feedback pins anew (R223). -/
def Dev.brkCfgWrite (w : Word) (t : Nat) (d : Dev) : Dev :=
  let old := d
  let d := d.plainWrite pSYS 0x22C w
  d.each (fun k d => d.brkFb k ((old.pair k).closed != old.bit pSYS SYS.BRK_CFG_FB_INV k) t) (List.range 8)

/-- RPS_CFG: so does its FB_INV; another input restarts the dwell (R221; DESIGN CHOICE, log 51). -/
def Dev.rpsCfgWrite (w : Word) (d : Dev) : Dev :=
  let old := d
  let d := d.plainWrite pSYS 0x210 w
  let same := old.get pSYS SYS.RPS_CFG_SRC = d.get pSYS SYS.RPS_CFG_SRC
  d.setRps { d.pw.rps with
    fb := d.pw.rps.fb != (old.flag pSYS SYS.RPS_CFG_FB_INV != d.flag pSYS SYS.RPS_CFG_FB_INV),
    goodSince := if same then d.pw.rps.goodSince else none }

/-- RPS_VMIN: another limit restarts the dwell (R221; DESIGN CHOICE, log 51). -/
def Dev.rpsVminWrite (w : Word) (d : Dev) : Dev :=
  let old := d.get pSYS SYS.RPS_VMIN_COUNTS
  let d := d.plainWrite pSYS 0x214 w
  if d.get pSYS SYS.RPS_VMIN_COUNTS = old then d else d.setRps { d.pw.rps with goodSince := none }

/-- DBG_CTRL: DBG_EN, then HALT. -/
def Dev.dbgWrite (w : Word) (t : Nat) (d : Dev) : Dev :=
  let d := if d.lockOpen pSYS then d.put pSYS SYS.DBG_CTRL_DBG_EN (bitsGet w 0 0) else d
  if w.getLsbD 1 then d.dbgHaltWrite t else d.debugResume t

def Dev.sysWrite (o : Nat) (w : Word) (t : Nat) (d : Dev) : Dev :=
  match o with
  | 0x044 => d.plantAddr w
  | 0x064 => d.cmdOut w
  | 0x068 => d.dbgWrite w t
  | 0x200 =>
    let d := d.put pSYS SYS.DEV_TRIP_QUIET_US (bitsGet w 29 20)
    let d := if w.getLsbD 3 then d.devClr t else d
    if w.getLsbD 2 then (d.devTrip 5 0 [] t).settle t else d
  | 0x210 => d.rpsCfgWrite w
  | 0x214 => d.rpsVminWrite w
  | 0x21C => d.rpsArm (w.getLsbD 0)
  | 0x224 => d.brkWrite w t
  | 0x22C => d.brkCfgWrite w t
  | _ => d.plainWrite pSYS o w

/-! ## BOOT, CLK, PWR, RST -/

/-- BOOT.CTRL (R460 to R471). -/
def Dev.bootCtrl (m : List Host.Cell) (port : Nat) (w : Word) (t : Nat) (d : Dev) : Dev :=
  let d := if w.getLsbD 0 then d.runReady port else d
  let d := if w.getLsbD 1 then d.bootFail t else d
  let d := if w.getLsbD 2 then d.dlCheck m else d
  let d := if w.getLsbD 3 then d.dlProg else d
  if w.getLsbD 4 then d.rollbackAdv else d

def Dev.clkWrite (o : Nat) (w : Word) (t : Nat) (d : Dev) : Dev :=
  if o = 0x008 then d.clkCtrlWrite w t
  else if o = 0x040 then d.clkCfgWrite w
  else if 0x0C0 ≤ o && o < 0x100 then
    (if o % 8 = 0 then d.tbDivWrite ((o - 0x0C0) / 8) w else d.tbDlyWrite ((o - 0x0C0) / 8) w)
  else if o = 0x100 then d.tbEnWrite w t
  else if 0x110 ≤ o && o < 0x120 then d.lkWrite ((o - 0x110) / 4) w
  else d.plainWrite pCLK o w

/-- PWR.CTRL (R454 to R458); only the chain, port 0x17, wakes by WAKE. -/
def Dev.pwrCtrl (m : List Host.Cell) (port : Nat) (w : Word) (t : Nat) (d : Dev) : Dev :=
  let d := if w.getLsbD 0 then d.idleEnter t else d.idleLeave m t
  let d := if w.getLsbD 1 then d.gauzeEnter t else d
  if w.getLsbD 2 && decide (port = 0x17) then d.wakeBy 1 else d

/-! ## Felt and engines -/

def Dev.arbWrite (b o : Nat) (w : Word) (d : Dev) : Dev :=
  if o = 0x008 then (if w.getLsbD 0 then d.arbClear b else d)
  else if o = 0x020 then d.arbCommit b
  else d.plainWrite (pARB b) o w

/-- Leg l has left the list of engine n while that engine is OFF: it is under register control (R151). -/
def Dev.unlisted (n l : Nat) (d : Dev) : Dev :=
  if d.engCode n = 0 && (d.leg l).engOff = some n then d.setLeg l { d.leg l with engOff := none } else d

/-- A control engine's page (R161, R162). -/
def Dev.ceWrite (m : List Host.Cell) (n o : Nat) (w : Word) (t : Nat) (d : Dev) : Dev :=
  if o = 0x008 then
    let on := w.getLsbD 0
    let d := if d.flag (pENG n) CE.CTRL_RUN = on then d else d.runWrite m n on t
    let d := if w.getLsbD 1 then d.restartWrite m n t else d
    if w.getLsbD 2 then d.legResume n else d
  else if o = 0x020 then d.ceCommit n
  else if o = 0x050 || o = 0x054 then
    let old := d.engLegs n
    let d := d.plainWrite (pENG n) o w
    (d.each (fun l d => d.unlisted n l) (old.filter (fun l => !(d.engLegs n).contains l))).settle t
  else d.plainWrite (pENG n) o w

/-- A triad engine's page (R164): TICK_PHASE and DEADLINE are TE0's, with copies on TE1 and TE2. -/
def Dev.teWrite (m : List Host.Cell) (n o : Nat) (w : Word) (t : Nat) (d : Dev) : Dev :=
  if o = 0x008 then (if w.getLsbD 1 then d.restartWrite m n t else d)
  else if o = 0x048 || o = 0x04C then
    (if n = 12 then
       let d := d.plainWrite (pENG 12) o w
       (d.setReg (pENG 13 * 0x1000 + o) (d.reg (pENG 12 * 0x1000 + o))).setReg (pENG 14 * 0x1000 + o)
         (d.reg (pENG 12 * 0x1000 + o))
     else d)
  else d.plainWrite (pENG n) o w

def Dev.voterWrite (o : Nat) (w : Word) (t : Nat) (d : Dev) : Dev :=
  if o = 0x008 then
    let d := if w.getLsbD 0 then d.voterClr else d
    if w.getLsbD 1 then d.voterTest else d
  else if o = 0x040 then (if d.lockOpen pVOTER then d.voteCfg w t else d)
  else d.plainWrite pVOTER o w

def Dev.mpWrite (o : Nat) (w : Word) (d : Dev) : Dev :=
  if o = 0x044 then (if w.getLsbD 0 then { d with mp := { d.mp with hkBusy := false } } else d)
  else d.plainWrite pMP o w

/-! ## Legs, groups, timebase taps -/

/-- LEG.CTRL (R183, R184, R191, R214, R228). -/
def Dev.legCtrl (n : Nat) (w : Word) (t : Nat) (d : Dev) : Dev :=
  let d := (d.invert n (w.getLsbD 4) t).force n (bitsGet w 3 2) t
  let d := if d.flag (pLEG n) LEG.CTRL_EN = w.getLsbD 0 then d else d.enable n (w.getLsbD 0) t
  let d := if w.getLsbD 17 then d.tripClr n t else d
  if w.getLsbD 16 then d.trip n 0x1A false t else d

def Dev.legWrite (n o port : Nat) (w : Word) (t : Nat) (d : Dev) : Dev :=
  let a := pLEG n * 0x1000 + o
  match o with
  | 0x008 => d.legCtrl n w t
  | 0x020 => d.ownedOr n port (fun d => d.legLatch n t)
  | 0x040 => d.ownedOr n port (fun d => (d.setReg a w).staleMark n)
  | 0x044 => d.ownedOr n port (fun d => (d.setReg a w).autoLatch n t)
  | 0x048 => d.ownedOr n port (fun d => (d.setReg a w).staleMark n)
  | 0x04C => d.ownedOr n port (fun d => d.fracWrite n w t)
  | 0x050 => (d.plainWrite (pLEG n) o w).pinSwapped n t (d.legCfg n).pinSwap
  | _ => d.plainWrite (pLEG n) o w

def Dev.grpWrite (g o port : Nat) (w : Word) (t : Nat) (d : Dev) : Dev :=
  match o with
  | 0x008 =>
    let d := if w.getLsbD 17 then d.grpClr g t else d
    let d := if w.getLsbD 16 then (d.grpTrip g 0x13 0 [] t).settle t else d
    if w.getLsbD 18 && d.gfaultFrom g port then d.gfault g t else d
  | 0x014 => d.plainWrite (pGRP g) o w
  | 0x020 => d.groupCommit g t
  | 0x040 => d.assign g 0 w t
  | 0x044 => d.assign g 1 w t
  | 0x048 => ((d.plainWrite (pGRP g) o w).respread t g).settle t
  | _ => (d.plainWrite (pGRP g) o w).settle t

def Dev.pwmtbWrite (o : Nat) (w : Word) (d : Dev) : Dev :=
  if o = 0x008 then (if w.getLsbD 0 && !d.pw.calBusy then d.calStart else d) else d.plainWrite pPWMTB o w

/-! ## Sensing -/

def Dev.sdfWrite (j o : Nat) (w : Word) (t : Nat) (d : Dev) : Dev :=
  if o = 0x008 then
    d.each (fun i d => if w.getLsbD i then d.sdPlace (8 * j + i) (tickAfter2 t) else d) (List.range 8)
  else if o = 0x020 then d.sdCommit j t
  else if 0x040 ≤ o && o < 0x140 && o % 0x20 = 0x0C then d.sdFsrc (8 * j + (o - 0x040) / 0x20) w t
  else d.plainWrite (pSDF j) o w

/-! ## Law, profile, sequencer, ride-through -/

def Dev.lawPageWrite (m : List Host.Cell) (p o : Nat) (w : Word) (t : Nat) (d : Dev) : Dev :=
  if o = 0x020 then
    (if p = pGFM then d.gfmCommit else if p = pPROFILE then d.prfCommit else if p = pFRT then d.frtCommit else d.trCommit)
  else if o = 0x008 then
    (if p = pGFM then (if w.getLsbD 0 then d.gfmSnap m else d)
     else if p = pTRANSIT then d.transitCmd (bitsGet w 3 0) else d)
  else if p = pTRANSIT && o = 0x040 then (d.plainWrite p o w).brkSync t
  else d.plainWrite p o w

/-! ## Precision converters and ledger -/

/-- A value that WIN_CFG refuses, cause 0x3 (R333). -/
def winCfgBad (w : Word) : Bool := decide (bitsGet w 15 8 = 0) || decide (bitsGet w 1 0 = 3)

/-- A PC page: the PC0-only registers have read-only copies on PC1 (R333). -/
def Dev.pcWrite (c o : Nat) (w : Word) (t : Nat) (d : Dev) : Dev :=
  let p := pPC c
  let copy (d : Dev) : Dev := d.setReg (pPC 1 * 0x1000 + o) (d.reg (pPC 0 * 0x1000 + o))
  if o = 0x008 then
    let run := w.getLsbD 0
    let ref := w.getLsbD 1
    let d := if d.flag p PC.CTRL_RUN = run then d else if run then d.pcRun c else d.pcStop c
    if d.flag p PC.CTRL_REF_EN = ref then d else d.refEn c ref t
  else if o = 0x044 || o = 0x048 then
    (if c = 1 then d
     else if o = 0x044 && d.lockOpen p && d.rwlCond p && winCfgBad w then
       (d.put p PC.FAULT_CODE_CAUSE 3).put p PC.FAULT_CODE_OFFSET o
     else copy (d.plainWrite p o w))
  else if o = 0x040 then
    (if c = 1 then
       let keep := d.get p PC.PC_CFG_PCS_DIFF
       (d.plainWrite p o w).put p PC.PC_CFG_PCS_DIFF keep
     else
       let d := d.plainWrite p o w
       d.put (pPC 1) PC.PC_CFG_PCS_DIFF (d.get p PC.PC_CFG_PCS_DIFF))
  else d.plainWrite p o w

/-- A configuration value of the ledger out of its range (R334, R335). -/
def ledgerBad (o : Nat) (w : Word) : Bool :=
  match o with
  | 0x040 => decide (bitsGet w 7 0 = 0) || (decide (12 ≤ bitsGet w 23 20) && decide (bitsGet w 23 20 ≠ 15))
  | 0x04C => decide (bitsGet w 31 16 < 10) || decide (5000 < bitsGet w 15 0)
  | 0x050 => decide (10000 < bitsGet w 31 16)
  | _ => false

/-- A SEAL configuration register: a change is logged, code 0x07 (R329). -/
def Dev.ledgerCfg (o port : Nat) (w : Word) (t : Nat) (d : Dev) : Dev :=
  d.sealed port o t (fun d =>
    if ledgerBad o w then d.ledgerRange port
    else if d.reg (pLEDGER * 0x1000 + o) = w then d
    else
      let d := (d.setReg (pLEDGER * 0x1000 + o) w).logAppend 7 o w t
      if o = 0x058 then d.tamperShow else d)

/-- The LEDGER page under its seal (R321). -/
def Dev.ledgerWrite (o port : Nat) (w : Word) (t : Nat) (d : Dev) : Dev :=
  let a := pLEDGER * 0x1000 + o
  match o with
  | 0x008 => if w.getLsbD 0 then d.tamperAck port t else d.sealed port 0x008 t (fun d => d)
  | 0x014 => d.setReg a w
  | 0x0B0 => d.setReg a w
  | 0x0D0 => d.acFeed port w
  | 0x0AC => d.sealed port o t (fun d => d.logRelease w.toNat)
  | 0x0C4 => d.logIn port w t
  | 0x0DC => d.restore port (bitsGet w 2 0) t
  | 0x0C8 => d.sealed port o t (fun d => d.setReg a w)
  | 0x0D4 => d.sealed port o t (fun d => d.setReg a w)
  | 0x0D8 => d.sealed port o t (fun d => d.setReg a w)
  | _ => if 0x040 ≤ o && o < 0x05C then d.ledgerCfg o port w t else d.sealDiscard port o t

/-! ## Acquisition, trigger, safety -/

/-- The ACQ page: its configuration takes writes only in IDLE (R287, R307). -/
def Dev.acqWrite (o : Nat) (w : Word) (t : Nat) (d : Dev) : Dev :=
  if o = 0x008 then
    let d := if w.getLsbD 1 then d.acqStop t else d
    if w.getLsbD 0 then d.acqArm else d
  else if o = 0x05C then d.segRelease (bitsGet w 5 0)
  else if 0x040 ≤ o && o < 0x0C0 && decide (d.acq.st ≠ .idle) then d.acqFault 6 o
  else d.plainWrite pACQ o w

def Dev.trigWrite (o : Nat) (w : Word) (t : Nat) (d : Dev) : Dev :=
  if o = 0x008 then (if w.getLsbD 0 then d.soft t else d)
  else if 0x040 ≤ o && o < 0x050 && decide (d.acq.st ≠ .idle) then d.acqFault 6 o
  else d.plainWrite pTRIG o w

def Dev.safeWrite (o : Nat) (w : Word) (t : Nat) (d : Dev) : Dev :=
  if o = 0x008 then d.piWrite (bitsGet w 1 0) (bitsGet w 3 2) t
  else if 0x040 ≤ o && o < 0x060 then (if d.lockOpen pSAFE then d.safeCfg ((o - 0x040) / 4) w t else d)
  else if o = 0x060 then (d.plainWrite pSAFE o w).safeEval t
  else d.plainWrite pSAFE o w

/-! ## Peer bus and chain -/

def Dev.pbusWrite (o : Nat) (w : Word) (t : Nat) (d : Dev) : Dev :=
  if o = 0x008 then
    let d := if w.getLsbD 0 then d.pbOn t else d.pbOff t
    let d := if w.getLsbD 1 then d.each (fun n d => d.txAbort n t) (List.range 64) else d
    if w.getLsbD 2 then d.recover t else d
  else d.plainWrite pPBUS o w

/-- The matrix entry that the window shows at offset o (R399). -/
def Dev.schedKey (o : Nat) (d : Dev) : Nat :=
  let k := (o - 0x100) / 4
  (16 * d.get pSCHED PBUS_SCHED.WIN_SEL_QUARTER + k / 24) * 24 + k % 24

def Dev.schedWrite (o : Nat) (w : Word) (t : Nat) (d : Dev) : Dev :=
  if o = 0x020 then d.schedCommit t
  else if 0x100 ≤ o && o < 0x700 then
    { d with bus := { d.bus with shadow := storePut (fun _ => (0 : Word)) d.bus.shadow (d.schedKey o) w } }
  else d.plainWrite pSCHED o w

def Dev.timeWrite (o : Nat) (w : Word) (t : Nat) (d : Dev) : Dev :=
  if o = 0x008 then
    let d := d.ntMaster (w.getLsbD 1) t
    if w.getLsbD 2 then d.ntSet else d
  else if o = 0x040 && d.lockOpen pTIME && d.rwlCond pTIME && decide (bitsGet w 18 16 = 7) then
    d.put pTIME PBUS_TIME.FAULT_CODE_CAUSE 4
  else d.plainWrite pTIME o w

/-- Act for each bit that a word of 32 buffers sets. -/
def Dev.eachBit (w : Word) (base : Nat) (f : Nat → Dev → Dev) (d : Dev) : Dev :=
  d.each (fun k d => if w.getLsbD k then f (base + k) d else d) (List.range 32)

def Dev.bufWrite (o : Nat) (w : Word) (t : Nat) (d : Dev) : Dev :=
  match o with
  | 0x040 => d.eachBit w 0 (fun n d => d.txReq n t)
  | 0x044 => d.eachBit w 32 (fun n d => d.txReq n t)
  | 0x048 => d.eachBit w 0 (fun n d => d.txAbort n t)
  | 0x04C => d.eachBit w 32 (fun n d => d.txAbort n t)
  | 0x050 => d.eachBit w 0 (fun n d => d.rxRelease n)
  | 0x054 => d.eachBit w 32 (fun n d => d.rxRelease n)
  | _ =>
    if 0x100 ≤ o && o < 0x200 && d.txBusy ((o - 0x100) / 4) then
      ((d.raise pBUF PBUS_BUF.IRQ_RAW_WRITE_IGNORED).put pBUF PBUS_BUF.FAULT_CODE_CAUSE 1).put pBUF
        PBUS_BUF.FAULT_CODE_BUF ((o - 0x100) / 4)
    else d.plainWrite pBUF o w

def Dev.chainWrite (o : Nat) (w : Word) (d : Dev) : Dev :=
  if o = 0x008 then
    let d := d.closeDn (w.getLsbD 2)
    let d := if w.getLsbD 1 then d.reEnum else d
    if w.getLsbD 0 then d.chainClr else d
  else d.plainWrite pCHAIN o w

/-! ## One write -/

/-- The block that a write of page p reaches. -/
def Dev.blockWrite (m : List Host.Cell) (p o port : Nat) (w : Word) (t : Nat) (d : Dev) : Dev :=
  if p = pSYS then d.sysWrite o w t
  else if p = pBOOT then (if o = 0x008 then d.bootCtrl m port w t else d.plainWrite p o w)
  else if p = pCLK then d.clkWrite o w t
  else if p = pPWR then (if o = 0x008 then d.pwrCtrl m port w t else d.plainWrite p o w)
  else if p = pRST then (if o = 0x008 then (if w.getLsbD 0 then d.wdogKick t else d) else d.plainWrite p o w)
  else if p = pFELT then (if o = 0x008 then (if w.getLsbD 0 then d.feltClear else d) else d.plainWrite p o w)
  else if pARB 0 ≤ p && p < pARB 16 then d.arbWrite (p - pARB 0) o w
  else if pENG 0 ≤ p && p < pENG 12 then d.ceWrite m (p - pENG 0) o w t
  else if pENG 12 ≤ p && p < pENG 15 then d.teWrite m (p - pENG 0) o w t
  else if p = pVOTER then d.voterWrite o w t
  else if p = pMP then d.mpWrite o w
  else if pLEG 0 ≤ p && p < pLEG 48 then d.legWrite (p - pLEG 0) o port w t
  else if pGRP 0 ≤ p && p < pGRP 4 then d.grpWrite (p - pGRP 0) o port w t
  else if p = pPWMTB then d.pwmtbWrite o w
  else if pSDF 0 ≤ p && p < pSDF 8 then d.sdfWrite (p - pSDF 0) o w t
  else if p = pGFM || p = pPROFILE || p = pTRANSIT || p = pFRT then d.lawPageWrite m p o w t
  else if p = pPC 0 || p = pPC 1 then d.pcWrite (p - pPC 0) o w t
  else if p = pLEDGER then d.ledgerWrite o port w t
  else if p = pACQ then d.acqWrite o w t
  else if p = pTRIG then d.trigWrite o w t
  else if p = pSAFE then d.safeWrite o w t
  else if p = pPBUS then d.pbusWrite o w t
  else if p = pSCHED then d.schedWrite o w t
  else if p = pTIME then d.timeWrite o w t
  else if p = pBUF then d.bufWrite o w t
  else if p = pCHAIN then d.chainWrite o w
  else d.plainWrite p o w

/-- The effect of a write whose reserved bits are zero; active copies take no write. -/
def Dev.wordWrite (m : List Host.Cell) (p o port : Nat) (w : Word) (t : Nat) (d : Dev) : Dev :=
  if o = 0x01C then d.lockWrite p port w t
  else if o = 0x018 then d.irqClr p w 0
  else if shadowOff p o ≠ o then d
  else d.blockWrite m p o port w t

/-- What is due on a page before an access: resets of filter chains, expiries and flips of bus buffers. -/
def Dev.pageDue (p t : Nat) (d : Dev) : Dev := if p = pBUF || p = pPBUS then d.busDue t else d.sdPageDue p t

/-- A write of the register at byte address a (R424, R426): a page that is not mapped takes none. -/
def Dev.regWrite (m : List Host.Cell) (a port : Nat) (w : Word) (t : Nat) (d : Dev) : Except Fault Dev :=
  let p := a / 0x1000
  let o := a % 0x1000
  if !pageMapped p then .ok d
  else if reservedHit p o w then .error .reservedBit
  else .ok ((d.pageDue p t).wordWrite m p o port w t)

/-! ## The commands -/

/-- REGISTER_WRITE (R424): byte address of the register, requester port, value. -/
def execRegisterWrite (a : BitVec 20) (port : Fin 24) (w : Word) (t : Nat) (s : State) :
    Host.Outcome State Fault Refusal :=
  runRegF t (fun m d => d.regWrite m (a.toNat / 4 * 4) port w t) s

/-- IRQ_CLR (R425): page, value, and the events of the same handshake. -/
def execIrqClr (p : Fin 256) (w ev : Word) (t : Nat) (s : State) : Host.Outcome State Fault Refusal :=
  runReg t (fun _ d => if pageMapped p then (d.pageDue p t).irqClr p w ev else d) s

/-- LOCK_WRITE (R427): page, requester port, value. -/
def execLockWrite (p : Fin 256) (port : Fin 24) (w : Word) (t : Nat) (s : State) : Host.Outcome State Fault Refusal :=
  runReg t (fun _ d => if pageMapped p then d.lockWrite p port w t else d) s

end Sys2Proof.Machine
end

