-- ==== Sys2Proof/Machine/Boot.lean ====
section
/-!
DEFINITION. Release of a core reset and the boot ROM (R434, R449, R460 to R471).
-/
namespace Sys2Proof.Machine

/-- The default band table, whose values the spec does not give: sixteen valid entries with open codes (R434, R460; log
entry 3). -/
def Dev.bandTable (d : Dev) : Dev :=
  d.each (fun i d =>
    let r := d.drawWord
    r.2.setReg (CLK.BAND_CODE.addr pCLK i) (BitVec.ofNat 32 (2 ^ 31 + r.1.toNat % 256))) (List.range 16)

/-- A commit of page p has been refused. -/
def Dev.commitRefused (p : Nat) (d : Dev) : Bool :=
  if pARB 0 ≤ p && p < pARB 16 then d.flag p ARB.IRQ_RAW_COMMIT_REFUSED
  else if pSDF 0 ≤ p && p < pSDF 8 then d.flag p SDF.IRQ_RAW_COMMIT_REFUSED
  else if p = pGFM then d.flag p GFM.IRQ_RAW_COMMIT_REFUSED
  else if p = pPROFILE then d.flag p PROFILE.IRQ_RAW_COMMIT_REFUSED
  else if p = pFRT then d.flag p FRT.IRQ_RAW_COMMIT_REFUSED
  else if p = pSCHED then d.flag p PBUS_SCHED.IRQ_RAW_COMMIT_REFUSED
  else false

/-- What a step of a boot gives: the device, and the cause and offset of the attempt's failure. -/
abbrev BootStep := Except Fault (Option (Nat × Nat) × Dev)

/-- Configuration records: register byte address, then value; after each commit COMMIT_REFUSED is read (R462, R465). -/
def Dev.bootRecords (m : List Host.Cell) (t : Nat) : Nat → List Byte → Dev → BootStep
  | 0, _, d => .ok (none, d)
  | k + 1, bs, d =>
    if bs.length < 8 then .ok (none, d)
    else
      let a := (wordOf bs).toNat
      match d.regWrite m a 0x0F (wordOf (bs.drop 4)) t with
      | .error e => .error e
      | .ok d =>
        let d := d.regRound
        if a % 0x1000 = 0x20 && d.commitRefused (a / 0x1000) then .ok (some (4, 0x20), d)
        else Dev.bootRecords m t k (bs.drop 8) d

/-- An engine image (R152 steps 1 to 4): a control engine's program memory takes it; it is read back. -/
def Dev.bootEngine (m : List Host.Cell) (x : Section) (d : Dev) : Bool × Dev :=
  let a := progBase x.code + x.addr % 0x8000
  let d := if x.code < 12 then (d.pokes a (x.data.take (0x8000 - x.addr % 0x8000))).put (pENG x.code) CE.ENG_CFG_VENDOR_PROG 0 else d
  (Config.imageCheckOk (d.bytes m a x.data.length), d)

/-- The sections of an image in order (R465). -/
def Dev.bootSections (m : List Host.Cell) (t : Nat) : List Section → Dev → BootStep
  | [], d => .ok (none, d)
  | x :: xs, d =>
    if x.typ = 1 then Dev.bootSections m t xs (d.pokes (mpSram + x.addr % 0x80000) (x.data.take (0x80000 - x.addr % 0x80000)))
    else if x.typ = 2 then
      let r := d.bootEngine m x
      if r.1 then Dev.bootSections m t xs r.2 else .ok (some (3, 0), r.2)
    else if x.typ = 4 then
      match d.bootRecords m t (x.data.length / 8) x.data with
      | .ok (none, d) => Dev.bootSections m t xs d
      | .ok (some f, d) => .ok (some f, d)
      | .error e => .error e
    else Dev.bootSections m t xs d

/-- Boot an image that has passed R463 from a source: 0 slot A, 1 slot B, 2 download (R465). -/
def Dev.bootImage (m : List Host.Cell) (bs : List Byte) (src t : Nat) (d : Dev) : Except Fault Dev :=
  let d := { d with boot := { d.boot with loaded := some src, dlWait := none } }
  let xs := (imgSections bs).getD []
  match d.bootSections m t (xs.filter (fun x => decide (x.typ = 1)) ++
      xs.filter (fun x => decide (x.typ = 2)) ++ xs.filter (fun x => decide (x.typ = 4))) with
  | .error e => .error e
  | .ok (some (c, o), d) => .ok (d.failAttempt c src o t)
  | .ok (none, d) =>
    let d := d.put pLEDGER LEDGER.STATUS_SEALED 1
    let d := (d.put pBOOT BOOT.STATUS_SOURCE src).put pBOOT BOOT.IMG_VER (imgWord bs 0x10).toNat
    let d := d.put pBOOT BOOT.SEC_IMG_SEC (imgSec bs)
    .ok { d with boot := { d.boot with firmware := true, entry := some (imgWord bs 0x14), wdogAt := t, wdogStop := none } }

def Dev.flashSlot (k : Nat) (d : Dev) : List Byte := if k = 0 then d.boot.slotA else d.boot.slotB

/-- The slot tried first (R464): the other one after an attempt that loaded a slot and failed with cause 0x3 to 0x6. -/
def Dev.firstSlot (d : Dev) : Nat :=
  let e := d.get pBOOT BOOT.HIST % 256
  let c := e % 16
  let src := e / 64
  if 0 < d.get pBOOT BOOT.ATTEMPTS_COUNT && 3 ≤ c && c ≤ 6 && src < 2 then 1 - src else d.get pBOOT BOOT.BOOT_CFG_PREF

/-- The flash slots are tried (R463, R464). -/
def Dev.bootSlots (m : List Host.Cell) (t : Nat) (d : Dev) : Except Fault Dev :=
  let res (k r : Nat) (d : Dev) : Dev := d.put pBOOT (if k = 0 then BOOT.SLOT_RES_A else BOOT.SLOT_RES_B) r
  let x := d.firstSlot
  let y := 1 - x
  let rx := d.imgCheck (d.flashSlot x)
  let d := res x rx d
  if rx = 0 then d.bootImage m (d.flashSlot x) x t
  else
    let ry := d.imgCheck (d.flashSlot y)
    let d := res y ry d
    if ry = 0 then d.bootImage m (d.flashSlot y) y t else .ok (d.failAttempt 1 3 0 t)

/-- Muslin mode (R470). -/
def Dev.muslinEnter (t : Nat) (d : Dev) : Dev :=
  let d := ({ d with boot := { d.boot with muslin := true } }).put pLEDGER LEDGER.STATUS_SEALED 0
  let d := d.each (fun n d => (d.setEngine n { d.engine n with st := .off }).showState n) (List.range 15)
  let d := d.settle t
  if d.addressed' then d.event 5 d.position 0 0 else d

/-- An attempt begins (R460, R467). -/
def Dev.bootAttempt (m : List Host.Cell) (bootSrc : Bool) (t : Nat) (d : Dev) : Except Fault Dev :=
  if d.get pBOOT BOOT.ATTEMPTS_COUNT = 3 then .ok (d.muslinEnter t)
  else
    let d := ({ d with boot := { d.boot with loaded := none } }).put pBOOT BOOT.ATTEMPTS_IN_ATTEMPT 1
    if bootSrc then .ok { d with boot := { d.boot with dlWait := some t } } else d.bootSlots m t

/-- The failure of an attempt that a reset ended is recorded at the next release (R467). -/
def Dev.recordCut (k : ResetKind) (d : Dev) : Dev :=
  if d.flag pBOOT BOOT.ATTEMPTS_IN_ATTEMPT then
    d.recordFail (if k = .wdog then 5 else 7) (d.boot.loaded.getD 3) 0
  else d

/-- RESET_RELEASE (R449): E anew, pins sampled, the core starts, MP boots. -/
def Dev.release' (m : List Host.Cell) (bootSrc bench : Bool) (t : Nat) (d : Dev) : Except Fault Dev :=
  if !d.releaseDue t then .ok d
  else
    let k := d.boot.inReset.getD .por
    let d := ({ d with boot := { d.boot with inReset := none, returnAt := none, romDue := false } }).newEpoch t
    let d := (d.put pRST RST.STATUS_LAST_KIND k.code).putFlag pBOOT BOOT.STATUS_BOOT_SRC bootSrc
    let d := if k = .por then d.putFlag pSYS SYS.BENCH_SPI_ON bench else d
    let d := (({ d with safe := { d.safe with coreDown := false } }).safeStart).safeEval 0
    let d := (d.put pBOOT BOOT.SEC_IMG_SEC 0).recordCut k
    (d.bandTable.pllEnable 0).bootAttempt m bootSrc 0

/-- DL_DONE; a download that authenticates while the ROM waits for it boots (R460, R469). -/
def Dev.dlFinish (m : List Host.Cell) (t : Nat) (d : Dev) : Except Fault Dev :=
  let busy := d.boot.dlCheck.isSome
  let d := d.dlDone
  if busy && d.boot.dlWait.isSome && d.flag pBOOT BOOT.STATUS_DL_GOOD then d.bootImage m (d.download m) 2 t else .ok d

/-- DOWNLOAD_WAIT_EXPIRED: 30 s (R460). -/
def Dev.dlExpire (t : Nat) (d : Dev) : Dev :=
  if d.boot.dlWait.any (fun a => decide (a + usTaps 30000000 ≤ t)) then d.failAttempt 2 3 0 t else d

/-- CLEAR_RETRY, accepted (R471). -/
def Dev.clearRetry (m : List Host.Cell) (t : Nat) (d : Dev) : Except Fault Dev :=
  let d := { d with boot := { d.boot with muslin := false }, eng := engReset }
  let d := d.each (fun n d => d.showState n) (List.range 15)
  let d := ((d.put pBOOT BOOT.ATTEMPTS_COUNT 0).put pBOOT BOOT.ATTEMPTS_IN_ATTEMPT 1).settle t
  d.bootImage m (d.download m) 2 t

/-! ## The commands -/

/-- RESET_RELEASE (R449): the levels of BOOT_SRC and BENCH. -/
def execResetRelease (bootSrc bench : Bool) (t : Nat) (s : State) : Host.Outcome State Fault Refusal :=
  runF t (fun m d => d.release' m bootSrc bench t) s
/-- DL_DONE (R469). -/
def execDlDone (t : Nat) (s : State) : Host.Outcome State Fault Refusal := runF t (fun m d => d.dlFinish m t) s
/-- DOWNLOAD_WAIT_EXPIRED (R460). -/
def execDownloadWaitExpired (t : Nat) (s : State) : Host.Outcome State Fault Refusal := run t (fun _ d => d.dlExpire t) s

end Sys2Proof.Machine
end

