-- ==== Sys2Proof/Machine/Read.lean ====
section
/-!
DEFINITION. Reads of registers (R424): the fields that show what State holds elsewhere, and the reads that act.
-/
namespace Sys2Proof.Machine

/-- Write-only fields read 0. -/
def woClear (p o : Nat) (w : Word) : Word :=
  (wordFields p o).foldl (fun v f =>
    match f.acc with
    | .wo => bitsPut v f.hi f.lo 0
    | .woSeal => bitsPut v f.hi f.lo 0
    | .rw => v
    | .ro => v
    | .w1c => v
    | .rws => v
    | .rwl => v
    | .seal => v) w

/-- A field of a word that is read. -/
def FieldSpec.show (f : FieldSpec) (v : Nat) (w : Word) : Word := bitsPut w f.hi f.lo v

/-- One bit for each of n things. -/
def bitsOf (n : Nat) (f : Nat → Bool) : Nat := (List.range n).foldl (fun a k => if f k then a + 2 ^ k else a) 0

/-- The SYS page (R231, R432). -/
def Dev.sysShow (o t : Nat) (w : Word) (d : Dev) : Word :=
  match o with
  | 0x00C => SYS.STATUS_MUSLIN.show d.boot.muslin.toNat w
  | 0x200 => SYS.DEV_TRIP_SRC_ACTIVE.show (d.pw.dev.tripped && !d.devQuiet t).toNat
      (SYS.DEV_TRIP_TRIPPED.show d.pw.dev.tripped.toNat w)
  | 0x220 =>
    let r := d.pw.rps
    SYS.RPS_STATUS_REVERSE.show r.reverse.toNat (SYS.RPS_STATUS_POL_OK.show (d.rpsOk t).toNat
      (SYS.RPS_STATUS_FB_CLOSED.show r.fb.toNat (SYS.RPS_STATUS_CMD.show r.cmd.toNat w)))
  | 0x224 => SYS.BRK_CMD_OWNED.show (bitsOf 8 (fun k => d.brkOwned k))
      (SYS.BRK_CMD_CMD.show (bitsOf 8 (fun k => (d.pair k).cmd)) w)
  | 0x228 => SYS.BRK_FB_MISMATCH.show (bitsOf 8 (fun k => (d.pair k).mismatch))
      (SYS.BRK_FB_STATE.show (bitsOf 8 (fun k => (d.pair k).closed)) w)
  | _ => if 0x048 ≤ o && o < 0x060 then d.pageIrqWord ((o - 0x048) / 4) else w

/-- What is left of the watchdog's period, in us (R451). -/
def Dev.wdogLeft (t : Nat) (d : Dev) : Nat := 10000 - d.wdogUsed t / 12800

/-- The leg and group pages (R200, R229, R230). -/
def Dev.legShow (n o t : Nat) (w : Word) (d : Dev) : Word :=
  if o = 0x00C then d.legStatus n t else if o = 0x094 then d.tripSrc n else w

def Dev.grpShow (g o t : Nat) (w : Word) (d : Dev) : Word :=
  if o = 0x00C then d.grpStatus g t
  else if o = 0x054 then
    GRP.GROUP_N_N_ASSIGNED.show (d.groupLegs g).length (GRP.GROUP_N_N_SPREAD.show (d.grp g).nSpread w)
  else w

/-- The PWMTB page (R199). -/
def Dev.pwmtbShow (o : Nat) (w : Word) (d : Dev) : Word :=
  let en (n : Nat) : Bool := d.flag (pLEG n) LEG.CTRL_EN
  match o with
  | 0x00C => PWMTB.STATUS_HALTED.show d.pw.halted.toNat (PWMTB.STATUS_BYPASS.show d.boot.bypass.toNat
      (PWMTB.STATUS_CAL_BUSY.show d.pw.calBusy.toNat (PWMTB.STATUS_TAPS_VALID.show d.pw.tapsValid.toNat w)))
  | 0x04C => BitVec.ofNat 32 (bitsOf 32 en)
  | 0x050 => BitVec.ofNat 32 (bitsOf 16 (fun k => en (32 + k)))
  | _ => w

/-- The LEDGER page (R329, R335): LIFE_S, the captured high words, the log slot under LOG_IDX. -/
def Dev.ledgerShow (o t : Nat) (w : Word) (d : Dev) : Word :=
  if 0x060 ≤ o && o < 0x090 && o % 8 = 4 then BitVec.ofNat 32 (d.prec.capHi.getD ((o - 0x064) / 8) 0)
  else if o = 0x0A0 then BitVec.ofNat 32 (d.lifeS t)
  else if 0x0B4 ≤ o && o < 0x0C4 then
    (d.prec.log.toArray.getD (d.get pLEDGER LEDGER.LOG_IDX_SLOT) []).getD ((o - 0x0B4) / 4) 0
  else w

/-- The schedule window shows shadow entries, and active ones 0x800 above (R399). -/
def Dev.schedShow (o : Nat) (w : Word) (d : Dev) : Word :=
  if 0x100 ≤ o && o < 0x700 then storeGet (fun _ => (0 : Word)) d.bus.shadow (d.schedKey o)
  else if 0x900 ≤ o && o < 0xF00 then storeGet (fun _ => (0 : Word)) d.bus.active (d.schedKey (o - 0x800))
  else w

/-- The fields that show what State holds outside the register file. -/
def Dev.shown (p o t : Nat) (w : Word) (d : Dev) : Word :=
  if p = pSYS then d.sysShow o t w
  else if p = pBOOT then (if o = 0x00C then BOOT.STATUS_MUSLIN.show d.boot.muslin.toNat w else w)
  else if p = pCLK then (if o = 0x00C then CLK.STATUS_HOLD.show d.clkHeld.toNat w else w)
  else if p = pRST then (if o = 0x048 then RST.WDOG_LEFT_US.show (d.wdogLeft t) w else w)
  else if pENG 12 ≤ p && p < pENG 15 then (if o = 0x044 then TE.TICK_PERIOD_TICKS.show (d.get pGFM GFM.TRIAD_PERIOD_TICKS) w else w)
  else if pLEG 0 ≤ p && p < pLEG 48 then d.legShow (p - pLEG 0) o t w
  else if pGRP 0 ≤ p && p < pGRP 4 then d.grpShow (p - pGRP 0) o t w
  else if p = pPWMTB then d.pwmtbShow o w
  else if p = pGFM then (if o = 0x0BC then d.assignedWord else w)
  else if pSDF 0 ≤ p && p < pSDF 8 then (if o = 0x00C then d.sdStatus (p - pSDF 0) else w)
  else if p = pPC 0 || p = pPC 1 then
    (if o = 0x00C then PC.STATUS_REF_SETTLED.show (d.refSettled (p - pPC 0) t).toNat w
     else if p = pPC 1 && o = 0x068 then d.reg (pPC 0 * 0x1000 + 0x068) else w)
  else if p = pLEDGER then d.ledgerShow o t w
  else if p = pTRIG then
    (if o = 0x00C then TRIG.STATUS_TB_BUSY.show (decide (t < d.acq.tbBusy)).toNat
       (TRIG.STATUS_WIRE_BLOCKED.show d.wireBlocked.toNat (TRIG.STATUS_TIME_LOCKED.show d.bus.nt.locked.toNat w))
     else w)
  else if p = pPBUS then (if o = 0x00C then PBUS.STATUS_OFFLINE.show d.boot.bypass.toNat w else w)
  else if p = pTIME then (if o = 0x06C then PBUS_TIME.CYCLE_NO.show (if d.bus.nt.valid then d.cycleNo t else 0) w else w)
  else if p = pSCHED then d.schedShow o w
  else if p = pCHAIN then
    (if o = 0x00C then CHAIN.STATUS_RATE_LOW.show (d.rateLow true || d.rateLow false).toNat w else w)
  else w

/-- SLACK_MIN restarts at each read (R138). -/
def Dev.slackRead (n : Nat) (d : Dev) : Word × Dev :=
  let a := TE.SLACK_MIN_TICKS.addr (pENG n) 0
  (d.reg a, d.put (pENG n) TE.SLACK_MIN_TICKS 0xFFFF)

/-- WAIT_MAX of a port restarts at each read (R281). -/
def Dev.waitRead (b k : Nat) (d : Dev) : Word × Dev :=
  (d.reg (ARB.PORT_STAT_WAIT_MAX.addr (pARB b) k), d.putAt (pARB b) ARB.PORT_STAT_WAIT_MAX k 0)

/-- STATUS of the PBUS page shows bus levels that no command carries: they are open (log entry 3). -/
def Dev.busLevels (w : Word) (d : Dev) : Word × Dev :=
  if d.flag pPBUS PBUS.STATUS_SYNCED && d.bus.cur.isNone then
    let r := d.drawBool
    (PBUS.STATUS_RX_BUSY.show r.1.toNat (PBUS.STATUS_IDLE.show (!r.1).toNat w), r.2)
  else (PBUS.STATUS_IDLE.show 0 w, d)

/-- A read of the register at byte address a; a page that is not mapped reads 0. -/
def Dev.regRead (a t : Nat) (d : Dev) : Word × Dev :=
  let p := a / 0x1000
  let o := a % 0x1000
  let d := if p = pSYS && 0x048 ≤ o && o < 0x060 then d.sdAllDue t else d.pageDue p t
  let w := d.shown p o t (woClear p o (d.reg a))
  if !pageMapped p then (0, d)
  else if pENG 0 ≤ p && p < pENG 15 && o = 0x060 then d.slackRead (p - pENG 0)
  else if pARB 0 ≤ p && p < pARB 16 && 0x080 ≤ o && o < 0x0E0 then d.waitRead (p - pARB 0) ((o - 0x080) / 4)
  else if p = pTIME && o = 0x050 then d.ntRead t
  else if p = pLEDGER && 0x060 ≤ o && o < 0x090 && o % 8 = 0 then d.counterLow ((o - 0x060) / 8)
  else if p = pPBUS && o = 0x00C then d.busLevels w
  else (w, d)

/-! ## The commands -/

/-- SLACK_MIN_READ (R138): engine. -/
def execSlackMinRead (n : Fin 15) (t : Nat) (s : State) : Host.Outcome State Fault Refusal :=
  runReg t (fun _ d => (d.slackRead n.val).2) s

/-- WAIT_MAX_READ (R281): bank, port. -/
def execWaitMaxRead (b : Fin 16) (k : Fin 24) (t : Nat) (s : State) : Host.Outcome State Fault Refusal :=
  runReg t (fun _ d => (d.waitRead b.val k.val).2) s

/-- NT_LO_READ (R390, R400). -/
def execNtLoRead (t : Nat) (s : State) : Host.Outcome State Fault Refusal := runReg t (fun _ d => (d.ntRead t).2) s

end Sys2Proof.Machine
end

