-- ==== Sys2Proof/Machine/ChainCmd.lean ====
section
/-!
DEFINITION. The commands of the chain and of local SPI (R403 to R422, R425, R430, R432, R450, R457).
-/
namespace Sys2Proof.Machine

/-! ## Requests (R413, R414, R416 to R419) -/

/-- The time limit of a request, in taps (R417). -/
def ChainFrame.limit (f : ChainFrame) : Nat := usTaps 100 * 2 ^ bitsGet f.w2 24 21

/-- An address range of n words is mapped, aligned and in one page, bank or window: its status (R416, R426). -/
def rangeStatus (a n : Nat) : Nat :=
  let last := a + 4 * n - 1
  if !((decide (a < 0x100000) && pageMapped (a / 0x1000)) || inWindow a) then 1
  else if a % 4 ≠ 0 then 2
  else if n = 0 then 0
  else if a < 0x100000 then (if a / 0x1000 = last / 0x1000 then 0 else 2)
  else if !inWindow last then 2
  else if 0x20000000 ≤ a && a < 0x20400000 then 0
  else if a / 0x10000 = last / 0x10000 then 0 else 2

/-- Pages and memories that stay powered in Gauze (R457). -/
def Dev.poweredIn (a : Nat) (d : Dev) : Bool :=
  let p := a / 0x1000
  let pc := d.flag pPWR PWR.GAUZE_CFG_PC_ON
  decide (a < 0x100000) && (decide (p = pSYS) || decide (p = pBOOT) || decide (p = pPWR) || decide (p = pRST) || decide (p = pCHAIN)) ||
    (pc && decide (a < 0x100000) && (decide (p = pPC 0) || decide (p = pPC 1) || decide (p = pLEDGER))) ||
    (pc && decide (0x100C0000 ≤ a) && decide (a < 0x100D0000))

/-- Core power is gated (R456). -/
def Dev.gated (d : Dev) : Bool := decide (d.get pPWR PWR.STATUS_STATE = 3) || decide (d.get pPWR PWR.STATUS_STATE = 4)

/-- A write that Muslin mode accepts (R422, R469). -/
def muslinMay (a : Nat) : Bool :=
  let p := a / 0x1000
  (decide (a < 0x100000) && (decide (p = pSYS) || decide (p = pBOOT) || decide (p = pRST) || decide (p = pCHAIN))) ||
    (decide (0x20000000 ≤ a) && decide (a < 0x20400000))

/-- The status of a READ or WRITE before it begins. -/
def Dev.accessStatus (write : Bool) (a n : Nat) (d : Dev) : Nat :=
  if 64 < n || (!write && decide (n = 0)) then 6
  else if rangeStatus a n ≠ 0 then rangeStatus a n
  else if d.gated && !d.poweredIn a then 8
  else if write && d.boot.muslin && !muslinMay a then 7
  else 0

/-- Words to the register pages, one access each. -/
def Dev.writeRegs (m : List Host.Cell) (a t : Nat) : List Word → Dev → Except Fault Dev
  | [], d => .ok d
  | w :: ws, d =>
    match d.regWrite m a 0x17 w t with
    | .ok d => Dev.writeRegs m (a + 4) t ws d.regRound
    | .error e => .error e

/-- Words to a target; in memory each 16-byte unit lands whole. -/
def Dev.writeWords (m : List Host.Cell) (a t : Nat) (ws : List Word) (d : Dev) : Except Fault Dev :=
  if a < 0x100000 then d.writeRegs m a t ws
  else .ok (d.each (fun u d => d.unitWrite 0x17 u.1 u.2) (unitsOf 17 a (ws.flatMap wordBytes)))

/-- Words of a target. -/
def Dev.readWords (m : List Host.Cell) (t : Nat) : Nat → Nat → Dev → List Word × Dev
  | 0, _, d => ([], d)
  | k + 1, a, d =>
    if a < 0x100000 then
      let r := d.regRead a t
      let q := Dev.readWords m t k (a + 4) r.2.regRound
      (r.1 :: q.1, q.2)
    else
      let q := Dev.readWords m t k (a + 4) d
      (d.word m a :: q.1, q.2)

/-- A command with code and argument: its status and its effect (R419, R471). -/
def Dev.command (m : List Host.Cell) (w : Word) (t : Nat) (d : Dev) : Nat × (Dev → Except Fault Dev) :=
  let arg := bitsGet w 23 0
  match bitsGet w 31 24 with
  | 1 => (0, fun d => .ok (d.assertReset .chain t))
  | 2 => if arg % 16 = 15 then (6, .ok) else (0, fun d => .ok (d.restart m (arg % 16) t))
  | 3 => (0, fun d => .ok (d.armGroup (arg % 8)))
  | 4 => if d.boot.muslin && d.flag pBOOT BOOT.STATUS_DL_GOOD then (0, fun d => d.clearRetry m t) else (7, .ok)
  | 5 => if d.flag pSYS SYS.DBG_CTRL_DBG_EN then (0, fun d => .ok (d.debugHalt t)) else (7, .ok)
  | 6 => (0, fun d => .ok (d.debugResume t))
  | _ => (6, .ok)

/-- What a request gives: status, words, device. `felt`: the word at which Felt fails after its retry. A command's response
goes out before it acts, so its effect is given apart. -/
def Dev.perform (m : List Host.Cell) (f : ChainFrame) (felt : Option Nat) (t : Nat) (d : Dev) :
    Except Fault (Nat × List Word × Dev) :=
  let a := f.w1.toNat
  if f.typ = 1 then
    let st := d.accessStatus false a f.len
    if st ≠ 0 then .ok (st, [], d)
    else match felt with
      | some j => .ok (5, [], (d.readWords m t (min j f.len) a).2)
      | none => let r := d.readWords m t f.len a; .ok (0, r.1, r.2)
  else
    let st := d.accessStatus true a f.len
    if st ≠ 0 then .ok (st, [], d)
    else (d.writeWords m a t (f.payload.take (min (felt.getD 64) f.len))).map (fun d => (if felt.isSome then 5 else 0, [], d))

/-- The response leaves unless it is ready after the limit (R417). -/
def Dev.answer (f : ChainFrame) (arrived ready stat : Nat) (ws : List Word) (d : Dev) : Dev :=
  if arrived + f.limit < ready then
    (d.count pCHAIN CHAIN.XACT_LATE_DISCARDS).raise pCHAIN CHAIN.IRQ_RAW_LATE_DISCARD
  else d.sendOn true (d.respond f.typ f.w1 f.tag stat ws)

/-- What every request meets before it is executed: none, where this unit does not execute it. -/
def Dev.admitCmd (f : ChainFrame) (arrived t : Nat) (d : Dev) : Option Nat × Dev :=
  let mine := !d.addressed' || decide (f.dest = d.ownSrc) || d.isEnd
  let d := if mine then d.consume true (fun h => decide (h = f)) else d
  if !d.addressed' || !mine then (none, d)
  else if f.dest ≠ d.ownSrc then (none, d.unreachable f.typ f.w1 f.tag)
  else if arrived + f.limit < t then (none, d)
  else if d.boot.inReset.isSome then (some 8, d)
  else if bitsGet f.w0 7 0 ≠ d.epoch then (some 3, d)
  else (some 0, d)

/-- READ or WRITE (R416): type, frame, complete arrival, instant the response is ready, Felt failure. -/
def Dev.access (m : List Host.Cell) (typ : Nat) (f : ChainFrame) (arrived ready : Nat) (felt : Option Nat) (t : Nat) (d : Dev) :
    Except Fault Dev :=
  if f.typ ≠ typ then .ok d
  else
    let r := d.admitCmd f arrived t
    match r.1 with
    | none => .ok r.2
    | some 0 => (r.2.perform m f felt t).map (fun x => x.2.2.answer f arrived ready x.1 x.2.1)
    | some st => .ok (r.2.answer f arrived ready st [])

/-- CMD of one code (R419): a broadcast acts, is passed on and not answered. -/
def Dev.cmdRx (m : List Host.Cell) (code : Nat) (f : ChainFrame) (fromUp : Bool) (arrived ready t : Nat) (d : Dev) : Except Fault Dev :=
  if f.typ ≠ 5 || bitsGet f.w1 31 24 ≠ code then .ok d
  else if f.bcast then
    let d := d.consume fromUp (fun h => decide (h = f))
    if !d.addressed' then .ok d
    else
      let d := if fromUp && d.isEnd then d else d.sendOn (!fromUp) f
      let c := d.command m f.w1 t
      if c.1 = 0 then c.2 d else .ok d
  else
    let r := d.admitCmd f arrived t
    match r.1 with
    | none => .ok r.2
    | some 0 =>
      let c := r.2.command m f.w1 t
      let d := r.2.answer f arrived ready c.1 []
      if c.1 = 0 then c.2 d else .ok d
    | some st => .ok (r.2.answer f arrived ready st [])

/-- REQUEST_TIMEOUT (R417): a request not begun within its limit is dropped. -/
def Dev.requestTimeout (f : ChainFrame) (arrived t : Nat) (d : Dev) : Dev :=
  if f.request && decide (arrived + f.limit < t) then d.consume true (fun h => decide (h = f)) else d

/-- A CMD whose code names no command: passed on where it is a broadcast, else answered with status 0x6 (R418, R419). -/
def Dev.unknownCmd (up : Bool) (f : ChainFrame) (t : Nat) (d : Dev) : Dev :=
  let code := bitsGet f.w1 31 24
  if f.typ = 5 && !(decide (1 ≤ code) && decide (code ≤ 6)) && (d.port up).rxBufs.contains f then
    (if f.bcast then
      let d := d.consume up (fun h => decide (h = f))
      if !d.addressed' || (up && d.isEnd) then d else d.sendOn (!up) f
     else if up && decide (f.dest = d.ownSrc) then
      let r := d.admitCmd f t t
      match r.1 with
      | none => r.2
      | some st => r.2.answer f t t (if st = 0 then 6 else st) []
     else d)
  else d

/-! ## Local SPI (R422) -/

/-- The SPI port is active. -/
def Dev.spiOn (d : Dev) : Bool := d.flag pSYS SYS.BENCH_SPI_ON || d.boot.muslin

/-- The response shifted out. -/
def Dev.spiAnswer (f : ChainFrame) (stat : Nat) (ws : List Word) (d : Dev) : Dev :=
  { d with chain := { d.chain with spi := some ((d.respond f.typ f.w1 f.tag stat ws).seal 0) } }

/-- SPI_REQUEST: a frame whose HCRC is bad gets no response. -/
def Dev.spiRequest (m : List Host.Cell) (f : ChainFrame) (felt : Option Nat) (t : Nat) (d : Dev) : Except Fault Dev :=
  if !d.spiOn || bitsGet f.w2 15 0 ≠ f.crc then .ok d
  else if d.boot.inReset.isSome then .ok (d.spiAnswer f 8 [])
  else if f.typ = 7 || f.typ = 0xA || (f.typ = 5 && f.bcast) then .ok (d.spiAnswer f 7 [])
  else if f.typ = 1 || f.typ = 2 then (d.perform m f felt t).map (fun x => x.2.2.spiAnswer f x.1 x.2.1)
  else if f.typ = 5 then
    let c := d.command m f.w1 t
    let d := d.spiAnswer f c.1 []
    if c.1 = 0 then c.2 d else .ok d
  else if f.typ = 0xB then .ok (d.mailRx f)
  else .ok (d.spiAnswer f 6 [])

/-! ## Enumeration and events on arrival -/

/-- ENUM arrives at the upstream port. -/
def Dev.enumArrives (f : ChainFrame) (d : Dev) : Dev :=
  if f.typ = 7 then (d.consume true (fun h => decide (h = f))).enumRx (bitsGet f.w1 6 0) (bitsGet f.w1 15 8) else d

/-- ENUM_DONE arrives at the downstream port; a unit without a position acts on ENUM alone (R413). -/
def Dev.enumDoneArrives (f : ChainFrame) (d : Dev) : Dev :=
  if f.typ ≠ 8 then d
  else
    let d := d.consume false (fun h => decide (h = f))
    if d.addressed' then d.enumDone (bitsGet f.w1 6 0) (bitsGet f.w1 15 8) else d

/-- EVENT arrives at the downstream port. -/
def Dev.eventArrives (f : ChainFrame) (d : Dev) : Dev :=
  if f.typ = 9 then (d.consume false (fun h => decide (h = f))).eventRx f.w1 (bitsGet f.w0 21 16) else d

/-- MAIL for this unit. -/
def Dev.mailArrives (f : ChainFrame) (d : Dev) : Dev :=
  if f.typ = 0xB && d.addressed' && decide (f.dest = d.ownSrc) then d.mailRx f else d

/-! ## The commands -/

/-- STREAM_BLOCK (R305, R421). -/
def execStreamBlock (t : Nat) (s : State) : Host.Outcome State Fault Refusal := run t (fun m d => d.streamBlock m t) s

/-- LINK_UP (R403): which port, and how many clean characters it has received in a row. -/
def execLinkUp (up : Bool) (chars t : Nat) (s : State) : Host.Outcome State Fault Refusal := run t (fun _ d => d.linkUp up chars t) s
/-- LINK_LOST (R403): which port, and when it last received a keep-alive. -/
def execLinkLost (up : Bool) (ka t : Nat) (s : State) : Host.Outcome State Fault Refusal := run t (fun _ d => d.rxTimeout up ka t) s
/-- KEEPALIVE_SEND (R403). -/
def execKeepaliveSend (up : Bool) (t : Nat) (s : State) : Host.Outcome State Fault Refusal := run t (fun _ d => d.keepalive up t) s
/-- ACK (R404). -/
def execAck (up : Bool) (seq : Fin 64) (t : Nat) (s : State) : Host.Outcome State Fault Refusal := run t (fun _ d => d.ackRx up seq.val) s
/-- NAK (R405). -/
def execNak (up : Bool) (seq : Fin 64) (t : Nat) (s : State) : Host.Outcome State Fault Refusal := run t (fun _ d => d.nakRx up seq.val t) s
/-- RATE (R402): the fourth RATE in a row. -/
def execRate (up full : Bool) (t : Nat) (s : State) : Host.Outcome State Fault Refusal := run t (fun _ d => d.rateRx up full) s
/-- CHAIN_FRAME_RX (R405). -/
def execChainFrameRx (up : Bool) (f : ChainFrame) (eof : Bool) (bad : List Nat) (t : Nat) (s : State) : Host.Outcome State Fault Refusal :=
  run t (fun _ d => (d.chainRx up f eof bad t).unknownCmd up f t) s
/-- CHAIN_FRAME_FORWARD (R409): the port a frame leaves by. -/
def execChainFrameForward (up : Bool) (t : Nat) (s : State) : Host.Outcome State Fault Refusal := run t (fun _ d => d.chainForward up t) s
/-- READ (R416). -/
def execRead (f : ChainFrame) (arrived ready : Nat) (felt : Option Nat) (t : Nat) (s : State) : Host.Outcome State Fault Refusal :=
  runF t (fun m d => d.access m 1 f arrived ready felt t) s
/-- WRITE (R416). -/
def execWrite (f : ChainFrame) (arrived ready : Nat) (felt : Option Nat) (t : Nat) (s : State) : Host.Outcome State Fault Refusal :=
  runF t (fun m d => d.access m 2 f arrived ready felt t) s
/-- REQUEST_TIMEOUT (R417). -/
def execRequestTimeout (f : ChainFrame) (arrived t : Nat) (s : State) : Host.Outcome State Fault Refusal :=
  run t (fun _ d => d.requestTimeout f arrived t) s
/-- CHAIN_RESET (R419). -/
def execChainReset (f : ChainFrame) (fromUp : Bool) (arrived ready t : Nat) (s : State) : Host.Outcome State Fault Refusal :=
  runF t (fun m d => d.cmdRx m 1 f fromUp arrived ready t) s
/-- ENGINE_RESET (R419). -/
def execEngineReset (f : ChainFrame) (fromUp : Bool) (arrived ready t : Nat) (s : State) : Host.Outcome State Fault Refusal :=
  runF t (fun m d => d.cmdRx m 2 f fromUp arrived ready t) s
/-- ARM (R299). -/
def execArm (f : ChainFrame) (fromUp : Bool) (arrived ready t : Nat) (s : State) : Host.Outcome State Fault Refusal :=
  runF t (fun m d => d.cmdRx m 3 f fromUp arrived ready t) s
/-- CLEAR_RETRY (R471). -/
def execClearRetry (f : ChainFrame) (fromUp : Bool) (arrived ready t : Nat) (s : State) : Host.Outcome State Fault Refusal :=
  runF t (fun m d => d.cmdRx m 4 f fromUp arrived ready t) s
/-- DEBUG_HALT (R192). -/
def execDebugHalt (f : ChainFrame) (fromUp : Bool) (arrived ready t : Nat) (s : State) : Host.Outcome State Fault Refusal :=
  runF t (fun m d => d.cmdRx m 5 f fromUp arrived ready t) s
/-- DEBUG_RESUME (R194). -/
def execDebugResume (f : ChainFrame) (fromUp : Bool) (arrived ready t : Nat) (s : State) : Host.Outcome State Fault Refusal :=
  runF t (fun m d => d.cmdRx m 6 f fromUp arrived ready t) s
/-- ENUM (R412). -/
def execEnum (f : ChainFrame) (t : Nat) (s : State) : Host.Outcome State Fault Refusal := run t (fun _ d => d.enumArrives f) s
/-- ENUM_DONE (R412). -/
def execEnumDone (f : ChainFrame) (t : Nat) (s : State) : Host.Outcome State Fault Refusal := run t (fun _ d => d.enumDoneArrives f) s
/-- EVENT (R420). -/
def execEvent (f : ChainFrame) (t : Nat) (s : State) : Host.Outcome State Fault Refusal := run t (fun _ d => d.eventArrives f) s
/-- MAIL (R411). -/
def execMail (f : ChainFrame) (t : Nat) (s : State) : Host.Outcome State Fault Refusal := run t (fun _ d => d.mailArrives f) s
/-- RE_ENUM (R430). -/
def execReEnum (t : Nat) (s : State) : Host.Outcome State Fault Refusal := runReg t (fun _ d => d.reEnum) s
/-- CLOSE_DN (R430): the bit written. -/
def execCloseDn (close : Bool) (t : Nat) (s : State) : Host.Outcome State Fault Refusal := runReg t (fun _ d => d.closeDn close) s
/-- CHAIN_CLR_CNT (R430). -/
def execChainClrCnt (t : Nat) (s : State) : Host.Outcome State Fault Refusal := runReg t (fun _ d => d.chainClr) s
/-- CMD_OUT (R432): the word written. -/
def execCmdOut (w : Word) (t : Nat) (s : State) : Host.Outcome State Fault Refusal := runReg t (fun _ d => d.cmdOut w) s
/-- SPI_REQUEST (R422). -/
def execSpiRequest (f : ChainFrame) (felt : Option Nat) (t : Nat) (s : State) : Host.Outcome State Fault Refusal :=
  runF t (fun m d => d.spiRequest m f felt t) s
/-- EVENT_IRQ (R425). -/
def execEventIrq (t : Nat) (s : State) : Host.Outcome State Fault Refusal := run t (fun _ d => (d.sdAllDue t).irqEval t) s
/-- BACKLOG_FRAME_TAKEN (R274): CHAIN_Q or BUS_Q. -/
def execBacklogFrameTaken (chain : Bool) (t : Nat) (s : State) : Host.Outcome State Fault Refusal :=
  run t (fun _ d => d.backlogTaken chain) s

end Sys2Proof.Machine
end

