-- ==== Sys2Proof/Machine/Operands.lean ====
section
/-!
DEFINITION. The operand forms of the engine instructions: registers and literals (R128), data memory (R127, R131), outstanding
Canvas reads (R132, R136, R256), and the shape of an instruction that computes a register.
-/
namespace Sys2Proof.Machine

/-- The engine executes: a sample is in progress, its own or one of the triad, and has not signalled completion, or it loads
a triad position; no debug halt (R129, R130, R135, R141, R160). -/
def Dev.executes (n : Nat) (d : Dev) : Bool :=
  let e := d.engine n
  !d.pw.halted && e.doneAt.isNone && !e.unacked &&
    ((e.st = .run && e.tickAt.isSome) || (d.holdable n && (e.tickAt.isSome || (d.loadingPos n).isSome)))

/-- What keeps an instruction from completing: it stalls, or it is a fault of R154. -/
inductive InstrEnd where
  | stall
  | cause (c : Nat)
  deriving DecidableEq, Repr

/-- The read loads register r. -/
def PendRead.loads (r : Fin 32) (p : PendRead) : Bool := match p.dest with | .word q => decide (q = r) | .block _ => false

/-- The read fills some of the `len` bytes of data memory from a on. -/
def PendRead.fills (a len : Nat) (p : PendRead) : Bool :=
  match p.dest with
  | .word _ => false
  | .block dst => decide (dst < a + len) && decide (a < dst + p.len)

/-- Engine n waits for a Canvas read that satisfies `p`: a use of its result stalls until it arrives (R136). -/
def Dev.awaits (n : Nat) (p : PendRead → Bool) (d : Dev) : Bool := (d.engine n).pend.any (fun x => p x && x.bytes.isNone)

/-- A source register awaits its read. -/
def Dev.srcAwaits (n : Nat) (ss : List Src) (d : Dev) : Bool :=
  ss.any (fun s => match s with | .lit _ => false | .reg r => d.awaits n (fun p => p.loads r))

/-- Length of an instruction with these sources: a literal is a second word (R128). -/
def srcWords (ss : List Src) : Nat :=
  if ss.any (fun s => match s with | .lit _ => true | .reg _ => false) then 2 else 1

/-- One instruction with its sources: an instruction address outside program code is outside the map (cause 2); while it stalls
it has no effect (R136); else the program counter moves past it and it takes effect. -/
def Dev.instr (m : List Host.Cell) (n : Nat) (ss : List Src) (f : Dev → Except InstrEnd Dev) (d : Dev) : Dev :=
  if d.executes n then
    let pc := (d.engine n).pc
    let words := srcWords ss
    if 0x7800 < pc + 4 * words || pc % 4 ≠ 0 then d.engFault m n 2 d.now
    else if d.srcAwaits n ss then d
    else
      match f (d.setEngine n { d.engine n with pc := pc + 4 * words }) with
      | .ok d' => d'
      | .error .stall => d
      | .error (.cause c) => d.engFault m n c d.now
  else d

/-- Set a general register. -/
def Dev.setG (n : Nat) (r : Fin 32) (w : Word) (d : Dev) : Dev :=
  let e := d.engine n
  let pend := e.pend.filter (fun p => !p.loads r)
  d.setEngine n { e with regs := e.regs.set r w, pend := pend }

/-! ## Data memory (R127, R131) -/

/-- The address in the data window of engine address a: a word of the state window that the sample has written stands in the
working half. -/
def Dev.dataAddr (n a : Nat) (d : Dev) : Nat :=
  if 0x3000 ≤ a && (d.engine n).written.contains ((a - 0x3000) / 4 * 4) then dataBase n + a + 0x800 else dataBase n + a

/-- One byte of data memory as the engine sees it. -/
def Dev.dataByte (m : List Host.Cell) (n a : Nat) (d : Dev) : Byte := d.byte m (d.dataAddr n a)

/-- Write a byte: the first write to a word of the state window brings its committed value to the working half. -/
def Dev.dataPoke (m : List Host.Cell) (n a : Nat) (b : Byte) (d : Dev) : Dev :=
  let e := d.engine n
  let o := (a - 0x3000) / 4 * 4
  if 0x3000 ≤ a && !e.written.contains o then
    let w := d.word m (dataBase n + 0x3000 + o)
    let d := d.setEngine n { e with written := e.written ++ [o] }
    (d.pokeWords (dataBase n + 0x3800 + o) [w]).poke (dataBase n + a + 0x800) b
  else d.poke (d.dataAddr n a) b

/-- Write consecutive bytes of data memory. -/
def Dev.dataPokes (m : List Host.Cell) (n : Nat) : Nat → List Byte → Dev → Dev
  | _, [], d => d
  | a, b :: bs, d => Dev.dataPokes m n (a + 1) bs (d.dataPoke m n a b)

/-- The result of a read is used: it enters its register or data memory. -/
def Dev.arrive (m : List Host.Cell) (n : Nat) (p : PendRead) (d : Dev) : Dev :=
  match p.bytes, p.dest with
  | none, _ => d
  | some bs, .word r =>
    let e := d.engine n
    d.setEngine n { e with regs := e.regs.set r (wordOf bs) }
  | some bs, .block dst => d.dataPokes m n dst bs

/-- The reads that satisfy `p` and have arrived take effect, in order of issue. -/
def Dev.take (m : List Host.Cell) (n : Nat) (p : PendRead → Bool) (d : Dev) : Dev :=
  let e := d.engine n
  let now (x : PendRead) : Bool := p x && x.bytes.isSome
  let d := d.setEngine n { e with pend := e.pend.filter (fun x => !now x) }
  d.each (fun x d => d.arrive m n x) (e.pend.filter now)

/-! ## Operands -/

/-- The value of a source; the result of a read that has arrived enters its register. -/
def Dev.src (m : List Host.Cell) (n : Nat) (x : Src) (d : Dev) : Word × Dev :=
  match x with
  | .lit w => (w, d)
  | .reg r =>
    let d := d.take m n (fun p => p.loads r)
    ((d.engine n).regs[r], d)

/-- The values of sources, in order. -/
def Dev.srcs (m : List Host.Cell) (n : Nat) (xs : List Src) (d : Dev) : List Word × Dev :=
  xs.foldl (fun r x => let v := r.2.src m n x; (r.1 ++ [v.1], v.2)) ([], d)

/-- An instruction that computes a register from sources, with flags. -/
def Dev.compute (m : List Host.Cell) (n : Nat) (rd : Fin 32) (ss : List Src) (f : List Word → FV) (d : Dev) : Dev :=
  d.instr m n ss (fun d =>
    let v := d.srcs m n ss
    let r := f v.1
    .ok ((v.2.setG n rd r.w).fpFlags n r.fl))

/-- One source. -/
def Dev.unop (m : List Host.Cell) (n : Nat) (rd : Fin 32) (a : Src) (f : Word → FV) (d : Dev) : Dev :=
  d.compute m n rd [a] (fun v => f (v.getD 0 0))
/-- Two sources. -/
def Dev.binop (m : List Host.Cell) (n : Nat) (rd : Fin 32) (a b : Src) (f : Word → Word → FV) (d : Dev) : Dev :=
  d.compute m n rd [a, b] (fun v => f (v.getD 0 0) (v.getD 1 0))
/-- Three sources. -/
def Dev.triop (m : List Host.Cell) (n : Nat) (rd : Fin 32) (a b c : Src) (f : Word → Word → Word → FV) (d : Dev) : Dev :=
  d.compute m n rd [a, b, c] (fun v => f (v.getD 0 0) (v.getD 1 0) (v.getD 2 0))

end Sys2Proof.Machine
end

