-- ==== Sys2Proof/Machine/EngineIsa.lean ====
section
/-!
DEFINITION. The instructions of the control and triad engines (R127, R128, R130, R136, R139 to R141, R154, R176). Each takes
the engine's code; the spec gives no encoding, so operands are what a decoded instruction would carry (log entry 10).
-/
namespace Sys2Proof.Machine

/-! ## Integer operations (R136, R139) -/

/-- The high 32 bits of the product; signedness is open (log entry 10). -/
def mulHigh (signed : Bool) (a b : Word) : Word :=
  if signed then BitVec.ofInt 32 (a.toInt * b.toInt / 2 ^ 32) else BitVec.ofNat 32 (a.toNat * b.toNat / 2 ^ 32)

/-- A shift; an amount of 32 or more is open (log entry 10). -/
def shiftOr (op : Nat) (f : Word → Nat → Word) (a b : Word) : Word :=
  if b.toNat < 32 then f a b.toNat else Config.wideShift op a b

/-- FCMP's outcome code. -/
def FOrder.code : FOrder → Nat
  | .less => 0 | .equal => 1 | .greater => 2 | .unordered => 3

/-- FCVT (R139 item 6). -/
def fcvt (toInt : Bool) (a : Word) : FV :=
  if toInt then ⟨BitVec.ofInt 32 (fToIntW a).1, (fToIntW a).2⟩ else fOfInt a.toInt

/-! ## Memory and control -/

/-- `len` bytes from a on lie in data memory (R127). -/
def inData (a len : Nat) : Bool := decide (a + len ≤ 0x3800)
/-- `len` bytes from a on lie in one Canvas bank (R253, R256). -/
def inCanvas (a len : Nat) : Bool :=
  decide (0x10000000 ≤ a) && decide (a + len ≤ 0x10100000) && decide (a / 0x10000 = (a + len - 1) / 0x10000)

/-- LD: a word of data memory or a program constant. -/
def Dev.ld (m : List Host.Cell) (n : Nat) (prog : Bool) (rd : Fin 32) (addr : Src) (d : Dev) : Dev :=
  d.instr m n [addr] (fun d =>
    let v := d.src m n addr
    let a := v.1.toNat
    if prog then
      (if a + 4 ≤ 0x8000 then .ok (v.2.setG n rd (v.2.word m (progBase n + a))) else .error (.cause 2))
    else if inData a 4 then
      if v.2.awaits n (fun p => p.fills a 4) then .error .stall else
      let d := v.2.take m n (fun p => p.fills a 4)
      .ok (d.setG n rd (wordOf ((List.range 4).map (fun j => d.dataByte m n (a + j)))))
    else .error (.cause 2))

/-- ST: a word to data memory. -/
def Dev.st (m : List Host.Cell) (n : Nat) (prog : Bool) (addr value : Src) (d : Dev) : Dev :=
  d.instr m n [addr, value] (fun d =>
    let v := d.src m n addr
    let w := v.2.src m n value
    let a := v.1.toNat
    if prog then (if a + 4 ≤ 0x8000 then .error (.cause 3) else .error (.cause 2))
    else if !inData a 4 then .error (.cause 2)
    else if a < 0x20 then .error (.cause 3)
    else if w.2.awaits n (fun p => p.fills a 4) then .error .stall
    else .ok ((w.2.take m n (fun p => p.fills a 4)).dataPokes m n a (wordBytes w.1)))

/-- Issue a Canvas read on a tag of the engine's port; with both occupied the engine stalls (R255). -/
def Dev.issueRead (n : Nat) (dest : ReadDest) (a len : Nat) (d : Dev) : Except InstrEnd Dev :=
  if len = 0 then .ok d
  else if (d.tagFor n).isNone then .error .stall
  else
    let e := d.engine n
    .ok ((d.setEngine n { e with pend := e.pend ++ [⟨dest, len, d.felt.issued, none⟩] }).feltIssue n none a len d.now)

/-- Issue a posted Canvas write. -/
def Dev.issueWrite (n a : Nat) (bs : List Byte) (d : Dev) : Except InstrEnd Dev :=
  if bs.isEmpty then .ok d
  else if (d.tagFor n).isNone then .error .stall
  else .ok (d.feltIssue n (some bs) a bs.length d.now)

/-- CRD: one word. -/
def Dev.crd (m : List Host.Cell) (n : Nat) (rd : Fin 32) (addr : Src) (d : Dev) : Dev :=
  d.instr m n [addr] (fun d =>
    let v := d.src m n addr
    let a := v.1.toNat
    if inCanvas a 4 then (v.2.setG n rd (v.2.engine n).regs[rd]).issueRead n (.word rd) a 4
    else .error (.cause 2))

/-- CBR: a block of up to 64 bytes into data memory. -/
def Dev.cbr (m : List Host.Cell) (n : Nat) (dst addr : Src) (len : Nat) (d : Dev) : Dev :=
  d.instr m n [dst, addr] (fun d =>
    let v := d.src m n dst
    let w := v.2.src m n addr
    let t := v.1.toNat
    let a := w.1.toNat
    if !inData t len || !inCanvas a len then .error (.cause 2)
    else if t < 0x20 then .error (.cause 3)
    else if w.2.awaits n (fun p => p.fills t len) then .error .stall
    else (w.2.take m n (fun p => p.fills t len)).issueRead n (.block t) a len)

/-- CWR: one word, posted. -/
def Dev.cwr (m : List Host.Cell) (n : Nat) (addr value : Src) (d : Dev) : Dev :=
  d.instr m n [addr, value] (fun d =>
    let v := d.src m n addr
    let w := v.2.src m n value
    if inCanvas v.1.toNat 4 then w.2.issueWrite n v.1.toNat (wordBytes w.1) else .error (.cause 2))

/-- CBW: a block of data memory, posted. -/
def Dev.cbw (m : List Host.Cell) (n : Nat) (addr frm : Src) (len : Nat) (d : Dev) : Dev :=
  d.instr m n [addr, frm] (fun d =>
    let v := d.src m n addr
    let w := v.2.src m n frm
    let a := v.1.toNat
    let f := w.1.toNat
    if inCanvas a len && inData f len then
      if w.2.awaits n (fun p => p.fills f len) then .error .stall else
      let d := w.2.take m n (fun p => p.fills f len)
      d.issueWrite n a ((List.range len).map (fun j => d.dataByte m n (f + j)))
    else .error (.cause 2))

/-- LWR: a leg write, staged where the engine lists the leg, else foreign (R176). -/
def Dev.lwr (m : List Host.Cell) (n : Nat) (target value : Fin 32) (d : Dev) : Dev :=
  d.instr m n [.reg target, .reg value] (fun d =>
    let v := d.src m n (.reg target)
    let w := v.2.src m n (.reg value)
    let leg := v.1.toNat % 64
    let port := v.1.toNat / 256 % 4
    let d := w.2
    if (d.engLegs n).contains leg then
      let e := d.engine n
      .ok (d.setEngine n { e with staged := e.staged ++ [⟨leg, port, w.1⟩] })
    else if leg < 48 && (d.legOwner leg).isSome then .ok (d.foreignWrite leg n)
    else .ok d)

/-- A jump. -/
def Dev.goto (n : Nat) (w : Word) (d : Dev) : Dev := d.setEngine n { d.engine n with pc := w.toNat }

/-- BR, and BRZ and BRNZ with their condition. -/
def Dev.br (m : List Host.Cell) (n : Nat) (target : Src) (d : Dev) : Dev :=
  d.instr m n [target] (fun d => let v := d.src m n target; .ok (v.2.goto n v.1))
def Dev.brIf (m : List Host.Cell) (n : Nat) (zero : Bool) (c target : Src) (d : Dev) : Dev :=
  d.instr m n [c, target] (fun d =>
    let v := d.src m n c
    let w := v.2.src m n target
    .ok (if decide (v.1 = 0) = zero then w.2.goto n w.1 else w.2))

/-- CALL: the return stack holds 16 entries. -/
def Dev.call (m : List Host.Cell) (n : Nat) (target : Src) (d : Dev) : Dev :=
  d.instr m n [target] (fun d =>
    let v := d.src m n target
    let e := v.2.engine n
    if 16 ≤ e.stack.length then .error (.cause 5)
    else .ok ((v.2.setEngine n { e with stack := e.pc :: e.stack }).goto n v.1))

/-- RET. -/
def Dev.ret (m : List Host.Cell) (n : Nat) (d : Dev) : Dev :=
  d.instr m n [] (fun d =>
    let e := d.engine n
    match e.stack with
    | [] => .error (.cause 5)
    | r :: rs => .ok (d.setEngine n { e with pc := r, stack := rs }))

/-- A write of port p is still to be acknowledged (R130). -/
def Dev.writesOpen (p : Nat) (d : Dev) : Bool :=
  [2 * p, 2 * p + 1].any (fun k => (d.tag k).any (fun x => x.data.isSome))

/-- DONE: it waits until every write is acknowledged; its wait ends at t, and the synchroniser adds at most 2 ticks (R130). A
write that failed is never acknowledged, so the wait never ends (R269). Reads that have arrived take effect; those that have
not are never used (log entry 10). -/
def Dev.done (m : List Host.Cell) (n arrival t : Nat) (d : Dev) : Dev :=
  d.instr m n [] (fun d =>
    if d.writesOpen n then .error .stall else
    let d := d.take m n (fun _ => true)
    if d.felt.failed.contains n then .ok (d.setEngine n { d.engine n with unacked := true })
    else .ok (d.setEngine n { d.engine n with doneAt := some (min (max arrival t) (t + 64)) }))

/-- A timing-dependent instruction (R141). -/
def Dev.timed (m : List Host.Cell) (n : Nat) (ss : List Src) (f : Dev → Except InstrEnd Dev) (d : Dev) : Dev :=
  d.instr m n ss (fun d => if d.inPosition n then .error (.cause 4) else f d)

/-! ## The commands -/

/-- ADD (R136). -/
def execAdd (n : Fin 15) (rd : Fin 32) (a b : Src) (s : State) : Host.Outcome State Fault Refusal :=
  runNow (fun m d => d.binop m n rd a b (fun x y => .of (x + y))) s
/-- SUB (R136). -/
def execSub (n : Fin 15) (rd : Fin 32) (a b : Src) (s : State) : Host.Outcome State Fault Refusal :=
  runNow (fun m d => d.binop m n rd a b (fun x y => .of (x - y))) s
/-- AND (R136). -/
def execAnd (n : Fin 15) (rd : Fin 32) (a b : Src) (s : State) : Host.Outcome State Fault Refusal :=
  runNow (fun m d => d.binop m n rd a b (fun x y => .of (x &&& y))) s
/-- OR (R136). -/
def execOr (n : Fin 15) (rd : Fin 32) (a b : Src) (s : State) : Host.Outcome State Fault Refusal :=
  runNow (fun m d => d.binop m n rd a b (fun x y => .of (x ||| y))) s
/-- XOR (R136). -/
def execXor (n : Fin 15) (rd : Fin 32) (a b : Src) (s : State) : Host.Outcome State Fault Refusal :=
  runNow (fun m d => d.binop m n rd a b (fun x y => .of (x ^^^ y))) s
/-- SHL (R136). -/
def execShl (n : Fin 15) (rd : Fin 32) (a b : Src) (s : State) : Host.Outcome State Fault Refusal :=
  runNow (fun m d => d.binop m n rd a b (fun x y => .of (shiftOr 0 (fun v k => v <<< k) x y))) s
/-- SHR (R136). -/
def execShr (n : Fin 15) (rd : Fin 32) (a b : Src) (s : State) : Host.Outcome State Fault Refusal :=
  runNow (fun m d => d.binop m n rd a b (fun x y => .of (shiftOr 1 (fun v k => v >>> k) x y))) s
/-- SAR (R136). -/
def execSar (n : Fin 15) (rd : Fin 32) (a b : Src) (s : State) : Host.Outcome State Fault Refusal :=
  runNow (fun m d => d.binop m n rd a b (fun x y => .of (shiftOr 2 (fun v k => v.sshiftRight k) x y))) s
/-- CMP (R136): the result's form is open. -/
def execCmp (n : Fin 15) (rd : Fin 32) (a b : Src) (s : State) : Host.Outcome State Fault Refusal :=
  runNow (fun m d => d.binop m n rd a b (fun x y => .of (Config.cmpResult x y))) s
/-- SEL (R136): the first value where the condition is not zero. -/
def execSel (n : Fin 15) (rd : Fin 32) (c a b : Src) (s : State) : Host.Outcome State Fault Refusal :=
  runNow (fun m d => d.triop m n rd c a b (fun x y z => .of (if x = 0 then z else y))) s
/-- MUL (R136). -/
def execMul (n : Fin 15) (rd : Fin 32) (a b : Src) (s : State) : Host.Outcome State Fault Refusal :=
  runNow (fun m d => d.binop m n rd a b (fun x y => .of (x * y))) s
/-- MULH (R136). -/
def execMulh (n : Fin 15) (rd : Fin 32) (a b : Src) (s : State) : Host.Outcome State Fault Refusal :=
  runNow (fun m d => d.binop m n rd a b (fun x y => .of (mulHigh Config.mulhSigned x y))) s
/-- FMIN (R139). -/
def execFmin (n : Fin 15) (rd : Fin 32) (a b : Src) (s : State) : Host.Outcome State Fault Refusal :=
  runNow (fun m d => d.binop m n rd a b (fun x y => .of (fminW x y))) s
/-- FMAX (R139). -/
def execFmax (n : Fin 15) (rd : Fin 32) (a b : Src) (s : State) : Host.Outcome State Fault Refusal :=
  runNow (fun m d => d.binop m n rd a b (fun x y => .of (fmaxW x y))) s
/-- FABS (R139). -/
def execFabs (n : Fin 15) (rd : Fin 32) (a : Src) (s : State) : Host.Outcome State Fault Refusal :=
  runNow (fun m d => d.unop m n rd a (fun x => .of (fabsW x))) s
/-- FNEG (R139). -/
def execFneg (n : Fin 15) (rd : Fin 32) (a : Src) (s : State) : Host.Outcome State Fault Refusal :=
  runNow (fun m d => d.unop m n rd a (fun x => .of (fnegW x))) s
/-- FCLAMP (R139). -/
def execFclamp (n : Fin 15) (rd : Fin 32) (a lo hi : Src) (s : State) : Host.Outcome State Fault Refusal :=
  runNow (fun m d => d.triop m n rd a lo hi (fun x y z => .of (fclampW x y z))) s
/-- FCMP (R139): the outcome is given, its form in the register is open. -/
def execFcmp (n : Fin 15) (rd : Fin 32) (a b : Src) (s : State) : Host.Outcome State Fault Refusal :=
  runNow (fun m d => d.binop m n rd a b (fun x y => .of (Config.fcmpResult (fcmpW x y).code))) s
/-- FADD (R139). -/
def execFadd (n : Fin 15) (rd : Fin 32) (a b : Src) (s : State) : Host.Outcome State Fault Refusal :=
  runNow (fun m d => d.binop m n rd a b faddW) s
/-- FSUB (R139). -/
def execFsub (n : Fin 15) (rd : Fin 32) (a b : Src) (s : State) : Host.Outcome State Fault Refusal :=
  runNow (fun m d => d.binop m n rd a b fsubW) s
/-- FMUL (R139). -/
def execFmul (n : Fin 15) (rd : Fin 32) (a b : Src) (s : State) : Host.Outcome State Fault Refusal :=
  runNow (fun m d => d.binop m n rd a b fmulW) s
/-- FMA (R139): rounds once. -/
def execFma (n : Fin 15) (rd : Fin 32) (a b c : Src) (s : State) : Host.Outcome State Fault Refusal :=
  runNow (fun m d => d.triop m n rd a b c ffmaW) s
/-- FCVT (R139 item 6). -/
def execFcvt (n : Fin 15) (toInt : Bool) (rd : Fin 32) (a : Src) (s : State) : Host.Outcome State Fault Refusal :=
  runNow (fun m d => d.unop m n rd a (fcvt toInt)) s
/-- FDIV (R139). -/
def execFdiv (n : Fin 15) (rd : Fin 32) (a b : Src) (s : State) : Host.Outcome State Fault Refusal :=
  runNow (fun m d => d.binop m n rd a b fdivW) s
/-- FSQRT (R139). -/
def execFsqrt (n : Fin 15) (rd : Fin 32) (a : Src) (s : State) : Host.Outcome State Fault Refusal :=
  runNow (fun m d => d.unop m n rd a fsqrtW) s
/-- SINCOS (R140): two results. -/
def execSincos (n : Fin 15) (rs rc : Fin 32) (a : Src) (s : State) : Host.Outcome State Fault Refusal :=
  runNow (fun m d => d.instr m n [a] (fun d =>
    let v := d.src m n a
    let x := fsin v.1
    let y := fcos v.1
    .ok (((v.2.setG n rs x.w).setG n rc y.w).fpFlags n (x.fl.union y.fl)))) s
/-- LD (R127, R136). -/
def execLd (n : Fin 15) (prog : Bool) (rd : Fin 32) (addr : Src) (s : State) : Host.Outcome State Fault Refusal :=
  runNow (fun m d => d.ld m n prog rd addr) s
/-- ST (R127, R136). -/
def execSt (n : Fin 15) (prog : Bool) (addr value : Src) (s : State) : Host.Outcome State Fault Refusal :=
  runNow (fun m d => d.st m n prog addr value) s
/-- CRD (R136). -/
def execCrd (n : Fin 15) (rd : Fin 32) (addr : Src) (s : State) : Host.Outcome State Fault Refusal :=
  runNow (fun m d => d.crd m n rd addr) s
/-- CBR (R136). -/
def execCbr (n : Fin 15) (dst addr : Src) (len : Fin 65) (s : State) : Host.Outcome State Fault Refusal :=
  runNow (fun m d => d.cbr m n dst addr len) s
/-- CWR (R136). -/
def execCwr (n : Fin 15) (addr value : Src) (s : State) : Host.Outcome State Fault Refusal :=
  runNow (fun m d => d.cwr m n addr value) s
/-- CBW (R136). -/
def execCbw (n : Fin 15) (addr frm : Src) (len : Fin 65) (s : State) : Host.Outcome State Fault Refusal :=
  runNow (fun m d => d.cbw m n addr frm len) s
/-- LWR (R176). -/
def execLwr (n : Fin 15) (target value : Fin 32) (s : State) : Host.Outcome State Fault Refusal :=
  runNow (fun m d => d.lwr m n target value) s
/-- BR (R136). -/
def execBr (n : Fin 15) (target : Src) (s : State) : Host.Outcome State Fault Refusal :=
  runNow (fun m d => d.br m n target) s
/-- BRZ (R136). -/
def execBrz (n : Fin 15) (c target : Src) (s : State) : Host.Outcome State Fault Refusal :=
  runNow (fun m d => d.brIf m n true c target) s
/-- BRNZ (R136). -/
def execBrnz (n : Fin 15) (c target : Src) (s : State) : Host.Outcome State Fault Refusal :=
  runNow (fun m d => d.brIf m n false c target) s
/-- CALL (R128, R136). -/
def execCall (n : Fin 15) (target : Src) (s : State) : Host.Outcome State Fault Refusal :=
  runNow (fun m d => d.call m n target) s
/-- RET (R128, R136). -/
def execRet (n : Fin 15) (s : State) : Host.Outcome State Fault Refusal := runNow (fun m d => d.ret m n) s
/-- DONE (R130). -/
def execDone (n : Fin 15) (arrival t : Nat) (s : State) : Host.Outcome State Fault Refusal :=
  run t (fun m d => d.done m n arrival t) s
/-- TICKSTAMP (R136, R141). -/
def execTickstamp (n : Fin 15) (rd : Fin 32) (t : Nat) (s : State) : Host.Outcome State Fault Refusal :=
  run t (fun m d => d.timed m n [] (fun d => .ok (d.setG n rd d.stamp))) s
/-- CPOLL (R136, R141): what a non-blocking read returns depends on timing. -/
def execCpoll (n : Fin 15) (rd : Fin 32) (addr : Src) (t : Nat) (s : State) : Host.Outcome State Fault Refusal :=
  run t (fun m d => d.timed m n [addr] (fun d =>
    let v := d.src m n addr
    if inCanvas v.1.toNat 4 then
      let w := v.2.drawWord
      .ok (w.2.setG n rd w.1)
    else .error (.cause 2))) s

end Sys2Proof.Machine
end

