-- ==== Sys2Proof/Machine/FeltCmd.lean ====
section
/-!
DEFINITION. The commands of Felt (R254 to R271): requests, decisions, handshakes at every target, timeouts, commits.
-/
namespace Sys2Proof.Machine

/-- The address lies in a register page or a memory window (R426). -/
def feltMapped (a : Nat) : Bool := decide (a < 0x100000) || inWindow a

/-- FELT_REQUEST: an engine's access outside the map, or across a bank boundary, is its fault 0x2 (R154, R256). -/
def Dev.feltAsk (m : List Host.Cell) (p : Nat) (data : Option (List Byte)) (addr len t : Nat) (d : Dev) : Dev :=
  let n := match data with | some bs => (bs.take 64).length | none => len
  let bad := !feltMapped addr || !feltMapped (addr + n - 1) || ((bankOf addr).isSome && decide (bankOf addr ≠ bankOf (addr + n - 1)))
  if n = 0 then d
  else if bad then (if p < 15 then d.engFault m p 2 t else d)
  else d.feltRequest p data addr len t

/-- The words of a unit on the register pages: each whole word is one access of the register target. -/
def Dev.regUnitWrite (m : List Host.Cell) (port t : Nat) : List (Nat × Word) → Dev → Except Fault Dev
  | [], d => .ok d
  | (a, w) :: ws, d =>
    match d.regWrite m a port w t with
    | .ok d => Dev.regUnitWrite m port t ws d.regRound
    | .error e => .error e

/-- The whole words of a unit. -/
def unitWords : Nat → Nat → List Byte → List (Nat × Word)
  | 0, _, _ => []
  | k + 1, a, bs => if a % 4 = 0 && 4 ≤ bs.length then (a, wordOf bs) :: unitWords k (a + 4) (bs.drop 4) else unitWords k (a + 1) (bs.drop 1)

/-- Read words of the register target. -/
def Dev.regUnitRead (t : Nat) : Nat → Nat → Dev → List Byte × Dev
  | 0, _, d => ([], d)
  | k + 1, a, d =>
    let r := d.regRead a t
    let rest := Dev.regUnitRead t k (a + 4) r.2.regRound
    (wordBytes r.1 ++ rest.1, rest.2)

/-- A unit of a write at its target. -/
def Dev.writeUnit (m : List Host.Cell) (port t : Nat) (u : Nat × List Byte) (d : Dev) : Except Fault Dev :=
  if u.1 < 0x100000 then d.regUnitWrite m port t (unitWords 16 u.1 u.2) else .ok (d.unitWrite port u.1 u.2)

/-- A unit of a read at its target. -/
def Dev.feltReadUnit (m : List Host.Cell) (t : Nat) (u : Nat × List Byte) (d : Dev) : List Byte × Dev :=
  if u.1 < 0x100000 then
    let first := u.1 / 4 * 4
    let r := Dev.regUnitRead t ((u.1 + u.2.length + 3 - first) / 4) first d
    ((r.1.drop (u.1 - first)).take u.2.length, r.2)
  else (d.bytes m u.1 u.2.length, d)

/-- The bank of a handshake counts it (R261, R281). -/
def Dev.handshakeCount (k t : Nat) (d : Dev) : Dev :=
  d.each (fun b d =>
    if (d.arb b).owner = some k then
      (d.setArb b { d.arb b with units := (d.arb b).units + 1, since := t }).countWrap (pARB b) ARB.HANDSHAKES
    else d) (List.range 16)

/-- The request is dropped once no handshake remains (R261); a write then completes. -/
def Dev.closeTx (k t : Nat) (d : Dev) : Dev :=
  match d.tag k with
  | none => d
  | some x => if x.open' then d else
    let d := d.releaseTag k
    if x.data.isSome then (d.setTag k none).writeLanded (k / 2) x.addr t else d

/-- A handshake of tag k completes: it is counted, a read's bytes land, and its port goes on. -/
def Dev.handshakeEnd (k : Nat) (landed : Option (List Byte)) (t : Nat) (d : Dev) : Dev :=
  let d := d.handshakeCount k t
  let d := d.setTag k ((d.tag k).map (fun (x : Tx) => { x with progress := x.progress + 1, landing := landed, began := none }))
  ((d.closeTx k t).deliver (k / 2) t).pump (k / 2) t

/-- FELT_HANDSHAKE of tag k: up to 16 bytes of one aligned unit (R256); a token error ends it before any data (R258). -/
def Dev.handshake (m : List Host.Cell) (k : Nat) (tokenErr : Bool) (t : Nat) (d : Dev) : Except Fault Dev :=
  match d.tag k with
  | none => .ok d
  | some x =>
    if !d.handshakeDue k x then .ok d
    else if tokenErr then .ok ((d.abortReport 3 k).abort k t)
    else
      let u := x.units.getD x.progress (0, [])
      match x.data with
      | some _ => (d.writeUnit m (k / 2) t u).map (fun d => d.handshakeEnd k none t)
      | none =>
        let r := d.feltReadUnit m t u
        .ok (r.2.handshakeEnd k (some r.1) t)

/-! ## The commands -/

/-- FELT_REQUEST (R255, R256): port, the bytes of a write or none, address, length of a read. -/
def execFeltRequest (p : Fin 24) (data : Option (List (BitVec 8))) (addr : BitVec 32) (len : Fin 65) (t : Nat) (s : State) :
    Host.Outcome State Fault Refusal :=
  run t (fun m d => d.feltAsk m p.val data addr.toNat len.val t) s

/-- ARBITER_DECISION (R260): bank. -/
def execArbiterDecision (b : Fin 16) (t : Nat) (s : State) : Host.Outcome State Fault Refusal :=
  run t (fun _ d => d.decision b.val t) s

/-- FELT_HANDSHAKE (R256, R258): tag, whether its token fails. -/
def execFeltHandshake (k : Fin 48) (tokenErr : Bool) (t : Nat) (s : State) : Host.Outcome State Fault Refusal :=
  runF t (fun m d => d.handshake m k.val tokenErr t) s

/-- PREEMPT (R261): bank. -/
def execPreempt (b : Fin 16) (t : Nat) (s : State) : Host.Outcome State Fault Refusal := run t (fun _ d => d.preempt b.val t) s

/-- HS_TIMEOUT (R267): the tag whose handshake is in progress. -/
def execHsTimeout (k : Fin 48) (t : Nat) (s : State) : Host.Outcome State Fault Refusal := run t (fun _ d => d.hsTimeout k.val t) s

/-- TX_TIMEOUT (R268). -/
def execTxTimeout (t : Nat) (s : State) : Host.Outcome State Fault Refusal := run t (fun _ d => d.txTimeout t) s

/-- ARB_COMMIT (R265): bank. -/
def execArbCommit (b : Fin 16) (t : Nat) (s : State) : Host.Outcome State Fault Refusal :=
  runReg t (fun _ d => d.arbCommit b.val) s

/-- ARB_CLR_CNT (R280): bank. -/
def execArbClrCnt (b : Fin 16) (t : Nat) (s : State) : Host.Outcome State Fault Refusal :=
  runReg t (fun _ d => d.arbClear b.val) s

/-- FELT_CLR_CNT (R277). -/
def execFeltClrCnt (t : Nat) (s : State) : Host.Outcome State Fault Refusal := runReg t (fun _ d => d.feltClear) s

end Sys2Proof.Machine
end

