-- ==== Sys2Proof/Machine/Holder.lean ====
section
/-!
DEFINITION. The triad tick and the voter step with the samples of the engines that hold the positions (R61, R104 to R118, R128
to R135, R155).
-/
namespace Sys2Proof.Machine

/-! ## The samples of the holders (R135, R155) -/

/-- The holder of position k starts a sample at the triad tick; a restart, a fault or a halt starts none (R135, R153, R154). -/
def Dev.holderTick (t k : Nat) (d : Dev) : Dev :=
  let x := d.pos k
  let n := x.holder
  if (x.st = .counted || x.st = .suspended) && d.holdable n then
    let flip := (d.engine n).mboxLatched
    let d := d.mboxFlip n
    (d.startSample n t (d.engine n).st flip).2
  else d

/-- The holder of position k runs its sample and writes its record and its state block (R104, R105). -/
def Dev.holderSample (i : LawIn) (ups : List (Fin 3 × Fin 32 × Word)) (run : Bool) (k : Nat) (d : Dev) : Dev :=
  let x := d.pos k
  if (x.st = .counted || x.st = .suspended) && (d.engine x.holder).tickAt.isSome then
    let l := if run then lawSample i x.law else x.law
    let d := d.setPos k { x with law := l }
    let d := d.fpFlags x.holder l.out.flags
    (d.pokeWords (0x100F0000 + 0x80 * k) (upsetWords k ups (recordWords l))).stage
      (blockCells (0x100F0400 + 0x200 * k) d.triad.sampleNo)
  else d

/-- Every holder starts its sample and runs the law's part of it. -/
def Dev.holderSamples (i : LawIn) (ups : List (Fin 3 × Fin 32 × Word)) (run : Bool) (t : Nat) (d : Dev) : Dev :=
  (d.each (fun k d => d.holderTick t k) (List.range 3)).each (fun k d => d.holderSample i ups run k) (List.range 3)

/-- Every counted holder whose sample runs has left the law. -/
def Dev.allStopped (d : Dev) : Bool :=
  let c := (List.range 3).filter (fun k =>
    decide ((d.pos k).st = .counted) && (d.engine (d.pos k).holder).tickAt.isSome)
  !c.isEmpty && c.all (fun k => !(d.pos k).law.seq.st.runs)

/-- The holders have left the law at this tick: the sequencer hold begins, and all legs go off (R44, R93, R492). -/
def Dev.holdBegins (t : Nat) (d : Dev) : Dev :=
  let d := d.allLegsOff t
  ({ d with pw := { d.pw with seqHold := true } }).settle t

/-- One triad tick (R61): while the law runs each holder runs its own sample and the outcome waits for the vote; otherwise
the sequencer runs once and its outcome takes effect, a law start granting the positions. -/
def Dev.triadTick (m : List Host.Cell) (t : Nat) (ups : List (Fin 3 × Fin 32 × Word)) (d : Dev) : Dev :=
  if d.triadDue t then
    let d := d.tickBegin t
    let i := d.lawIn m t
    if d.running then
      let d := d.tickUsed.holderSamples i ups true t
      if d.allStopped then d.holdBegins t else d
    else
      (d.tickUsed.adopt t (lawSample i d.triad.law)).holderSamples i ups false t
  else d

/-! ## The triad commit deadline (R106, R131, R132, R135) -/

/-- When the record of position k was complete: the DONE of its program, else the arrival that the command gives; never where
its engine's sample was cut before the deadline by a restart, a fault or a halt (R130, R153, R154). -/
def Dev.arrival (done : List (Fin 3 × Nat)) (k : Fin 3) (d : Dev) : Option Nat :=
  let e := d.engine (d.pos k.val).holder
  if e.tickAt.isNone || e.unacked || d.felt.failed.contains (d.pos k.val).holder then none
  else match e.doneAt with
    | some a => some a
    | none => (done.find? (fun x => decide (x.1 = k))).map (·.2)

/-- The complete records with their arrivals. -/
def Dev.arrivals (done : List (Fin 3 × Nat)) (d : Dev) : List (Fin 3 × Nat) :=
  ([0, 1, 2] : List (Fin 3)).filterMap (fun k => (d.arrival done k).map (fun a => (k, a)))

/-- The sample of the holder of position k at the deadline: its commit, or its cut, which counts as a miss (R131, R132, R135,
R164). -/
def Dev.holderDeadline (m : List Host.Cell) (t deadline : Nat) (done : List (Fin 3 × Nat)) (k : Nat) (d : Dev) : Dev :=
  let x := d.pos k
  if (x.st = .counted || x.st = .suspended) && (d.engine x.holder).tickAt.isSome then
    match completed k deadline done with
    | some a => d.commitSample m x.holder t a deadline
    | none => (d.cutSample x.holder).sampleMissed x.holder
  else d

/-- The sequencer hold ends at the commit deadline of the first sample in which the law runs, voted or not (R492). -/
def Dev.holdEnds (t : Nat) (d : Dev) : Dev :=
  if d.running && d.pw.seqHold then ({ d with pw := { d.pw with seqHold := false } }).settle t else d

/-- The voter step at the triad commit deadline; `done` lists the positions whose records were complete, and when. -/
def Dev.voterStep (m : List Host.Cell) (t : Nat) (done : List (Fin 3 × Nat)) (d : Dev) : Dev :=
  match d.triad.tickAt with
  | none => d
  | some a =>
    let deadline := a + tickTaps (d.get (pENG 12) TE.DEADLINE_TICKS)
    if d.triad.sampleOpen && decide (deadline ≤ t) && !d.pw.halted then
      let done := d.arrivals done
      let stopped := d.allStopped
      let d := { d with triad := { d.triad with sampleOpen := false } }
      let d := d.put pVOTER VOTER.LAST_SAMPLE d.triad.sampleNo
      let d := d.each (fun k d => d.holderDeadline m t deadline done k) (List.range 3)
      let d := (if d.running then d.voterRun m t deadline done else d).spareReady
      if stopped then d else d.holdEnds t
    else d

/-! ## The commands -/

/-- TRIAD_TICK (R61); `ups` are the faults that the members' records carry in this sample. -/
def execTriadTick (ups : List (Fin 3 × Fin 32 × Word)) (t : Nat) (s : State) : Host.Outcome State Fault Refusal :=
  run t (fun m d => d.triadTick m t ups) s
/-- VOTER_STEP (R106). -/
def execVoterStep (done : List (Fin 3 × Nat)) (t : Nat) (s : State) : Host.Outcome State Fault Refusal :=
  run t (fun m d => d.voterStep m t done) s

end Sys2Proof.Machine
end

