-- ==== Sys2Proof/Machine/PbusCmd.lean ====
section
/-!
DEFINITION. The commands of the peer bus (R358 to R401).
-/
namespace Sys2Proof.Machine

/-! ## The controller and its buffers -/

/-- PB_ON (R361). -/
def execPbOn (t : Nat) (s : State) : Host.Outcome State Fault Refusal := runReg t (fun _ d => d.pbOn t) s
/-- PB_OFF (R358). -/
def execPbOff (t : Nat) (s : State) : Host.Outcome State Fault Refusal := runReg t (fun _ d => d.pbOff t) s
/-- PB_SYNCED (R361): since when the bus has been recessive. -/
def execPbSynced (since t : Nat) (s : State) : Host.Outcome State Fault Refusal := run t (fun _ d => d.pbSynced since t) s
/-- TX_REQ (R373): buffer. -/
def execTxReq (n : Fin 64) (t : Nat) (s : State) : Host.Outcome State Fault Refusal := runReg t (fun _ d => d.txReq n.val t) s
/-- TX_ABORT (R374): buffer. -/
def execTxAbort (n : Fin 64) (t : Nat) (s : State) : Host.Outcome State Fault Refusal := runReg t (fun _ d => d.txAbort n.val t) s
/-- ABORT_ALL (R397). -/
def execAbortAll (t : Nat) (s : State) : Host.Outcome State Fault Refusal :=
  runReg t (fun _ d => d.each (fun n d => d.txAbort n t) (List.range 64)) s
/-- RX_RELEASE (R376): buffer. -/
def execRxRelease (n : Fin 64) (t : Nat) (s : State) : Host.Outcome State Fault Refusal :=
  runReg t (fun _ d => d.rxRelease n.val) s
/-- RX_BUFFER_FLIP (R376): buffer. -/
def execRxBufferFlip (n : Fin 64) (t : Nat) (s : State) : Host.Outcome State Fault Refusal :=
  run t (fun _ d => d.rxFlip n.val) s
/-- TX_EXPIRY (R374): buffer. -/
def execTxExpiry (n : Fin 64) (t : Nat) (s : State) : Host.Outcome State Fault Refusal := run t (fun _ d => d.txExpiry n.val t) s
/-- RECOVER (R381). -/
def execRecover (t : Nat) (s : State) : Host.Outcome State Fault Refusal := runReg t (fun _ d => d.recover t) s
/-- BUSOFF_RECOVERED (R381): since when the bus has been recessive. -/
def execBusoffRecovered (since t : Nat) (s : State) : Host.Outcome State Fault Refusal := run t (fun _ d => d.recovered since t) s

/-! ## Frames -/

/-- PB_START_OPPORTUNITY (R373, R386): whether the Canvas read of the buffer fails after its retry, whether arbitration is
lost. -/
def execPbStartOpportunity (readFail lost : Bool) (t : Nat) (s : State) : Host.Outcome State Fault Refusal :=
  run t (fun m d => d.startOpp m readFail lost t) s
/-- PB_FRAME_TX_DONE (R373): the loop delay measured. -/
def execPbFrameTxDone (loop : BitVec 16) (t : Nat) (s : State) : Host.Outcome State Fault Refusal :=
  run t (fun _ d => d.txDone loop.toNat t) s
/-- PB_FRAME_RX (R363, R367, R368): the frame, its header CRC as received, the instant of its SOF. -/
def execPbFrameRx (typ : Fin 8) (ident : BitVec 29) (seq : BitVec 8) (data : List (BitVec 8)) (crc : BitVec 17) (sof t : Nat)
    (s : State) : Host.Outcome State Fault Refusal :=
  run t (fun _ d => d.frameRx ⟨typ.val, ident.toNat, seq.toNat, data.take 64, sof⟩ crc.toNat t) s
/-- PB_ERROR (R367, R378): 0 bit, 1 stuff, 2 form, 3 acknowledgement; found while receiving or while sending; the start of the
ACK slot of a frame being received, where it has passed. -/
def execPbError (code : Fin 4) (rx : Bool) (ack : Option Nat) (t : Nat) (s : State) : Host.Outcome State Fault Refusal :=
  run t (fun _ d => d.busError (if code.val < 2 then code.val + 1 else code.val + 2) rx ack t) s
/-- PB_ALONE (R380). -/
def execPbAlone (t : Nat) (s : State) : Host.Outcome State Fault Refusal := run t (fun _ d => d.alone) s

/-! ## Schedule and network time -/

/-- CYCLE_BOUNDARY (R384): whether the bus is idle, whether the master's REF loses arbitration. -/
def execCycleBoundary (idle lost : Bool) (t : Nat) (s : State) : Host.Outcome State Fault Refusal :=
  run t (fun _ d => d.cycleBoundary idle lost t) s
/-- EXCLUSIVE_WINDOW (R387): whether the bus is idle, whether the read fails, whether arbitration is lost. -/
def execExclusiveWindow (idle readFail lost : Bool) (t : Nat) (s : State) : Host.Outcome State Fault Refusal :=
  run t (fun m d => d.exclusive m idle readFail lost t) s
/-- PBUS_SCHED_COMMIT (R389). -/
def execPbusSchedCommit (t : Nat) (s : State) : Host.Outcome State Fault Refusal := runReg t (fun _ d => d.schedCommit t) s
/-- REF_RX (R392): sender, sequence/slot, data, header CRC as received, the instant of the SOF. -/
def execRefRx (ident : BitVec 29) (seq : BitVec 8) (data : List (BitVec 8)) (crc : BitVec 17) (sof t : Nat) (s : State) :
    Host.Outcome State Fault Refusal :=
  run t (fun _ d => d.frameRx ⟨3, ident.toNat, seq.toNat, data.take 64, sof⟩ crc.toNat t) s
/-- NT_LOCK_GAINED (R393). -/
def execNtLockGained (t : Nat) (s : State) : Host.Outcome State Fault Refusal := run t (fun _ d => d.ntGain) s
/-- NT_LOCK_LOST (R394). -/
def execNtLockLost (t : Nat) (s : State) : Host.Outcome State Fault Refusal := run t (fun _ d => d.ntMiss) s
/-- NT_STEP (R394). -/
def execNtStep (t : Nat) (s : State) : Host.Outcome State Fault Refusal := run t (fun _ d => d.ntStep t) s
/-- MASTER (R391). -/
def execMaster (on : Bool) (t : Nat) (s : State) : Host.Outcome State Fault Refusal := runReg t (fun _ d => d.ntMaster on t) s
/-- SET (R391). -/
def execSet (t : Nat) (s : State) : Host.Outcome State Fault Refusal := runReg t (fun _ d => d.ntSet) s

end Sys2Proof.Machine
end

