-- ==== Sys2Proof/Machine/PrecCmd.lean ====
section
/-!
DEFINITION. Results of the precision converters, written to their rings through port 0x15 (R316, R317, R320, R325).
-/
namespace Sys2Proof.Machine

/-- The record of a result is issued as one block write of 16 bytes, and shown (R317). -/
def Dev.pcRecord (c : Nat) (r : PcsResult) (unver : Bool) (t : Nat) (d : Dev) : Dev :=
  let p := pPC c
  let x := d.conv c
  let info : Word := BitVec.ofNat 32 (r.win.len / 32 * 256 + r.win.input * 16 + r.ovr.toNat * 8 +
    r.win.unsettled.toNat * 4 + r.win.notFormed.toNat * 2 + unver.toNat)
  let words : List Word := [BitVec.ofNat 32 (r.win.no + x.gap.toNat * 2 ^ 24), r.win.stamp, r.value, info]
  let d := d.setConv c { x with gap := false, issued := words }
  let d := ((d.put p PC.LAST_VALUE r.value.toNat).put p PC.LAST_INFO info.toNat).put p PC.LAST_STAMP r.win.stamp.toNat
  let d := if r.ovr then (d.count p PC.CNT_OVR_CNT).raise p PC.IRQ_RAW_OVR else d
  let d := if r.win.unsettled then d.raise p PC.IRQ_RAW_REF_UNSETTLED else d
  (d.raise p PC.IRQ_RAW_RESULT).feltIssue 0x15 (some (words.flatMap wordBytes)) (pcSlot c r.win.no) 16 t

/-- Both PCS results are complete: the comparison, both records, and the interval, once both records have landed where the
comparison holds (R320, R326). -/
def Dev.pcsCheck (a b : PcsResult) (t : Nat) (d : Dev) : Dev :=
  let diff := a.code - b.code
  let d := d.put (pPC 0) PC.PCS_DELTA (BitVec.ofInt 24 diff).toNat
  let bad := decide (d.get (pPC 0) PC.PCS_TOL_CODES < diff.natAbs) || a.ovr || b.ovr || a.win.unsettled || b.win.unsettled
  let d := (d.setConv 0 { d.conv 0 with pcs := none })
  let d := d.setConv 1 { d.conv 1 with pcs := none }
  let d := if bad then (d.pcsFailed a.win.fin).intervalClose false t
    else { d with prec := { d.prec with pcsWait := some ⟨a.win.no, a.win.fin, [0, 1]⟩ } }
  (d.pcRecord 0 a bad t).pcRecord 1 b bad t

/-- What a result means to the ledger (R325). -/
def Dev.pcLedger (c : Nat) (r : PcsResult) (t : Nat) (d : Dev) : Dev :=
  if r.ovr || r.win.unsettled then d
  else if c = 0 then { d with prec := { d.prec with dcV := d.prec.dcV.setIfInBounds r.win.input (some r.code) } }
  else if r.win.input = d.get pLEDGER LEDGER.LED_CFG_DC_I_IN then d.dcAccumulate r.code r.win.fin r.win.len t
  else d

/-- PC_RESULT: the result of the oldest ended window of converter c, from the mean input voltage num / (den + 1) in units of
V_FS. -/
def Dev.pcResult (c : Nat) (num : Int) (den : Nat) (t : Nat) (d : Dev) : Dev :=
  let x := d.conv c
  match x.ended with
  | [] => d
  | e :: es =>
    let v := d.pcCode c e.input num (den + 1)
    let r : PcsResult := ⟨e, v.1, d.pcFormat c v.1, v.2⟩
    let d := d.setConv c { x with ended := es }
    if e.input = 8 then
      let d := d.setConv c { d.conv c with pcs := some r }
      match (d.conv 0).pcs, (d.conv 1).pcs with
      | some a, some b => if a.win.no = b.win.no then d.pcsCheck a b t else d
      | _, _ => d
    else (d.pcRecord c r false t).pcLedger c r t

/-- PC_RESULT (R316, R317, R320, R325). -/
def execPcResult (c : Fin 2) (num : Int) (den : Nat) (t : Nat) (s : State) : Host.Outcome State Fault Refusal :=
  run t (fun _ d => d.pcResult c.val num den t) s

end Sys2Proof.Machine
end

