-- ==== Sys2Proof/Machine/SenseCmd.lean ====
section
/-!
DEFINITION. Final samples and their frames, and the commands of the sigma-delta chains (R234 to R245).
-/
namespace Sys2Proof.Machine

/-- The writer issues the frame as one block write of 16 bytes on the port of its input; SEQ advances (R241, R254). -/
def Dev.sdWrite (i t : Nat) (x : SdSample) (d : Dev) : Dev :=
  let seq := (d.sd i).seq
  let d := (d.setSd i { d.sd i with seq := (seq + 1) % 2 ^ 32 }).putAt (sdPage i) SDF.SEQ (i % 8) seq
  d.feltIssue (0x11 + i / 16) (some ((frameWords seq (d.stampOf t) x).flatMap wordBytes))
    (0x100D0000 + i * 0x40 + seq % 4 * 0x10) 16 t

/-- A final sample at its instant (R234 to R241). -/
def Dev.sdFinal (i t : Nat) (bs : List Bool) (d : Dev) : Dev :=
  let d := (d.sdDue i t).sdBits i t bs
  let c := d.sdCfg i
  let p := sdPage i
  if d.onGrid t c.phase c.tOut then
    let r := (d.sd i).sample c
    let x := r.1
    let d := d.setSd i r.2
    let d := d.putAt p SDF.LAST_FLAGS (i % 8) x.flags
    let d := d.putAt p SDF.LAST_DATA (i % 8) (lo24 x.data)
    let d := d.putAt p SDF.DCB_M (i % 8) (lo24 (r.2.m / 2 ^ 20))
    let d := if x.sat then (d.countAt p SDF.CNT_SAT_CNT (i % 8)).raiseBit p SDF.IRQ_RAW_SAT (i % 8) else d
    let d := if x.noClk then d.raise p SDF.IRQ_RAW_NO_CLK else d
    let d := (d.rpsSample i t x).acqFinal i t (BitVec.ofNat 32 (lo24 x.data * 256 + x.flags))
    if d.onGrid t c.phase (c.wrDiv * c.tOut) then d.sdWrite i t x else d
  else d

/-! ## The commands -/

/-- FINAL_SAMPLE (R234): input, the bits captured since the last report, instant. -/
def execFinalSample (i : Fin 64) (bits : List Bool) (t : Nat) (s : State) : Host.Outcome State Fault Refusal :=
  run t (fun _ d => d.sdFinal i t bits) s

/-- SETTLED (R245): the first valid sample after a reset completes. -/
def execSettled (i : Fin 64) (t : Nat) (s : State) : Host.Outcome State Fault Refusal :=
  run t (fun _ d => d.sdSettled i) s

/-- STUCK_DETECTED (R239): the bits captured since the last report make a run of STUCK_LEN. -/
def execStuckDetected (i : Fin 64) (bits : List Bool) (t : Nat) (s : State) : Host.Outcome State Fault Refusal :=
  run t (fun _ d => (d.sdDue i t).sdBits i t bits) s

/-- SDF_COMMIT (R242, R243). -/
def execSdfCommit (j : Fin 8) (t : Nat) (s : State) : Host.Outcome State Fault Refusal :=
  runReg t (fun _ d => d.sdCommit j t) s

/-- SDF_SYNC (R244): each named input resets at the first tick at least 2 ticks later. -/
def execSdfSync (j : Fin 8) (mask : BitVec 8) (t : Nat) (s : State) : Host.Outcome State Fault Refusal :=
  runReg t (fun _ d =>
    (d.sdPageDue (pSDF j) t).each (fun i d => if mask.toNat.testBit i then d.sdPlace (8 * j + i) (tickAfter2 t) else d)
      (List.range 8)) s

/-- FSRC_WRITE (R244, R250): a write of FSRC; a reserved bit is R10's. -/
def execFsrcWrite (i : Fin 64) (w : Word) (t : Nat) (s : State) : Host.Outcome State Fault Refusal :=
  runRegF t (fun _ d => if w.toNat &&& 0xFC0080F8 != 0 then .error .reservedBit else .ok ((d.sdDue i t).sdFsrc i w t)) s

end Sys2Proof.Machine
end

