-- ==== Sys2Proof/Machine/Dispatch.lean ====
section
/-!
DEFINITION. One arm per command: each a direct call of that command's meaning.
-/

namespace Sys2Proof.Machine

def exec (i : Instr) (s : State) : Host.Outcome State Fault Refusal :=
  match i with
  | .registerWrite a port w t => Sys2Proof.Machine.execRegisterWrite a port w t s
  | .irqClr p w ev t => Sys2Proof.Machine.execIrqClr p w ev t s
  | .lockWrite p port w t => Sys2Proof.Machine.execLockWrite p port w t s
  | .slackMinRead n t => Sys2Proof.Machine.execSlackMinRead n t s
  | .waitMaxRead b k t => Sys2Proof.Machine.execWaitMaxRead b k t s
  | .ntLoRead t => Sys2Proof.Machine.execNtLoRead t s
  | .ledgerCounterRead k t => Sys2Proof.Machine.execLedgerCounterRead k t s
  | .gfmCommit t => Sys2Proof.Machine.execGfmCommit t s
  | .gfmSnap t => Sys2Proof.Machine.execGfmSnap t s
  | .triadTick ups t => Sys2Proof.Machine.execTriadTick ups t s
  | .holdExpired t => Sys2Proof.Machine.execHoldExpired t s
  | .nonfiniteLimit t => Sys2Proof.Machine.execNonfiniteLimit t s
  | .shutdownRampEnd t => Sys2Proof.Machine.execShutdownRampEnd t s
  | .profileCommit t => Sys2Proof.Machine.execProfileCommit t s
  | .feExpired t => Sys2Proof.Machine.execFeExpired t s
  | .transitCommit t => Sys2Proof.Machine.execTransitCommit t s
  | .blackStart t => Sys2Proof.Machine.execBlackStart t s
  | .armStart t => Sys2Proof.Machine.execArmStart t s
  | .attach t => Sys2Proof.Machine.execAttach t s
  | .reconnect t => Sys2Proof.Machine.execReconnect t s
  | .island t => Sys2Proof.Machine.execIsland t s
  | .stop t => Sys2Proof.Machine.execStop t s
  | .abortSync t => Sys2Proof.Machine.execAbortSync t s
  | .deadMsExpired t => Sys2Proof.Machine.execDeadMsExpired t s
  | .brkFbTimeout t => Sys2Proof.Machine.execBrkFbTimeout t s
  | .startInstant t => Sys2Proof.Machine.execStartInstant t s
  | .leadWireInstant t => Sys2Proof.Machine.execLeadWireInstant t s
  | .farSideSettled t => Sys2Proof.Machine.execFarSideSettled t s
  | .syncClose t => Sys2Proof.Machine.execSyncClose t s
  | .syncTimeout t => Sys2Proof.Machine.execSyncTimeout t s
  | .rtSatCount t => Sys2Proof.Machine.execRtSatCount t s
  | .rtTmaxExpired t => Sys2Proof.Machine.execRtTmaxExpired t s
  | .rtExit t => Sys2Proof.Machine.execRtExit t s
  | .frtCommit t => Sys2Proof.Machine.execFrtCommit t s
  | .voterStep done t => Sys2Proof.Machine.execVoterStep done t s
  | .holdShutdown t => Sys2Proof.Machine.execHoldShutdown t s
  | .leaseExpiry k t => Sys2Proof.Machine.execLeaseExpiry k t s
  | .spareLoadDone k t => Sys2Proof.Machine.execSpareLoadDone k t s
  | .selftestPassDone n fail t => Sys2Proof.Machine.execSelftestPassDone n fail t s
  | .failback k t => Sys2Proof.Machine.execFailback k t s
  | .voterTest t => Sys2Proof.Machine.execVoterTest t s
  | .voterTestDone pass t => Sys2Proof.Machine.execVoterTestDone pass t s
  | .voterClrCnt t => Sys2Proof.Machine.execVoterClrCnt t s
  | .roleFrameRx pc addr rank reclaim t => Sys2Proof.Machine.execRoleFrameRx pc addr rank reclaim t s
  | .roleFrameTx pc t => Sys2Proof.Machine.execRoleFrameTx pc t s
  | .roleClaim pc t => Sys2Proof.Machine.execRoleClaim pc t s
  | .roleLeaseExpiry pc t => Sys2Proof.Machine.execRoleLeaseExpiry pc t s
  | .roleReclaim pc t => Sys2Proof.Machine.execRoleReclaim pc t s
  | .engineTick n t => Sys2Proof.Machine.execEngineTick n t s
  | .sampleDeadline n arrival t => Sys2Proof.Machine.execSampleDeadline n arrival t s
  | .missOff n t => Sys2Proof.Machine.execMissOff n t s
  | .legResume n t => Sys2Proof.Machine.execLegResume n t s
  | .engineRun n t => Sys2Proof.Machine.execEngineRun n t s
  | .engineStop n t => Sys2Proof.Machine.execEngineStop n t s
  | .restart n t => Sys2Proof.Machine.execRestart n t s
  | .restartDone n t => Sys2Proof.Machine.execRestartDone n t s
  | .ceCommit n t => Sys2Proof.Machine.execCeCommit n t s
  | .legHoldExpired n k t => Sys2Proof.Machine.execLegHoldExpired n k t s
  | .legNonfiniteLimit n k t => Sys2Proof.Machine.execLegNonfiniteLimit n k t s
  | .hkTick t => Sys2Proof.Machine.execHkTick t s
  | .hkDone t => Sys2Proof.Machine.execHkDone t s
  | .mpOverloadSet t => Sys2Proof.Machine.execMpOverloadSet t s
  | .mpOverloadClear t => Sys2Proof.Machine.execMpOverloadClear t s
  | .shedLevelUp t => Sys2Proof.Machine.execShedLevelUp t s
  | .add n rd a b => Sys2Proof.Machine.execAdd n rd a b s
  | .sub n rd a b => Sys2Proof.Machine.execSub n rd a b s
  | .and n rd a b => Sys2Proof.Machine.execAnd n rd a b s
  | .or n rd a b => Sys2Proof.Machine.execOr n rd a b s
  | .xor n rd a b => Sys2Proof.Machine.execXor n rd a b s
  | .shl n rd a b => Sys2Proof.Machine.execShl n rd a b s
  | .shr n rd a b => Sys2Proof.Machine.execShr n rd a b s
  | .sar n rd a b => Sys2Proof.Machine.execSar n rd a b s
  | .cmp n rd a b => Sys2Proof.Machine.execCmp n rd a b s
  | .sel n rd c a b => Sys2Proof.Machine.execSel n rd c a b s
  | .mul n rd a b => Sys2Proof.Machine.execMul n rd a b s
  | .mulh n rd a b => Sys2Proof.Machine.execMulh n rd a b s
  | .fmin n rd a b => Sys2Proof.Machine.execFmin n rd a b s
  | .fmax n rd a b => Sys2Proof.Machine.execFmax n rd a b s
  | .fabs n rd a => Sys2Proof.Machine.execFabs n rd a s
  | .fneg n rd a => Sys2Proof.Machine.execFneg n rd a s
  | .fclamp n rd a lo hi => Sys2Proof.Machine.execFclamp n rd a lo hi s
  | .fcmp n rd a b => Sys2Proof.Machine.execFcmp n rd a b s
  | .fadd n rd a b => Sys2Proof.Machine.execFadd n rd a b s
  | .fsub n rd a b => Sys2Proof.Machine.execFsub n rd a b s
  | .fmul n rd a b => Sys2Proof.Machine.execFmul n rd a b s
  | .fma n rd a b c => Sys2Proof.Machine.execFma n rd a b c s
  | .fcvt n toInt rd a => Sys2Proof.Machine.execFcvt n toInt rd a s
  | .fdiv n rd a b => Sys2Proof.Machine.execFdiv n rd a b s
  | .fsqrt n rd a => Sys2Proof.Machine.execFsqrt n rd a s
  | .sincos n rs rc a => Sys2Proof.Machine.execSincos n rs rc a s
  | .ld n prog rd addr => Sys2Proof.Machine.execLd n prog rd addr s
  | .st n prog addr value => Sys2Proof.Machine.execSt n prog addr value s
  | .crd n rd addr => Sys2Proof.Machine.execCrd n rd addr s
  | .cbr n dst addr len => Sys2Proof.Machine.execCbr n dst addr len s
  | .cwr n addr value => Sys2Proof.Machine.execCwr n addr value s
  | .cbw n addr frm len => Sys2Proof.Machine.execCbw n addr frm len s
  | .lwr n target value => Sys2Proof.Machine.execLwr n target value s
  | .br n target => Sys2Proof.Machine.execBr n target s
  | .brz n c target => Sys2Proof.Machine.execBrz n c target s
  | .brnz n c target => Sys2Proof.Machine.execBrnz n c target s
  | .call n target => Sys2Proof.Machine.execCall n target s
  | .ret n => Sys2Proof.Machine.execRet n s
  | .done n arrival t => Sys2Proof.Machine.execDone n arrival t s
  | .tickstamp n rd t => Sys2Proof.Machine.execTickstamp n rd t s
  | .cpoll n rd addr t => Sys2Proof.Machine.execCpoll n rd addr t s
  | .legCommit n port t => Sys2Proof.Machine.execLegCommit n port t s
  | .dutyWrite n port w t => Sys2Proof.Machine.execDutyWrite n port w t s
  | .dutyFracWrite n port w t => Sys2Proof.Machine.execDutyFracWrite n port w t s
  | .updateBoundary n t => Sys2Proof.Machine.execUpdateBoundary n t s
  | .switchRise n t => Sys2Proof.Machine.execSwitchRise n t s
  | .switchFall n t => Sys2Proof.Machine.execSwitchFall n t s
  | .deadTimeEnd n t => Sys2Proof.Machine.execDeadTimeEnd n t s
  | .forceOff n t => Sys2Proof.Machine.execForceOff n t s
  | .forceLow n t => Sys2Proof.Machine.execForceLow n t s
  | .forceRelease n t => Sys2Proof.Machine.execForceRelease n t s
  | .legInvert n on t => Sys2Proof.Machine.execLegInvert n on t s
  | .legEnable n t => Sys2Proof.Machine.execLegEnable n t s
  | .legDisable n t => Sys2Proof.Machine.execLegDisable n t s
  | .refresh n t => Sys2Proof.Machine.execRefresh n t s
  | .bootUvFullDuty n t => Sys2Proof.Machine.execBootUvFullDuty n t s
  | .cal t => Sys2Proof.Machine.execCal t s
  | .calDone us code err t => Sys2Proof.Machine.execCalDone us code err t s
  | .assignWrite g half w t => Sys2Proof.Machine.execAssignWrite g half w t s
  | .groupCommit g t => Sys2Proof.Machine.execGroupCommit g t s
  | .groupSetActive g t => Sys2Proof.Machine.execGroupSetActive g t s
  | .debugHalt f fromUp arrived ready t => Sys2Proof.Machine.execDebugHalt f fromUp arrived ready t s
  | .debugResume f fromUp arrived ready t => Sys2Proof.Machine.execDebugResume f fromUp arrived ready t s
  | .dbgCtrlHalt t => Sys2Proof.Machine.execDbgCtrlHalt t s
  | .dbgCtrlResume t => Sys2Proof.Machine.execDbgCtrlResume t s
  | .gsLevelAccepted n hsPin level since t => Sys2Proof.Machine.execGsLevelAccepted n hsPin level since t s
  | .gsOffDeadline n high t => Sys2Proof.Machine.execGsOffDeadline n high t s
  | .scHiActive n v t => Sys2Proof.Machine.execScHiActive n v t s
  | .scLoActive n v t => Sys2Proof.Machine.execScLoActive n v t s
  | .blankingEnd n t => Sys2Proof.Machine.execBlankingEnd n t s
  | .trip n t => Sys2Proof.Machine.execTrip n t s
  | .tripClr n t => Sys2Proof.Machine.execTripClr n t s
  | .gfault g port t => Sys2Proof.Machine.execGfault g port t s
  | .groupTrip g t => Sys2Proof.Machine.execGroupTrip g t s
  | .groupTripClr g t => Sys2Proof.Machine.execGroupTripClr g t s
  | .devTrip t => Sys2Proof.Machine.execDevTrip t s
  | .devTripClear t => Sys2Proof.Machine.execDevTripClear t s
  | .rpsArm t => Sys2Proof.Machine.execRpsArm t s
  | .rpsDisarm t => Sys2Proof.Machine.execRpsDisarm t s
  | .rpsDwellDone t => Sys2Proof.Machine.execRpsDwellDone t s
  | .rpsFbFail level since t => Sys2Proof.Machine.execRpsFbFail level since t s
  | .brkCmdWrite w t => Sys2Proof.Machine.execBrkCmdWrite w t s
  | .brkFbChange k level since t => Sys2Proof.Machine.execBrkFbChange k level since t s
  | .brkMismatch k t => Sys2Proof.Machine.execBrkMismatch k t s
  | .finalSample ix bits t => Sys2Proof.Machine.execFinalSample ix bits t s
  | .settled ix t => Sys2Proof.Machine.execSettled ix t s
  | .stuckDetected ix bits t => Sys2Proof.Machine.execStuckDetected ix bits t s
  | .sdfCommit j t => Sys2Proof.Machine.execSdfCommit j t s
  | .sdfSync j mask t => Sys2Proof.Machine.execSdfSync j mask t s
  | .fsrcWrite ix w t => Sys2Proof.Machine.execFsrcWrite ix w t s
  | .feltRequest p data addr len t => Sys2Proof.Machine.execFeltRequest p data addr len t s
  | .arbiterDecision b t => Sys2Proof.Machine.execArbiterDecision b t s
  | .feltHandshake k tokenErr t => Sys2Proof.Machine.execFeltHandshake k tokenErr t s
  | .preempt b t => Sys2Proof.Machine.execPreempt b t s
  | .hsTimeout k t => Sys2Proof.Machine.execHsTimeout k t s
  | .txTimeout t => Sys2Proof.Machine.execTxTimeout t s
  | .arbCommit b t => Sys2Proof.Machine.execArbCommit b t s
  | .arbClrCnt b t => Sys2Proof.Machine.execArbClrCnt b t s
  | .feltClrCnt t => Sys2Proof.Machine.execFeltClrCnt t s
  | .acqArm t => Sys2Proof.Machine.execAcqArm t s
  | .acqStop t => Sys2Proof.Machine.execAcqStop t s
  | .captureInstant buf fails t => Sys2Proof.Machine.execCaptureInstant buf fails t s
  | .acqReady t => Sys2Proof.Machine.execAcqReady t s
  | .recordDone t => Sys2Proof.Machine.execRecordDone t s
  | .holdoffEnd t => Sys2Proof.Machine.execHoldoffEnd t s
  | .autoTrigger t => Sys2Proof.Machine.execAutoTrigger t s
  | .segRelease seg t => Sys2Proof.Machine.execSegRelease seg t s
  | .soft t => Sys2Proof.Machine.execSoft t s
  | .wireEdge since t => Sys2Proof.Machine.execWireEdge since t s
  | .wirePulseEnd t => Sys2Proof.Machine.execWirePulseEnd t s
  | .tbFrameTx won t => Sys2Proof.Machine.execTbFrameTx won t s
  | .tbFrameRx addr type crc lo hi t => Sys2Proof.Machine.execTbFrameRx addr type crc lo hi t s
  | .streamBlock t => Sys2Proof.Machine.execStreamBlock t s
  | .windowBoundary t => Sys2Proof.Machine.execWindowBoundary t s
  | .pcResult c num den t => Sys2Proof.Machine.execPcResult c num den t s
  | .pcRun c t => Sys2Proof.Machine.execPcRun c t s
  | .pcStop c t => Sys2Proof.Machine.execPcStop c t s
  | .acFeed port w t => Sys2Proof.Machine.execAcFeed port w t s
  | .feedLost t => Sys2Proof.Machine.execFeedLost t s
  | .plausPeriodEnd t => Sys2Proof.Machine.execPlausPeriodEnd t s
  | .tamperChange k high since t => Sys2Proof.Machine.execTamperChange k high since t s
  | .tamperAck port t => Sys2Proof.Machine.execTamperAck port t s
  | .logInCode port w t => Sys2Proof.Machine.execLogInCode port w t s
  | .logRelease port w t => Sys2Proof.Machine.execLogRelease port w t s
  | .restoreGo port k t => Sys2Proof.Machine.execRestoreGo port k t s
  | .restoreClose port t => Sys2Proof.Machine.execRestoreClose port t s
  | .safeInputAccepted ix chanB high since ft t => Sys2Proof.Machine.execSafeInputAccepted ix chanB high since ft t s
  | .discrepancyFault ix ft t => Sys2Proof.Machine.execDiscrepancyFault ix ft t s
  | .piOn k t => Sys2Proof.Machine.execPiOn k t s
  | .piOff k t => Sys2Proof.Machine.execPiOff k t s
  | .piReadbackFault k chanB high ticks t => Sys2Proof.Machine.execPiReadbackFault k chanB high ticks t s
  | .stallMonitorArmed since t => Sys2Proof.Machine.execStallMonitorArmed since t s
  | .stall last t => Sys2Proof.Machine.execStall last t s
  | .oscWindow ticks t => Sys2Proof.Machine.execOscWindow ticks t s
  | .safeRstPulse len fallAt pinsLow t => Sys2Proof.Machine.execSafeRstPulse len fallAt pinsLow t s
  | .safePermitRelease since ft t => Sys2Proof.Machine.execSafePermitRelease since ft t s
  | .pbOn t => Sys2Proof.Machine.execPbOn t s
  | .pbOff t => Sys2Proof.Machine.execPbOff t s
  | .pbSynced since t => Sys2Proof.Machine.execPbSynced since t s
  | .txReq n t => Sys2Proof.Machine.execTxReq n t s
  | .txAbort n t => Sys2Proof.Machine.execTxAbort n t s
  | .abortAll t => Sys2Proof.Machine.execAbortAll t s
  | .rxRelease n t => Sys2Proof.Machine.execRxRelease n t s
  | .pbStartOpportunity readFail lost t => Sys2Proof.Machine.execPbStartOpportunity readFail lost t s
  | .pbFrameTxDone loop t => Sys2Proof.Machine.execPbFrameTxDone loop t s
  | .pbFrameRx typ ident seq data crc sof t => Sys2Proof.Machine.execPbFrameRx typ ident seq data crc sof t s
  | .rxBufferFlip n t => Sys2Proof.Machine.execRxBufferFlip n t s
  | .pbError code rx ack t => Sys2Proof.Machine.execPbError code rx ack t s
  | .pbAlone t => Sys2Proof.Machine.execPbAlone t s
  | .recover t => Sys2Proof.Machine.execRecover t s
  | .busoffRecovered since t => Sys2Proof.Machine.execBusoffRecovered since t s
  | .txExpiry n t => Sys2Proof.Machine.execTxExpiry n t s
  | .cycleBoundary idle lost t => Sys2Proof.Machine.execCycleBoundary idle lost t s
  | .exclusiveWindow idle readFail lost t => Sys2Proof.Machine.execExclusiveWindow idle readFail lost t s
  | .pbusSchedCommit t => Sys2Proof.Machine.execPbusSchedCommit t s
  | .refRx ident seq data crc sof t => Sys2Proof.Machine.execRefRx ident seq data crc sof t s
  | .ntLockGained t => Sys2Proof.Machine.execNtLockGained t s
  | .ntLockLost t => Sys2Proof.Machine.execNtLockLost t s
  | .ntStep t => Sys2Proof.Machine.execNtStep t s
  | .master on t => Sys2Proof.Machine.execMaster on t s
  | .set t => Sys2Proof.Machine.execSet t s
  | .linkUp up chars t => Sys2Proof.Machine.execLinkUp up chars t s
  | .linkLost up ka t => Sys2Proof.Machine.execLinkLost up ka t s
  | .keepaliveSend up t => Sys2Proof.Machine.execKeepaliveSend up t s
  | .ack up seq t => Sys2Proof.Machine.execAck up seq t s
  | .nak up seq t => Sys2Proof.Machine.execNak up seq t s
  | .rate up full t => Sys2Proof.Machine.execRate up full t s
  | .chainFrameRx up f eof bad t => Sys2Proof.Machine.execChainFrameRx up f eof bad t s
  | .chainFrameForward up t => Sys2Proof.Machine.execChainFrameForward up t s
  | .read f arrived ready felt t => Sys2Proof.Machine.execRead f arrived ready felt t s
  | .write f arrived ready felt t => Sys2Proof.Machine.execWrite f arrived ready felt t s
  | .requestTimeout f arrived t => Sys2Proof.Machine.execRequestTimeout f arrived t s
  | .chainReset f fromUp arrived ready t => Sys2Proof.Machine.execChainReset f fromUp arrived ready t s
  | .engineReset f fromUp arrived ready t => Sys2Proof.Machine.execEngineReset f fromUp arrived ready t s
  | .arm f fromUp arrived ready t => Sys2Proof.Machine.execArm f fromUp arrived ready t s
  | .clearRetry f fromUp arrived ready t => Sys2Proof.Machine.execClearRetry f fromUp arrived ready t s
  | .enum f t => Sys2Proof.Machine.execEnum f t s
  | .enumDone f t => Sys2Proof.Machine.execEnumDone f t s
  | .event f t => Sys2Proof.Machine.execEvent f t s
  | .mail f t => Sys2Proof.Machine.execMail f t s
  | .reEnum t => Sys2Proof.Machine.execReEnum t s
  | .closeDn close t => Sys2Proof.Machine.execCloseDn close t s
  | .chainClrCnt t => Sys2Proof.Machine.execChainClrCnt t s
  | .cmdOut w t => Sys2Proof.Machine.execCmdOut w t s
  | .spiRequest f felt t => Sys2Proof.Machine.execSpiRequest f felt t s
  | .eventIrq t => Sys2Proof.Machine.execEventIrq t s
  | .pllEnable t => Sys2Proof.Machine.execPllEnable t s
  | .pllDisable t => Sys2Proof.Machine.execPllDisable t s
  | .research t => Sys2Proof.Machine.execResearch t s
  | .bandWindow count t => Sys2Proof.Machine.execBandWindow count t s
  | .searchRetry t => Sys2Proof.Machine.execSearchRetry t s
  | .pllWindow count t => Sys2Proof.Machine.execPllWindow count t s
  | .vcoStopped t => Sys2Proof.Machine.execVcoStopped t s
  | .refLost t => Sys2Proof.Machine.execRefLost t s
  | .refBack counts t => Sys2Proof.Machine.execRefBack counts t s
  | .bypassEntry t => Sys2Proof.Machine.execBypassEntry t s
  | .bypassReturn t => Sys2Proof.Machine.execBypassReturn t s
  | .tbOutEnable k t => Sys2Proof.Machine.execTbOutEnable k t s
  | .tbOutDisable k t => Sys2Proof.Machine.execTbOutDisable k t s
  | .por since t => Sys2Proof.Machine.execPor since t s
  | .bor k since t => Sys2Proof.Machine.execBor k since t s
  | .pin low t => Sys2Proof.Machine.execPin low t s
  | .resetRelease bootSrc bench t => Sys2Proof.Machine.execResetRelease bootSrc bench t s
  | .downloadWaitExpired t => Sys2Proof.Machine.execDownloadWaitExpired t s
  | .wdogKick t => Sys2Proof.Machine.execWdogKick t s
  | .wdogWarn t => Sys2Proof.Machine.execWdogWarn t s
  | .wdogExpiry t => Sys2Proof.Machine.execWdogExpiry t s
  | .runReady port t => Sys2Proof.Machine.execRunReady port t s
  | .fail t => Sys2Proof.Machine.execFail t s
  | .rollbackAdv t => Sys2Proof.Machine.execRollbackAdv t s
  | .rollbackDone t => Sys2Proof.Machine.execRollbackDone t s
  | .dlCheck t => Sys2Proof.Machine.execDlCheck t s
  | .dlDone t => Sys2Proof.Machine.execDlDone t s
  | .dlProg t => Sys2Proof.Machine.execDlProg t s
  | .progDone ok t => Sys2Proof.Machine.execProgDone ok t s
  | .idle t => Sys2Proof.Machine.execIdle t s
  | .idleExit t => Sys2Proof.Machine.execIdleExit t s
  | .gauze t => Sys2Proof.Machine.execGauze t s
  | .wake t => Sys2Proof.Machine.execWake t s
  | .wakeN since t => Sys2Proof.Machine.execWakeN since t s
  | .wakeTimer t => Sys2Proof.Machine.execWakeTimer t s
  | .gauzeExit t => Sys2Proof.Machine.execGauzeExit t s
  | .gsOnDeadline n high t => Sys2Proof.Machine.execGsOnDeadline n high t s
  | .refreshPulseEnd n t => Sys2Proof.Machine.execRefreshPulseEnd n t s
  | .scRelease n hi v t => Sys2Proof.Machine.execScRelease n hi v t s
  | .safePermitAsserted since ft t => Sys2Proof.Machine.execSafePermitAsserted since ft t s
  | .wireRise t => Sys2Proof.Machine.execWireRise t s
  | .gauzeEntryDone t => Sys2Proof.Machine.execGauzeEntryDone t s
  | .supplyReturn k t => Sys2Proof.Machine.execSupplyReturn k t s
  | .rstNRelease t => Sys2Proof.Machine.execRstNRelease t s
  | .backlogFrameTaken chain t => Sys2Proof.Machine.execBacklogFrameTaken chain t s

end Sys2Proof.Machine
end

