-- ==== Sys2Proof/Safety.lean ====
section
/-!
DEFINITION. The terms in which claims speak of a run: the form that every state has between commands, and what a command
leaves alone.
-/
namespace Sys2Proof.Machine

/-- The form of a state between commands: memory is canonical and lists only addresses at which a memory stands (the windows
of R426 and MP's SRAM), and nothing is staged. -/
def State.canonical (s : State) : Prop :=
  Memory.wf s.mem = true ∧ (∀ c ∈ s.mem, inMemory c.1 = true) ∧ s.dev.wr = [] ∧ s.dev.wipe = [] ∧ s.dev.rebase = false

/-- The units of the device, without the register file, the clock and what serves the register target. -/
def Dev.units (d : Dev) :
    Triad × Vector Engine 15 × MpState × PowerStage × Sense × Felt × Acq × Prec × Safe × Bus × Chain × Boot :=
  (d.triad, d.eng, d.mp, d.pw, d.sense, d.felt, d.acq, d.prec, d.safe, d.bus, d.chain, d.boot)

/-- The units of the device but the triad. -/
def Dev.others (d : Dev) :
    Vector Engine 15 × MpState × PowerStage × Sense × Felt × Acq × Prec × Safe × Bus × Chain × Boot :=
  (d.eng, d.mp, d.pw, d.sense, d.felt, d.acq, d.prec, d.safe, d.bus, d.chain, d.boot)

/-- Every byte of memory and the queue are as before. -/
def State.memSame (s t : State) : Prop := (∀ a, memByte t.mem a = memByte s.mem a) ∧ t.pending = s.pending

/-- Every byte of memory outside the n bytes from a on, and the queue, are as before. -/
def State.memSameBut (a n : Nat) (s t : State) : Prop :=
  (∀ b, b < a ∨ a + n ≤ b → memByte t.mem b = memByte s.mem b) ∧ t.pending = s.pending

/-- Every register outside the list is as before; the LOCK words, which a handshake of the register target may disarm
(R427), are left out. -/
def State.regsBut (l : List Nat) (s t : State) : Prop :=
  ∀ a, a ∉ l → a % 0x1000 ≠ 0x1C → t.dev.reg a = s.dev.reg a

/-- Every register off the pages ps is as before; the LOCK words are left out. -/
def State.regsOff (ps : List Nat) (s t : State) : Prop :=
  ∀ a, a / 0x1000 ∉ ps → a % 0x1000 ≠ 0x1C → t.dev.reg a = s.dev.reg a

/-- Every register is as before. -/
def State.regsSame (s t : State) : Prop := ∀ a, t.dev.reg a = s.dev.reg a

/-- What an act of the chain alone leaves: every other unit, every register off the CHAIN page, memory and the queue. -/
def State.chainOnly (s t : State) : Prop :=
  { t.dev with chain := s.dev.chain }.units = s.dev.units ∧ s.regsOff [pCHAIN] t ∧ s.memSame t

/-- What is presented to the sequencer and the law at instant t (R61). -/
def State.lawIn (s : State) (t : Nat) : LawIn := (s.dev.begin t).lawIn s.mem t

/-- The sequencer of the outcome in force (R60). -/
def State.seq (s : State) : SeqState := s.dev.triad.law.seq

/-- The pages on which an outcome of the law may write: SYS, the engines', VOTER, the legs', the groups', PWMTB, and the four
of the law itself. -/
def lawPage (p : Nat) : Bool :=
  decide (p = pSYS) || (decide (0x20 ≤ p) && decide (p ≤ pVOTER)) || (decide (0x40 ≤ p) && decide (p ≤ pPWMTB)) ||
    (decide (pGFM ≤ p) && decide (p ≤ pFRT))

/-- What an outcome of the law leaves alone: every unit but the triad, the engines and the power stage, save the trigger-wire
drive; every register off the pages of the law; memory and the queue. -/
def State.lawOnly (s t : State) : Prop :=
  (t.dev.mp = s.dev.mp ∧ t.dev.sense = s.dev.sense ∧ t.dev.felt = s.dev.felt ∧ t.dev.prec = s.dev.prec ∧
    t.dev.safe = s.dev.safe ∧ t.dev.bus = s.dev.bus ∧ t.dev.chain = s.dev.chain ∧ t.dev.boot = s.dev.boot ∧
    t.dev.latches = s.dev.latches ∧ t.dev.acq = { s.dev.acq with wireDrive := t.dev.acq.wireDrive }) ∧
  (∀ a, lawPage (a / 0x1000) = false → t.dev.reg a = s.dev.reg a) ∧ s.memSame t

/-- What an act of clocks, power or boot alone leaves: every other unit, every register off the pages ps, memory, the queue. -/
def State.bootOnly (ps : List Nat) (s t : State) : Prop :=
  { t.dev with boot := s.dev.boot }.units = s.dev.units ∧ s.regsOff ps t ∧ s.memSame t

/-- From s a band search has begun at instant i: at the first valid entry, or failed where there is none (R434). -/
def State.searches (i : Nat) (s t : State) : Prop :=
  t.dev.flag pCLK CLK.STATUS_LOCKED = false ∧ t.dev.get pCLK CLK.STATUS_PLL_STATE = 1 ∧ t.dev.boot.pll.st = 1 ∧
    (∀ k, s.dev.nextBand 0 = some k → t.dev.boot.pll = ⟨1, k, none, false, 0, none⟩) ∧
    (s.dev.nextBand 0 = none → t.dev.boot.pll.failedAt = some i ∧ t.dev.flag pCLK CLK.IRQ_RAW_SEARCH_FAIL = true ∧
      t.dev.get pCLK CLK.FAULT_CODE_CAUSE = 4)

/-- The sequencer is in state x, and TRANSIT.STATUS shows it (R72, R100). -/
def State.inState (x : TrState) (t : State) : Prop := t.seq.st = x ∧ t.dev.get pTRANSIT TRANSIT.STATUS_STATE = x.code

/-- Between s and t, at instant i, the controlled shutdown has begun with the cause (R44, R101): STOPPING from i on, the cause
reported with ABORT, the four channels as they stand. -/
def State.shutsDown (i cause : Nat) (s t : State) : Prop :=
  t.inState .stopping ∧ t.seq.since = i ∧ t.seq.shutCause = cause ∧ t.seq.mission = .none ∧ t.seq.pendStop = none ∧
    t.dev.get pTRANSIT TRANSIT.FAULT_CODE_CAUSE = cause ∧
    t.dev.get pTRANSIT TRANSIT.FAULT_CODE_STATE_FROM = s.seq.st.code ∧
    t.dev.flag pTRANSIT TRANSIT.IRQ_RAW_ABORT = true ∧ t.dev.flag pTRANSIT TRANSIT.IRQ_RAW_STATE_CHANGE = true ∧
    (t.dev.triad.law.chP, t.dev.triad.law.chQ, t.dev.triad.law.chW, t.dev.triad.law.chV) =
      (s.dev.triad.law.chP, s.dev.triad.law.chQ, s.dev.triad.law.chW, s.dev.triad.law.chV) ∧
    t.seq.brk = s.seq.brk ∧ s.lawOnly t

/-- Between s and t, at instant i, the sequencer has entered IDLE: nothing waits any more, the far side is not measured, and the
output contactor's command is released where STOP_OPEN asks for it and it was closed (R74); where the law ran, no leg's high
side conducts and none is released (R44, R93, R492). -/
def State.idles (i : Nat) (s t : State) : Prop :=
  t.inState .idle ∧ t.seq.since = i ∧ t.seq.mission = .none ∧ t.seq.brkWait = none ∧ t.seq.pendStop = none ∧
    t.dev.triad.law.far.on = false ∧
    t.seq.brk = (if s.dev.flag pTRANSIT TRANSIT.TR_CFG_STOP_OPEN = true ∧ s.seq.outClosed = true then
      clearBit s.seq.brk (s.dev.get pTRANSIT TRANSIT.TR_CFG_OUT_BRK) else s.seq.brk) ∧
    (s.seq.st.runs = true → s.dev.pw.seqHold = false → s.dev.pw.halted = false →
      ∀ n < 48, (t.dev.leg n).hs = false ∧ (t.dev.leg n).live = false) ∧ t.dev.pw.seqHold = true ∧ s.lawOnly t

/-- Between s and t one segment role has become x, and the registers that show the roles; the other role, the rest of the triad,
the other units and memory are as before (R121, R124, R125). -/
def State.roleBecomes (pc : Bool) (x : SegRole) (s t : State) : Prop :=
  t.dev.triad = (if pc then { s.dev.triad with pcRole := x } else { s.dev.triad with tmRole := x }) ∧
    t.dev.get pVOTER (if pc then VOTER.ROLE_STATUS_PC_STATE else VOTER.ROLE_STATUS_TM_STATE) = x.st % 4 ∧
    t.dev.get pVOTER (if pc then VOTER.PC_HOLDER_ADDR else VOTER.TM_HOLDER_ADDR) = x.holderAddr % 2 ^ 20 ∧
    ((s.dev.segRole pc).st ∈ [1, 3] ∧ x.st ∉ [1, 3] ∨ (s.dev.segRole pc).st ∉ [1, 3] ∧ x.st ∈ [1, 3] →
      t.dev.flag pVOTER VOTER.IRQ_RAW_ROLE_CHANGE = true) ∧
    s.regsBut [VOTER.ROLE_STATUS_TM_STATE.addr pVOTER 0, VOTER.TM_HOLDER_ADDR.addr pVOTER 0,
      VOTER.PC_HOLDER_ADDR.addr pVOTER 0, VOTER.IRQ_RAW_ROLE_CHANGE.addr pVOTER 0] t ∧
    t.dev.others = s.dev.others ∧ s.memSame t

/-- Run permission and its effects agree (R337, R339, R348): without permission legs-off is asserted and both pulse-inhibit
outputs are off, with it legs-off is released. -/
def Safe.permitInv (x : Safe) : Prop :=
  (x.runPermit = false → x.legsOff = true ∧ x.pi0 = false ∧ x.pi1 = false) ∧ (x.runPermit = true → x.legsOff = false)

/-- A lock-out with cause and input or output has been declared between s and t: it is in force, shown and counted, FAULT_CODE
names it unless an earlier one is in force, and the run has stopped (R353). -/
def State.lockedOut (s : State) (c : Nat × Nat) (t : State) : Prop :=
  t.dev.safe.lockouts = s.dev.safe.lockouts ++ [c] ∧ t.dev.bit pSAFE SAFE.STATUS_LO_CAUSES (c.1 - 1) = true ∧
    t.dev.get pSAFE SAFE.CNT_LOCKOUTS = min 255 (s.dev.get pSAFE SAFE.CNT_LOCKOUTS + 1) ∧
    t.dev.flag pSAFE SAFE.IRQ_RAW_LOCKOUT = true ∧ t.dev.flag pSAFE SAFE.STATUS_LOCKOUT = true ∧
    (s.dev.safe.lockouts = [] → t.dev.get pSAFE SAFE.FAULT_CODE_CAUSE = c.1 ∧ t.dev.get pSAFE SAFE.FAULT_CODE_INDEX = c.2) ∧
    (s.dev.safe.lockouts ≠ [] → t.dev.wordAt pSAFE SAFE.FAULT_CODE_CAUSE 0 = s.dev.wordAt pSAFE SAFE.FAULT_CODE_CAUSE 0) ∧
    t.dev.safe.runPermit = false ∧ t.dev.safe.legsOff = true ∧ t.dev.safe.pi0 = false ∧ t.dev.safe.pi1 = false ∧
    t.dev.triad = s.dev.triad ∧ s.memSame t

/-- The device as an instruction of `words` words of engine n finds it: the program counter is past the instruction (R128). -/
def State.atNext (n words : Nat) (s : State) : Dev :=
  let e := (s.dev.begin 0).engine n
  (s.dev.begin 0).setEngine n { e with pc := e.pc + 4 * words }

/-- Engine n executes, its instruction with these sources lies in program code, and no source awaits a Canvas read (R127, R128,
R136). -/
def State.fetches (n : Nat) (xs : List Src) (s : State) : Prop :=
  s.dev.executes n = true ∧ (s.dev.engine n).pc % 4 = 0 ∧ (s.dev.engine n).pc + 4 * srcWords xs ≤ 0x7800 ∧
    s.dev.srcAwaits n xs = false

/-- The values that an instruction of engine n with these sources computes with: literals, registers, and the bytes of an
outstanding read that loads one of them (R136). -/
def State.vals (n : Nat) (xs : List Src) (s : State) : List Word := ((s.atNext n (srcWords xs)).srcs s.mem n xs).1

/-- Between s and t only engine n has changed, in its record and in its FP_FLAGS and IRQ_RAW registers. -/
def State.engineOnly (n : Nat) (s t : State) : Prop :=
  (∀ j, j ≠ n → t.dev.engine j = s.dev.engine j) ∧ t.dev.triad = s.dev.triad ∧ t.dev.mp = s.dev.mp ∧
    t.dev.pw = s.dev.pw ∧ t.dev.sense = s.dev.sense ∧ t.dev.felt = s.dev.felt ∧ t.dev.acq = s.dev.acq ∧
    t.dev.prec = s.dev.prec ∧ t.dev.safe = s.dev.safe ∧ t.dev.bus = s.dev.bus ∧ t.dev.chain = s.dev.chain ∧
    t.dev.boot = s.dev.boot ∧ t.pending = s.pending ∧
    s.regsBut [TE.IRQ_RAW_FP_FLAG.addr (pENG n) 0, TE.FP_FLAGS_INVALID.addr (pENG n) 0] t

/-- The tags of a port, and what another tag holds but for the begin of its handshake. -/
def State.tagsSame (k : Nat) (s t : State) : Prop :=
  ∀ j, j ≠ k → (t.dev.tag j).map (fun x => { x with began := none }) = (s.dev.tag j).map (fun x => { x with began := none })

/-- Between s and t engine n has issued one transaction on tag k of its port (R136, R255), and nothing else has changed but the
engine's record. -/
def State.issues (n k : Nat) (data : Option (List Byte)) (a len : Nat) (s t : State) : Prop :=
  t.dev.tag k = some ⟨data, a, len, s.dev.now, s.dev.felt.issued, s.dev.felt.issued, 0, false, none, [], none⟩ ∧
    t.dev.felt.issued = s.dev.felt.issued + 1 ∧ t.dev.felt.queue = s.dev.felt.queue ∧ s.tagsSame k t ∧
    (∀ j, j ≠ n → t.dev.engine j = s.dev.engine j) ∧ t.dev.triad = s.dev.triad ∧ t.dev.mp = s.dev.mp ∧
    t.dev.pw = s.dev.pw ∧ t.dev.sense = s.dev.sense ∧ t.dev.acq = s.dev.acq ∧ t.dev.prec = s.dev.prec ∧
    t.dev.safe = s.dev.safe ∧ t.dev.bus = s.dev.bus ∧ t.dev.chain = s.dev.chain ∧ t.dev.boot = s.dev.boot ∧
    s.regsBut [FELT.TAG_BUSY0_BUSY.addr pFELT 0, FELT.TAG_BUSY1_BUSY.addr pFELT 0] t ∧ s.memSame t

/-- Every leg on the list neither conducts nor is released. -/
def State.legsDark (l : List Nat) (s : State) : Prop :=
  ∀ k ∈ l, k < 48 → (s.dev.leg k).hs = false ∧ (s.dev.leg k).ls = false ∧ (s.dev.leg k).live = false

/-- The order of a leg's switches (R181, R187, R191, R202): never both on; a turn-on waits only while the other switch is off;
in a refresh the high side is off, and what turns on is its low side, then nothing, then what s selects with both off; a leg
that waits for its release has both off. -/
def Leg.ordered (l : Leg) : Prop :=
  ¬(l.hs = true ∧ l.ls = true) ∧ (∀ x, l.turnOn = some x → (if x.high then l.ls else l.hs) = false) ∧
    (l.refresh ≠ none → l.hs = false) ∧
    (l.refresh = some .before → ∀ x, l.turnOn = some x → x.high = false) ∧
    (∀ f, l.refresh = some (.pulse f) → l.turnOn = none) ∧ (l.refresh = some .after → l.ls = false) ∧
    (l.freeSince ≠ none → l.hs = false ∧ l.ls = false ∧ l.turnOn = none ∧ l.refresh = none) ∧ (l.live = true → l.freeSince = none)

/-- All legs are in order. -/
def State.legsOrdered (s : State) : Prop := ∀ n < 48, (s.dev.leg n).ordered

/-- The commands of the leg modulators and of their protection (06_modulation.md, 07_leg_protection.md). -/
def commandOfLegs : Instr → Bool
  | .legCommit .. | .dutyWrite .. | .dutyFracWrite .. | .updateBoundary .. | .switchRise .. | .switchFall ..
  | .deadTimeEnd .. | .forceOff .. | .forceLow .. | .forceRelease .. | .legInvert .. | .legEnable .. | .legDisable ..
  | .refresh .. | .refreshPulseEnd .. | .bootUvFullDuty .. | .cal .. | .calDone .. | .assignWrite .. | .groupCommit ..
  | .groupSetActive .. | .dbgCtrlHalt .. | .dbgCtrlResume .. | .gsLevelAccepted .. | .gsOffDeadline .. | .gsOnDeadline ..
  | .scHiActive .. | .scLoActive .. | .scRelease .. | .blankingEnd .. | .trip .. | .tripClr .. | .gfault .. | .groupTrip ..
  | .groupTripClr .. | .devTrip .. | .devTripClear .. | .rpsArm .. | .rpsDisarm .. | .rpsDwellDone .. | .rpsFbFail ..
  | .brkCmdWrite .. | .brkFbChange .. | .brkMismatch .. => true
  | _ => false

/-- Between s and t leg n has tripped with the cause: its latch is set and has a source of that cause, its switches are off;
where the latch was clear the cause is the latch's, reported and counted (R213), and FAULT_CODE's where no latch above held the
leg (R220). The outcome in force, memory and the queue are as before. -/
def State.tripped (n cause : Nat) (s t : State) : Prop :=
  (t.dev.tripOf n).set = true ∧ (∃ x ∈ (t.dev.tripOf n).sources, x.cause = cause) ∧ t.legsDark [n] ∧
    ((s.dev.tripOf n).set = false → (t.dev.tripOf n).cause = cause ∧
      (s.dev.legTripped n = false → t.dev.get (pLEG n) LEG.FAULT_CODE_CAUSE = cause) ∧
      t.dev.flag (pLEG n) LEG.IRQ_RAW_TRIP = true ∧
      t.dev.get (pLEG n) LEG.CNT_PROT_TRIPS = min 255 (s.dev.get (pLEG n) LEG.CNT_PROT_TRIPS + 1)) ∧
    t.dev.triad = s.dev.triad ∧ s.memSame t

/-- No request of the port of tag k waits for a tag, and the transaction is no converter record (R255, R317): nothing takes the
tag when it becomes free. -/
def State.tagStaysFree (k : Nat) (x : Tx) (s : State) : Prop :=
  (∀ w ∈ s.dev.felt.queue, w.port ≠ k / 2) ∧ pcPlace (k / 2) x.addr = none

/-- Between s and t the transaction x of tag k has been aborted at instant i with a cause (R267 to R269): no bank is granted to
the tag; a filter writer's is dropped and its frame lost (R241); any other is issued again, once, and fails for good the second
time, which its port learns unless it is a program's read (R136). Memory and the triad are as before. -/
def State.aborted (k : Nat) (x : Tx) (cause i : Nat) (s t : State) : Prop :=
  (∀ b < 16, (t.dev.arb b).owner ≠ some k) ∧
    t.dev.get pFELT FELT.FAULT_CODE_PORT = k / 2 ∧ t.dev.get pFELT FELT.FAULT_CODE_TAG = k ∧
    (if 0x11 ≤ k / 2 ∧ k / 2 ≤ 0x14 then
       t.dev.get pFELT FELT.FAULT_CODE_CAUSE = cause ∧ (s.tagStaysFree k x → t.dev.tag k = none) ∧
       (let n := (x.addr - 0x100D0000) / 0x40 % 64
        t.dev.flag (sdPage n) SDF.IRQ_RAW_WR_FAIL = true ∧
        t.dev.getAt (sdPage n) SDF.CNT_WR_FAIL (n % 8) = min 255 (s.dev.getAt (sdPage n) SDF.CNT_WR_FAIL (n % 8) + 1))
     else if x.retried = true then
       t.dev.get pFELT FELT.FAULT_CODE_CAUSE = 4 ∧ (s.tagStaysFree k x → t.dev.tag k = none) ∧
       t.dev.flag pFELT FELT.IRQ_RAW_TX_FAILED = true ∧
       t.dev.get pFELT FELT.ERR_CNT_FAIL_CNT = min 65535 (s.dev.get pFELT FELT.ERR_CNT_FAIL_CNT + 1) ∧
       (s.dev.programRead (k / 2) x = false → k / 2 ∈ t.dev.felt.failed)
     else
       t.dev.get pFELT FELT.FAULT_CODE_CAUSE = cause ∧
       t.dev.get pFELT FELT.RETRY_CNT_RETRIES = min 65535 (s.dev.get pFELT FELT.RETRY_CNT_RETRIES + 1) ∧
       (t.dev.tag k).map (fun y => { y with began := none }) = some { x with
         issuedAt := i, arrival := s.dev.felt.issued, progress := 0, retried := true, landing := none, arrived := [],
         began := none }) ∧
    t.dev.triad = s.dev.triad ∧ s.memSame t

end Sys2Proof.Machine
end

