-- ==== Sys2Proof/Certificates/Slice0/Obligations.lean ====
section
/-!
DEFINITION. The statements for the provers.
-/

open Sys2Proof Sys2Proof.Machine

/-- With command c at the front of the queue, a step is exec of c on the state with the queue's rest. With an empty
queue the block idles: the step answers the same state (the model's choice, log entry 2). [95_what_each_step_holds.md;
01_architecture.md, The two timing domains] -/
def Obligations.StepRunsFrontCommand : Prop :=
  (∀ (c : Instr) (rest : List Instr) (s : State), s.pending = c :: rest → step s = exec c { s with pending := rest }) ∧
    ∀ s : State, s.pending = [] → step s = .next s

/-- Whatever command runs, the state it answers has the queue it was given, and its clock either stands at zero, where
a reset or a Gauze exit has fixed the timebase epoch anew, or not before the instant at which it stood.
[15_timebase_clocks.md; 08_sensing_chain.md, R232] -/
def Obligations.CommandKeepsQueueAndClock : Prop :=
  ∀ (c : Instr) (s t : State), exec c s = .next t →
    t.pending = s.pending ∧ (t.dev.now = 0 ∨ s.dev.now ≤ t.dev.now)

/-- If a state's memory is in canonical form and lists only addresses at which a memory stands (the windows of R426
and the SRAM of MP, R157), and nothing is staged between commands, then the same holds of every state that a step
answers, whatever command it runs. [14_chain_and_pages.md, R426; 09_felt_fabric.md, R256; 10_capture.md, R285;
05_engines.md, R127 and R157] -/
def Obligations.StepKeepsCanonicalMemory : Prop :=
  ∀ s t : State, s.canonical → step s = .next t → t.canonical

/-- The state right after reset has canonical memory, nothing staged and an empty queue; every leg is in order,
neither of its switches conducts, and it is not released; and Buckram's permit invariant holds.
[16_power_reset_boot.md; 14_chain_and_pages.md, R426; 06_modulation.md, R181; 12_buckram_safety.md, R339] -/
def Obligations.ResetMeetsInvariants : Prop :=
  State.reset.canonical ∧ State.reset.pending = [] ∧ State.reset.legsOrdered ∧ State.reset.legsDark (List.range 48) ∧
    State.reset.dev.safe.permitInv

/-- On every mapped page, with no reset of a filter chain, expiry or flip of a bus buffer due there, a write of IRQ_EN
completes, sets the word and changes no other register (LOCK words aside), no unit and no memory. On the GFM, PROFILE
and FRT pages a write without reserved bits of a word of RWS fields completes, sets each of its fields and changes no
other register, its active copy at offset + 0x800 neither, no unit and no memory. On the same pages a write without
reserved bits of a word of RWL fields while LOCK is closed completes and changes no register, no unit and no memory. A
write that sets a reserved bit of a mapped page is undefined (R10) and stops. [R424; R10; R423; R426] -/
def Obligations.RegisterWriteByAccessCode : Prop :=
  (∀ (p : Fin 256) (port : Fin 24) (w : Word) (t : Nat) (s : State), pageMapped p.val = true →
      (s.dev.begin t).pageDue p.val t = s.dev.begin t →
      ∃ s', exec (.registerWrite (BitVec.ofNat 20 (p.val * 0x1000 + 0x14)) port w t) s = .next s' ∧
        s'.dev.reg (p.val * 0x1000 + 0x14) = w ∧ s.regsBut [p.val * 0x1000 + 0x14] s' ∧ s'.dev.units = s.dev.units ∧
        s.memSame s') ∧
    (∀ (p o : Nat) (port : Fin 24) (w : Word) (t : Nat) (s : State), p = pGFM ∨ p = pPROFILE ∨ p = pFRT →
      0x40 ≤ o → o < 0x800 → o % 4 = 0 → wordFields p o ≠ [] → (∀ f ∈ wordFields p o, f.acc = .rws) →
      reservedHit p o w = false →
      ∃ s', exec (.registerWrite (BitVec.ofNat 20 (p * 0x1000 + o)) port w t) s = .next s' ∧
        (∀ f ∈ wordFields p o, bitsGet (s'.dev.reg (p * 0x1000 + o)) f.hi f.lo = bitsGet w f.hi f.lo) ∧
        s.regsBut [p * 0x1000 + o] s' ∧ s'.dev.units = s.dev.units ∧ s.memSame s') ∧
    (∀ (p o : Nat) (port : Fin 24) (w : Word) (t : Nat) (s : State), p = pGFM ∨ p = pPROFILE ∨ p = pFRT →
      0x40 ≤ o → o < 0x800 → o % 4 = 0 → (∀ f ∈ wordFields p o, f.acc = .rwl) → reservedHit p o w = false →
      s.dev.lockOpen p = false →
      ∃ s', exec (.registerWrite (BitVec.ofNat 20 (p * 0x1000 + o)) port w t) s = .next s' ∧
        s.regsBut [] s' ∧ s'.dev.units = s.dev.units ∧ s.memSame s') ∧
    ∀ (a : BitVec 20) (port : Fin 24) (w : Word) (t : Nat) (s : State), a.toNat % 4 = 0 →
      pageMapped (a.toNat / 0x1000) = true → reservedHit (a.toNat / 0x1000) (a.toNat % 0x1000) w = true →
      exec (.registerWrite a port w t) s = .fault .reservedBit

/-- On a mapped page with nothing due there, IRQ_CLR with value w, with events ev landing in the same handshake,
completes: bit k of IRQ_RAW is afterwards set exactly when ev has it and the page has an event there, or when it was
set and w does not name it. No other register but LOCK words, no unit and no memory changes. On a mapped page with
LOCK closed and no sequence begun, a write of the page number completes, sets ARMED, leaves LOCK closed and remembers
page, port and round; while a sequence is remembered, the complement of the page number written by the same port opens
LOCK (on the SAFE page only while SAFE_PERMIT is held), and written by another port, or another value, leaves it
closed, with ARMED clear and the sequence forgotten in each case; a sequence is remembered for 64 rounds of the
register target. A write of any value while LOCK is open completes and closes it. No memory changes, and but for what
the SAFE page does, no register outside the LOCK words and no unit. [R425; R427; R356] -/
def Obligations.IrqClearAndLockFollowTheirHandshakes : Prop :=
  (∀ (p : Fin 256) (w ev : Word) (t : Nat) (s : State), pageMapped p.val = true →
    (s.dev.begin t).pageDue p.val t = s.dev.begin t →
    ∃ s', exec (.irqClr p w ev t) s = .next s' ∧
      (∀ k < 32, (s'.dev.reg (p.val * 0x1000 + 0x10)).getLsbD k =
        ((ev.getLsbD k && (fieldMask p.val 0x10).testBit k) || ((s.dev.reg (p.val * 0x1000 + 0x10)).getLsbD k && !w.getLsbD k))) ∧
      s.regsBut [p.val * 0x1000 + 0x10] s' ∧ s'.dev.units = s.dev.units ∧ s.memSame s') ∧
  ((∀ (p : Fin 256) (port : Fin 24) (t : Nat) (s : State), pageMapped p.val = true → s.dev.lockOpen p.val = false →
      (∀ a ∈ s.dev.arms, a.page ≠ p.val) →
      ∃ s', exec (.lockWrite p port (BitVec.ofNat 32 p.val) t) s = .next s' ∧ s'.dev.get p.val HDR.LOCK_ARMED = 1 ∧
        s'.dev.lockOpen p.val = false ∧
        s'.dev.arms.find? (fun a => decide (a.page = p.val)) = some ⟨p.val, port.val, s.dev.regRounds + 1⟩ ∧
        s.regsBut [] s' ∧ s'.dev.units = s.dev.units ∧ s.memSame s') ∧
    (∀ (p : Fin 256) (port : Fin 24) (w : Word) (t : Nat) (a : LockArm) (s : State), pageMapped p.val = true →
      s.dev.lockOpen p.val = false → s.dev.arms.find? (fun a => decide (a.page = p.val)) = some a →
      ∃ s', exec (.lockWrite p port w t) s = .next s' ∧
        s'.dev.lockOpen p.val = decide (a.port = port.val ∧ w = ~~~(BitVec.ofNat 32 p.val) ∧
          (p.val = pSAFE → s.dev.safe.permitPin = true)) ∧
        s'.dev.get p.val HDR.LOCK_ARMED = 0 ∧ (∀ b ∈ s'.dev.arms, b.page ≠ p.val) ∧ s.memSame s' ∧
        (p.val ≠ pSAFE → s.regsBut [] s' ∧ s'.dev.units = s.dev.units)) ∧
    (∀ (p : Fin 256) (port : Fin 24) (w : Word) (t : Nat) (s : State), pageMapped p.val = true →
      s.dev.lockOpen p.val = true →
      ∃ s', exec (.lockWrite p port w t) s = .next s' ∧ s'.dev.lockOpen p.val = false ∧
        s'.dev.get p.val HDR.LOCK_ARMED = 0 ∧ s.memSame s' ∧
        (p.val ≠ pSAFE → s.regsBut [] s' ∧ s'.dev.units = s.dev.units)) ∧
    ∀ (d : Dev) (a : LockArm), a ∈ d.arms → (a ∈ d.regRound.arms ↔ d.regRounds + 1 < a.round + 64))

/-- For the GFM, PROFILE and FRT pages: if the commit check of the page passes, the commit completes: the latched set
is every shadow word of the page as it stood, it replaces an earlier latch of the page and leaves the other pages'
latches, and COMMIT_PENDING is 1; if the check fails, the commit completes without latching: COMMIT_REFUSED is set,
FAULT_CODE takes the cause and the offset of the first failure, and the latched sets are as before. A TRANSIT commit
latches likewise, and when its check fails it completes and changes nothing (the page has no report of a commit; the
model's choice, log entry 20). No commit changes another register (LOCK words aside), a unit or memory. A write of
GFM.CTRL.SNAP completes: OBS_P, OBS_Q and OBS_V take p_f, q_f and v* of the checkpoint, OBS_W, OBS_LIMIT (its ten
bits), OBS_ILIM and SAMPLE_NO take words 3, 14, 13 and 1 of the voted record whose half is active, and SET_P to SET_V
its words 16 to 19. Nothing else changes. [R49; R51; R65; R100; R102; R428; R54; R104; R105] -/
def Obligations.CommitsLatchWholeSetsAndSnapshotsCopy : Prop :=
  ((∀ (c : Instr) (p t : Nat) (pend : FieldSpec) (refusal : Option (Nat × Nat)) (s : State),
      (c, p, pend, refusal) ∈ [(Instr.gfmCommit t, pGFM, GFM.STATUS_COMMIT_PENDING, s.dev.gfmRefusal),
        (Instr.profileCommit t, pPROFILE, PROFILE.STATUS_COMMIT_PENDING, s.dev.prfRefusal),
        (Instr.frtCommit t, pFRT, FRT.STATUS_COMMIT_PENDING, s.dev.frtRefusal)] → refusal = none →
      ∃ s', exec c s = .next s' ∧ s'.dev.get p pend = 1 ∧
        s'.dev.latches = s.dev.latches.filter (fun l => decide (l.page ≠ p)) ++ [⟨p, shadowWords p s.dev⟩] ∧
        s.regsBut [p * 0x1000 + 0x00C] s' ∧ s'.dev.units = s.dev.units ∧ s.memSame s') ∧
  (∀ (c : Instr) (p t cause off : Nat) (refusal : Option (Nat × Nat)) (s : State),
      (c, p, refusal) ∈ [(Instr.gfmCommit t, pGFM, s.dev.gfmRefusal), (Instr.profileCommit t, pPROFILE, s.dev.prfRefusal),
        (Instr.frtCommit t, pFRT, s.dev.frtRefusal)] → refusal = some (cause, off) →
      ∃ s', exec c s = .next s' ∧ s'.dev.get p GFM.IRQ_RAW_COMMIT_REFUSED = 1 ∧
        s'.dev.get p GFM.FAULT_CODE_CAUSE = cause ∧ s'.dev.get p GFM.FAULT_CODE_OFFSET = off ∧
        s'.dev.latches = s.dev.latches ∧ s.regsBut [p * 0x1000 + 0x010, p * 0x1000 + 0x024] s' ∧
        s'.dev.units = s.dev.units ∧ s.memSame s') ∧
  (∀ (t : Nat) (s : State),
      ∃ s', exec (.transitCommit t) s = .next s' ∧
        s'.dev.latches =
          (if s.dev.trRefusal = none then
            s.dev.latches.filter (fun l => decide (l.page ≠ pTRANSIT)) ++ [⟨pTRANSIT, shadowWords pTRANSIT s.dev⟩]
           else s.dev.latches) ∧
        s.regsBut [] s' ∧ s'.dev.units = s.dev.units ∧ s.memSame s')) ∧
  (∀ (t : Nat) (s : State),
    ∃ s', exec (.gfmSnap t) s = .next s' ∧
      (let a := if (memByte s.mem 0x100F0300).toNat % 2 = 1 then 0x100F0280 else 0x100F0200
       let w (k : Nat) : Word := (s.dev.begin t).word s.mem (a + 4 * k)
       s'.dev.wordAt pGFM GFM.OBS_P 0 = s.dev.triad.ckpt.pf ∧ s'.dev.wordAt pGFM GFM.OBS_Q 0 = s.dev.triad.ckpt.qf ∧
       s'.dev.wordAt pGFM GFM.OBS_V 0 = s.dev.triad.ckpt.vStar ∧ s'.dev.wordAt pGFM GFM.OBS_W 0 = w 3 ∧
       s'.dev.get pGFM GFM.OBS_LIMIT = (w 14).toNat % 1024 ∧ s'.dev.wordAt pGFM GFM.OBS_ILIM 0 = w 13 ∧
       s'.dev.wordAt pGFM GFM.SAMPLE_NO 0 = w 1 ∧ s'.dev.wordAt pGFM GFM.SET_P 0 = w 16 ∧
       s'.dev.wordAt pGFM GFM.SET_Q 0 = w 17 ∧ s'.dev.wordAt pGFM GFM.SET_W 0 = w 18 ∧
       s'.dev.wordAt pGFM GFM.SET_V 0 = w 19) ∧
      s.regsBut ((List.range 11).map (fun k => pGFM * 0x1000 + 0x0C0 + 4 * k)) s' ∧ s'.dev.units = s.dev.units ∧
      s.memSame s')

/-- Each of the seven TRANSIT commands completes: its code is the latched command whatever was latched before,
CMD_PENDING is 1, and nothing else changes, the sequencer least of all. [R73; R61; R100] -/
def Obligations.TransitCommandsLatch : Prop :=
  ∀ (t : Nat) (s : State) (c : Instr) (code : Nat),
    (c, code) ∈ [(Instr.blackStart t, 1), (Instr.armStart t, 2), (Instr.attach t, 3), (Instr.reconnect t, 4),
      (Instr.island t, 5), (Instr.stop t, 6), (Instr.abortSync t, 7)] →
    ∃ s', exec c s = .next s' ∧ s'.dev.triad = { s.dev.triad with cmd := some code } ∧
      s'.dev.get pTRANSIT TRANSIT.STATUS_CMD_PENDING = 1 ∧ s.regsBut [pTRANSIT * 0x1000 + 0x00C] s' ∧
      s.memSame s'

/-- At an instant at which a triad tick is due it completes: the sample number advances (the first tick after reset is
sample 0), the tick is recorded and its sample is open, the latched command has been presented and is forgotten. While
the law does not run, the outcome in force is the law's sample on the state in force and on what was presented, and
while it runs the outcome in force waits for the vote. No memory changes outside the three member records, the three
member state blocks and the engines' data memories, and of the units sensing, Felt's log, the bus, the chain, Buckram
and Precision do not change. [R43; R60; R61; R73; R104; R105] -/
def Obligations.TriadTickRunsOneSample : Prop :=
  ∀ (ups : List (Fin 3 × Fin 32 × Word)) (t : Nat) (s : State), (s.dev.begin t).triadDue t = true →
    ∃ s', exec (.triadTick ups t) s = .next s' ∧
      s'.dev.triad.sampleNo = (if s.dev.triad.tickAt.isNone then 0 else s.dev.triad.sampleNo + 1) ∧
      s'.dev.triad.tickAt = some t ∧ s'.dev.triad.sampleOpen = true ∧ s'.dev.triad.cmd = none ∧
      s'.dev.get pTRANSIT TRANSIT.STATUS_CMD_PENDING = 0 ∧
      (let d := (s.dev.begin t).tickBegin t
       (d.running = false → s'.dev.triad.law = (lawSample (d.lawIn s.mem t) s.dev.triad.law).quiet) ∧
       (d.running = true → s'.dev.triad.law = s.dev.triad.law)) ∧
      (∀ a, a < 0x100F0000 ∨ 0x100F0A00 ≤ a → a < 0x38000000 ∨ 0x380F0000 ≤ a → memByte s'.mem a = memByte s.mem a) ∧
      s'.pending = s.pending ∧ s'.dev.sense = s.dev.sense ∧ s'.dev.bus = s.dev.bus ∧
      s'.dev.chain = s.dev.chain ∧ s'.dev.safe = s.dev.safe ∧ s'.dev.prec = s.dev.prec

/-- DEAD_MS_EXPIRED in DEADBUS with the bus dead for DEAD_MS asserts OUT_BRK, begins the wait for its feedback and
enters CLOSE_OUT; with the bus live it enters IDLE with cause 0x03. START_INSTANT in ARMED after ARM_START, with
network time locked and at or past T_START, or with the trigger-wire edge arrived where the wire decides, the start
checks passed and a run permitted, enters ENERGISE at the start angle. LEAD_WIRE_INSTANT in ARMED of a lead unit that
waits for the wire and whose wire instant has come drives the wire once. FAR_SIDE_SETTLED in ARMED for ATTACH, the
start checks passed and a run permitted, starts the law in SYNC at the far side's angle and frequency where the far
side is live; where it is dead and DEAD_CLOSE is 0 it enters IDLE with cause 0x09. Each leaves alone what a sequencer
outcome does not touch. [R77; R78; R79; R80; R76; R83] -/
def Obligations.SequencerStartTransitions : Prop :=
  (∀ (t : Nat) (s : State), s.seq.st = .deadbus → s.seq.busDead = true →
      s.seq.since + msTaps (s.dev.act pTRANSIT TRANSIT.DEAD_MS_MS) ≤ t →
      ∃ s', exec (.deadMsExpired t) s = .next s' ∧ s'.inState .closeOut ∧
        s'.seq.brk = setBit s.seq.brk (s.dev.get pTRANSIT TRANSIT.TR_CFG_OUT_BRK) ∧ s'.seq.brkWait = some (true, t) ∧
        s'.seq.since = t ∧ s'.seq.mission = s.seq.mission ∧ s.lawOnly s') ∧
  (∀ (t : Nat) (s : State), s.seq.st = .deadbus → s.seq.busDead = false →
      ∃ s', exec (.deadMsExpired t) s = .next s' ∧ s.idles t s' ∧
        s'.dev.get pTRANSIT TRANSIT.FAULT_CODE_CAUSE = 0x03 ∧ s'.dev.flag pTRANSIT TRANSIT.IRQ_RAW_ABORT = true) ∧
  (∀ (t : Nat) (s : State), s.seq.st = .armed → s.seq.mission = .armStart → s.seq.wait = .netTime →
      (s.lawIn t).ntLocked = true → s.seq.tStart ≤ (s.lawIn t).ntTaps → (s.lawIn t).refusal = none →
      (s.lawIn t).permit = true →
      ∃ s', exec (.startInstant t) s = .next s' ∧ s'.inState .energise ∧ s'.seq.since = t ∧
        s'.dev.triad.law.omega = s.dev.actWord pPROFILE PROFILE.TGT_W ∧
        s'.dev.triad.law.theta = startAngle (s.lawIn t) s.seq.theta0 ((s.lawIn t).ntTaps - s.seq.tStart) ∧
        s'.dev.triad.law.chV = ⟨s.dev.actWord pTRANSIT TRANSIT.BS_V0, 0, 0⟩ ∧ s.lawOnly s') ∧
  (∀ (t e : Nat) (s : State), s.seq.st = .armed → s.seq.mission = .armStart → s.seq.wait = .wire →
      s.dev.triad.wireEdge = some e → (s.lawIn t).refusal = none → (s.lawIn t).permit = true →
      ∃ s', exec (.startInstant t) s = .next s' ∧ s'.inState .energise ∧ s'.seq.since = t ∧
        s'.dev.triad.law.omega = s.dev.actWord pPROFILE PROFILE.TGT_W ∧
        s'.dev.triad.law.theta = startAngle (s.lawIn t) s.seq.theta0 (t - e) ∧
        s'.dev.triad.law.chV = ⟨s.dev.actWord pTRANSIT TRANSIT.BS_V0, 0, 0⟩ ∧ s.lawOnly s') ∧
  (∀ (t : Nat) (s : State), s.seq.st = .armed → s.seq.mission = .armStart → s.seq.wait = .wire →
      s.seq.wireDriven = false → s.dev.flag pTRANSIT TRANSIT.TR_CFG_LEAD = true →
      s.dev.triad.law.leadDue (s.lawIn t) = true →
      ∃ s', exec (.leadWireInstant t) s = .next s' ∧ s'.seq = { s.seq with wireDriven := true } ∧
        s'.dev.acq.wireDrive = some t ∧ s.lawOnly s') ∧
  (∀ (t : Nat) (s : State), s.seq.st = .armed → s.seq.mission = .attach → s.dev.triad.law.far.on = true →
      s.dev.triad.law.far.since + msTaps 100 ≤ t → (s.lawIn t).refusal = none → (s.lawIn t).permit = true →
      fLt s.dev.triad.law.far.mag (s.dev.actWord pTRANSIT TRANSIT.DEAD_V) = false →
      ∃ s', exec (.farSideSettled t) s = .next s' ∧ s'.inState .sync ∧ s'.seq.since = t ∧
        s'.dev.triad.law.theta = s.dev.triad.law.far.theta ∧ s'.dev.triad.law.omega = s.dev.triad.law.far.omega ∧
        s'.dev.triad.law.chV = ⟨s.dev.triad.law.far.mag, 0, 0⟩ ∧ s.lawOnly s') ∧
  (∀ (t : Nat) (s : State), s.seq.st = .armed → s.seq.mission = .attach → s.dev.triad.law.far.on = true →
      s.dev.triad.law.far.since + msTaps 100 ≤ t → s.dev.flag pTRANSIT TRANSIT.TR_CFG_DEAD_CLOSE = false →
      fLt s.dev.triad.law.far.mag (s.dev.actWord pTRANSIT TRANSIT.DEAD_V) = true →
      ∃ s', exec (.farSideSettled t) s = .next s' ∧ s.idles t s' ∧
        s'.dev.get pTRANSIT TRANSIT.FAULT_CODE_CAUSE = 0x09 ∧ s'.dev.flag pTRANSIT TRANSIT.IRQ_RAW_ABORT = true)

/-- SYNC_CLOSE with the dwell reached and the close conditions met asserts the breaker of the synchronisation, begins
the wait for its feedback and enters CLOSE_BRK. SYNC_TIMEOUT of a RECONNECT returns to ISLAND with cause 0x08, and of
an ATTACH starts the controlled shutdown with that cause. BRK_FB_TIMEOUT, once FB_MS has passed since the command,
sets BRK_FAIL: in CLOSE_OUT it releases the close command and enters IDLE with cause 0x04; in CLOSE_BRK it releases
the command of the breaker being closed and goes back to ISLAND with cause 0x04 for a RECONNECT, and starts the
controlled shutdown with that cause otherwise; in OPEN_PCC it asserts the breaker's command again and enters GRID with
cause 0x13. Each leaves alone what a sequencer outcome does not touch. [R82; R83; R74; R77; R85] -/
def Obligations.SequencerBreakerTransitions : Prop :=
  (∀ (t : Nat) (s : State), s.seq.st = .sync → s.dev.act pTRANSIT TRANSIT.SYNC_CTL_DWELL ≤ s.seq.dwell →
      s.seq.syncOk = true →
      ∃ s', exec (.syncClose t) s = .next s' ∧ s'.inState .closeBrk ∧ s'.seq.since = t ∧
        s'.seq.brk = setBit s.seq.brk (s.dev.triad.law.missionBrk (s.lawIn t)) ∧ s'.seq.brkWait = some (true, t) ∧
        s'.seq.mission = s.seq.mission ∧ s.lawOnly s') ∧
  (∀ (t : Nat) (s : State), s.seq.st = .sync → s.seq.mission = .reconnect →
      s.seq.since + msTaps (1000 * s.dev.act pTRANSIT TRANSIT.SYNC_CTL_TIMEOUT_S) ≤ t →
      ∃ s', exec (.syncTimeout t) s = .next s' ∧ s'.inState .island ∧ s'.seq.since = t ∧ s'.seq.mission = .none ∧
        s'.dev.triad.law.far.on = false ∧ s'.seq.brk = s.seq.brk ∧
        s'.dev.get pTRANSIT TRANSIT.FAULT_CODE_CAUSE = 0x08 ∧ s.lawOnly s') ∧
  (∀ (t : Nat) (s : State), s.seq.st = .sync → s.seq.mission ≠ .reconnect →
      s.seq.since + msTaps (1000 * s.dev.act pTRANSIT TRANSIT.SYNC_CTL_TIMEOUT_S) ≤ t →
      ∃ s', exec (.syncTimeout t) s = .next s' ∧ s.shutsDown t 0x08 s' ∧ s'.dev.triad.law.far.on = false) ∧
  (∀ (t t0 : Nat) (c : Bool) (s : State), s.seq.st = .closeOut → s.seq.brkWait = some (c, t0) →
      t0 + msTaps (s.dev.act pTRANSIT TRANSIT.BRK_TIMES_FB_MS) ≤ t →
      ∃ s', exec (.brkFbTimeout t) s = .next s' ∧ s'.inState .idle ∧ s'.seq.since = t ∧ s'.seq.brkWait = none ∧
        s'.seq.brk = clearBit s.seq.brk (s.dev.get pTRANSIT TRANSIT.TR_CFG_OUT_BRK) ∧ s'.seq.mission = .none ∧
        s'.dev.get pTRANSIT TRANSIT.FAULT_CODE_CAUSE = 0x04 ∧ s'.dev.flag pTRANSIT TRANSIT.IRQ_RAW_BRK_FAIL = true ∧
        s'.dev.flag pTRANSIT TRANSIT.IRQ_RAW_ABORT = true ∧ s.lawOnly s') ∧
  (∀ (t t0 : Nat) (c : Bool) (s : State), s.seq.st = .closeBrk → s.seq.brkWait = some (c, t0) →
      t0 + msTaps (s.dev.act pTRANSIT TRANSIT.BRK_TIMES_FB_MS) ≤ t →
      ∃ s', exec (.brkFbTimeout t) s = .next s' ∧
        s'.inState (if s.seq.mission = .reconnect then .island else .stopping) ∧ s'.seq.since = t ∧
        s'.seq.brkWait = none ∧ s'.seq.brk = clearBit s.seq.brk (s.dev.triad.law.missionBrk (s.lawIn t)) ∧
        s'.seq.mission = .none ∧ s'.dev.get pTRANSIT TRANSIT.FAULT_CODE_CAUSE = 0x04 ∧
        s'.dev.flag pTRANSIT TRANSIT.IRQ_RAW_BRK_FAIL = true ∧ s.lawOnly s') ∧
  (∀ (t t0 : Nat) (c : Bool) (s : State), s.seq.st = .openPcc → s.seq.brkWait = some (c, t0) →
      t0 + msTaps (s.dev.act pTRANSIT TRANSIT.BRK_TIMES_FB_MS) ≤ t →
      ∃ s', exec (.brkFbTimeout t) s = .next s' ∧ s'.inState .grid ∧ s'.seq.since = t ∧ s'.seq.brkWait = none ∧
        s'.seq.brk = setBit s.seq.brk (s.dev.get pTRANSIT TRANSIT.TR_CFG_PCC_BRK) ∧
        s'.dev.get pTRANSIT TRANSIT.FAULT_CODE_CAUSE = 0x13 ∧ s'.dev.flag pTRANSIT TRANSIT.IRQ_RAW_BRK_FAIL = true ∧
        s.lawOnly s')

/-- While the law runs and is not stopping, an input held beyond HOLD_MAX, and the eighth consecutive non-finite
sample, each start the controlled shutdown with cause 0x10 and set HOLD_EXPIRED; a following-error timer that stands
at FE_CYC with its enable set, outside the states in which the timers hold, is reported in its bit of IRQ_RAW, and
with FE_ACTION set it starts the controlled shutdown with cause 0x0F, else the sequencer is as before. The shutdown
enters STOPPING with the four profile channels as they stand. Twenty milliseconds after STOPPING was entered the
ramp's end enters IDLE with all legs off; so does the end of the ramp of a HOLD_SHUTDOWN, with cause 0x10. [R44; R45;
R66; R69; R70; R115] -/
def Obligations.ControlledShutdownStartsAndEnds : Prop :=
  (∀ (t : Nat) (s : State), s.seq.st.runs = true → s.seq.st ≠ .stopping →
      (∃ k < 6, (((s.lawIn t).v ++ (s.lawIn t).i).getD k ⟨false, 0, 0⟩).holdMax <
        (s.dev.triad.law.inputs.getD k ⟨none, 0⟩).held) →
      ∃ s', exec (.holdExpired t) s = .next s' ∧ s.shutsDown t 0x10 s' ∧
        s'.dev.flag pGFM GFM.IRQ_RAW_HOLD_EXPIRED = true) ∧
  (∀ (t : Nat) (s : State), s.seq.st.runs = true → s.seq.st ≠ .stopping → 8 ≤ s.dev.triad.law.nonFinite →
      ∃ s', exec (.nonfiniteLimit t) s = .next s' ∧ s.shutsDown t 0x10 s' ∧
        s'.dev.flag pGFM GFM.IRQ_RAW_HOLD_EXPIRED = true) ∧
  (∀ (t : Nat) (p v : Bool) (s : State), s.seq.st.runs = true → s.seq.st.feHold = false →
      p = (s.dev.actFlag pPROFILE PROFILE.PRF_CFG_FE_P_EN &&
        decide (s.dev.act pPROFILE PROFILE.FE_CYC_CYCLES ≤ s.dev.triad.law.feP)) →
      v = (s.dev.actFlag pPROFILE PROFILE.PRF_CFG_FE_V_EN &&
        decide (s.dev.act pPROFILE PROFILE.FE_CYC_CYCLES ≤ s.dev.triad.law.feV)) → (p || v) = true →
      ∃ s', exec (.feExpired t) s = .next s' ∧
        (p = true → s'.dev.flag pPROFILE PROFILE.IRQ_RAW_FE_P_EXPIRED = true) ∧
        (v = true → s'.dev.flag pPROFILE PROFILE.IRQ_RAW_FE_V_EXPIRED = true) ∧
        (if s.dev.actFlag pPROFILE PROFILE.PRF_CFG_FE_ACTION = true then s.shutsDown t 0x0F s'
         else s'.seq = s.seq ∧ s.lawOnly s')) ∧
  (∀ (t : Nat) (s : State), s.dev.triad.holdShut = none → s.seq.st = .stopping → s.seq.since + msTaps 20 ≤ t →
      ∃ s', exec (.shutdownRampEnd t) s = .next s' ∧ s.idles t s') ∧
  (∀ (t a : Nat) (s : State), s.dev.triad.holdShut = some a → s.seq.st ≠ .idle → a + msTaps 20 ≤ t →
      ∃ s', exec (.shutdownRampEnd t) s = .next s' ∧ s.idles t s' ∧ s'.dev.triad.holdShut = none ∧
        s'.dev.get pTRANSIT TRANSIT.FAULT_CODE_CAUSE = 0x10)

/-- With ride-through and entry by saturation enabled, the output contactor closed and a state in which entry is
evaluated, SAT_N consecutive saturated samples decide entry, which acts in the next sample; the sequencer is as
before. In RIDE_THROUGH beyond TMAX_MS, no stop being decided yet, a trip with cause 0x0E is decided and RT_TRIP set,
legs off at once or a controlled shutdown as TRIP_ACTION says. EXIT_N samples within the exit band enter RECOVER,
where p_f and q_f are p and q of the sample and channel P stands at rest at the value that continues them. Each leaves
alone what a sequencer outcome does not touch. [R90; R93; R94] -/
def Obligations.RideThroughDecisions : Prop :=
  (∀ (t : Nat) (s : State), s.dev.actFlag pFRT FRT.FRT_CFG_RT_EN = true →
      s.dev.actFlag pFRT FRT.FRT_CFG_SAT_ENTRY = true → s.seq.outClosed = true → s.seq.st.rtStates = true →
      s.dev.act pFRT FRT.RT_COUNTS_SAT_N ≤ s.dev.triad.law.rt.satRun →
      ∃ s', exec (.rtSatCount t) s = .next s' ∧ s'.dev.triad.law.rt = { s.dev.triad.law.rt with pendEntry := true } ∧
        (s.dev.triad.law.rt.pendEntry = false → s'.dev.flag pFRT FRT.IRQ_RAW_RT_ENTRY = true) ∧
        s'.seq = s.seq ∧ s.lawOnly s') ∧
  (∀ (t e : Nat) (s : State), s.dev.actFlag pFRT FRT.FRT_CFG_RT_EN = true → s.seq.st = .rideThrough →
      s.dev.triad.law.rt.entryAt = some e → e + msTaps (s.dev.act pFRT FRT.RT_TIMES_TMAX_MS) < t →
      s.seq.pendStop = none →
      ∃ s', exec (.rtTmaxExpired t) s = .next s' ∧
        s'.seq = { s.seq with pendStop := some (!s.dev.actFlag pFRT FRT.FRT_CFG_TRIP_ACTION, 0x0E) } ∧
        s'.dev.flag pFRT FRT.IRQ_RAW_RT_TRIP = true ∧ s.lawOnly s') ∧
  (∀ (t : Nat) (s : State), s.seq.st = .rideThrough →
      s.dev.act pFRT FRT.RT_COUNTS_EXIT_N ≤ s.dev.triad.law.rt.exitRun →
      ∃ s', exec (.rtExit t) s = .next s' ∧ s'.inState .recover ∧ s'.seq.since = t ∧
        (let l := s.dev.triad.law
         let z := lawSequences (s.lawIn t).gfm (l.signals (s.lawIn t)) l
         s'.dev.triad.law.pf = z.p.w ∧ s'.dev.triad.law.qf = z.q.w ∧
         s'.dev.triad.law.chP =
           ⟨(z.p.sub (((FV.of l.chW.y).sub (.of l.omega)).div (.of (s.lawIn t).gfm.mP))).w, 0, 0⟩) ∧
        s'.dev.triad.law.rt.exitAt = some t ∧ s'.dev.triad.law.rt.pendExit = false ∧ s.lawOnly s')

/-- A read of SLACK_MIN of an engine leaves 0xFFFF there, and a read of WAIT_MAX of a port leaves 0 there. A read of
NT_LO with a valid network time leaves in NT_HI the high word of that time. A read of the low word of a ledger counter
captures its high word. Each completes, and nothing else changes. [R138; R281; R400; R335; R271] -/
def Obligations.ReadsThatRestartOrCapture : Prop :=
  (∀ (n : Fin 15) (t : Nat) (s : State),
      ∃ s', exec (.slackMinRead n t) s = .next s' ∧ s'.dev.get (pENG n) TE.SLACK_MIN_TICKS = 0xFFFF ∧
        s.regsBut [TE.SLACK_MIN_TICKS.addr (pENG n) 0] s' ∧ s'.dev.units = s.dev.units ∧ s.memSame s') ∧
    (∀ (b : Fin 16) (k : Fin 24) (t : Nat) (s : State),
      ∃ s', exec (.waitMaxRead b k t) s = .next s' ∧ s'.dev.getAt (pARB b) ARB.PORT_STAT_WAIT_MAX k = 0 ∧
        s.regsBut [ARB.PORT_STAT_WAIT_MAX.addr (pARB b) k] s' ∧ s'.dev.units = s.dev.units ∧ s.memSame s') ∧
    (∀ (t : Nat) (s : State), s.dev.bus.nt.valid = true →
      ∃ s', exec (.ntLoRead t) s = .next s' ∧
        s'.dev.wordAt pTIME PBUS_TIME.NT_HI 0 = (ntWords (s.dev.bus.nt.taps t)).2 ∧
        s.regsBut [PBUS_TIME.NT_HI.addr pTIME 0] s' ∧ s'.dev.bus.nt = s.dev.bus.nt ∧ s.memSame s') ∧
    ∀ (k : Fin 6) (t : Nat) (s : State),
      ∃ s', exec (.ledgerCounterRead k t) s = .next s' ∧
        s'.dev.prec = { s.dev.prec with capHi := s.dev.prec.capHi.set k (s.dev.prec.count.getD k 0 / 2 ^ 32) } ∧
        s.regsBut [] s' ∧ s.memSame s'

/-- While the law runs and engines hold the positions that are not vacant, at the triad commit deadline of an open
sample, the voter step completes, closes the sample and shows its number. If the ballots have a majority and the
voter's own write has not failed, the outcome of the first agreeing position is in force and the hold ends; the
published half changes, to a record equal to that position's, unless a comparator test runs, which keeps the published
halves as they are. While that outcome runs, every agreeing position that is not withheld is renewed to three samples
ahead, and a dissenter whose lease goes on is suspended, with OUTVOTED set. Without a majority (and before the ninth
such sample) the outcome in force stays, hold is in force, its count rises, memory is as before, and every counted
position that is not withheld keeps its lease to three samples ahead. [R60; R106; R107; R108; R115; R17] -/
def Obligations.VoteDecidesTheSample : Prop :=
  ∀ (done : List (Fin 3 × Nat)) (t a : Nat) (s : State), s.seq.st.runs = true → s.dev.triad.holdShut = none →
    s.dev.triad.sampleOpen = true → s.dev.triad.tickAt = some a → s.dev.pw.halted = false →
    a + tickTaps (s.dev.get (pENG 12) TE.DEADLINE_TICKS) ≤ t → s.dev.triad.holdCnt < 8 →
    (∀ k < 3, (s.dev.pos k).st ≠ .vacant → (s.dev.pos k).holder < 15) →
    ∃ s', exec (.voterStep done t) s = .next s' ∧ s'.dev.triad.sampleOpen = false ∧
      s'.dev.triad.sampleNo = s.dev.triad.sampleNo ∧ s'.pending = s.pending ∧
      (let v := vote ((s.dev.begin t).ballots s.mem (a + tickTaps (s.dev.get (pENG 12) TE.DEADLINE_TICKS))
         ((s.dev.begin t).arrivals done))
       let lost := s.dev.felt.failed.contains 0x10
       let k0 := v.agree.headD 0
       (v.agree ≠ [] → lost = false →
          s'.dev.triad.law = (s.dev.pos k0).law.quiet ∧ s'.dev.triad.hold = false ∧ s'.dev.triad.holdCnt = 0 ∧
          s'.dev.triad.lastVoted = some s.dev.triad.sampleNo ∧
          (s.dev.triad.testBusy = false → s'.dev.triad.bufB = !s.dev.triad.bufB ∧
            (∀ j < 128, memByte s'.mem ((if s.dev.triad.bufB then 0x100F0200 else 0x100F0280) + j) =
              memByte s.mem (0x100F0000 + 0x80 * k0 + j)) ∧ s.memSameBut 0x100F0200 0x4640 s') ∧
          (s.dev.triad.testBusy = true → s'.dev.triad.bufB = s.dev.triad.bufB ∧ s.memSameBut 0x100F0A00 0x3E40 s') ∧
          ((s.dev.pos k0).law.seq.st.runs = true →
            (∀ k ∈ v.agree, (s.dev.pos k).withheld = false → s.dev.failbackDue k = false →
              (s'.dev.pos k).expiry = s.dev.triad.sampleNo + 3 ∧ (s'.dev.pos k).st = .counted) ∧
            (∀ k, v.dissent = some k → s.dev.triad.sampleNo < (s.dev.pos k).expiry → (s'.dev.pos k).st = .suspended ∧
              s'.dev.flag pVOTER VOTER.IRQ_RAW_OUTVOTED = true))) ∧
       (v.agree = [] ∨ lost = true →
          s'.dev.triad.law = s.dev.triad.law ∧ s'.dev.triad.hold = true ∧
          s'.dev.triad.holdCnt = s.dev.triad.holdCnt + 1 ∧ s'.dev.triad.bufB = s.dev.triad.bufB ∧ s.memSame s' ∧
          ∀ k ∈ (s.dev.begin t).countedPos, (s.dev.pos k).withheld = false → (s.dev.failbackDue k = false) →
            (s'.dev.pos k).expiry = s.dev.triad.sampleNo + 3 ∧ (s'.dev.pos k).st = .counted))

/-- Outside an open sample LEASE_EXPIRY of a position that is suspended, or whose renewal is withheld, and whose lease
has run out leaves it vacant, held by none, the other positions and the outcome in force as they were. SPARE_LOAD_DONE
marks a loading position as loaded. A self-test pass of an engine that tests counts in PASS_RUN; a failed one clears
PASS_RUN, counts, and names its part; a failure of an engine that loads, or has joined without being counted yet,
withdraws the grant. FAILBACK that is due withholds the renewal. VOTER_TEST outside a run is busy until
VOTER_TEST_DONE gives its result. CLR_CNT clears the three disagreement counts. HOLD_SHUTDOWN after nine samples
without a majority starts the controlled shutdown with cause 0x10, or continues one that has begun, and sets its bit
of IRQ_RAW and HOLD_EXPIRED. [R108; R111; R115; R116; R117; R124] -/
def Obligations.LeasesLoadsAndTests : Prop :=
  (∀ (k : Fin 3) (t : Nat) (s : State), s.dev.triad.sampleOpen = false → ((s.dev.pos k).st = .suspended ∨ ((s.dev.pos k).st = .counted ∧ (s.dev.pos k).withheld = true)) →
      (s.dev.pos k).expiry ≤ s.dev.triad.sampleNo →
      ∃ s', exec (.leaseExpiry k t) s = .next s' ∧ (s'.dev.pos k).st = .vacant ∧ (s'.dev.pos k).holder = 15 ∧
        (∀ j < 3, j ≠ k.val → s'.dev.pos j = s.dev.pos j) ∧ s'.dev.triad.law = s.dev.triad.law ∧
        s'.dev.getAt pVOTER VOTER.LEASE_POS_STATE k = 3 ∧ s'.dev.getAt pVOTER VOTER.LEASE_HOLDER k = 15 ∧ s.memSame s') ∧
    (∀ (k : Fin 3) (t : Nat) (s : State), (s.dev.pos k).st = .loading →
      ∃ s', exec (.spareLoadDone k t) s = .next s' ∧ s'.dev.pos k = { s.dev.pos k with loaded := true } ∧
        (∀ j < 3, j ≠ k.val → s'.dev.pos j = s.dev.pos j) ∧ s'.dev.triad.law = s.dev.triad.law ∧
        s'.dev.others = s.dev.others ∧ s.memSame s') ∧
    (∀ (n : Fin 15) (fail : Option (Fin 4)) (t : Nat) (s : State), s.dev.boot.idle = false → s.dev.tests n = true →
      ∃ s', exec (.selftestPassDone n fail t) s = .next s' ∧
        (fail = none → s'.dev.passRun n = min 65535 (s.dev.passRun n + 1)) ∧
        (∀ p, fail = some p → s'.dev.passRun n = 0 ∧ s'.dev.getAt pVOTER VOTER.HEALTH_LAST_FAIL n = p.val + 1 ∧
          s'.dev.getAt pVOTER VOTER.HEALTH_FAIL_CNT n = min 255 (s.dev.getAt pVOTER VOTER.HEALTH_FAIL_CNT n + 1) ∧
          s'.dev.flag pVOTER VOTER.IRQ_RAW_SELFTEST_FAIL = true) ∧ s'.dev.triad = s.dev.triad ∧ s.memSame s') ∧
    (∀ (n : Fin 15) (p : Fin 4) (k t : Nat) (s : State), s.dev.boot.idle = false → s.dev.loadingPos n = some k →
      ∃ s', exec (.selftestPassDone n (some p) t) s = .next s' ∧ (s'.dev.pos k).st = .vacant ∧ s'.dev.passRun n = 0 ∧
        s'.dev.getAt pVOTER VOTER.HEALTH_LAST_FAIL n = p.val + 1 ∧ s'.dev.flag pVOTER VOTER.IRQ_RAW_SELFTEST_FAIL = true ∧
        (∀ j < 3, j ≠ k → s'.dev.pos j = s.dev.pos j) ∧ s'.dev.triad.law = s.dev.triad.law ∧ s.memSame s') ∧
    (∀ (k : Fin 3) (t : Nat) (s : State), s.dev.failbackDue k = true →
      ∃ s', exec (.failback k t) s = .next s' ∧ s'.dev.pos k = { s.dev.pos k with withheld := true } ∧
        (∀ j < 3, j ≠ k.val → s'.dev.pos j = s.dev.pos j) ∧ s'.dev.triad.law = s.dev.triad.law ∧
        s'.dev.others = s.dev.others ∧ s.memSame s') ∧
    (∀ (t : Nat) (s : State), s.seq.st.runs = false →
      ∃ s', exec (.voterTest t) s = .next s' ∧ s'.dev.triad = { s.dev.triad with testBusy := true } ∧
        s'.dev.flag pVOTER VOTER.STATUS_TEST_BUSY = true ∧ s.regsBut [VOTER.STATUS_TEST_BUSY.addr pVOTER 0] s' ∧
        s'.dev.others = s.dev.others ∧ s.memSame s') ∧
    (∀ (pass : Bool) (t : Nat) (s : State), s.dev.triad.testBusy = true →
      ∃ s', exec (.voterTestDone pass t) s = .next s' ∧ s'.dev.triad = { s.dev.triad with testBusy := false, testPass := pass } ∧
        s'.dev.flag pVOTER VOTER.STATUS_TEST_BUSY = false ∧ s'.dev.flag pVOTER VOTER.STATUS_TEST_PASS = pass ∧
        s.regsBut [VOTER.STATUS_TEST_BUSY.addr pVOTER 0] s' ∧ s'.dev.others = s.dev.others ∧ s.memSame s') ∧
    (∀ (t : Nat) (s : State),
      ∃ s', exec (.voterClrCnt t) s = .next s' ∧ s'.dev.get pVOTER VOTER.DISAGREE_POS0 = 0 ∧
        s'.dev.get pVOTER VOTER.DISAGREE_POS1 = 0 ∧ s'.dev.get pVOTER VOTER.DISAGREE_POS2 = 0 ∧
        s.regsBut [VOTER.DISAGREE_POS0.addr pVOTER 0] s' ∧ s'.dev.units = s.dev.units ∧ s.memSame s') ∧
    ∀ (t : Nat) (s : State), s.dev.triad.hold = true → 9 ≤ s.dev.triad.holdCnt → s.dev.triad.holdShut = none →
      s.seq.st.runs = true →
      ∃ s', exec (.holdShutdown t) s = .next s' ∧ s'.dev.triad.holdShut = some t ∧
        s'.dev.flag pVOTER VOTER.IRQ_RAW_HOLD_SHUTDOWN = true ∧ s'.dev.flag pGFM GFM.IRQ_RAW_HOLD_EXPIRED = true ∧
        (if s.seq.st = .stopping then s'.seq = s.seq ∧ s.lawOnly s' else s.shutsDown t 0x10 s')

/-- For either role: an eligible enabled unit with a rank other than 15 that is not holder and has seen at least 5 +
rank silent cycles claims. Its role frame sent makes a claiming or holding unit the holder with a lease of four
cycles. A role frame of another unit ends the silence, drops an unsent claim, and shows the sender as holder; a
reclaim frame makes a holder relinquish and changes nothing else, and in a unit that does not hold the role it changes
nothing. A holder or relinquishing unit whose lease is 0 is no holder. A reclaim by a unit of lower rank after 64
eligible cycles starts that run again. Gaining or losing a role sets ROLE_CHANGE. Each changes that role and the
registers that show it, and nothing else. [R121; R122; R123; R124; R125] -/
def Obligations.SegmentRolesChangeHands : Prop :=
  (∀ (pc : Bool) (t : Nat) (s : State), s.dev.roleEligible pc = true → s.dev.roleEn pc = true → s.dev.roleRank pc ≠ 15 →
      (s.dev.segRole pc).st = 0 → 5 + s.dev.roleRank pc ≤ (s.dev.segRole pc).silent →
      ∃ s', exec (.roleClaim pc t) s = .next s' ∧ s.roleBecomes pc { s.dev.segRole pc with st := 2 } s') ∧
    (∀ (pc : Bool) (t : Nat) (s : State), (s.dev.segRole pc).st ∈ [1, 2] →
      ∃ s', exec (.roleFrameTx pc t) s = .next s' ∧
        s.roleBecomes pc ⟨1, 0, 4, 0, s.dev.get pPBUS PBUS.OWN_ADDR_ADDR, some (s.dev.roleRank pc)⟩ s') ∧
    (∀ (pc : Bool) (addr : BitVec 20) (rank : Option (Fin 16)) (t : Nat) (s : State),
      ∃ s', exec (.roleFrameRx pc addr rank false t) s = .next s' ∧
        s.roleBecomes pc { s.dev.segRole pc with silent := 0, holderAddr := addr.toNat, holderRank := rank.map (·.val),
                                                 st := if (s.dev.segRole pc).st = 2 then 0 else (s.dev.segRole pc).st } s') ∧
    (∀ (pc : Bool) (addr : BitVec 20) (rank : Option (Fin 16)) (t : Nat) (s : State), (s.dev.segRole pc).st = 1 →
      ∃ s', exec (.roleFrameRx pc addr rank true t) s = .next s' ∧
        s.roleBecomes pc { s.dev.segRole pc with st := 3 } s') ∧
    (∀ (pc : Bool) (addr : BitVec 20) (rank : Option (Fin 16)) (t : Nat) (s : State), (s.dev.segRole pc).st ≠ 1 →
      ∃ s', exec (.roleFrameRx pc addr rank true t) s = .next s' ∧ s'.dev.units = s.dev.units ∧ s.regsSame s' ∧
        s.memSame s') ∧
    (∀ (pc : Bool) (t : Nat) (s : State), (s.dev.segRole pc).st ∈ [1, 3] → (s.dev.segRole pc).lease = 0 →
      ∃ s', exec (.roleLeaseExpiry pc t) s = .next s' ∧ s.roleBecomes pc { s.dev.segRole pc with st := 0 } s') ∧
    ∀ (pc : Bool) (t h : Nat) (s : State), s.dev.roleEligible pc = true → s.dev.roleEn pc = true →
      64 ≤ (s.dev.segRole pc).eligibleRun → (s.dev.segRole pc).st = 0 → (s.dev.segRole pc).holderRank = some h →
      s.dev.roleRank pc < h →
      ∃ s', exec (.roleReclaim pc t) s = .next s' ∧ s.roleBecomes pc { s.dev.segRole pc with eligibleRun := 0 } s' 

/-- A due tick of a waiting or running control engine that is no spare starts a sample: running, pc 0, registers zero,
the next sample number, the inbound half flipped if it was latched; with a user program and no resume due, memory
changes in the 32 bytes of the descriptor only, whose first word is the tick's stamp. At the deadline of a user
program's sample with its completion signal there in time the outbound half flips, the counts of misses are 0 and
CLEAN_RUN counts; memory changes in the committed words of the state window only. Without it the sample is cut: the
outbound half stays, CONSEC and the total count, CLEAN_RUN is 0, memory is as before. The third consecutive miss turns
the legs of the engine's list off. [R128; R129; R131; R132; R133; R143] -/
def Obligations.SamplesBeginCommitAndMiss : Prop :=
  (∀ (n : Fin 12) (t : Nat) (s : State), s.dev.tickDue n t = true → ¬(s.dev.spareEn = true ∧ s.dev.spare = n.val) →
      (s.dev.engine n).st = .wait ∨ (s.dev.engine n).st = .run → s.dev.pw.halted = false → s.dev.boot.idle = false →
      s.dev.boot.gauze = false → (∀ a, (s.dev.engine n).tickAt = some a → a < t) →
      ∃ s', exec (.engineTick n t) s = .next s' ∧ (s'.dev.engine n).st = .run ∧ (s'.dev.engine n).tickAt = some t ∧
        (s'.dev.engine n).pc = 0 ∧ (s'.dev.engine n).regs = Vector.replicate 32 0 ∧ (s'.dev.engine n).doneAt = none ∧
        (s'.dev.engine n).sampleNo = ((s.dev.engine n).sampleNo + 1) % 2 ^ 32 ∧
        (s'.dev.engine n).inB = ((s.dev.engine n).inB != (s.dev.engine n).mboxLatched) ∧
        (s'.dev.engine n).mboxLatched = false ∧ s'.pending = s.pending ∧
        (s.dev.flag (pENG n) CE.ENG_CFG_VENDOR_PROG = false → (s.dev.engine n).resumeDue = false →
          s'.dev.word s'.mem (dataBase n) = s.dev.stampOf t ∧ s.memSameBut (dataBase n) 32 s')) ∧
    (∀ (n : Fin 12) (t a x : Nat) (arr : Option Nat) (s : State), (s.dev.engine n).st = .run → s.dev.pw.halted = false →
      s.dev.flag (pENG n) CE.ENG_CFG_VENDOR_PROG = false → (s.dev.engine n).tickAt = some a →
      (s.dev.engine n).doneAt = some x → x ≤ a + tickTaps (s.dev.get (pENG n) CE.DEADLINE_TICKS) →
      a + tickTaps (s.dev.get (pENG n) CE.DEADLINE_TICKS) ≤ t →
      ∃ s', exec (.sampleDeadline n arr t) s = .next s' ∧ (s'.dev.engine n).outB = !(s.dev.engine n).outB ∧
        (s'.dev.engine n).tickAt = none ∧ (s'.dev.engine n).missedLast = false ∧
        s'.dev.get (pENG n) CE.MISS_STAT_CONSEC = 0 ∧
        s'.dev.get (pENG n) CE.CLEAN_RUN = min 65535 (s.dev.get (pENG n) CE.CLEAN_RUN + 1) ∧
        (∀ b, (∀ o ∈ (s.dev.engine n).written, b < dataBase n + 0x3000 + o ∨ dataBase n + 0x3000 + o + 4 ≤ b) →
          memByte s'.mem b = memByte s.mem b) ∧ s'.pending = s.pending) ∧
    (∀ (n : Fin 12) (t a : Nat) (arr : Option Nat) (s : State), (s.dev.engine n).st = .run → s.dev.pw.halted = false →
      s.dev.flag (pENG n) CE.ENG_CFG_VENDOR_PROG = false → (s.dev.engine n).tickAt = some a →
      (∀ x, (s.dev.engine n).doneAt = some x → a + tickTaps (s.dev.get (pENG n) CE.DEADLINE_TICKS) < x) →
      a + tickTaps (s.dev.get (pENG n) CE.DEADLINE_TICKS) ≤ t →
      ∃ s', exec (.sampleDeadline n arr t) s = .next s' ∧ (s'.dev.engine n).outB = (s.dev.engine n).outB ∧
        (s'.dev.engine n).tickAt = none ∧ (s'.dev.engine n).missedLast = true ∧
        s'.dev.get (pENG n) CE.MISS_STAT_CONSEC = min 3 (s.dev.get (pENG n) CE.MISS_STAT_CONSEC + 1) ∧
        s'.dev.get (pENG n) CE.MISS_STAT_TOTAL = min 65535 (s.dev.get (pENG n) CE.MISS_STAT_TOTAL + 1) ∧
        s'.dev.get (pENG n) CE.CLEAN_RUN = 0 ∧ s'.dev.flag (pENG n) CE.IRQ_RAW_DEADLINE_MISS = true ∧
        (s.dev.get (pENG n) CE.MISS_STAT_CONSEC = 2 → (s'.dev.engine n).legsOff = true ∧
          s'.dev.flag (pENG n) CE.IRQ_RAW_MISS_OFF = true ∧ s'.legsDark (s.dev.engLegs n)) ∧ s.memSame s') ∧
    ∀ (n : Fin 12) (t : Nat) (s : State), s.dev.get (pENG n) CE.MISS_STAT_CONSEC = 3 → (s.dev.engine n).legsOff = false →
      (s.dev.engine n).st = .wait ∨ (s.dev.engine n).st = .run → s.dev.pw.halted = false →
      ∃ s', exec (.missOff n t) s = .next s' ∧ (s'.dev.engine n).legsOff = true ∧
        s'.dev.flag (pENG n) CE.STATUS_LEGS_FORCED_OFF = true ∧ s'.dev.flag (pENG n) CE.IRQ_RAW_MISS_OFF = true ∧
        s'.legsDark (s.dev.engLegs n) ∧ s'.dev.triad = s.dev.triad ∧ s.memSame s'

/-- RUN of an engine that is OFF, outside IDLE and with no reason to refuse, makes it wait for its tick with its
counts 0; with a reason it stays OFF, RUN is 0, START_REFUSED is set and FAULT_CODE takes the cause. STOP of an engine
that is not OFF makes it OFF with its sample cut and the legs of its list off. RESTART enters restart with the
registers zero, is counted and takes cause 0xB; its end leaves a triad engine in its role and a control engine
waiting, or OFF where it did not run. A start and a restart change memory in the data memory of the engine only.
LEG_RESUME after 64 clean samples of an engine that waits or runs is accepted, otherwise refused with cause 0xA.
COMMIT latches the inbound mailbox. [R134; R143; R151; R153] -/
def Obligations.EnginesStartStopAndRestart : Prop :=
  (∀ (n : Fin 12) (t : Nat) (s : State), s.dev.boot.idle = false → (s.dev.engine n).st = .off → s.dev.runRefusal n = none →
      ∃ s', exec (.engineRun n t) s = .next s' ∧ (s'.dev.engine n).st = .wait ∧ (s'.dev.engine n).first = true ∧
        s'.dev.flag (pENG n) CE.CTRL_RUN = true ∧ s'.dev.get (pENG n) CE.MISS_STAT_CONSEC = 0 ∧
        s'.dev.get (pENG n) CE.CLEAN_RUN = 0 ∧ (∀ j, j ≠ n.val → s'.dev.engine j = s.dev.engine j) ∧
        s'.dev.pw = s.dev.pw ∧ s.memSameBut (dataBase n + 0x3000) 4096 s') ∧
    (∀ (n : Fin 12) (t c : Nat) (s : State), s.dev.boot.idle = false → (s.dev.engine n).st = .off →
      s.dev.runRefusal n = some c →
      ∃ s', exec (.engineRun n t) s = .next s' ∧ s'.dev.eng = s.dev.eng ∧ s'.dev.flag (pENG n) CE.CTRL_RUN = false ∧
        s'.dev.flag (pENG n) CE.IRQ_RAW_START_REFUSED = true ∧ s'.dev.get (pENG n) CE.FAULT_CODE_CAUSE = c ∧
        s.memSame s') ∧
    (∀ (n : Fin 12) (t : Nat) (s : State), s.dev.boot.idle = false → (s.dev.engine n).st ≠ .off →
      (s.dev.engine n).st ≠ .role → s.dev.pw.halted = false →
      ∃ s', exec (.engineStop n t) s = .next s' ∧ (s'.dev.engine n).st = .off ∧ (s'.dev.engine n).tickAt = none ∧
        s'.dev.flag (pENG n) CE.CTRL_RUN = false ∧ s'.legsDark (s.dev.engLegs n) ∧
        s'.dev.triad = s.dev.triad ∧ s.memSame s') ∧
    (∀ (n : Fin 15) (t : Nat) (s : State),
      ∃ s', exec (.restart n t) s = .next s' ∧ (s'.dev.engine n).st = .restart ∧ (s'.dev.engine n).pc = 0 ∧
        (s'.dev.engine n).regs = Vector.replicate 32 0 ∧ (s'.dev.engine n).tickAt = none ∧
        s'.dev.get (pENG n) TE.RESTARTS = min 65535 (s.dev.get (pENG n) TE.RESTARTS + 1) ∧
        s'.dev.get (pENG n) TE.FAULT_CODE_CAUSE = 0xB ∧
        (n.val < 12 → (s'.dev.engine n).legsOff = true ∧ (s.dev.pw.halted = false → s'.legsDark (s.dev.engLegs n))) ∧
        s.memSameBut (dataBase n + 0x3000) 4096 s') ∧
    (∀ (n : Fin 15) (t : Nat) (s : State), (s.dev.engine n).st = .restart →
      ∃ s', exec (.restartDone n t) s = .next s' ∧
        (s'.dev.engine n).st = (if 12 ≤ n.val then .role else if s.dev.flag (pENG n) CE.CTRL_RUN then .wait else .off) ∧
        (s'.dev.engine n).first = true ∧ s'.dev.flag (pENG n) TE.IRQ_RAW_RESTARTED = true ∧
        (∀ j, j ≠ n.val → s'.dev.engine j = s.dev.engine j) ∧ s.memSame s') ∧
    (∀ (n : Fin 12) (t : Nat) (s : State), 64 ≤ s.dev.get (pENG n) CE.CLEAN_RUN →
      (s.dev.engine n).st = .wait ∨ (s.dev.engine n).st = .run →
      ∃ s', exec (.legResume n t) s = .next s' ∧ s'.dev.engine n = { s.dev.engine n with resumeDue := true } ∧
        s.regsBut [] s' ∧ s.memSame s') ∧
    (∀ (n : Fin 12) (t : Nat) (s : State), s.dev.get (pENG n) CE.CLEAN_RUN < 64 ∨
        (s.dev.engine n).st ≠ .wait ∧ (s.dev.engine n).st ≠ .run →
      ∃ s', exec (.legResume n t) s = .next s' ∧ s'.dev.eng = s.dev.eng ∧
        s'.dev.flag (pENG n) CE.IRQ_RAW_RESUME_REFUSED = true ∧ s'.dev.get (pENG n) CE.FAULT_CODE_CAUSE = 0xA ∧
        s.memSame s') ∧
    ∀ (n : Fin 12) (t : Nat) (s : State),
      ∃ s', exec (.ceCommit n t) s = .next s' ∧ s'.dev.engine n = { s.dev.engine n with mboxLatched := true } ∧
        s'.dev.flag (pENG n) CE.STATUS_COMMIT_PENDING = true ∧ s.regsBut [CE.STATUS_COMMIT_PENDING.addr (pENG n) 0] s' ∧
        s.memSame s'

/-- A housekeeping tick that is due, with the last run done, starts one and clears CONSEC; with it not done, an
overrun is counted and the run of clean ticks ends. HK_DONE ends the run. Three consecutive overruns set the overload
with level 1, 64 clean ticks clear it with level 0, and three more overruns raise the level by one, to 3 at most. At
level 3 no transmit buffer but a slot buffer is PENDING. A slot whose input hold, or that of the DC link, has expired,
and one with eight consecutive non-finite duties, fault their leg's group. [R148; R159; R275] -/
def Obligations.HousekeepingOverloadAndShedding : Prop :=
  (∀ (t : Nat) (s : State), s.dev.hkDue t = true → s.dev.mp.hkBusy = false →
      ∃ s', exec (.hkTick t) s = .next s' ∧ s'.dev.mp.hkBusy = true ∧ s'.dev.mp.hkAt = t ∧ s'.dev.get pMP MP.HK_STAT_CONSEC = 0 ∧
        s'.dev.get pMP MP.HK_STAT_OVERRUNS = s.dev.get pMP MP.HK_STAT_OVERRUNS ∧ s.memSame s') ∧
    (∀ (t : Nat) (s : State), s.dev.hkDue t = true → s.dev.mp.hkBusy = true →
      ∃ s', exec (.hkTick t) s = .next s' ∧ s'.dev.mp.hkBusy = true ∧ s'.dev.mp.cleanRun = 0 ∧
        s'.dev.get pMP MP.HK_STAT_OVERRUNS = min 65535 (s.dev.get pMP MP.HK_STAT_OVERRUNS + 1) ∧
        s'.dev.get pMP MP.HK_STAT_CONSEC = min 3 (s.dev.get pMP MP.HK_STAT_CONSEC + 1) ∧
        s'.dev.flag pMP MP.IRQ_RAW_OVERRUN = true ∧
        (2 ≤ s.dev.get pMP MP.HK_STAT_CONSEC → s'.dev.mp.overload = true) ∧ s.memSame s') ∧
    (∀ (t : Nat) (s : State),
      ∃ s', exec (.hkDone t) s = .next s' ∧ s'.dev.mp = { s.dev.mp with hkBusy := false } ∧ s.regsBut [] s' ∧
        s.memSame s') ∧
    (∀ (t : Nat) (s : State), s.dev.get pMP MP.HK_STAT_CONSEC = 3 → s.dev.mp.overload = false →
      ∃ s', exec (.mpOverloadSet t) s = .next s' ∧ s'.dev.mp.overload = true ∧ s'.dev.mp.shed = 1 ∧
        s'.dev.flag pMP MP.STATUS_MP_OVERLOAD = true ∧ s'.dev.flag pMP MP.IRQ_RAW_OVERLOAD_SET = true ∧
        s'.dev.get pFELT FELT.SHED_CNT = min 65535 (s.dev.get pFELT FELT.SHED_CNT + 1) ∧ s.memSame s') ∧
    (∀ (t : Nat) (s : State), s.dev.mp.overload = true → 64 ≤ s.dev.mp.cleanRun →
      ∃ s', exec (.mpOverloadClear t) s = .next s' ∧ s'.dev.mp.overload = false ∧ s'.dev.mp.shed = 0 ∧
        s'.dev.flag pMP MP.STATUS_MP_OVERLOAD = false ∧ s'.dev.flag pMP MP.IRQ_RAW_OVERLOAD_CLEAR = true ∧ s.memSame s') ∧
    (∀ (t : Nat) (s : State), s.dev.mp.overload = true → 3 ≤ s.dev.mp.shedRun → s.dev.mp.shed < 3 →
      ∃ s', exec (.shedLevelUp t) s = .next s' ∧ s'.dev.mp.shed = s.dev.mp.shed + 1 ∧
        s'.dev.get pFELT FELT.STATUS_SHED = s.dev.mp.shed + 1 ∧ s'.dev.flag pFELT FELT.IRQ_RAW_SHED_CHANGE = true ∧
        (s.dev.mp.shed = 2 → ∀ n < 64, s.dev.isSlot n = false → s'.dev.txCode n ≠ txPENDING) ∧ s.memSame s') ∧
    (∀ (n : Fin 12) (k : Fin 8) (p : List Word) (x : Nat × Nat) (g t : Nat) (s : State),
      (s.dev.engine n).vendorWork.params = some p → (s.dev.engSlots n).find? (fun y => decide (y.1 = k.val)) = some x →
      s.dev.groupOf x.2 = some g →
      (s.dev.inputExpired (s.dev.engine n).vendorWork.held ((p.getD 6 0).toNat % 64) ||
        s.dev.inputExpired (s.dev.engine n).vendorWork.held ((p.getD (16 + 2 * k.val) 0).toNat % 64)) = true →
      ∃ s', exec (.legHoldExpired n k t) s = .next s' ∧ (s'.dev.grp g).tripped = true ∧
        s'.dev.flag (pGRP g) GRP.IRQ_RAW_GFAULT = true ∧ s.memSame s') ∧
    ∀ (n : Fin 12) (k : Fin 8) (x : Nat × Nat) (g t : Nat) (s : State),
      (s.dev.engSlots n).find? (fun y => decide (y.1 = k.val)) = some x → s.dev.groupOf x.2 = some g →
      8 ≤ (s.dev.engine n).vendorWork.nonFinite.getD k.val 0 →
      ∃ s', exec (.legNonfiniteLimit n k t) s = .next s' ∧ (s'.dev.grp g).tripped = true ∧
        s'.dev.flag (pGRP g) GRP.IRQ_RAW_GFAULT = true ∧ s.memSame s'

/-- When engine n executes, its instruction lies in program code and no source awaits a Canvas read, each of the
integer, logic and floating instructions with one, two or three sources, in every operand form, completes: the program
counter has moved past it, its destination holds the operation's value on the values of its sources, FP_FLAGS holds
the operation's flags besides the old ones, every other register that is no source is as before, and so is everything
outside the engine. Where the spec leaves a result's form open (CMP, FCMP, a shift by 32 or more, the signedness of
MULH) the result is an open value of the operands (log entry 10). SINCOS writes the cosine, then where its
destinations differ the sine. An instruction a source of which awaits a read stalls: nothing changes. [R128; R136;
R139; R140] -/
def Obligations.ComputingInstructionsWriteOneRegister : Prop :=
  (∀ (n : Fin 15) (rd : Fin 32) (a b : Src) (s : State) (c : Instr) (f : Word → Word → FV),
      (c, f) ∈ [(Instr.add n rd a b, fun x y => .of (x + y)), (.sub n rd a b, fun x y => .of (x - y)),
        (.and n rd a b, fun x y => .of (x &&& y)), (.or n rd a b, fun x y => .of (x ||| y)),
        (.xor n rd a b, fun x y => .of (x ^^^ y)), (.mul n rd a b, fun x y => .of (x * y)),
        (.shl n rd a b, fun x y => .of (if y.toNat < 32 then x <<< y.toNat else Config.wideShift 0 x y)),
        (.shr n rd a b, fun x y => .of (if y.toNat < 32 then x >>> y.toNat else Config.wideShift 1 x y)),
        (.sar n rd a b, fun x y => .of (if y.toNat < 32 then x.sshiftRight y.toNat else Config.wideShift 2 x y)),
        (.mulh n rd a b, fun x y => .of (if Config.mulhSigned then BitVec.ofInt 32 (x.toInt * y.toInt / 2 ^ 32)
          else BitVec.ofNat 32 (x.toNat * y.toNat / 2 ^ 32))),
        (.cmp n rd a b, fun x y => .of (Config.cmpResult x y)),
        (.fcmp n rd a b, fun x y => .of (Config.fcmpResult (fcmpW x y).code)),
        (.fmin n rd a b, fun x y => .of (fminW x y)), (.fmax n rd a b, fun x y => .of (fmaxW x y)),
        (.fadd n rd a b, faddW), (.fsub n rd a b, fsubW), (.fmul n rd a b, fmulW), (.fdiv n rd a b, fdivW)] →
      s.fetches n [a, b] →
      ∃ s', exec c s = .next s' ∧ (let r := f ((s.vals n [a, b]).getD 0 0) ((s.vals n [a, b]).getD 1 0)
        (s'.dev.engine n).regs[rd] = r.w ∧
        bitsGet (s'.dev.reg (TE.FP_FLAGS_INVALID.addr (pENG n) 0)) 4 0 =
          (bitsGet (s.dev.reg (TE.FP_FLAGS_INVALID.addr (pENG n) 0)) 4 0 ||| r.fl.bits)) ∧
        (s'.dev.engine n).pc = (s.dev.engine n).pc + 4 * srcWords [a, b] ∧
        (∀ r, r ≠ rd → a ≠ .reg r → b ≠ .reg r → (s'.dev.engine n).regs[r] = (s.dev.engine n).regs[r]) ∧
        s.engineOnly n s' ∧ s.memSame s') ∧
    (∀ (n : Fin 15) (rd : Fin 32) (a : Src) (toInt : Bool) (s : State) (c : Instr) (f : Word → FV),
      (c, f) ∈ [(Instr.fabs n rd a, fun x => .of (fabsW x)), (.fneg n rd a, fun x => .of (fnegW x)),
        (.fsqrt n rd a, fsqrtW), (.fcvt n toInt rd a, fun x =>
          if toInt then ⟨BitVec.ofInt 32 (fToIntW x).1, (fToIntW x).2⟩ else fOfInt x.toInt)] →
      s.fetches n [a] →
      ∃ s', exec c s = .next s' ∧ (let r := f ((s.vals n [a]).getD 0 0)
        (s'.dev.engine n).regs[rd] = r.w ∧
        bitsGet (s'.dev.reg (TE.FP_FLAGS_INVALID.addr (pENG n) 0)) 4 0 =
          (bitsGet (s.dev.reg (TE.FP_FLAGS_INVALID.addr (pENG n) 0)) 4 0 ||| r.fl.bits)) ∧
        (s'.dev.engine n).pc = (s.dev.engine n).pc + 4 * srcWords [a] ∧
        (∀ r, r ≠ rd → a ≠ .reg r → (s'.dev.engine n).regs[r] = (s.dev.engine n).regs[r]) ∧
        s.engineOnly n s' ∧ s.memSame s') ∧
    (∀ (n : Fin 15) (rd : Fin 32) (a b x : Src) (s : State) (c : Instr) (f : Word → Word → Word → FV),
      (c, f) ∈ [(Instr.sel n rd a b x, fun i j k => .of (if i = 0 then k else j)), (.fma n rd a b x, ffmaW),
        (.fclamp n rd a b x, fun i j k => .of (fminW (fmaxW i j) k))] →
      s.fetches n [a, b, x] →
      ∃ s', exec c s = .next s' ∧ (let v := s.vals n [a, b, x]
        let r := f (v.getD 0 0) (v.getD 1 0) (v.getD 2 0)
        (s'.dev.engine n).regs[rd] = r.w ∧
        bitsGet (s'.dev.reg (TE.FP_FLAGS_INVALID.addr (pENG n) 0)) 4 0 =
          (bitsGet (s.dev.reg (TE.FP_FLAGS_INVALID.addr (pENG n) 0)) 4 0 ||| r.fl.bits)) ∧
        (s'.dev.engine n).pc = (s.dev.engine n).pc + 4 * srcWords [a, b, x] ∧
        (∀ r, r ≠ rd → a ≠ .reg r → b ≠ .reg r → x ≠ .reg r →
          (s'.dev.engine n).regs[r] = (s.dev.engine n).regs[r]) ∧
        s.engineOnly n s' ∧ s.memSame s') ∧
    (∀ (n : Fin 15) (rs rc : Fin 32) (a : Src) (s : State), s.fetches n [a] →
      ∃ s', exec (.sincos n rs rc a) s = .next s' ∧
        (s'.dev.engine n).regs[rc] = (fcos ((s.vals n [a]).getD 0 0)).w ∧
        (rs ≠ rc → (s'.dev.engine n).regs[rs] = (fsin ((s.vals n [a]).getD 0 0)).w) ∧
        bitsGet (s'.dev.reg (TE.FP_FLAGS_INVALID.addr (pENG n) 0)) 4 0 =
          (bitsGet (s.dev.reg (TE.FP_FLAGS_INVALID.addr (pENG n) 0)) 4 0 |||
            ((fsin ((s.vals n [a]).getD 0 0)).fl.union (fcos ((s.vals n [a]).getD 0 0)).fl).bits) ∧
        (∀ r, r ≠ rs → r ≠ rc → a ≠ .reg r → (s'.dev.engine n).regs[r] = (s.dev.engine n).regs[r]) ∧
        (s'.dev.engine n).pc = (s.dev.engine n).pc + 4 * srcWords [a] ∧ s.engineOnly n s' ∧ s.memSame s') ∧
    ∀ (n : Fin 15) (rd : Fin 32) (a b x : Src) (s : State) (c : Instr) (xs : List Src),
      (c, xs) ∈ [(Instr.add n rd a b, [a, b]), (.fadd n rd a b, [a, b]), (.fabs n rd a, [a]), (.fma n rd a b x, [a, b, x]),
        (.sincos n rd rd a, [a]), (.ld n false rd a, [a]), (.brz n a b, [a, b])] →
      (s.dev.engine n).pc % 4 = 0 → (s.dev.engine n).pc + 4 * srcWords xs ≤ 0x7800 → s.dev.srcAwaits n xs = true →
      ∃ s', exec c s = .next s' ∧ s'.dev.units = s.dev.units ∧ s.regsSame s' ∧ s.memSame s'

/-- A literal source has its value; a register source without an outstanding read has the register's word; one whose
read has arrived has the word of the bytes that arrived. Every arithmetic operation with a NaN operand gives the
canonical NaN and sets no flag; FCMP is then unordered. FMIN and FMAX of the two zeros give minus and plus zero, FCMP
calls them equal. A nonzero number over zero is the infinity of the sign product with DIV_ZERO. FCVT of a NaN gives 0
with CVT_SAT alone. Sine and cosine of a quarter turn are exact. [R128; R136; R139; R140] -/
def Obligations.OperandsNaNsZerosAndInfinities : Prop :=
  (∀ (n : Fin 15) (w : Word) (s : State), s.vals n [.lit w] = [w]) ∧
    (∀ (n : Fin 15) (r : Fin 32) (s : State), (∀ p ∈ (s.dev.engine n).pend, p.loads r = false) →
      s.vals n [.reg r] = [(s.dev.engine n).regs[r]]) ∧
    (∀ (n : Fin 15) (r : Fin 32) (len order : Nat) (bs : List Byte) (s : State),
      (s.dev.engine n).pend.filter (fun p => p.loads r) = [⟨.word r, len, order, some bs⟩] →
      s.vals n [.reg r] = [wordOf bs]) ∧
    (∀ a b : Word, isNaN a = true ∨ isNaN b = true →
      faddW a b = .of 0x7FC00000 ∧ fsubW a b = .of 0x7FC00000 ∧ fmulW a b = .of 0x7FC00000 ∧
      fdivW a b = .of 0x7FC00000 ∧ fminW a b = 0x7FC00000 ∧ fmaxW a b = 0x7FC00000 ∧ fcmpW a b = .unordered) ∧
    (∀ a b c : Word, isNaN a = true ∨ isNaN b = true ∨ isNaN c = true →
      ffmaW a b c = .of 0x7FC00000 ∧ fminW (fmaxW a b) c = 0x7FC00000) ∧
    (∀ a : Word, isNaN a = true → fsqrtW a = .of 0x7FC00000 ∧ fabsW a = 0x7FC00000 ∧ fnegW a = 0x7FC00000 ∧
      (fToIntW a).1 = 0 ∧ (fToIntW a).2 = FFlags.onlyCvtSat) ∧
    (fminW 0x80000000 0 = 0x80000000 ∧ fminW 0 0x80000000 = 0x80000000 ∧ fmaxW 0x80000000 0 = 0 ∧
      fmaxW 0 0x80000000 = 0 ∧ fcmpW 0x80000000 0 = .equal) ∧
    (∀ a b : Word, 0 < fExp a → fExp a < 255 → b = 0 ∨ b = 0x80000000 →
      fdivW a b = ⟨fInf (fSign a != fSign b), FFlags.onlyDivZero⟩) ∧
    (fsin 0).w = 0 ∧ (fsin 0x40000000).w = 0x3F800000 ∧ (fsin 0xC0000000).w = 0xBF800000 ∧ (fcos 0).w = 0x3F800000

/-- With no read outstanding: LD of data memory and of a program constant loads the four bytes as the engine sees
them. ST outside the descriptor stores its word, as the engine sees data memory, every other byte of it and all memory
outside the data window as before. CRD and CBR issue a read of a free tag of the engine's port and remember where its
bytes go; CWR and CBW to an address inside one Canvas bank issue a posted write of their bytes on such a tag; the
program counter moves past the instruction, memory and the registers stay. With both tags occupied each of the four
stalls: nothing changes. LWR to a listed leg is staged, to a leg that another running engine owns reported as foreign,
else nothing. [R127; R131; R136; R176; R255; R256] -/
def Obligations.MemoryInstructionsMoveBytes : Prop :=
  (∀ (n : Fin 15) (rd : Fin 32) (x : Src) (s : State), s.fetches n [x] → (s.dev.engine n).pend = [] →
      (let a := ((s.vals n [x]).getD 0 0).toNat
       (a + 4 ≤ 0x3800 → ∃ s', exec (.ld n false rd x) s = .next s' ∧
          (s'.dev.engine n).regs[rd] = wordOf ((List.range 4).map (fun j => (s.dev.begin 0).dataByte s.mem n (a + j))) ∧
          (∀ r, r ≠ rd → (s'.dev.engine n).regs[r] = (s.dev.engine n).regs[r]) ∧
          (s'.dev.engine n).pc = (s.dev.engine n).pc + 4 * srcWords [x] ∧ s.engineOnly n s' ∧ s.memSame s') ∧
       (a + 4 ≤ 0x8000 → ∃ s', exec (.ld n true rd x) s = .next s' ∧
          (s'.dev.engine n).regs[rd] = (s.dev.begin 0).word s.mem (progBase n + a) ∧
          (∀ r, r ≠ rd → (s'.dev.engine n).regs[r] = (s.dev.engine n).regs[r]) ∧
          (s'.dev.engine n).pc = (s.dev.engine n).pc + 4 * srcWords [x] ∧ s.engineOnly n s' ∧ s.memSame s'))) ∧
    (∀ (n : Fin 15) (x y : Src) (s : State), s.fetches n [x, y] → (s.dev.engine n).pend = [] →
      (let a := ((s.vals n [x, y]).getD 0 0).toNat
       0x20 ≤ a → a + 4 ≤ 0x3800 →
       ∃ s', exec (.st n false x y) s = .next s' ∧
        (∀ j < 4, s'.dev.dataByte s'.mem n (a + j) = (wordBytes ((s.vals n [x, y]).getD 1 0)).getD j 0) ∧
        (∀ b < 0x3800, b < a ∨ a + 4 ≤ b → s'.dev.dataByte s'.mem n b = (s.dev.begin 0).dataByte s.mem n b) ∧
        (s'.dev.engine n).regs = (s.dev.engine n).regs ∧
        (s'.dev.engine n).pc = (s.dev.engine n).pc + 4 * srcWords [x, y] ∧
        s.memSameBut (dataBase n) 0x4000 s' ∧ s.engineOnly n s')) ∧
    (∀ (n : Fin 15) (rd : Fin 32) (x : Src) (k : Nat) (s : State), s.fetches n [x] → (s.dev.engine n).pend = [] →
      s.dev.tagFor n = some k →
      (let a := ((s.vals n [x]).getD 0 0).toNat
       inCanvas a 4 = true →
       ∃ s', exec (.crd n rd x) s = .next s' ∧
        s'.dev.engine n = { s.dev.engine n with pc := (s.dev.engine n).pc + 4 * srcWords [x],
                                                pend := [⟨.word rd, 4, s.dev.felt.issued, none⟩] } ∧
        s.issues n k none a 4 s')) ∧
    (∀ (n : Fin 15) (x y : Src) (len : Fin 65) (k : Nat) (s : State), s.fetches n [x, y] → (s.dev.engine n).pend = [] →
      s.dev.tagFor n = some k → len.val ≠ 0 →
      (let p := ((s.vals n [x, y]).getD 0 0).toNat
       let a := ((s.vals n [x, y]).getD 1 0).toNat
       0x20 ≤ p → p + len ≤ 0x3800 → inCanvas a len = true →
       ∃ s', exec (.cbr n x y len) s = .next s' ∧
        s'.dev.engine n = { s.dev.engine n with pc := (s.dev.engine n).pc + 4 * srcWords [x, y],
                                                pend := [⟨.block p, len, s.dev.felt.issued, none⟩] } ∧
        s.issues n k none a len s')) ∧
    (∀ (n : Fin 15) (x y : Src) (k : Nat) (s : State), s.fetches n [x, y] → (s.dev.engine n).pend = [] →
      s.dev.tagFor n = some k →
      (let a := ((s.vals n [x, y]).getD 0 0).toNat
       inCanvas a 4 = true →
        ∃ s', exec (.cwr n x y) s = .next s' ∧
          s'.dev.engine n = { s.dev.engine n with pc := (s.dev.engine n).pc + 4 * srcWords [x, y] } ∧
          s.issues n k (some (wordBytes ((s.vals n [x, y]).getD 1 0))) a 4 s')) ∧
    (∀ (n : Fin 15) (x y : Src) (len : Fin 65) (k : Nat) (s : State), s.fetches n [x, y] → (s.dev.engine n).pend = [] →
      s.dev.tagFor n = some k → len.val ≠ 0 →
      (let a := ((s.vals n [x, y]).getD 0 0).toNat
       let p := ((s.vals n [x, y]).getD 1 0).toNat
       inCanvas a len = true → p + len ≤ 0x3800 →
       ∃ s', exec (.cbw n x y len) s = .next s' ∧
        s'.dev.engine n = { s.dev.engine n with pc := (s.dev.engine n).pc + 4 * srcWords [x, y] } ∧
        s.issues n k (some ((List.range len).map (fun j => (s.dev.begin 0).dataByte s.mem n (p + j)))) a len s')) ∧
    (∀ (n : Fin 15) (rd : Fin 32) (x y : Src) (len : Fin 65) (s : State) (c : Instr) (xs : List Src),
      (c, xs) ∈ [(Instr.crd n rd x, [x]), (.cbr n x y len, [x, y]), (.cwr n x y, [x, y]), (.cbw n x y len, [x, y])] →
      s.fetches n xs → (s.dev.engine n).pend = [] → s.dev.tagFor n = none → len.val ≠ 0 →
      (let v (k : Nat) : Nat := ((s.vals n xs).getD k 0).toNat
       (c = .crd n rd x ∨ c = .cwr n x y → inCanvas (v 0) 4 = true) →
       (c = .cbr n x y len → inCanvas (v 1) len = true ∧ 0x20 ≤ v 0 ∧ v 0 + len ≤ 0x3800) →
       (c = .cbw n x y len → inCanvas (v 0) len = true ∧ v 1 + len ≤ 0x3800) →
       ∃ s', exec c s = .next s' ∧ s'.dev.units = s.dev.units ∧ s.regsSame s' ∧ s.memSame s')) ∧
    ∀ (n : Fin 15) (x y : Fin 32) (s : State), s.fetches n [.reg x, .reg y] →
      (let w := (s.vals n [.reg x, .reg y]).getD 0 0
       let leg := w.toNat % 64
       ∃ s', exec (.lwr n x y) s = .next s' ∧ (s'.dev.engine n).pc = (s.dev.engine n).pc + 4 ∧
        ((s.dev.engLegs n).contains leg = true →
          (s'.dev.engine n).staged = (s.dev.engine n).staged ++
            [⟨leg, w.toNat / 256 % 4, (s.vals n [.reg x, .reg y]).getD 1 0⟩] ∧ s.engineOnly n s') ∧
        ((s.dev.engLegs n).contains leg = false → leg < 48 → (s.dev.legOwner leg).isSome = true →
          s'.dev.flag (pLEG leg) LEG.IRQ_RAW_FOREIGN_WRITE = true ∧ s'.dev.get (pLEG leg) LEG.FAULT_CODE_SOURCE = n ∧
          s'.dev.pw = s.dev.pw) ∧
        ((s.dev.engLegs n).contains leg = false → ¬(leg < 48 ∧ (s.dev.legOwner leg).isSome = true) → s.engineOnly n s') ∧
        s.memSame s')

/-- BR takes its target, BRZ and BRNZ take theirs exactly on zero and on a value other than zero, CALL pushes the
address after it on a return stack of at most 16, RET pops it. DONE of an engine whose writes are all acknowledged
records the arrival of the completion signal, no more than 2 ticks after the wait ended; with a write open it waits,
and one that failed for good is never acknowledged, so no completion is signalled. TICKSTAMP outside a triad position
reads the stamp; CPOLL reads an open word. Each of the following is an engine fault with its cause and the
instruction's address, after which an engine without AUTO_RESTART stands in FAULT: an instruction, data, constant or
Canvas address outside the map (2), a write to program memory or the descriptor (3), TICKSTAMP and CPOLL in a position
(4), CALL with 16 entries and RET with none (5). [R127; R128; R130; R136; R141; R154] -/
def Obligations.ControlInstructionsAndEngineFaults : Prop :=
  (∀ (n : Fin 15) (x y : Src) (s : State),
      (s.fetches n [x] → ∃ s', exec (.br n x) s = .next s' ∧
        (s'.dev.engine n).pc = ((s.vals n [x]).getD 0 0).toNat ∧ s.engineOnly n s' ∧ s.memSame s') ∧
      (s.fetches n [x, y] → ∃ s', exec (.brz n x y) s = .next s' ∧
        (s'.dev.engine n).pc = (if (s.vals n [x, y]).getD 0 0 = 0 then ((s.vals n [x, y]).getD 1 0).toNat
          else (s.dev.engine n).pc + 4 * srcWords [x, y]) ∧ s.engineOnly n s' ∧ s.memSame s') ∧
      (s.fetches n [x, y] → ∃ s', exec (.brnz n x y) s = .next s' ∧
        (s'.dev.engine n).pc = (if (s.vals n [x, y]).getD 0 0 = 0 then (s.dev.engine n).pc + 4 * srcWords [x, y]
          else ((s.vals n [x, y]).getD 1 0).toNat) ∧ s.engineOnly n s' ∧ s.memSame s') ∧
      (s.fetches n [x] → (s.dev.engine n).stack.length < 16 → ∃ s', exec (.call n x) s = .next s' ∧
        (s'.dev.engine n).pc = ((s.vals n [x]).getD 0 0).toNat ∧
        (s'.dev.engine n).stack = ((s.dev.engine n).pc + 4 * srcWords [x]) :: (s.dev.engine n).stack ∧
        s.engineOnly n s' ∧ s.memSame s') ∧
      (∀ r rs, s.fetches n [] → (s.dev.engine n).stack = r :: rs → ∃ s', exec (.ret n) s = .next s' ∧
        (s'.dev.engine n).pc = r ∧ (s'.dev.engine n).stack = rs ∧ s.engineOnly n s' ∧ s.memSame s')) ∧
    (∀ (n : Fin 15) (arr t : Nat) (s : State), s.fetches n [] → (∀ p ∈ (s.dev.engine n).pend, p.bytes = none) →
      s.dev.writesOpen n = false →
      ∃ s', exec (.done n arr t) s = .next s' ∧
        s'.dev.engine n = (if s.dev.felt.failed.contains n.val then
            { s.dev.engine n with pc := (s.dev.engine n).pc + 4, unacked := true }
          else { s.dev.engine n with pc := (s.dev.engine n).pc + 4, doneAt := some (min (max arr t) (t + 64)) }) ∧
        s.engineOnly n s' ∧ s.memSame s') ∧
    (∀ (n : Fin 15) (arr t : Nat) (s : State), s.fetches n [] → s.dev.writesOpen n = true →
      ∃ s', exec (.done n arr t) s = .next s' ∧ s'.dev.units = s.dev.units ∧ s.regsSame s' ∧ s.memSame s') ∧
    (∀ (n : Fin 15) (rd : Fin 32) (x : Src) (t : Nat) (s : State), s.dev.inPosition n = false →
      (s.fetches n [] → ∃ s', exec (.tickstamp n rd t) s = .next s' ∧
        (s'.dev.engine n).regs[rd] = (s.dev.begin t).stamp ∧ s.engineOnly n s' ∧ s.memSame s') ∧
      (s.fetches n [x] → inCanvas ((s.vals n [x]).getD 0 0).toNat 4 = true →
        ∃ s', exec (.cpoll n rd x t) s = .next s' ∧ (s'.dev.engine n).regs[rd] = Config.freeWord s.dev.free ∧
          s'.dev.free = s.dev.free + 1 ∧ s.engineOnly n s' ∧ s.memSame s')) ∧
    ∀ (n : Fin 15) (rd : Fin 32) (x y : Src) (t : Nat) (s : State),
      s.dev.flag (pENG n) TE.ENG_CFG_AUTO_RESTART = false →
      (∀ (c : Instr) (k : Nat),
        ((c, k) = (Instr.ld n false rd x, 2) ∧ s.fetches n [x] ∧ 0x3800 < ((s.vals n [x]).getD 0 0).toNat + 4) ∨
        ((c, k) = (Instr.st n false x y, 3) ∧ s.fetches n [x, y] ∧ ((s.vals n [x, y]).getD 0 0).toNat < 0x20) ∨
        ((c, k) = (Instr.st n true x y, 3) ∧ s.fetches n [x, y] ∧
          ((s.vals n [x, y]).getD 0 0).toNat + 4 ≤ 0x8000) ∨
        ((c, k) = (Instr.st n false x y, 2) ∧ s.fetches n [x, y] ∧
          0x3800 < ((s.vals n [x, y]).getD 0 0).toNat + 4) ∨
        ((c, k) = (Instr.ld n true rd x, 2) ∧ s.fetches n [x] ∧ 0x8000 < ((s.vals n [x]).getD 0 0).toNat + 4) ∨
        ((c, k) = (Instr.crd n rd x, 2) ∧ s.fetches n [x] ∧ inCanvas ((s.vals n [x]).getD 0 0).toNat 4 = false) ∨
        ((c, k) = (Instr.cwr n x y, 2) ∧ s.fetches n [x, y] ∧ inCanvas ((s.vals n [x, y]).getD 0 0).toNat 4 = false) ∨
        ((c, k) = (Instr.cbr n x y 4, 2) ∧ s.fetches n [x, y] ∧ inCanvas ((s.vals n [x, y]).getD 1 0).toNat 4 = false) ∨
        ((c, k) = (Instr.cbr n x y 4, 3) ∧ s.fetches n [x, y] ∧ inCanvas ((s.vals n [x, y]).getD 1 0).toNat 4 = true ∧
          ((s.vals n [x, y]).getD 0 0).toNat < 0x20) ∨
        ((c, k) = (Instr.cbw n x y 4, 2) ∧ s.fetches n [x, y] ∧ inCanvas ((s.vals n [x, y]).getD 0 0).toNat 4 = false) ∨
        ((c, k) = (Instr.br n x, 2) ∧ s.dev.executes n = true ∧
          ((s.dev.engine n).pc % 4 ≠ 0 ∨ 0x7800 < (s.dev.engine n).pc + 4 * srcWords [x])) ∨
        ((c, k) = (Instr.tickstamp n rd t, 4) ∧ s.fetches n [] ∧ s.dev.inPosition n = true) ∨
        ((c, k) = (Instr.cpoll n rd x t, 4) ∧ s.fetches n [x] ∧ s.dev.inPosition n = true) ∨
        ((c, k) = (Instr.call n x, 5) ∧ s.fetches n [x] ∧ 16 ≤ (s.dev.engine n).stack.length) ∨
        ((c, k) = (Instr.ret n, 5) ∧ s.fetches n [] ∧ (s.dev.engine n).stack = []) →
        ∃ s', exec c s = .next s' ∧ (s'.dev.engine n).st = .fault ∧ (s'.dev.engine n).tickAt = none ∧
          s'.dev.get (pENG n) TE.FAULT_CODE_CAUSE = k ∧ s'.dev.get (pENG n) TE.FAULT_CODE_ADDR = (s.dev.engine n).pc ∧
          s'.dev.flag (pENG n) TE.IRQ_RAW_ENGINE_FAULT = true ∧ (n.val < 12 → (s'.dev.engine n).legsOff = true) ∧
          s.memSame s')

/-- From every state in which each leg's switches are in order (never both on, a turn-on waiting only while the other
switch is off, the order of a refresh kept, both off while a release is awaited), every command of the leg modulators
and of leg protection, with whatever operands, that answers a state answers one in which they are in order again.
[R181; R187; R191; R202; R208; R212] -/
def Obligations.LegSwitchesNeverBothConduct : Prop :=
  ∀ (c : Instr) (s s' : State), commandOfLegs c = true → s.legsOrdered → exec c s = .next s' → s'.legsOrdered

/-- On a leg that no running engine lists: COMMIT latches the three shadows with its instant; a duty write sets the
DUTY shadow, and in auto mode latches; a duty-fraction write does so with the converted value, reports a clamp, and on
NaN reports NAN_DUTY and writes nothing. On a leg that a running engine lists each of the three is discarded and
reported with its port. A duty write with a reserved bit is undefined (R10). A fraction converts NaN to nothing, a
negative value to 0 and one above 1 to the whole period, both with a clamp, 1 to the whole period and 1/2 to the half
of an even one without. [R174; R175; R176; R177; R10] -/
def Obligations.LegSetsLatchByTheirOwner : Prop :=
  (∀ (n : Fin 48) (port : Fin 24) (t : Nat) (s : State), s.dev.legOwner n = none →
      ∃ s', exec (.legCommit n port t) s = .next s' ∧ s'.dev.leg n = { s.dev.leg n with
          latched := some ⟨s.dev.wordAt (pLEG n) LEG.PERIOD_INT 0, s.dev.wordAt (pLEG n) LEG.DUTY_INT 0,
            s.dev.wordAt (pLEG n) LEG.PHASE_INT 0, t⟩, staleNew := false, staleOld := false, pairStale := false } ∧
        (∀ m, m ≠ n.val → s'.dev.leg m = s.dev.leg m) ∧ s.regsBut [] s' ∧ s.memSame s') ∧
    (∀ (n : Fin 48) (port : Fin 24) (w : Word) (t : Nat) (s : State), s.dev.legOwner n = none → w.toNat < 2 ^ 21 →
      ∃ s', exec (.dutyWrite n port w t) s = .next s' ∧ s'.dev.wordAt (pLEG n) LEG.DUTY_INT 0 = w ∧
        (if s.dev.flag (pLEG n) LEG.CFG_COMMIT_MODE then
          (s'.dev.leg n).latched = some ⟨s.dev.wordAt (pLEG n) LEG.PERIOD_INT 0, w, s.dev.wordAt (pLEG n) LEG.PHASE_INT 0, t⟩
         else s'.dev.pw = s.dev.pw) ∧
        s.regsBut [LEG.DUTY_INT.addr (pLEG n) 0] s' ∧ s.memSame s') ∧
    (∀ (n : Fin 48) (port : Fin 24) (w : Word) (t v : Nat) (cl : Bool) (s : State), s.dev.legOwner n = none →
      fracDuty w (s.dev.fracPeriod n) = some (v, cl) →
      ∃ s', exec (.dutyFracWrite n port w t) s = .next s' ∧
        s'.dev.wordAt (pLEG n) LEG.DUTY_INT 0 = BitVec.ofNat 32 v ∧
        (cl = true → s'.dev.flag (pLEG n) LEG.IRQ_RAW_DUTY_CLAMP = true) ∧
        (s.dev.flag (pLEG n) LEG.CFG_COMMIT_MODE = false → s'.dev.pw = s.dev.pw) ∧
        s.regsBut [LEG.DUTY_INT.addr (pLEG n) 0, LEG.IRQ_RAW_DUTY_CLAMP.addr (pLEG n) 0] s' ∧ s.memSame s') ∧
    (∀ (n : Fin 48) (port : Fin 24) (w : Word) (t : Nat) (s : State), s.dev.legOwner n = none → isNaN w = true →
      ∃ s', exec (.dutyFracWrite n port w t) s = .next s' ∧ s'.dev.flag (pLEG n) LEG.IRQ_RAW_NAN_DUTY = true ∧
        s'.dev.get (pLEG n) LEG.FAULT_CODE_CAUSE = 2 ∧ s'.dev.pw = s.dev.pw ∧
        s.regsBut [LEG.IRQ_RAW_NAN_DUTY.addr (pLEG n) 0, LEG.FAULT_CODE_CAUSE.addr (pLEG n) 0] s' ∧ s.memSame s') ∧
    (∀ (n : Fin 48) (port : Fin 24) (w : Word) (t e : Nat) (c : Instr) (s : State), s.dev.legOwner n = some e →
      w.toNat < 2 ^ 21 → c ∈ [Instr.legCommit n port t, .dutyWrite n port w t, .dutyFracWrite n port w t] →
      ∃ s', exec c s = .next s' ∧ s'.dev.pw = s.dev.pw ∧ s'.dev.flag (pLEG n) LEG.IRQ_RAW_FOREIGN_WRITE = true ∧
        s'.dev.get (pLEG n) LEG.CNT_FOREIGN = min 65535 (s.dev.get (pLEG n) LEG.CNT_FOREIGN + 1) ∧
        s'.dev.get (pLEG n) LEG.FAULT_CODE_CAUSE = 3 ∧ s'.dev.get (pLEG n) LEG.FAULT_CODE_SOURCE = port ∧
        s'.dev.wordAt (pLEG n) LEG.DUTY_INT 0 = s.dev.wordAt (pLEG n) LEG.DUTY_INT 0 ∧ s.memSame s') ∧
    (∀ (n : Fin 48) (port : Fin 24) (w : Word) (t : Nat) (s : State), 2 ^ 21 ≤ w.toNat →
      exec (.dutyWrite n port w t) s = .fault .reservedBit) ∧
    (∀ (w : Word) (per : Nat), (isNaN w = true → fracDuty w per = none) ∧
      (isNaN w = false → fSign w = true → w ≠ 0x80000000 → fracDuty w per = some (0, true)) ∧
      (isNaN w = false → fSign w = false → 0x3F800000 < w.toNat → fracDuty w per = some (per, true))) ∧
    ∀ per : Nat, fracDuty 0x3F800000 per = some (per, false) ∧ fracDuty 0 per = some (0, false) ∧
      fracDuty 0x80000000 per = some (0, false) ∧ fracDuty 0x3F000000 (2 * per) = some (per, false)

/-- At the next period start of a leg outside debug halt whose boundaries are its period starts, a set latched at
least 100 ns before applies: the three active words take it, COMMIT_DONE is set and no set is latched; a set latched
later stays latched with the active words as before. The period start closes the effective duty, which is the
high-side on-time of the period. At the peak of a centre-aligned leg with a peak boundary a set that moves neither
period nor phase applies with the same lead. [R172; R174; R190] -/
def Obligations.UpdateBoundariesApplyLatchedSets : Prop :=
  (∀ (n : Fin 48) (t : Nat) (x : LegSet) (s : State), s.dev.pw.halted = false →
      (s.dev.legCfg n).startBoundary = true → (s.dev.leg n).latched = some x →
      (s.dev.leg n).start + (s.dev.leg n).len ≤ t → t < (s.dev.leg n).start + (s.dev.leg n).len + (s.dev.leg n).per →
      (let b := (s.dev.leg n).start + (s.dev.leg n).len
       let w (o : Nat) : Nat := pLEG n * 0x1000 + 0x800 + o
       ∃ s', exec (.updateBoundary n t) s = .next s' ∧ (s'.dev.leg n).start = b ∧
        (x.at' + leadTaps ≤ b → s'.dev.reg (w 0x40) = x.period ∧ s'.dev.reg (w 0x44) = x.duty ∧
          s'.dev.reg (w 0x48) = x.phase ∧ (s'.dev.leg n).latched = none ∧
          s'.dev.flag (pLEG n) LEG.IRQ_RAW_COMMIT_DONE = true) ∧
        (b < x.at' + leadTaps → s'.dev.reg (w 0x40) = s.dev.reg (w 0x40) ∧ s'.dev.reg (w 0x44) = s.dev.reg (w 0x44) ∧
          s'.dev.reg (w 0x48) = s.dev.reg (w 0x48) ∧ (s'.dev.leg n).latched = some x) ∧
        s'.dev.reg (pLEG n * 0x1000 + 0x60) = BitVec.ofNat 32 (((s.dev.leg n).hsAcc +
          (if (s.dev.leg n).hs then b - (s.dev.leg n).hsMark else 0)) % 2 ^ 24) ∧
        (s'.dev.leg n).hs = (s.dev.leg n).hs ∧ (s'.dev.leg n).ls = (s.dev.leg n).ls ∧
        (∀ m, m ≠ n.val → s'.dev.leg m = s.dev.leg m) ∧ s'.dev.triad = s.dev.triad ∧ s.memSame s')) ∧
    ∀ (n : Fin 48) (t : Nat) (x : LegSet) (s : State), s.dev.pw.halted = false →
      s.dev.flag (pLEG n) LEG.CFG_CMODE = true → s.dev.get (pLEG n) LEG.CFG_UPD ∈ [1, 2] →
      (s.dev.leg n).latched = some x → t < (s.dev.leg n).start + (s.dev.leg n).len → (s.dev.leg n).peakDone = false →
      (s.dev.leg n).peak (s.dev.unitOf n) ≤ t → x.at' + leadTaps ≤ (s.dev.leg n).peak (s.dev.unitOf n) →
      s.dev.setMoves n x = false →
      ∃ s', exec (.updateBoundary n t) s = .next s' ∧ s'.dev.reg (pLEG n * 0x1000 + 0x844) = x.duty ∧
        (s'.dev.leg n).latched = none ∧ (s'.dev.leg n).peakDone = true ∧
        s'.dev.flag (pLEG n) LEG.IRQ_RAW_COMMIT_DONE = true ∧ (s'.dev.leg n).per = (s.dev.leg n).per ∧
        (s'.dev.leg n).hs = (s.dev.leg n).hs ∧ (s'.dev.leg n).ls = (s.dev.leg n).ls ∧
        (∀ m, m ≠ n.val → s'.dev.leg m = s.dev.leg m) ∧ s.memSame s'

/-- A due edge of a released leg outside debug halt and refresh whose pulse is no shorter than MIN_PULSE turns the
other switch off and schedules its own after the dead time; a shorter pulse is dropped, counted, and neither switch
changes. A due turn-on, whose instant rounds up to the edge resolution, happens while the opposite feedback is
inactive, its blanking window opening 16 ticks later, and otherwise waits and is counted. A due refresh turns the high
side off and schedules the low side; the end of its pulse turns the low side off. Without refresh a high side on for
the interval trips the leg with cause 0x16. Other legs and memory are as before in each but the trip. [R181; R182;
R187; R189; R202] -/
def Obligations.EdgesDeadTimeAndRefresh : Prop :=
  (∀ (n : Fin 48) (up : Bool) (e t : Nat) (rest : List (Nat × Bool)) (s : State), s.dev.pw.halted = false →
      (s.dev.leg n).edges = (e, up) :: rest → e ≤ t → (s.dev.leg n).live = true → (s.dev.leg n).refresh = none →
      (s.dev.leg n).dropping = false → (if up then (s.dev.leg n).hs else (s.dev.leg n).ls) = false →
      (let c := s.dev.legCfg n
       let on := e + if up then c.dtLH else c.dtHL
       let short := (s.dev.setLeg n { s.dev.leg n with s := up, edges := rest }).shortPulse n up on rest
       ∃ s', exec (if up then .switchRise n t else .switchFall n t) s = .next s' ∧ (s'.dev.leg n).s = up ∧
        (s'.dev.leg n).edges = rest ∧
        (short = false → (if up then (s'.dev.leg n).ls else (s'.dev.leg n).hs) = false ∧
          (if up then (s'.dev.leg n).hs else (s'.dev.leg n).ls) = false ∧
          (s'.dev.leg n).turnOn.any (fun x => x.high == up) = true ∧
          ((s.dev.leg n).turnOn = none → (s'.dev.leg n).turnOn = some ⟨up, on, false⟩)) ∧
        (short = true → (s'.dev.leg n).hs = (s.dev.leg n).hs ∧ (s'.dev.leg n).ls = (s.dev.leg n).ls ∧
          (s'.dev.leg n).turnOn = (s.dev.leg n).turnOn ∧ (s'.dev.leg n).dropping = true ∧
          s'.dev.get (pLEG n) LEG.CNT_DROPS = min 65535 (s.dev.get (pLEG n) LEG.CNT_DROPS + 1)) ∧
        (∀ m, m ≠ n.val → s'.dev.leg m = s.dev.leg m) ∧ s.memSame s')) ∧
    (∀ (n : Fin 48) (t : Nat) (x : TurnOn) (s : State), s.dev.pw.halted = false → (s.dev.leg n).turnOn = some x →
      ceilTo (s.dev.legCfg n).res x.due ≤ t →
      (let high := if (s.dev.leg n).refresh = some .after then (s.dev.leg n).s else x.high
       let on := if x.waiting then s.dev.nextTick t else ceilTo (s.dev.legCfg n).res x.due
       ∃ s', exec (.deadTimeEnd n t) s = .next s' ∧
        ((if high then (s.dev.leg n).gsLs else (s.dev.leg n).gsHs) = false →
          (if high then (s'.dev.leg n).hs else (s'.dev.leg n).ls) = true ∧ (s'.dev.leg n).turnOn = none ∧
          (if high then (s'.dev.leg n).ls = (s.dev.leg n).ls else (s'.dev.leg n).hs = (s.dev.leg n).hs) ∧
          (s'.dev.leg n).blanks = (s.dev.leg n).blanks ++ [(on + 512, on + 512 + (s.dev.legCfg n).blank)] ∧
          ((s.dev.leg n).refresh = some .before → (s'.dev.leg n).refresh = some (.pulse (on + (s.dev.legCfg n).width))) ∧
          ((s.dev.leg n).refresh = some .after → (s'.dev.leg n).refresh = none)) ∧
        ((if high then (s.dev.leg n).gsLs else (s.dev.leg n).gsHs) = true →
          (s'.dev.leg n).hs = (s.dev.leg n).hs ∧ (s'.dev.leg n).ls = (s.dev.leg n).ls ∧
          (s'.dev.leg n).turnOn = some { x with waiting := true } ∧
          s'.dev.get (pLEG n) LEG.IL_DELAYS = (if x.waiting then s.dev.get (pLEG n) LEG.IL_DELAYS
            else min 65535 (s.dev.get (pLEG n) LEG.IL_DELAYS + 1))) ∧
        (∀ m, m ≠ n.val → s'.dev.leg m = s.dev.leg m) ∧ s.memSame s')) ∧
    (∀ (n : Fin 48) (t r : Nat) (s : State), s.dev.pw.halted = false → s.dev.flag (pLEG n) LEG.CFG_REFRESH_EN = true →
      (s.dev.leg n).live = true → (s.dev.leg n).refresh = none → s.dev.refreshDue n = some r → r ≤ t →
      ∃ s', exec (.refresh n t) s = .next s' ∧ (s'.dev.leg n).hs = false ∧ (s'.dev.leg n).ls = (s.dev.leg n).ls ∧
        (s'.dev.leg n).refresh = some .before ∧ s'.dev.flag (pLEG n) LEG.IRQ_RAW_REFRESH = true ∧
        ((s.dev.leg n).ls = false →
          (s'.dev.leg n).turnOn = some ⟨false, r + (s.dev.legCfg n).dtHL, false⟩) ∧
        (∀ m, m ≠ n.val → s'.dev.leg m = s.dev.leg m) ∧ s.memSame s') ∧
    (∀ (n : Fin 48) (t f : Nat) (s : State), s.dev.pw.halted = false → (s.dev.leg n).refresh = some (.pulse f) →
      floorTo (s.dev.legCfg n).res f ≤ t →
      ∃ s', exec (.refreshPulseEnd n t) s = .next s' ∧ (s'.dev.leg n).ls = false ∧
        (s'.dev.leg n).hs = (s.dev.leg n).hs ∧ (s'.dev.leg n).refresh = some .after ∧
        (s'.dev.leg n).turnOn = some ⟨(s.dev.leg n).s, f + (s.dev.legCfg n).dtLH, false⟩ ∧
        s.regsBut [] s' ∧ (∀ m, m ≠ n.val → s'.dev.leg m = s.dev.leg m) ∧ s.memSame s') ∧
    ∀ (n : Fin 48) (t r : Nat) (s : State), s.dev.pw.halted = false → s.dev.flag (pLEG n) LEG.CFG_REFRESH_EN = false →
      s.dev.refreshDue n = some r → r ≤ t →
      ∃ s', exec (.bootUvFullDuty n t) s = .next s' ∧ (s'.dev.tripOf n).set = true ∧ (s'.dev.tripOf n).bootUv = true ∧
        (s'.dev.leg n).hs = false ∧ (s'.dev.leg n).ls = false ∧
        s'.dev.flag (pLEG n) LEG.IRQ_RAW_BOOT_UV = true ∧ s'.dev.triad = s.dev.triad ∧ s.memSame s'

/-- FORCE_OFF sets the code 0b01 and LEG_DISABLE clears EN, and the leg's switches are off and it is not released, in
debug halt as well. FORCE_LOW of a leg that nothing else holds, outside debug halt, turns its high side off, and its
low side is on or scheduled unless the loss of a phase has tripped the device. FORCE_RELEASE sets the code 0b00 and
LEG_ENABLE sets EN; no switch of any leg that was off is on afterwards. INVERT takes its value and leaves the
switches, to act at a period start. The sequencer and memory are as before. [R183; R184; R191; R495] -/
def Obligations.OverridesEnableAndInvert : Prop :=
  (∀ (n : Fin 48) (t : Nat) (s : State),
      ∃ s', exec (.forceOff n t) s = .next s' ∧ s'.dev.get (pLEG n) LEG.CTRL_FORCE = 1 ∧ s'.legsDark [n.val] ∧
        s'.dev.triad = s.dev.triad ∧ s.memSame s') ∧
    (∀ (n : Fin 48) (t : Nat) (s : State),
      ∃ s', exec (.legDisable n t) s = .next s' ∧ s'.dev.flag (pLEG n) LEG.CTRL_EN = false ∧ s'.legsDark [n.val] ∧
        s'.dev.triad = s.dev.triad ∧ s.memSame s') ∧
    (∀ (n : Fin 48) (t : Nat) (s : State), s.dev.legTripped n = false → s.dev.flag (pLEG n) LEG.CTRL_EN = true →
      s.dev.allForced = false → s.dev.seqHeld n = false → s.dev.engHeld n = false → s.dev.pw.halted = false →
      ∃ s', exec (.forceLow n t) s = .next s' ∧ s'.dev.get (pLEG n) LEG.CTRL_FORCE = 2 ∧ (s'.dev.leg n).hs = false ∧
        (s'.dev.pw.dev.tripped = false →
          (s'.dev.leg n).ls = true ∨ (s'.dev.leg n).turnOn.any (fun x => !x.high) = true) ∧
        (s'.dev.leg n).live = false ∧ s.memSame s') ∧
    (∀ (n : Fin 48) (t : Nat) (s : State),
      ∃ s', exec (.forceRelease n t) s = .next s' ∧ s'.dev.get (pLEG n) LEG.CTRL_FORCE = 0 ∧
        (∀ m < 48, ((s'.dev.leg m).hs = true → (s.dev.leg m).hs = true) ∧
          ((s'.dev.leg m).ls = true → (s.dev.leg m).ls = true)) ∧ s'.dev.triad = s.dev.triad ∧ s.memSame s') ∧
    (∀ (n : Fin 48) (t : Nat) (s : State),
      ∃ s', exec (.legEnable n t) s = .next s' ∧ s'.dev.flag (pLEG n) LEG.CTRL_EN = true ∧
        (∀ m < 48, ((s'.dev.leg m).hs = true → (s.dev.leg m).hs = true) ∧
          ((s'.dev.leg m).ls = true → (s.dev.leg m).ls = true)) ∧ s'.dev.triad = s.dev.triad ∧ s.memSame s') ∧
    ∀ (n : Fin 48) (on : Bool) (t : Nat) (s : State),
      ∃ s', exec (.legInvert n on t) s = .next s' ∧ s'.dev.flag (pLEG n) LEG.CTRL_INVERT = on ∧
        s'.dev.leg n = (if s.dev.flag (pLEG n) LEG.CTRL_INVERT = on then s.dev.leg n
          else { s.dev.leg n with invertAt := t }) ∧
        (∀ m, m ≠ n.val → s'.dev.leg m = s.dev.leg m) ∧ s.regsBut [LEG.CTRL_INVERT.addr (pLEG n) 0] s' ∧ s.memSame s'

/-- An ASSIGN write on an open page with no reason to refuse sets the word, a refused one reports cause and leg and
leaves it, one on a closed page changes nothing, and a reserved bit is undefined (R10). GROUP_COMMIT latches period
and base phase, which become active when every counted leg has taken them, or 100 ns after the latch where no leg was
counted then or is any more. CAL makes the taps invalid and busy unless busy, CAL_DONE ends it with taps valid outside
bypass, or with its fault and none. A permitted halt stops the engines, shows HALTED and, with the stall monitor armed
before, leaves every leg; without DBG_EN it is refused with cause 0x3. Leaving it turns every leg off, cuts the
samples and returns the engines. [R168; R178; R179; R160; R192; R194; R432; R10] -/
def Obligations.GroupsCalibrationAndDebugHalt : Prop :=
  (∀ (g : Fin 4) (half : Fin 2) (w : Word) (t : Nat) (s : State), half.val = 0 ∨ w.toNat < 65536 →
      ∃ s', exec (.assignWrite g half w t) s = .next s' ∧
        (s.dev.lockOpen (pGRP g) = false → s.regsBut [] s' ∧ s'.dev.units = s.dev.units) ∧
        (s.dev.lockOpen (pGRP g) = true → s.dev.assignRefusal g half w = none →
          s'.dev.reg (pGRP g * 0x1000 + 0x40 + 4 * half) = w) ∧
        (∀ c k, s.dev.lockOpen (pGRP g) = true → s.dev.assignRefusal g half w = some (c, k) → k < 48 →
          s'.dev.flag (pGRP g) GRP.IRQ_RAW_ASSIGN_REFUSED = true ∧ s'.dev.get (pGRP g) GRP.FAULT_CODE_LEG = k ∧
          s'.dev.reg (pGRP g * 0x1000 + 0x40 + 4 * half) = s.dev.reg (pGRP g * 0x1000 + 0x40 + 4 * half) ∧
          s'.dev.units = s.dev.units) ∧ s'.dev.triad = s.dev.triad ∧ s.memSame s') ∧
    (∀ (g : Fin 4) (w : Word) (t : Nat) (s : State), 65536 ≤ w.toNat →
      exec (.assignWrite g 1 w t) s = .fault .reservedBit) ∧
    (∀ (g : Fin 4) (t : Nat) (s : State),
      ∃ s', exec (.groupCommit g t) s = .next s' ∧
        (s'.dev.grp g).latched = some (s.dev.wordAt (pGRP g) GRP.GPERIOD_INT 0, s.dev.wordAt (pGRP g) GRP.BASE_PHASE_INT 0, t) ∧
        (s'.dev.grp g).taken = [] ∧ (s'.dev.grp g).alone = (s.dev.counted g).isEmpty ∧ s'.dev.pw.legs = s.dev.pw.legs ∧
        s.regsBut [] s' ∧ s.memSame s') ∧
    (∀ (g : Fin 4) (t a : Nat) (x y : Word) (s : State), (s.dev.grp g).latched = some (x, y, a) →
      (if (s.dev.grp g).alone = true ∨ s.dev.counted g = [] then a + leadTaps ≤ t
       else ∀ n ∈ s.dev.counted g, n ∈ (s.dev.grp g).taken) →
      ∃ s', exec (.groupSetActive g t) s = .next s' ∧ s'.dev.reg (pGRP g * 0x1000 + 0x84C) = x ∧
        s'.dev.reg (pGRP g * 0x1000 + 0x850) = y ∧ (s'.dev.grp g).latched = none ∧
        s'.dev.flag (pGRP g) GRP.IRQ_RAW_COMMIT_DONE = true ∧ s'.dev.pw.legs = s.dev.pw.legs ∧ s.memSame s') ∧
    (∀ (t : Nat) (s : State), s.dev.pw.calBusy = false →
      ∃ s', exec (.cal t) s = .next s' ∧ s'.dev.pw = { s.dev.pw with calBusy := true, tapsValid := false } ∧
        s.regsBut [] s' ∧ s.memSame s') ∧
    (∀ (t : Nat) (s : State), s.dev.pw.calBusy = true →
      ∃ s', exec (.cal t) s = .next s' ∧ s'.dev.units = s.dev.units ∧ s.regsBut [] s' ∧ s.memSame s') ∧
    (∀ (us : Fin 401) (code : Fin 64) (err : Option (Fin 3 × Fin 128)) (t : Nat) (s : State), s.dev.pw.calBusy = true →
      ∃ s', exec (.calDone us code err t) s = .next s' ∧ s'.dev.pw.calBusy = false ∧
        s'.dev.get pPWMTB PWMTB.CAL_TIME_US = us ∧ s'.dev.get pPWMTB PWMTB.CAL_CODE_REF_CODE = code ∧
        (err = none → s'.dev.pw.tapsValid = !s.dev.boot.bypass ∧ s'.dev.flag pPWMTB PWMTB.IRQ_RAW_CAL_DONE = true) ∧
        (∀ c l, err = some (c, l) → c.val ≠ 0 → s'.dev.pw.tapsValid = false ∧
          s'.dev.flag pPWMTB PWMTB.IRQ_RAW_CAL_ERR = true ∧ s'.dev.get pPWMTB PWMTB.FAULT_CODE_CAUSE = c) ∧
        s'.dev.pw.legs = s.dev.pw.legs ∧ s.memSame s') ∧
    (∀ (t : Nat) (s : State), s.dev.flag pSYS SYS.DBG_CTRL_DBG_EN = true → s.dev.pw.halted = false →
      ∃ s', exec (.dbgCtrlHalt t) s = .next s' ∧ s'.dev.pw.halted = true ∧ s'.dev.flag pSYS SYS.STATUS_HALTED = true ∧
        (s.dev.mayRun = s.dev.safe.runPermit → s.dev.safe.armed.isSome = true → s'.dev.pw.legs = s.dev.pw.legs) ∧
        (∀ n < 15, (s'.dev.engine n).st = (if s.dev.engCode n = 0 then .off else .halted) ∧
          (s'.dev.engine n).stHeld = (s.dev.engine n).st) ∧ s'.dev.triad = s.dev.triad ∧ s.memSame s') ∧
    (∀ (t : Nat) (s : State), s.dev.flag pSYS SYS.DBG_CTRL_DBG_EN = false →
      ∃ s', exec (.dbgCtrlHalt t) s = .next s' ∧ s'.dev.units = s.dev.units ∧ s'.dev.flag pSYS SYS.IRQ_RAW_REFUSED = true ∧
        s'.dev.get pSYS SYS.FAULT_CODE_CAUSE = 3 ∧ s.memSame s') ∧
    ∀ (t : Nat) (s : State), s.dev.pw.halted = true →
      ∃ s', exec (.dbgCtrlResume t) s = .next s' ∧ s'.dev.pw.halted = false ∧ s'.dev.flag pSYS SYS.STATUS_HALTED = false ∧
        (∀ n < 48, (s'.dev.leg n).hs = false ∧ (s'.dev.leg n).live = false) ∧
        (∀ n < 15, (s'.dev.engine n).tickAt = none ∧ (s'.dev.engine n).st = (if (s.dev.engine n).st = .halted then
          (if (s.dev.engine n).stHeld = .run then .wait else (s.dev.engine n).stHeld) else (s.dev.engine n).st)) ∧
        s.memSame s'

/-- In every state of a leg, blanked, in dead time, off or on, V_shunt beyond a threshold of SC_HI by its tolerance or
more while SC_HI was inactive trips the leg with cause 0x12 at once: the latch is set with a source of that cause,
both switches are off, and where the latch was clear the cause is recorded and the trip counted. If both feedbacks
read on, the second once its filter has accepted it, the leg trips in the same way with cause 0x14. [R209; R205] -/
def Obligations.ScHiTripsWhateverTheLegsState : Prop :=
  (∀ (n : Fin 48) (pos : Bool) (v : Int) (t : Nat) (s : State), (s.dev.leg n).scHi = false →
      s.dev.scTol n true pos ≤ s.dev.scDepth n true pos false v →
      ∃ s', exec (.scHiActive n v t) s = .next s' ∧ s.tripped n 0x12 s' ∧
        (if pos then (s'.dev.leg n).scHiPos else (s'.dev.leg n).scHiNeg) = true) ∧
    ∀ (n : Fin 48) (hsPin : Bool) (since t : Nat) (s : State),
      s.dev.nextTick since + s.dev.wait (tickTaps (s.dev.get (pLEG n) LEG.GS_CFG_GS_FILT)) ≤ t →
      (if hsPin != (s.dev.legCfg n).pinSwap then (s.dev.leg n).gsLs else (s.dev.leg n).gsHs) = true →
      ∃ s', exec (.gsLevelAccepted n hsPin true since t) s = .next s' ∧ s.tripped n 0x14 s'

/-- A software trip (0x1A), a feedback still active at its off deadline (0x13), one absent at its on deadline (0x17
high side, 0x15 low side), SC_LO active at the end of blanking (0x10), and V_shunt beyond a threshold of SC_LO that
was inactive, by its tolerance or more, outside blanking without layer 1 (0x11) each complete with the leg's latch
set, its switches off and, where the latch was clear, that cause. [R203; R204; R208; R213; R228] -/
def Obligations.FaultSourcesTripTheLeg : Prop :=
  (∀ (n : Fin 48) (t : Nat) (s : State), ∃ s', exec (.trip n t) s = .next s' ∧ s.tripped n 0x1A s') ∧
    (∀ (n : Fin 48) (high : Bool) (t b : Nat) (s : State),
      (if high then (s.dev.leg n).hsOffBy else (s.dev.leg n).lsOffBy) = some b → b ≤ t →
      (if high then (s.dev.leg n).gsHs else (s.dev.leg n).gsLs) = true →
      ∃ s', exec (.gsOffDeadline n high t) s = .next s' ∧ s.tripped n 0x13 s') ∧
    (∀ (n : Fin 48) (t b : Nat) (s : State), (s.dev.leg n).hs = true → (s.dev.leg n).gsHs = false →
      (s.dev.leg n).hsOnBy = some b → b ≤ t →
      ∃ s', exec (.gsOnDeadline n true t) s = .next s' ∧ s.tripped n 0x17 s') ∧
    (∀ (n : Fin 48) (t b : Nat) (s : State), (s.dev.leg n).ls = true → (s.dev.leg n).gsLs = false →
      (s.dev.leg n).lsOnBy = some b → b ≤ t →
      ∃ s', exec (.gsOnDeadline n false t) s = .next s' ∧ s.tripped n 0x15 s') ∧
    (∀ (n : Fin 48) (t : Nat) (w : Nat × Nat) (ws : List (Nat × Nat)) (s : State),
      liveBlanks s.dev.tickRes (s.dev.leg n).blanks = w :: ws → ceilTo s.dev.tickRes w.2 ≤ t →
      (s.dev.leg n).scLo = true →
      ∃ s', exec (.blankingEnd n t) s = .next s' ∧ s.tripped n 0x10 s') ∧
    ∀ (n : Fin 48) (pos : Bool) (v : Int) (t : Nat) (s : State), s.dev.blanked n t = false → (s.dev.legCfg n).cbc = false →
      (if pos then (s.dev.leg n).scLoPos else (s.dev.leg n).scLoNeg) = false →
      s.dev.scTol n false pos ≤ s.dev.scDepth n false pos false v →
      ∃ s', exec (.scLoActive n v t) s = .next s' ∧ s.tripped n 0x11 s'

/-- With layer 1 enabled, an SC_LO of the positive threshold outside blanking with the high side on turns the high
side off, schedules the low side after its dead time, reports CBC, and sets no latch; one of the negative threshold
with the low side on, not forced on, does the same with the switches exchanged. V_shunt that has fallen back from a
threshold by its hysteresis and tolerance releases that output and activates none, and an SC_LO inside a blanking
window only changes the recorded levels; no switch and no register changes. A blanking window that ends with SC_LO
inactive only ends. A level of a gate-state pin that its filter has accepted is recorded for its switch, exchanged
under PIN_SWAP, and the other level stays; one not yet accepted changes nothing. [R185; R201; R206; R207; R208] -/
def Obligations.LevelsThatDoNotTrip : Prop :=
  (∀ (n : Fin 48) (v : Int) (t : Nat) (s : State), s.dev.blanked n t = false → (s.dev.legCfg n).cbc = true →
      (s.dev.leg n).hs = true → (s.dev.leg n).ls = false → (s.dev.leg n).scLoPos = false →
      s.dev.scTol n false true ≤ s.dev.scDepth n false true false v →
      ∃ s', exec (.scLoActive n v t) s = .next s' ∧ (s'.dev.leg n).hs = false ∧ (s'.dev.leg n).ls = false ∧
        (s'.dev.leg n).turnOn.any (fun x => !x.high) = true ∧ (s'.dev.leg n).cbcPeriod = true ∧
        s'.dev.flag (pLEG n) LEG.IRQ_RAW_CBC = true ∧ (s'.dev.tripOf n).set = (s.dev.tripOf n).set ∧
        (∀ m, m ≠ n.val → s'.dev.leg m = s.dev.leg m) ∧ s'.dev.triad = s.dev.triad ∧ s.memSame s') ∧
    (∀ (n : Fin 48) (v : Int) (t : Nat) (s : State), s.dev.blanked n t = false → (s.dev.legCfg n).cbc = true →
      (s.dev.leg n).ls = true → (s.dev.leg n).hs = false → (s.dev.leg n).scLoNeg = false → s.dev.forcedLow n = false →
      s.dev.scDepth n false true (s.dev.leg n).scLoPos v < -s.dev.scTol n false true →
      s.dev.scTol n false false ≤ s.dev.scDepth n false false false v →
      ∃ s', exec (.scLoActive n v t) s = .next s' ∧ (s'.dev.leg n).hs = false ∧ (s'.dev.leg n).ls = false ∧
        (s'.dev.leg n).turnOn.any (fun x => x.high) = true ∧ (s'.dev.leg n).cbcPeriod = true ∧
        s'.dev.flag (pLEG n) LEG.IRQ_RAW_CBC = true ∧ (s'.dev.tripOf n).set = (s.dev.tripOf n).set ∧
        (∀ m, m ≠ n.val → s'.dev.leg m = s.dev.leg m) ∧ s'.dev.triad = s.dev.triad ∧ s.memSame s') ∧
    (∀ (n : Fin 48) (hi pos : Bool) (v : Int) (t : Nat) (s : State),
      (let out (x : State) (p : Bool) : Bool :=
         if hi then (if p then (x.dev.leg n).scHiPos else (x.dev.leg n).scHiNeg)
         else (if p then (x.dev.leg n).scLoPos else (x.dev.leg n).scLoNeg)
       s.dev.scDepth n hi pos (out s pos) v < -s.dev.scTol n hi pos →
       ∃ s', exec (.scRelease n hi v t) s = .next s' ∧ out s' pos = false ∧ (out s' (!pos) = true → out s (!pos) = true) ∧
        (s'.dev.leg n).hs = (s.dev.leg n).hs ∧ (s'.dev.leg n).ls = (s.dev.leg n).ls ∧
        (s'.dev.tripOf n).set = (s.dev.tripOf n).set ∧ (∀ m, m ≠ n.val → s'.dev.leg m = s.dev.leg m) ∧
        s.regsSame s' ∧ s.memSame s')) ∧
    (∀ (n : Fin 48) (pos : Bool) (v : Int) (t : Nat) (s : State), s.dev.blanked n t = true →
      s.dev.scTol n false pos ≤ s.dev.scDepth n false pos false v →
      ∃ s', exec (.scLoActive n v t) s = .next s' ∧
        (if pos then (s'.dev.leg n).scLoPos else (s'.dev.leg n).scLoNeg) = true ∧
        (s'.dev.leg n).hs = (s.dev.leg n).hs ∧ (s'.dev.leg n).ls = (s.dev.leg n).ls ∧
        (s'.dev.leg n).turnOn = (s.dev.leg n).turnOn ∧
        (s'.dev.tripOf n).set = (s.dev.tripOf n).set ∧ (∀ m, m ≠ n.val → s'.dev.leg m = s.dev.leg m) ∧
        s.regsSame s' ∧ s.memSame s') ∧
    (∀ (n : Fin 48) (t : Nat) (w : Nat × Nat) (ws : List (Nat × Nat)) (s : State),
      liveBlanks s.dev.tickRes (s.dev.leg n).blanks = w :: ws → ceilTo s.dev.tickRes w.2 ≤ t →
      (s.dev.leg n).scLo = false →
      ∃ s', exec (.blankingEnd n t) s = .next s' ∧ s'.dev.leg n = { s.dev.leg n with blanks := ws } ∧
        (∀ m, m ≠ n.val → s'.dev.leg m = s.dev.leg m) ∧ s.regsSame s' ∧ s.memSame s') ∧
    (∀ (n : Fin 48) (hsPin level : Bool) (since t : Nat) (s : State), s.dev.gsAccepts n since t = true →
      ∃ s', exec (.gsLevelAccepted n hsPin level since t) s = .next s' ∧
        (if hsPin != (s.dev.legCfg n).pinSwap then
          (s'.dev.leg n).gsHs = level ∧ (s'.dev.leg n).gsLs = (s.dev.leg n).gsLs
         else (s'.dev.leg n).gsLs = level ∧ (s'.dev.leg n).gsHs = (s.dev.leg n).gsHs) ∧
        (∀ m, m ≠ n.val → (s'.dev.leg m).gsHs = (s.dev.leg m).gsHs ∧ (s'.dev.leg m).gsLs = (s.dev.leg m).gsLs) ∧
        s'.dev.triad = s.dev.triad ∧ s.memSame s') ∧
    ∀ (n : Fin 48) (hsPin level : Bool) (since t : Nat) (s : State), s.dev.gsAccepts n since t = false →
      ∃ s', exec (.gsLevelAccepted n hsPin level since t) s = .next s' ∧ s'.dev.units = s.dev.units ∧ s.regsSame s' ∧
        s.memSame s' 

/-- A group trip and a group fault from a port that may make one set the group's latch and turn off every leg of the
group; a group fault from another port changes nothing. A device trip turns off every leg. Clearing a set latch whose
sources have all been quiet long enough clears it and reports it; clearing one whose sources have not is refused with
its cause, and the latch stays. [R214; R216; R218; R219; R220] -/
def Obligations.LatchesSetAndClear : Prop :=
  (∀ (g : Fin 4) (t : Nat) (s : State),
      ∃ s', exec (.groupTrip g t) s = .next s' ∧ (s'.dev.grp g).tripped = true ∧
        s'.legsDark ((s.dev.groupLegs g).filter (fun n => decide (s.dev.groupOf n = some g.val))) ∧
        ((s.dev.grp g).tripped = false → s'.dev.get (pGRP g) GRP.FAULT_CODE_CAUSE = 0x13 ∧
          s'.dev.flag (pGRP g) GRP.IRQ_RAW_GROUP_OFF = true) ∧ s'.dev.triad = s.dev.triad ∧ s.memSame s') ∧
    (∀ (g : Fin 4) (port : Fin 24) (t : Nat) (s : State),
      ∃ s', exec (.gfault g port t) s = .next s' ∧
        (port.val = 0x0F ∨ port.val = 0x17 ∨ port.val < 12 ∧ (∃ n ∈ s.dev.engLegs port, s.dev.inGroup g n = true) →
          (s'.dev.grp g).tripped = true ∧ s'.dev.flag (pGRP g) GRP.IRQ_RAW_GFAULT = true ∧
          s'.legsDark ((s.dev.groupLegs g).filter (fun n => decide (s.dev.groupOf n = some g.val)))) ∧
        (s.dev.gfaultFrom g port = false → s'.dev.units = s.dev.units ∧ s.regsBut [] s') ∧
        s'.dev.triad = s.dev.triad ∧ s.memSame s') ∧
    (∀ (t : Nat) (s : State),
      ∃ s', exec (.devTrip t) s = .next s' ∧ s'.dev.pw.dev.tripped = true ∧ s'.legsDark (List.range 48) ∧
        (s.dev.pw.dev.tripped = false → s'.dev.get pSYS SYS.DEV_TRIP_CAUSE = 5 ∧
          s'.dev.flag pSYS SYS.PSI_IRQ_RAW_DEV_TRIP = true) ∧ s'.dev.triad = s.dev.triad ∧ s.memSame s') ∧
    (∀ (n : Fin 48) (t : Nat) (s : State), (s.dev.tripOf n).set = true →
      (let q := quietTaps (s.dev.get (pLEG n) LEG.TRIP_CFG_TRIP_QUIET)
       ∃ s', exec (.tripClr n t) s = .next s' ∧
        ((∀ x ∈ (s.dev.tripOf n).sources, s.dev.srcActive x = false ∧ s.dev.srcSince x + q ≤ t) →
          (s'.dev.tripOf n).set = false ∧ (s'.dev.tripOf n).sources = [] ∧
          s'.dev.flag (pLEG n) LEG.IRQ_RAW_CLEARED = true) ∧
        (∀ x ∈ (s.dev.tripOf n).sources, s.dev.srcActive x = true ∨ t < s.dev.srcSince x + q →
          s'.dev.pw = s.dev.pw ∧ s'.dev.flag (pLEG n) LEG.IRQ_RAW_CLEAR_REFUSED = true ∧
          s'.dev.get (pLEG n) LEG.FAULT_CODE_CAUSE = 0x1B ∧ s'.dev.get (pLEG n) LEG.FAULT_CODE_SOURCE = 0) ∧ s'.dev.triad = s.dev.triad ∧ s.memSame s')) ∧
    (∀ (g : Fin 4) (t : Nat) (s : State), (s.dev.grp g).tripped = true →
      ∃ s', exec (.groupTripClr g t) s = .next s' ∧
        (s.dev.grpQuiet g t = true → (s'.dev.grp g).tripped = false ∧ s'.dev.flag (pGRP g) GRP.IRQ_RAW_CLEARED = true) ∧
        (s.dev.grpQuiet g t = false → s'.dev.pw = s.dev.pw ∧ s'.dev.flag (pGRP g) GRP.IRQ_RAW_CLEAR_REFUSED = true ∧
          s'.dev.get (pGRP g) GRP.FAULT_CODE_CAUSE = 0x14) ∧ s'.dev.triad = s.dev.triad ∧ s.memSame s') ∧
    ∀ (t : Nat) (s : State), s.dev.pw.dev.tripped = true →
      ∃ s', exec (.devTripClear t) s = .next s' ∧
        (s.dev.devQuiet t = true → s'.dev.flag pSYS SYS.PSI_IRQ_RAW_DEV_CLEARED = true ∧
          (s.seq.st.runs = false → s'.dev.pw.dev.tripped = false)) ∧
        (s.dev.devQuiet t = false → s'.dev.pw = s.dev.pw ∧ s'.dev.flag pSYS SYS.PSI_IRQ_RAW_DEV_CLEAR_REFUSED = true ∧
          s'.dev.get pSYS SYS.DEV_TRIP_CAUSE = 6) ∧ s'.dev.triad = s.dev.triad ∧ s.memSame s'

/-- Arming clears a reported reversal, disarming opens the switch. With the dwell met, armed and without a reversal
the switch closes. A level of its feedback that has stood for the 1 ms of its filter is recorded under FB_INV, and one
that has differed from the command for more than FB_MS since then opens it and is reported. A write of BRK_CMD gives
each pair that the sequencer does not own its bit, and leaves those the sequencer owns on its command, reporting a
differing bit; a reserved bit is undefined (R10). A feedback level that has stood for FILT_MS is recorded under FB_INV
and reported when no command is near; a pair that has differed for longer than its timeout is a mismatch. [R221; R222;
R223; R224; R225; R10] -/
def Obligations.PolaritySwitchAndBreakers : Prop :=
  (∀ (t : Nat) (s : State),
      ∃ s', exec (.rpsArm t) s = .next s' ∧ s'.dev.flag pSYS SYS.RPS_CTRL_ARM = true ∧
        s'.dev.pw.rps = (if s.dev.flag pSYS SYS.RPS_CTRL_ARM then s.dev.pw.rps else { s.dev.pw.rps with reverse := false }) ∧
        s.regsBut [SYS.RPS_CTRL_ARM.addr pSYS 0] s' ∧ s.memSame s') ∧
    (∀ (t : Nat) (s : State),
      ∃ s', exec (.rpsDisarm t) s = .next s' ∧ s'.dev.flag pSYS SYS.RPS_CTRL_ARM = false ∧ s'.dev.pw.rps.cmd = false ∧
        s'.dev.pw.legs = s.dev.pw.legs ∧ s.regsBut [SYS.RPS_CTRL_ARM.addr pSYS 0] s' ∧ s.memSame s') ∧
    (∀ (t a : Nat) (s : State), s.dev.flag pSYS SYS.RPS_CTRL_ARM = true → s.dev.pw.rps.reverse = false →
      s.dev.pw.rps.goodSince = some a → a + clampNat 1 4000 (s.dev.get pSYS SYS.RPS_CFG_DWELL_MS) * 12800000 ≤ t →
      ∃ s', exec (.rpsDwellDone t) s = .next s' ∧ s'.dev.pw.rps.cmd = true ∧
        s'.dev.flag pSYS SYS.PSI_IRQ_RAW_RPS_CLOSED = true ∧
        s.regsBut [SYS.PSI_IRQ_RAW_RPS_CLOSED.addr pSYS 0] s' ∧ s.memSame s') ∧
    (∀ (level : Bool) (since t : Nat) (s : State), (level != s.dev.flag pSYS SYS.RPS_CFG_FB_INV) ≠ s.dev.pw.rps.cmd →
      max (since + 12800000) (s.dev.pw.rps.cmdAt.getD 0) + max 1 (s.dev.get pSYS SYS.RPS_CFG_FB_MS) * 12800000 < t →
      ∃ s', exec (.rpsFbFail level since t) s = .next s' ∧ s'.dev.pw.rps.cmd = false ∧
        s'.dev.pw.rps.fb = (level != s.dev.flag pSYS SYS.RPS_CFG_FB_INV) ∧ s'.dev.pw.legs = s.dev.pw.legs ∧
        s'.dev.flag pSYS SYS.PSI_IRQ_RAW_RPS_FB_FAIL = true ∧ s.memSame s') ∧
    (∀ (w : Word) (t : Nat) (s : State), w.toNat < 65536 →
      ∃ s', exec (.brkCmdWrite w t) s = .next s' ∧
        (∀ k < 8, (s'.dev.pair k).cmd = (if s.dev.brkOwned k then s.dev.triad.brkCmd.testBit k else w.toNat.testBit k)) ∧
        ((∃ k < 8, s.dev.brkOwned k = true ∧ w.toNat.testBit k ≠ (s.dev.pair k).cmd) →
          s'.dev.flag pSYS SYS.PSI_IRQ_RAW_BRK_CMD_DISCARD = true) ∧ s'.dev.triad = s.dev.triad ∧
        s'.dev.pw.legs = s.dev.pw.legs ∧ s.memSame s') ∧
    (∀ (w : Word) (t : Nat) (s : State), 65536 ≤ w.toNat → exec (.brkCmdWrite w t) s = .fault .reservedBit) ∧
    (∀ (k : Fin 8) (level : Bool) (since t : Nat) (s : State),
      since + clampNat 1 64 (s.dev.get pSYS SYS.BRK_CFG_FILT_MS) * 12800000 ≤ t →
      (let closed := level != s.dev.bit pSYS SYS.BRK_CFG_FB_INV k
       ∃ s', exec (.brkFbChange k level since t) s = .next s' ∧ (s'.dev.pair k).closed = closed ∧
        (s'.dev.pair k).cmd = (s.dev.pair k).cmd ∧
        (closed ≠ (s.dev.pair k).closed → (∀ c, (s.dev.pair k).cmdAt = some c → c + s.dev.brkTo < t) →
          s'.dev.flag pSYS SYS.PSI_IRQ_RAW_BRK_FB_CHANGE = true) ∧ s'.dev.pw.legs = s.dev.pw.legs ∧ s.memSame s')) ∧
    ∀ (k : Fin 8) (t a : Nat) (s : State), (s.dev.pair k).differAt = some a → a + s.dev.brkTo < t →
      ∃ s', exec (.brkMismatch k t) s = .next s' ∧ s'.dev.pair k = { s.dev.pair k with mismatch := true } ∧
        s'.dev.flag pSYS SYS.PSI_IRQ_RAW_BRK_FB_FAIL = true ∧
        s.regsBut [SYS.PSI_IRQ_RAW_BRK_FB_FAIL.addr pSYS 0] s' ∧ s.memSame s'

/-- At an instant of an input's final sample grid the sample of the chain, after the resets due and the bits captured,
is shown in LAST_DATA and LAST_FLAGS, and the blocker's mean in DCB. On the write grid its frame, of sequence number,
stamp, value and flags, is issued through Felt as one write of 16 bytes to the next slot of the input's four, on the
port of its input's group: on a free tag, or waiting for one; the number is shown in SEQ and advances. Off the write
grid nothing is issued and the number stays; off the final grid only resets and bits act. Memory, the other chains,
the triad, the engines and the registers of other units are as before. An invalid sample has value 0 and is not
saturated; with the DC blocker a value lies in the signed 24-bit range. [R234; R235; R237; R240; R241; R254] -/
def Obligations.FinalSamplesBecomeFrames : Prop :=
  (∀ (i : Fin 64) (bits : List Bool) (t : Nat) (s : State),
      (let d := ((s.dev.begin t).sdDue i t).sdBits i t bits
       let c := d.sdCfg i
       let x := ((d.sd i).sample c).1
       let ch := ((d.sd i).sample c).2
       let q := (d.sd i).seq
       let p := 0x11 + i.val / 16
       let a := 0x100D0000 + i.val * 0x40 + q % 4 * 0x10
       let frame := (frameWords q (s.dev.stampOf t) x).flatMap wordBytes
       ∃ s', exec (.finalSample i bits t) s = .next s' ∧
        (s.dev.onGrid t c.phase c.tOut = true →
          s'.dev.getAt (sdPage i) SDF.LAST_DATA (i % 8) = lo24 x.data ∧
          s'.dev.getAt (sdPage i) SDF.LAST_FLAGS (i % 8) = x.flags ∧
          s'.dev.getAt (sdPage i) SDF.DCB_M (i % 8) = lo24 (ch.m / 2 ^ 20)) ∧
        (s.dev.onGrid t c.phase c.tOut = true → s.dev.onGrid t c.phase (c.wrDiv * c.tOut) = true →
          s'.dev.sd i = { ch with seq := (q + 1) % 2 ^ 32 } ∧
          s'.dev.getAt (sdPage i) SDF.SEQ (i % 8) = q % 2 ^ 32 ∧
          (∀ k, s.dev.tagFor p = some k →
            s'.dev.tag k =
              some ⟨some frame, a, 16, t, s.dev.felt.issued, s.dev.felt.issued, 0, false, none, [], none⟩ ∧
            s'.dev.felt.issued = s.dev.felt.issued + 1 ∧ s'.dev.felt.queue = s.dev.felt.queue ∧ s.tagsSame k s') ∧
          (s.dev.tagFor p = none → s'.dev.felt = { s.dev.felt with queue := s.dev.felt.queue ++ [⟨p, some frame, a, 16⟩] })) ∧
        (s.dev.onGrid t c.phase c.tOut = true → s.dev.onGrid t c.phase (c.wrDiv * c.tOut) = false →
          s'.dev.sd i = ch ∧ s'.dev.felt = s.dev.felt) ∧
        (s.dev.onGrid t c.phase c.tOut = false → s'.dev.sd i = d.sd i ∧ s'.dev.felt = s.dev.felt) ∧
        (∀ j, j ≠ i.val → s'.dev.sd j = s.dev.sd j) ∧ s'.dev.triad = s.dev.triad ∧ s'.dev.eng = s.dev.eng ∧
        s'.dev.mp = s.dev.mp ∧ s'.dev.prec = s.dev.prec ∧ s'.dev.safe = s.dev.safe ∧ s'.dev.bus = s.dev.bus ∧
        s'.dev.chain = s.dev.chain ∧ s'.dev.boot = s.dev.boot ∧
        (∀ b, b / 0x1000 ≠ sdPage i → b ∉ [FELT.TAG_BUSY0_BUSY.addr pFELT 0, FELT.TAG_BUSY1_BUSY.addr pFELT 0,
          SYS.PSI_IRQ_RAW_RPS_REVERSE.addr pSYS 0] → s'.dev.reg b = s.dev.reg b) ∧ s.memSame s')) ∧
    (∀ (c : SdCfg) (ch : SdChain),
      ((ch.sample c).1.valid = true ↔ settleCount c.hb ≤ ch.settle.next ∧ ch.stuck = false ∧ c.clkOn = true) ∧
      ((ch.sample c).1.valid = false → (ch.sample c).1.data = 0 ∧ (ch.sample c).1.sat = false) ∧
      (c.dcbEn = true → -8388608 ≤ (ch.sample c).1.data ∧ (ch.sample c).1.data ≤ 8388607))

/-- SETTLED at the first valid sample of a settled chain is reported for its input. A captured bit that completes a
run of STUCK_LEN marks the chain stuck, counts and reports it. A commit whose checks pass latches the three words of
all eight inputs; one whose checks fail reports cause and offset and latches nothing. SYNC places a reset at the first
tick at least two ticks later for each named input and for no other. A write of FSRC on an open page with a leg that
exists sets it and places a reset; with another leg it is refused with cause 5, on a closed page it changes nothing,
and a reserved bit is undefined (R10). In each the resets that have fallen due act first on the inputs of the page or
on the input named, and the other inputs, the units but sensing, and memory are as before. [R239; R242; R243; R244;
R245; R250; R10] -/
def Obligations.ChainsSettleStickCommitAndReset : Prop :=
  (∀ (i : Fin 64) (t : Nat) (s : State), (s.dev.sd i).settle = .run (settleCount (s.dev.sdCfg i).hb) →
      s.dev.getAt (sdPage i) SDF.LAST_FLAGS (i % 8) / 128 % 2 = 1 →
      ∃ s', exec (.settled i t) s = .next s' ∧ s'.dev.bit (sdPage i) SDF.IRQ_RAW_SETTLED (i % 8) = true ∧
        s.regsBut [SDF.IRQ_RAW_SETTLED.addr (sdPage i) 0] s' ∧ s'.dev.units = s.dev.units ∧ s.memSame s') ∧
    (∀ (i : Fin 64) (b : Bool) (t : Nat) (s : State), (s.dev.sd i).resets = [] → (s.dev.sd i).stuck = false →
      (s.dev.sdCfg i).stuckLen ≠ 0 → (s.dev.sdCfg i).stuckLen ≤ (s.dev.sd i).runNext b →
      ∃ s', exec (.stuckDetected i [b] t) s = .next s' ∧ (s'.dev.sd i).stuck = true ∧
        s'.dev.bit (sdPage i) SDF.IRQ_RAW_STUCK (i % 8) = true ∧
        s'.dev.getAt (sdPage i) SDF.CNT_STUCK_CNT (i % 8) =
          min 255 (s.dev.getAt (sdPage i) SDF.CNT_STUCK_CNT (i % 8) + 1) ∧
        s.regsBut [SDF.IRQ_RAW_STUCK.addr (sdPage i) 0, SDF.CNT_STUCK_CNT.addr (sdPage i) (i % 8)] s' ∧
        { s'.dev with sense := s.dev.sense }.units = s.dev.units ∧
        (∀ j, j ≠ i.val → s'.dev.sd j = s.dev.sd j) ∧ s.memSame s') ∧
    (∀ (j : Fin 8) (t : Nat) (s : State),
      (let d := (s.dev.begin t).each (fun i d => d.sdDue (8 * j + i) t) (List.range 8)
       ∃ s', exec (.sdfCommit j t) s = .next s' ∧
        ((∀ i < 8, d.sdCheck j i = none) → ∀ i < 8, s'.dev.sd (8 * j + i) = { (d.sd (8 * j + i)) with
          latch :=
          some (s.dev.wordAt (pSDF j) SDF.FCFG_DEC i, s.dev.wordAt (pSDF j) SDF.FSHIFT i,
            s.dev.wordAt (pSDF j) SDF.FPHASE_TICKS i, some t) }) ∧
        (∀ i c o, i < 8 → (∀ k < i, d.sdCheck j k = none) → d.sdCheck j i = some (c, o) →
          s'.dev.flag (pSDF j) SDF.IRQ_RAW_COMMIT_REFUSED = true ∧ s'.dev.get (pSDF j) SDF.FAULT_CODE_CAUSE = c ∧
          s'.dev.get (pSDF j) SDF.FAULT_CODE_OFFSET = o ∧ s'.dev.sense = d.sense) ∧
        (∀ k, k / 8 ≠ j.val → s'.dev.sd k = s.dev.sd k) ∧ s'.dev.triad = s.dev.triad ∧ s'.dev.pw = s.dev.pw ∧
        s'.dev.felt = s.dev.felt ∧ s'.dev.acq = s.dev.acq ∧
        (∀ b, b / 0x1000 ≠ pSDF j → b % 0x1000 ≠ 0x1C → s'.dev.reg b = s.dev.reg b) ∧ s.memSame s')) ∧
    (∀ (j : Fin 8) (mask : BitVec 8) (t : Nat) (s : State),
      (let d := (s.dev.begin t).each (fun i d => d.sdDue (8 * j + i) t) (List.range 8)
       ∃ s', exec (.sdfSync j mask t) s = .next s' ∧
        (∀ i < 8, mask.toNat.testBit i = true →
          (t + 31) / 32 * 32 + 64 ∈ (s'.dev.sd (8 * j + i)).resets ∧
          { (s'.dev.sd (8 * j + i)) with resets := (d.sd (8 * j + i)).resets } = d.sd (8 * j + i)) ∧
        (∀ i < 8, mask.toNat.testBit i = false → s'.dev.sd (8 * j + i) = d.sd (8 * j + i)) ∧
        (∀ k, k / 8 ≠ j.val → s'.dev.sd k = s.dev.sd k) ∧ s'.dev.triad = s.dev.triad ∧ s'.dev.pw = s.dev.pw ∧
        s'.dev.felt = s.dev.felt ∧ s'.dev.acq = s.dev.acq ∧
        (∀ b, b / 0x1000 ≠ pSDF j → b % 0x1000 ≠ 0x1C → s'.dev.reg b = s.dev.reg b) ∧ s.memSame s')) ∧
    (∀ (i : Fin 64) (w : Word) (t : Nat) (s : State), w.toNat &&& 0xFC0080F8 = 0 →
      (let d := (s.dev.begin t).sdDue i t
       ∃ s', exec (.fsrcWrite i w t) s = .next s' ∧
        (s.dev.lockOpen (sdPage i) = false → s'.dev.sd i = d.sd i ∧
          s'.dev.wordAt (sdPage i) SDF.FSRC_CLK_SEL (i % 8) = s.dev.wordAt (sdPage i) SDF.FSRC_CLK_SEL (i % 8) ∧
          s'.dev.get (sdPage i) SDF.FAULT_CODE_CAUSE = s.dev.get (sdPage i) SDF.FAULT_CODE_CAUSE) ∧
        (s.dev.lockOpen (sdPage i) = true → bitsGet w 13 8 ≤ 47 →
          s'.dev.wordAt (sdPage i) SDF.FSRC_CLK_SEL (i % 8) = w ∧ (t + 31) / 32 * 32 + 64 ∈ (s'.dev.sd i).resets) ∧
        (s.dev.lockOpen (sdPage i) = true → 47 < bitsGet w 13 8 → s'.dev.sd i = d.sd i ∧
          s'.dev.wordAt (sdPage i) SDF.FSRC_CLK_SEL (i % 8) = s.dev.wordAt (sdPage i) SDF.FSRC_CLK_SEL (i % 8) ∧
          s'.dev.get (sdPage i) SDF.FAULT_CODE_CAUSE = 5 ∧
          s'.dev.get (sdPage i) SDF.FAULT_CODE_OFFSET = 0x4C + i.val % 8 * 0x20) ∧
        (∀ k, k ≠ i.val → s'.dev.sd k = s.dev.sd k) ∧ s'.dev.triad = s.dev.triad ∧ s'.dev.pw = s.dev.pw ∧
        s'.dev.felt = s.dev.felt ∧ s'.dev.acq = s.dev.acq ∧
        (∀ b, b / 0x1000 ≠ sdPage i → b % 0x1000 ≠ 0x1C → s'.dev.reg b = s.dev.reg b) ∧ s.memSame s')) ∧
    ∀ (i : Fin 64) (w : Word) (t : Nat) (s : State), w.toNat &&& 0xFC0080F8 ≠ 0 →
      exec (.fsrcWrite i w t) s = .fault .reservedBit

/-- A request inside the map and inside one bank takes the first free tag of its port; with both occupied it waits in
the queue. Outside them an engine's is its fault 2, and any other is nothing. A decision of a free bank that a port
asks for passes over the request last preempted while another asks; a latched table applies first and counts from
entry 0; the port of the slot entry is granted if it asks, else the asking port of the lowest rank, then of the
longest wait, then of the lowest number; the pointer advances, ROUNDS counts, the background's grants are counted, the
granted port's wait ends and the others' grow by one. A due handshake at a memory window writes the bytes of its unit
where the target takes them, and a write to the triad regions from another port is discarded and reported; or it reads
the bytes of the unit, which the port takes at once unless an older read is outstanding, and until then they hold its
landing register. The bank counts it, and the transaction is complete after its last unit. A grant whose units have
run out is withdrawn. [R105; R255; R256; R259; R260; R261; R263; R265; R276; R281] -/
def Obligations.FeltIssuesGrantsAndTransfers : Prop :=
  (∀ (p : Fin 24) (data : Option (List (BitVec 8))) (addr : BitVec 32) (len : Fin 65) (t : Nat) (s : State),
      (let bs := data.map (fun b => b.take 64)
       let n := match bs with | some b => b.length | none => len.val
       let inside := feltMapped addr.toNat = true ∧ feltMapped (addr.toNat + n - 1) = true ∧
         (bankOf addr.toNat = none ∨ bankOf addr.toNat = bankOf (addr.toNat + n - 1))
       ∃ s', exec (.feltRequest p data addr len t) s = .next s' ∧ s.memSame s' ∧
        (n ≠ 0 → inside → ∀ k, s.dev.tagFor p = some k →
          (s'.dev.tag k).map (fun x => { x with began := none }) =
            some ⟨bs, addr.toNat, n, t, s.dev.felt.issued, s.dev.felt.issued, 0, false, none, [], none⟩ ∧
          s'.dev.felt.issued = s.dev.felt.issued + 1 ∧ s'.dev.felt.queue = s.dev.felt.queue ∧ s.tagsSame k s' ∧
          (∀ b, (s'.dev.arb b).owner = (s.dev.arb b).owner ∧ (some b ≠ bankOf addr.toNat → s'.dev.arb b = s.dev.arb b)) ∧
          { s'.dev with felt := s.dev.felt }.units = s.dev.units ∧
          s.regsBut [FELT.TAG_BUSY0_BUSY.addr pFELT 0, FELT.TAG_BUSY1_BUSY.addr pFELT 0] s') ∧
        (n ≠ 0 → inside → s.dev.tagFor p = none →
          s'.dev.felt = { s.dev.felt with queue := s.dev.felt.queue ++ [⟨p, bs, addr.toNat, n⟩] } ∧
          { s'.dev with felt := s.dev.felt }.units = s.dev.units ∧ s.regsSame s') ∧
        (n ≠ 0 → ¬inside → p.val < 15 →
          s'.dev.get (pENG p) TE.FAULT_CODE_CAUSE = 2 ∧ s'.dev.flag (pENG p) TE.IRQ_RAW_ENGINE_FAULT = true) ∧
        (n = 0 ∨ ¬inside ∧ 15 ≤ p.val → s'.dev.units = s.dev.units ∧ s.regsSame s'))) ∧
    (∀ (b : Fin 16) (t : Nat) (s : State), (s.dev.arb b).owner = none → s.dev.asking b ≠ [] →
      (let ask := s.dev.asking b
       let d := s.dev.arbApply b
       let ptr := d.get (pARB b) ARB.STATUS_POINTER
       let cand := if ∃ q ∈ ask, s.dev.wasPreempted b q = false then ask.filter (fun q => !s.dev.wasPreempted b q) else ask
       let wait (q : Nat) : Nat := (s.dev.arb b).waits.getD q 0
       ∃ s', exec (.arbiterDecision b t) s = .next s' ∧ s'.dev.felt.tags = s.dev.felt.tags ∧
        s'.dev.felt.queue = s.dev.felt.queue ∧ (∀ c, c ≠ b.val → s'.dev.arb c = s.dev.arb c) ∧
        { s'.dev with felt := s.dev.felt }.units = s.dev.units ∧ s.memSame s' ∧
        (∃ p ∈ cand, (s'.dev.arb b).owner = s.dev.asks b p ∧ s'.dev.get (pARB b) ARB.STATUS_OWNER = p ∧
          (∀ q ∈ cand, d.slotPort b ptr = some q →
            p = q ∧ s'.dev.get (pARB b) ARB.ARB_CNT_BG_GRANTS = s.dev.get (pARB b) ARB.ARB_CNT_BG_GRANTS) ∧
          ((∀ q ∈ cand, d.slotPort b ptr ≠ some q) →
            s'.dev.get (pARB b) ARB.ARB_CNT_BG_GRANTS = min 65535 (s.dev.get (pARB b) ARB.ARB_CNT_BG_GRANTS + 1) ∧
            ∀ q ∈ cand, s.dev.rankOf p < s.dev.rankOf q ∨ s.dev.rankOf p = s.dev.rankOf q ∧
              (wait q < wait p ∨ wait q = wait p ∧ p ≤ q)) ∧
          ((s.dev.arb b).waits.length = 24 → (s'.dev.arb b).waits.getD p 0 = 0 ∧
            ∀ q < 24, q ≠ p → (s'.dev.arb b).waits.getD q 0 = if q ∈ ask then wait q + 1 else wait q)) ∧
        (s'.dev.arb b).units = 0 ∧ (s'.dev.arb b).burst = d.act (pARB b) ARB.ARB_CFG_BURST ∧ (s'.dev.arb b).since = t ∧
        (s'.dev.arb b).preempted = none ∧
        s'.dev.get (pARB b) ARB.ROUNDS = (s.dev.get (pARB b) ARB.ROUNDS + 1) % 2 ^ 32 ∧
        (s.dev.latched (pARB b) = false → s.dev.act (pARB b) ARB.ARB_CFG_TABLE_LEN ≤ 128 →
          s'.dev.get (pARB b) ARB.STATUS_POINTER = (ptr + 1) % max 1 (s.dev.act (pARB b) ARB.ARB_CFG_TABLE_LEN)) ∧
        (s.dev.latched (pARB b) = true → ptr = 0 ∧ s'.dev.get (pARB b) ARB.STATUS_POINTER = 0 ∧
          s'.dev.latched (pARB b) = false ∧ s'.dev.flag (pARB b) ARB.STATUS_COMMIT_PENDING = false ∧
          s'.dev.flag (pARB b) ARB.IRQ_RAW_COMMIT_DONE = true))) ∧
    (∀ (k : Fin 48) (t : Nat) (x : Tx) (bs : List Byte) (s : State), s.dev.tag k = some x → x.data = some bs →
      s.dev.handshakeDue k x = true →
      (let u := x.units.getD x.progress (0, [])
       let taken := (s.dev.guardWrite (k / 2) u.1).1
       0x100000 ≤ u.1 →
       ∃ s', exec (.feltHandshake k false t) s = .next s' ∧
        (x.progress + 1 < x.units.length →
          (s'.dev.tag k).map (fun y => { y with began := none }) = some { x with progress := x.progress + 1, began := none } ∧
          ∀ b < 16, bankOf x.addr = some b → (s'.dev.arb b).owner = some k.val ∧
            (s'.dev.arb b).units = (s.dev.arb b).units + 1 ∧ (s'.dev.arb b).since = t) ∧
        (¬x.progress + 1 < x.units.length →
          (s.tagStaysFree k x → s'.dev.tag k = none) ∧ ∀ b < 16, (s'.dev.arb b).owner ≠ some k.val) ∧
        (∀ b < 16, bankOf x.addr = some b →
          s'.dev.get (pARB b) ARB.HANDSHAKES = (s.dev.get (pARB b) ARB.HANDSHAKES + 1) % 2 ^ 32) ∧
        (taken = true →
          (∀ j < u.2.length, inMemory (u.1 + j) = true → memByte s'.mem (u.1 + j) = u.2.getD j 0) ∧
          s.memSameBut u.1 u.2.length s') ∧
        (taken = false → s.memSame s') ∧
        (0x100F0000 ≤ u.1 → u.1 < 0x100F4840 → k.val / 2 ∉ [0x0C, 0x0D, 0x0E, 0x10] →
          s.dev.spareEn = false ∨ s.dev.spare ≠ k.val / 2 ∨ 12 ≤ k.val / 2 →
          taken = false ∧ s'.dev.flag pFELT FELT.IRQ_RAW_REGION_DISCARD = true ∧
          s'.dev.get pFELT FELT.FAULT_CODE_CAUSE = 5 ∧ s'.dev.get pFELT FELT.FAULT_CODE_PORT = k / 2 ∧
          s'.dev.get pFELT FELT.RETRY_CNT_REGION_DISCARDS =
            min 65535 (s.dev.get pFELT FELT.RETRY_CNT_REGION_DISCARDS + 1)) ∧
        s'.dev.triad = s.dev.triad)) ∧
    (∀ (k : Fin 48) (t : Nat) (x : Tx) (s : State), s.dev.tag k = some x → x.data = none → s.dev.handshakeDue k x = true →
      (let u := x.units.getD x.progress (0, [])
       let bytes := (List.range u.2.length).map (fun j => memByte s.mem (u.1 + j))
       let other := s.dev.tag (if k % 2 = (0 : Nat) then k + 1 else k - 1)
       0x100000 ≤ u.1 →
       ∃ s', exec (.feltHandshake k false t) s = .next s' ∧ s.memSame s' ∧ s'.dev.triad = s.dev.triad ∧
        ((∀ y, other = some y → y.data = none → x.order ≤ y.order) →
          (x.progress + 1 < x.units.length →
            (s'.dev.tag k).map (fun y => { y with began := none }) =
              some { x with progress := x.progress + 1, arrived := x.arrived ++ bytes, began := none }) ∧
          (¬x.progress + 1 < x.units.length → (s.tagStaysFree k x → s'.dev.tag k = none) ∧
            s'.dev.felt.got.toArray.getD k [] = x.arrived ++ bytes)) ∧
        (∀ y, other = some y → y.data = none → y.order < x.order → y.landing = none →
          (s'.dev.tag k).map (fun y => { y with began := none }) =
            some { x with progress := x.progress + 1, landing := some bytes, began := none }) ∧
        (∀ b < 16, bankOf x.addr = some b →
          s'.dev.get (pARB b) ARB.HANDSHAKES = (s.dev.get (pARB b) ARB.HANDSHAKES + 1) % 2 ^ 32 ∧
          (¬x.progress + 1 < x.units.length → (s'.dev.arb b).owner = none)))) ∧
    ∀ (b : Fin 16) (t k : Nat) (s : State), (s.dev.arb b).owner = some k → (s.dev.arb b).burst ≠ 0 →
      (s.dev.arb b).burst ≤ s.dev.unitsUsed b t →
      ∃ s', exec (.preempt b t) s = .next s' ∧ (s'.dev.arb b).owner = none ∧
        (s'.dev.arb b).preempted = (s.dev.tag k).map (fun x => x.order) ∧ s'.dev.get (pARB b) ARB.STATUS_OWNER = 0xFF ∧
        s'.dev.get (pARB b) ARB.ARB_CNT_PREEMPTS = min 65535 (s.dev.get (pARB b) ARB.ARB_CNT_PREEMPTS + 1) ∧
        s'.dev.flag (pARB b) ARB.IRQ_RAW_PREEMPT = true ∧ s'.dev.felt.tags = s.dev.felt.tags ∧
        (∀ c, c ≠ b.val → s'.dev.arb c = s.dev.arb c) ∧ { s'.dev with felt := s.dev.felt }.units = s.dev.units ∧
        s.regsBut [ARB.STATUS_OWNER.addr (pARB b) 0, ARB.ARB_CNT_PREEMPTS.addr (pARB b) 0, ARB.IRQ_RAW_PREEMPT.addr (pARB b) 0]
          s' ∧ s.memSame s'

/-- A token error on a due handshake, a handshake that its target has not completed in 2 us, and the oldest
transaction 20 us after its issue abort: each is counted with its cause, port and tag, the bank is released, memory
stays, and the transaction is issued again once; its second abort is its failure, cause 4, which its port learns
unless it is a program's read; a filter writer's is dropped, and its lost frame counted and reported. ARB_COMMIT
latches the bank's table, or is refused with cause and entry and latches nothing. The two CLR_CNT commands clear the
counters they name and nothing else. [R241; R258; R265; R267; R268; R269; R277; R280] -/
def Obligations.FeltAbortsCommitsAndClears : Prop :=
  (∀ (k : Fin 48) (t : Nat) (x : Tx) (s : State), s.dev.tag k = some x → s.dev.handshakeDue k x = true →
      ∃ s', exec (.feltHandshake k true t) s = .next s' ∧ s.aborted k x 3 t s' ∧
        s'.dev.get pFELT FELT.ERR_CNT_TOKEN_CNT = min 65535 (s.dev.get pFELT FELT.ERR_CNT_TOKEN_CNT + 1) ∧
        s'.dev.flag pFELT FELT.IRQ_RAW_TOKEN_ERR = true) ∧
    (∀ (k : Fin 48) (t a : Nat) (x : Tx) (s : State), s.dev.tag k = some x → s.dev.hsSince k x = some a → a + 25600 ≤ t →
      ∃ s', exec (.hsTimeout k t) s = .next s' ∧ s.aborted k x 1 t s' ∧
        s'.dev.get pFELT FELT.TO_CNT_HS_TO_CNT = min 65535 (s.dev.get pFELT FELT.TO_CNT_HS_TO_CNT + 1) ∧
        s'.dev.flag pFELT FELT.IRQ_RAW_HS_TIMEOUT = true) ∧
    (∀ (t : Nat) (k : Fin 48) (x : Tx) (s : State), s.dev.tag k = some x → x.issuedAt + 256000 ≤ t →
      (∀ j y, j ≠ k.val → s.dev.tag j = some y → x.issuedAt < y.issuedAt ∨ x.issuedAt = y.issuedAt ∧ k.val < j) →
      ∃ s', exec (.txTimeout t) s = .next s' ∧ s.aborted k x 2 t s' ∧
        s'.dev.get pFELT FELT.TO_CNT_TX_TO_CNT = min 65535 (s.dev.get pFELT FELT.TO_CNT_TX_TO_CNT + 1) ∧
        s'.dev.flag pFELT FELT.IRQ_RAW_TX_TIMEOUT = true) ∧
    (∀ (b : Fin 16) (t : Nat) (s : State),
      ∃ s', exec (.arbCommit b t) s = .next s' ∧ s'.dev.units = s.dev.units ∧ s.memSame s' ∧
        (s.dev.arbRefusal b = none → s'.dev.latched (pARB b) = true ∧ s'.dev.flag (pARB b) ARB.STATUS_COMMIT_PENDING = true ∧
          s.regsBut [ARB.STATUS_COMMIT_PENDING.addr (pARB b) 0] s') ∧
        (∀ c e, s.dev.arbRefusal b = some (c, e) → s'.dev.latches = s.dev.latches ∧
          s'.dev.flag (pARB b) ARB.IRQ_RAW_COMMIT_REFUSED = true ∧ s'.dev.get (pARB b) ARB.FAULT_CODE_CAUSE = c ∧
          s'.dev.get (pARB b) ARB.FAULT_CODE_ENTRY = e)) ∧
    (∀ (b : Fin 16) (t : Nat) (s : State),
      ∃ s', exec (.arbClrCnt b t) s = .next s' ∧ s'.dev.get (pARB b) ARB.ROUNDS = 0 ∧
        s'.dev.get (pARB b) ARB.HANDSHAKES = 0 ∧ s'.dev.get (pARB b) ARB.ARB_CNT_BG_GRANTS = 0 ∧
        s'.dev.get (pARB b) ARB.ARB_CNT_PREEMPTS = 0 ∧ (∀ k < 24, s'.dev.getAt (pARB b) ARB.PORT_STAT_STARVE k = 0) ∧
        (∀ k < 24, s'.dev.getAt (pARB b) ARB.PORT_STAT_WAIT_MAX k = s.dev.getAt (pARB b) ARB.PORT_STAT_WAIT_MAX k) ∧
        s.regsBut ([ARB.ROUNDS.addr (pARB b) 0, ARB.HANDSHAKES.addr (pARB b) 0, ARB.ARB_CNT_BG_GRANTS.addr (pARB b) 0] ++
          (List.range 24).map (fun k => ARB.PORT_STAT_STARVE.addr (pARB b) k)) s' ∧
        s'.dev.units = s.dev.units ∧ s.memSame s') ∧
    ∀ (t : Nat) (s : State),
      ∃ s', exec (.feltClrCnt t) s = .next s' ∧ s'.dev.wordAt pFELT FELT.TO_CNT_TX_TO_CNT 0 = 0 ∧
        s'.dev.wordAt pFELT FELT.ERR_CNT_FAIL_CNT 0 = 0 ∧ s'.dev.wordAt pFELT FELT.RETRY_CNT_RETRIES 0 = 0 ∧
        s'.dev.get pFELT FELT.CHAIN_Q_DROPS = 0 ∧ s'.dev.get pFELT FELT.BUS_Q_DROPS = 0 ∧
        s.regsBut [0x8040, 0x8044, 0x8048, 0x8054, 0x8058] s' ∧ s'.dev.units = s.dev.units ∧ s.memSame s'

/-- ARM with a failing check is refused with cause and offset and changes no acquisition state but the events seen;
with all checks passed it takes the smallest sufficient k and enters FILL in the lowest free segment, FULL without
one, or STREAM, paused while shedding is on. STOP ends in IDLE; it completes a record in POST as a short one and frees
any other. READY follows PRE samples, and the triggers until then are counted as ignored; a record with its POST
samples completes with its header, its segment full and counted, and hold-off begins; hold-off ends in IDLE, or in the
next segment, or in FULL without one. AUTO_TRIGGER only marks the forced decision. A released segment is free and ends
FULL where no other record lies in it; a release of one that is not full does nothing. A software trigger registers at
the first tick after the write while acquisition is armed. Each leaves the registers off the ACQ page, the other units
and memory outside the header as before. [R286; R287; R288; R289; R290; R291; R292; R298; R304; R305] -/
def Obligations.AcquisitionStatesMove : Prop :=
  (∀ (t : Nat) (s : State),
      ∃ s', exec (.acqArm t) s = .next s' ∧ { s'.dev with acq := s.dev.acq }.units = s.dev.units ∧ s.memSame s' ∧
        (∀ a, a / 0x1000 ≠ pACQ → a % 0x1000 ≠ 0x1C → s'.dev.reg a = s.dev.reg a) ∧
        (∀ c o, s.dev.armRefusal = some (c, o) → s'.dev.acq = s.dev.eventTriggers.acq ∧
          s'.dev.flag pACQ ACQ.IRQ_RAW_ARM_REFUSED = true ∧
          s'.dev.get pACQ ACQ.FAULT_CODE_CAUSE = c ∧ s'.dev.get pACQ ACQ.FAULT_CODE_OFFSET = o ∧
          s.regsBut [ACQ.IRQ_RAW_ARM_REFUSED.addr pACQ 0, ACQ.FAULT_CODE_CAUSE.addr pACQ 0] s') ∧
        (s.dev.armRefusal = none → s'.dev.acq.k = s.dev.acqK0 ∧
          s'.dev.get pACQ ACQ.STATUS_STATE = s'.dev.acq.st.code ∧ s'.dev.get pACQ ACQ.STATUS_RATE_K = s.dev.acqK0 ∧
          (s.dev.get pACQ ACQ.ACQ_CFG_MODE = 2 → s'.dev.acq.st = .stream ∧ s'.dev.acq.unread = [] ∧
            (s.dev.mp.shed ≠ 0 → s'.dev.flag pACQ ACQ.IRQ_RAW_STREAM_PAUSED = true)) ∧
          (s.dev.get pACQ ACQ.ACQ_CFG_MODE ≠ 2 → ∀ g, s.dev.freeSeg = some g →
            s'.dev.acq.st = .fill ∧ s'.dev.acq.seg = g ∧ s'.dev.get pACQ ACQ.STATUS_SEG = g ∧ s'.dev.acq.total = 0 ∧
            s'.dev.acq.ring = []) ∧
          (s.dev.get pACQ ACQ.ACQ_CFG_MODE ≠ 2 → s.dev.freeSeg = none →
            s'.dev.acq.st = .full ∧ s'.dev.flag pACQ ACQ.IRQ_RAW_FULL = true))) ∧
    (∀ (t : Nat) (s : State),
      ∃ s', exec (.acqStop t) s = .next s' ∧ s'.dev.acq.st = .idle ∧ s'.dev.acq.placed = none ∧ s'.dev.acq.cands = [] ∧
        s'.dev.get pACQ ACQ.STATUS_STATE = 0 ∧
        (s.dev.acq.st ≠ .post → s.memSame s' ∧ ∀ g < 64, s'.dev.segFull g = s.dev.segFull g) ∧
        (s.dev.acq.st = .post → ∀ p, s.dev.acq.placed = some p → s'.dev.flag pACQ ACQ.IRQ_RAW_RECORD_DONE = true ∧
          s'.dev.get pACQ ACQ.ACQ_CNT_RECORDS = min 65535 (s.dev.get pACQ ACQ.ACQ_CNT_RECORDS + 1) ∧
          (s.dev.acq.seg < 64 → s'.dev.segFull s.dev.acq.seg = true) ∧
          (∀ j < 256, inMemory (s.dev.segBase s.dev.acq.seg + j) = true → memByte s'.mem (s.dev.segBase s.dev.acq.seg + j) =
            (((s.dev.count pACQ ACQ.ACQ_CNT_RECORDS).header true p).flatMap wordBytes).getD j 0) ∧
          s.memSameBut (s.dev.segBase s.dev.acq.seg) 256 s') ∧
        { s'.dev with acq := s.dev.acq }.units = s.dev.units ∧
        (∀ a, a / 0x1000 ≠ pACQ → a % 0x1000 ≠ 0x1C → s'.dev.reg a = s.dev.reg a)) ∧
    (∀ (t : Nat) (s : State), s.dev.acq.st = .fill → s.dev.get pACQ ACQ.PRE_SAMPLES ≤ s.dev.acq.total →
      ∃ s', exec (.acqReady t) s = .next s' ∧
        s'.dev.acq = { s.dev.eventTriggers.acq with st := .ready, readyAt := t, cands := [], forceDue := false } ∧
        s'.dev.get pACQ ACQ.STATUS_STATE = 2 ∧
        s'.dev.get pACQ ACQ.ACQ_CNT_FILL_IGNORED =
          min 255 (s.dev.get pACQ ACQ.ACQ_CNT_FILL_IGNORED + s.dev.eventTriggers.acq.cands.length) ∧
        s.regsBut [ACQ.STATUS_STATE.addr pACQ 0, ACQ.ACQ_CNT_FILL_IGNORED.addr pACQ 0] s' ∧
        { s'.dev with acq := s.dev.acq }.units = s.dev.units ∧ s.memSame s') ∧
    (∀ (t : Nat) (p : Placed) (s : State), s.dev.acq.st = .post → s.dev.acq.placed = some p →
      s.dev.get pACQ ACQ.POST_SAMPLES ≤ s.dev.acq.post → s.dev.acq.seg < 64 →
      ∃ s', exec (.recordDone t) s = .next s' ∧ s'.dev.acq.st = .holdoff ∧ s'.dev.acq.holdAt = t ∧ s'.dev.acq.holdCnt = 0 ∧
        s'.dev.segFull s.dev.acq.seg = true ∧ s'.dev.flag pACQ ACQ.IRQ_RAW_RECORD_DONE = true ∧
        s'.dev.get pACQ ACQ.ACQ_CNT_RECORDS = min 65535 (s.dev.get pACQ ACQ.ACQ_CNT_RECORDS + 1) ∧
        (∀ j < 256, inMemory (s.dev.segBase s.dev.acq.seg + j) = true → memByte s'.mem (s.dev.segBase s.dev.acq.seg + j) =
          (((s.dev.count pACQ ACQ.ACQ_CNT_RECORDS).header false p).flatMap wordBytes).getD j 0) ∧
        s.memSameBut (s.dev.segBase s.dev.acq.seg) 256 s' ∧ { s'.dev with acq := s.dev.acq }.units = s.dev.units ∧
        (∀ a, a / 0x1000 ≠ pACQ → s'.dev.reg a = s.dev.reg a)) ∧
    (∀ (t : Nat) (s : State), s.dev.acq.st = .holdoff →
      (if s.dev.flag pACQ ACQ.ACQ_CFG_HOLD_EVT then s.dev.get pACQ ACQ.HOLDOFF ≤ s.dev.acq.holdCnt
       else s.dev.acq.holdAt + usTaps (s.dev.get pACQ ACQ.HOLDOFF) ≤ t) →
      ∃ s', exec (.holdoffEnd t) s = .next s' ∧ s'.dev.get pACQ ACQ.STATUS_STATE = s'.dev.acq.st.code ∧
        (s.dev.get pACQ ACQ.ACQ_CFG_MODE ≠ 1 → s'.dev.acq.st = .idle) ∧
        (s.dev.get pACQ ACQ.ACQ_CFG_MODE = 1 → ∀ g, s.dev.freeSeg = some g →
          s'.dev.acq.st = .fill ∧ s'.dev.acq.seg = g ∧ s'.dev.acq.k = s.dev.acq.k ∧ s'.dev.acq.total = 0) ∧
        (s.dev.get pACQ ACQ.ACQ_CFG_MODE = 1 → s.dev.freeSeg = none →
          s'.dev.acq.st = .full ∧ s'.dev.flag pACQ ACQ.IRQ_RAW_FULL = true) ∧
        s.regsBut [ACQ.STATUS_STATE.addr pACQ 0, ACQ.IRQ_RAW_FULL.addr pACQ 0] s' ∧
        { s'.dev with acq := s.dev.acq }.units = s.dev.units ∧ s.memSame s') ∧
    (∀ (t : Nat) (s : State), s.dev.acq.st = .ready → s.dev.flag pACQ ACQ.ACQ_CFG_AUTO = true →
      s.dev.acq.readyAt + msTaps (s.dev.get pACQ ACQ.AUTO_MS_MS) ≤ t →
      ∃ s', exec (.autoTrigger t) s = .next s' ∧ s'.dev.acq = { s.dev.acq with forceDue := true } ∧ s.regsSame s' ∧
        { s'.dev with acq := s.dev.acq }.units = s.dev.units ∧ s.memSame s') ∧
    (∀ (g : Fin 64) (t : Nat) (s : State),
      ∃ s', exec (.segRelease g t) s = .next s' ∧ s'.dev.segFull g = false ∧
        (∀ h < 64, h ≠ g.val → s'.dev.segFull h = s.dev.segFull h) ∧
        (s.dev.segFull g = true → s.dev.acq.st = .full → g.val < 2 ^ s.dev.get pACQ ACQ.ACQ_CFG_SEG_LOG2 →
          (∀ h ∈ s.dev.acq.held, h.1 = g.val ∨ h.2.1 + h.2.2 ≤ s.dev.segBase g ∨ s.dev.segBase g + s.dev.segSize ≤ h.2.1) →
          s'.dev.acq.st = .fill ∧ s'.dev.acq.seg = g ∧ s'.dev.acq.total = 0 ∧ s'.dev.get pACQ ACQ.STATUS_STATE = 1) ∧
        (s.dev.segFull g = true → s.dev.acq.st ≠ .full →
          s'.dev.acq = { s.dev.acq with held := s.dev.acq.held.filter (fun h => decide (h.1 ≠ g.val)) }) ∧
        (s.dev.segFull g = false → s'.dev.acq = s.dev.acq) ∧
        s.regsBut [ACQ.STATUS_STATE.addr pACQ 0, ACQ.SEG_FULL0_FULL.addr pACQ 0, ACQ.SEG_FULL1_FULL.addr pACQ 0] s' ∧
        { s'.dev with acq := s.dev.acq }.units = s.dev.units ∧ s.memSame s') ∧
    ∀ (t : Nat) (s : State),
      ∃ s', exec (.soft t) s = .next s' ∧ s.regsBut [] s' ∧ { s'.dev with acq := s.dev.acq }.units = s.dev.units ∧
        s.memSame s' ∧
        (s.dev.acq.st = .idle ∨ s.dev.acq.st = .stream ∨ s.dev.acq.st = .full → s'.dev.acq = s.dev.acq) ∧
        (s.dev.acq.st = .fill ∨ s.dev.acq.st = .ready ∨ s.dev.acq.st = .post ∨ s.dev.acq.st = .holdoff →
          s'.dev.acq = { s.dev.acq with
            cands := s.dev.acq.cands ++ [⟨4, (t / s.dev.tickRes + 1) * s.dev.tickRes, none, 0⟩] })

/-- At a capture instant in FILL the triggers registered, with events and level crossings, are counted as ignored; a
sample whose index is a multiple of 2^k lands in the record's body word by word, and where the write buffer has no
room or a Canvas read fails it leaves a gap. In READY the earliest trigger, or the forced one, places the record, at
the oldest stored sample with LATE where it is earlier, and is shown; a unit that drives the wire does so for any
source but the wire, and one that also listens waits for the edge. A low level of FILT + 1 ticks is the start instant
while the sequencer has the wire, else a trigger where WIRE_IN is set. The drive of the wire ends after its pulse, and
without an edge the record is placed at the cause instant. A trigger frame is sent with the network time of the record
trigger instant, is lost to arbitration, or is not sent without locked time; a received one is refused with its cause
or registers at its instant. A stream block carries the oldest samples of one exponent upstream as far as STREAM_MBPS
allows, while shedding is off. [R283; R284; R286; R289; R293; R294; R298; R300; R301; R302; R305; R421] -/
def Obligations.TriggersPlaceRecordsAndSamplesAreStored : Prop :=
  (∀ (buf : Fin 2049) (fails : List (Fin 16)) (t : Nat) (s : State), s.dev.captureDue t = true → s.dev.acq.st = .fill →
      (let lvl := s.dev.flag pTRIG TRIG.TRIG_CFG_LVL_EN
       let x := (if lvl then s.dev.eventTriggers.levelTest (s.dev.levelValue s.mem t) t else s.dev.eventTriggers).acq
       let n := 4 * s.dev.acqCh
       let a := s.dev.segBase s.dev.acq.seg + 256 + s.dev.acq.total % s.dev.bodyCap * n
       let stored := s.dev.captureIndex t % 2 ^ s.dev.acq.k = 0
       let failed := s.dev.failedCh (fails.map Fin.val)
       ∃ s', exec (.captureInstant buf fails t) s = .next s' ∧ s'.dev.acq.st = .fill ∧ s'.dev.acq.cands = [] ∧
        s'.dev.get pACQ ACQ.ACQ_CNT_FILL_IGNORED = min 255 (s.dev.get pACQ ACQ.ACQ_CNT_FILL_IGNORED + x.cands.length) ∧
        (buf.val ≤ 1536 → s'.dev.acq.k = s.dev.acq.k) ∧
        (1536 < buf.val → s.dev.acq.kWait = 0 → s.dev.acq.k < 7 → s'.dev.acq.k = s.dev.acq.k + 1 ∧
          s'.dev.flag pACQ ACQ.IRQ_RAW_RATE_HALVED = true) ∧
        (buf.val ≤ 1536 → buf.val + n ≤ 2048 → stored → failed = none →
          s'.dev.acq.total = s.dev.acq.total + 1 ∧
          (∀ c < s.dev.acqCh, ∀ j < 4, inMemory (a + 4 * c + j) = true →
            memByte s'.mem (a + 4 * c + j) = (wordBytes (s.dev.channelWord s.mem c t)).getD j 0) ∧
          s.memSameBut a n s') ∧
        (∀ c, buf.val ≤ 1536 → buf.val + n ≤ 2048 → stored → failed = some c →
          s'.dev.acq.total = s.dev.acq.total + 1 ∧ s'.dev.acq.gaps = s.dev.acq.total :: s.dev.acq.gaps ∧
          s'.dev.flag pACQ ACQ.IRQ_RAW_GAP = true ∧ s'.dev.get pACQ ACQ.FAULT_CODE_CAUSE = 7 ∧
          s'.dev.get pACQ ACQ.FAULT_CODE_OFFSET = 0x080 + 4 * c ∧ s.memSame s') ∧
        (2048 < buf.val + n → s.dev.acq.k = 7 → stored →
          s'.dev.acq.total = s.dev.acq.total + 1 ∧ s'.dev.acq.gaps = s.dev.acq.total :: s.dev.acq.gaps ∧
          s'.dev.acq.rateLimit = true ∧ s'.dev.flag pACQ ACQ.IRQ_RAW_GAP = true ∧
          s'.dev.get pACQ ACQ.FAULT_CODE_CAUSE = 7 ∧ s.memSame s') ∧
        (buf.val ≤ 1536 → ¬stored → s'.dev.acq.total = s.dev.acq.total ∧ s.memSame s') ∧
        { s'.dev with acq := s.dev.acq }.units = s.dev.units ∧
        (∀ r, r / 0x1000 ≠ pACQ → s'.dev.reg r = s.dev.reg r))) ∧
    (∀ (buf : Fin 2049) (fails : List (Fin 16)) (t : Nat) (s : State), s.dev.captureDue t = true → s.dev.acq.st = .ready →
      (let lvl := s.dev.flag pTRIG TRIG.TRIG_CFG_LVL_EN
       let y := (if lvl then s.dev.eventTriggers.levelTest (s.dev.levelValue s.mem t) t else s.dev.eventTriggers).acq
       let cs := if y.cands = [] ∧ s.dev.acq.forceDue = true then [⟨5, t, some 0, 0⟩] else y.cands
       let out := s.dev.flag pTRIG TRIG.TRIG_CFG_WIRE_OUT && !s.dev.wireBlocked
       let hear := s.dev.flag pTRIG TRIG.TRIG_CFG_WIRE_IN
       let o := (s.dev.acq.ring.getLastD ⟨0, 0, 0⟩).instant
       let a := s.dev.segBase s.dev.acq.seg + 256 + s.dev.acq.total % s.dev.bodyCap * (4 * s.dev.acqCh)
       let placed (x : Trigger) (s' : State) : Prop :=
         s'.dev.acq.st = .post ∧ s'.dev.acq.waiting = none ∧
         s'.dev.acq.placed.map (·.trig) = some (if x.instant < o then { x with instant := o, sub := some 0 } else x) ∧
         s'.dev.flag pACQ ACQ.IRQ_RAW_TRIGGERED = true ∧
         (x.instant < o → s'.dev.flag pACQ ACQ.IRQ_RAW_LATE = true ∧ s'.dev.get pTRIG TRIG.LAST_INFO_SUB = 0) ∧
         s'.dev.get pTRIG TRIG.LAST_STAMP = max o x.instant % 2 ^ 32 ∧
         s'.dev.get pTRIG TRIG.LAST_INFO_SOURCE = x.source % 256 ∧
         (s.dev.flag pTRIG TRIG.TRIG_CFG_TB_OUT = true → x.source ≠ 3 → s'.dev.acq.tbPend = some (max o x.instant))
       ∃ s', exec (.captureInstant buf fails t) s = .next s' ∧ s'.dev.acq.cands = [] ∧
        (∀ x, s.dev.acq.waiting = none → earliest cs = some x → out = false ∨ x.source = 2 ∨ hear = false → placed x s') ∧
        (∀ x, s.dev.acq.waiting = none → earliest cs = some x → out = true → x.source ≠ 2 →
          s'.dev.acq.wireDrive = some t ∧ s'.dev.flag pTRIG TRIG.IRQ_RAW_WIRE_DRIVEN = true ∧
          (hear = true → s'.dev.acq.st = .ready ∧ s'.dev.acq.waiting = some x ∧ s'.dev.acq.waitAt = t)) ∧
        (∀ x, s.dev.acq.waiting = none → earliest cs = some x → x.source = 5 →
          s'.dev.flag pACQ ACQ.IRQ_RAW_FORCED = true ∧
          s'.dev.get pACQ ACQ.ACQ_CNT_FORCED = min 255 (s.dev.get pACQ ACQ.ACQ_CNT_FORCED + 1)) ∧
        (∀ w x, s.dev.acq.waiting = some w → earliest (y.cands.filter (fun c => decide (c.source = 2))) = some x →
          placed x s' ∧ s'.dev.acq.placed.map (·.cause) = some w.instant) ∧
        (s.dev.acq.waiting = none → earliest cs = none → s'.dev.acq.st = .ready ∧ s'.dev.acq.placed = s.dev.acq.placed) ∧
        (∀ w, s.dev.acq.waiting = some w → (∀ c ∈ y.cands, c.source ≠ 2) →
          s'.dev.acq.st = .ready ∧ s'.dev.acq.waiting = some w) ∧
        { s'.dev with acq := s.dev.acq }.units = s.dev.units ∧
        (∀ r, r / 0x1000 ≠ pACQ → r / 0x1000 ≠ pTRIG → s'.dev.reg r = s.dev.reg r) ∧
        s.memSameBut a (4 * s.dev.acqCh) s')) ∧
    (∀ (since t : Nat) (s : State), s.dev.flag pTRIG TRIG.STATUS_WIRE_LOW = false →
      (let i := s.dev.nextTick since
       let accepted := i + s.dev.get pTRIG TRIG.WIRE_CFG_FILT * s.dev.tickRes ≤ t
       ∃ s', exec (.wireEdge since t) s = .next s' ∧ s.memSame s' ∧ s'.dev.others = { s.dev with acq := s'.dev.acq }.others ∧
        (¬accepted → s'.dev.units = s.dev.units ∧ s.regsSame s') ∧
        (accepted → s'.dev.flag pTRIG TRIG.STATUS_WIRE_LOW = true ∧
          s.regsBut [TRIG.STATUS_WIRE_LOW.addr pTRIG 0, TRIG.IRQ_RAW_WIRE_EDGE.addr pTRIG 0] s') ∧
        (accepted → s.dev.wireBlocked = true →
          s'.dev.triad = { s.dev.triad with wireEdge := some (s.dev.triad.wireEdge.getD i) } ∧ s'.dev.acq = s.dev.acq) ∧
        (accepted → s.dev.wireBlocked = false → s'.dev.triad = s.dev.triad) ∧
        (accepted → s.dev.wireBlocked = false → s.dev.flag pTRIG TRIG.TRIG_CFG_WIRE_IN = false → s'.dev.acq = s.dev.acq) ∧
        (accepted → s.dev.wireBlocked = false → s.dev.flag pTRIG TRIG.TRIG_CFG_WIRE_IN = true →
          s'.dev.flag pTRIG TRIG.IRQ_RAW_WIRE_EDGE = true ∧
          (s.dev.acq.st = .fill ∨ s.dev.acq.st = .ready ∨ s.dev.acq.st = .post ∨ s.dev.acq.st = .holdoff →
            s'.dev.acq = { s.dev.acq with cands := s.dev.acq.cands ++ [⟨2, s.dev.compensated i, none, 0⟩] })))) ∧
    (∀ (t : Nat) (s : State),
      ∃ s', exec (.wireRise t) s = .next s' ∧ s'.dev.flag pTRIG TRIG.STATUS_WIRE_LOW = false ∧
        s.regsBut [TRIG.STATUS_WIRE_LOW.addr pTRIG 0] s' ∧ s'.dev.units = s.dev.units ∧ s.memSame s') ∧
    (∀ (t i : Nat) (s : State), s.dev.acq.wireDrive = some i → i + s.dev.pulseTaps ≤ t →
      ∃ s', exec (.wirePulseEnd t) s = .next s' ∧ s'.dev.acq.wireDrive = none ∧ s.memSame s' ∧
        { s'.dev with acq := s.dev.acq }.units = s.dev.units ∧
        (s.dev.acq.waiting = none → s'.dev.acq = { s.dev.acq with wireDrive := none } ∧ s.regsSame s') ∧
        (∀ w, s.dev.acq.waiting = some w → s.dev.acq.st = .ready → s.dev.acq.waitAt + s.dev.pulseTaps ≤ t →
          (∀ c ∈ s.dev.acq.cands, c.source ≠ 2) →
          s'.dev.acq.st = .post ∧ s'.dev.acq.waiting = none ∧ s'.dev.flag pACQ ACQ.IRQ_RAW_TRIGGERED = true ∧
          s'.dev.acq.placed.map (·.trig.source) = some w.source ∧
          s'.dev.acq.placed.map (·.trig.instant) = some (max (s.dev.acq.ring.getLastD ⟨0, 0, 0⟩).instant w.instant))) ∧
    (∀ (won : Bool) (t i : Nat) (s : State), s.dev.acq.tbPend = some i →
      (let addr := BitVec.ofNat 20 (s.dev.get pPBUS PBUS.OWN_ADDR_ADDR)
       let time := ntWords (s.dev.bus.nt.taps i)
       ∃ s', exec (.tbFrameTx won t) s = .next s' ∧ s.memSame s' ∧ { s'.dev with acq := s.dev.acq }.units = s.dev.units ∧
        (s.dev.bus.nt.locked = true → won = true → s'.dev.flag pTRIG TRIG.IRQ_RAW_TB_TX = true ∧
          s'.dev.acq = { s.dev.acq with
            tbPend := none, tbSent := some ⟨addr, 1, tbCrc addr 1, time.1, time.2⟩, tbBusy := t + usTaps 104 } ∧
          s.regsBut [TRIG.IRQ_RAW_TB_TX.addr pTRIG 0] s') ∧
        (s.dev.bus.nt.locked = true → won = false → s'.dev.flag pTRIG TRIG.IRQ_RAW_TB_LOST = true ∧
          s'.dev.acq = { s.dev.acq with tbPend := none, tbBusy := t + usTaps 104 } ∧
          s.regsBut [TRIG.IRQ_RAW_TB_LOST.addr pTRIG 0] s') ∧
        (s.dev.bus.nt.locked = false → s'.dev.get pTRIG TRIG.FAULT_CODE_CAUSE = 4 ∧
          s'.dev.acq = { s.dev.acq with tbPend := none } ∧ s.regsBut [TRIG.FAULT_CODE_CAUSE.addr pTRIG 0] s'))) ∧
    (∀ (addr : BitVec 20) (type : BitVec 4) (crc : BitVec 8) (lo hi : Word) (t : Nat) (s : State),
      (let time := ntOfWords lo hi
       let now := s.dev.bus.nt.taps t
       let on := s.dev.flag pTRIG TRIG.TRIG_CFG_TB_IN && s.dev.bus.nt.locked
       let bad := crc ≠ tbCrc addr type ∨ type ≠ 1 ∨ now < time ∨ time + msTaps 1000 < now
       let idle := { s.dev.acq with tbBusy := min s.dev.acq.tbBusy t }
       ∃ s', exec (.tbFrameRx addr type crc lo hi t) s = .next s' ∧ s.memSame s' ∧
        { s'.dev with acq := s.dev.acq }.units = s.dev.units ∧
        (∀ r, r / 0x1000 ≠ pTRIG → s'.dev.reg r = s.dev.reg r) ∧
        (on = false → s'.dev.acq = idle ∧ s.regsSame s') ∧
        (on = true → bad → s'.dev.acq = idle ∧ s'.dev.flag pTRIG TRIG.IRQ_RAW_TB_DISCARD = true ∧
          s'.dev.get pTRIG TRIG.FAULT_CODE_CAUSE = (if crc ≠ tbCrc addr type then 1 else if type ≠ 1 then 3 else 2) ∧
          s'.dev.get pTRIG TRIG.TB_CNT_DISCARDS = min 65535 (s.dev.get pTRIG TRIG.TB_CNT_DISCARDS + 1)) ∧
        (on = true → ¬bad →
          s'.dev.flag pTRIG TRIG.IRQ_RAW_TB_RX = true ∧ s'.dev.get pTRIG TRIG.TB_SRC_ADDR = addr.toNat ∧
          s'.dev.get pTRIG TRIG.TB_CNT_RX = min 65535 (s.dev.get pTRIG TRIG.TB_CNT_RX + 1) ∧
          s'.dev.get pTRIG TRIG.TB_TIME_LO = lo.toNat ∧ s'.dev.get pTRIG TRIG.TB_TIME_HI = hi.toNat ∧
          (s.dev.acq.st = .idle ∨ s.dev.acq.st = .stream ∨ s.dev.acq.st = .full → s'.dev.acq = idle) ∧
          (s.dev.acq.st = .fill ∨ s.dev.acq.st = .ready ∨ s.dev.acq.st = .post ∨ s.dev.acq.st = .holdoff →
            s'.dev.acq = { idle with cands := s.dev.acq.cands ++
              [⟨3, s.dev.compensated (s.dev.localOf time t), none, addr.toNat⟩] })))) ∧
    ∀ (t i k : Nat) (rest : List (Nat × Nat)) (s : State), s.dev.acq.unread = (i, k) :: rest →
      (let free := s.dev.acq.st = .stream ∧ s.dev.mp.shed = 0 ∧ s.dev.acq.nextBlock ≤ t
       ∃ s', exec (.streamBlock t) s = .next s' ∧ s.memSame s' ∧
        (free →
          (let n := blockLen k 64 s.dev.acq.unread
           0 < n ∧ n ≤ 64 ∧ s'.dev.acq.unread = s.dev.acq.unread.drop n ∧ s'.dev.acq.drop = false ∧
           s'.dev.acq.block.take 2 = [BitVec.ofNat 32 i, BitVec.ofNat 32 (k + 8 * s.dev.acq.drop.toNat)] ∧
           s'.dev.acq.block.length = 2 + n * s.dev.acqCh ∧ t ≤ s'.dev.acq.nextBlock ∧
           (∃ fs, s'.dev.chain.up.out = s.dev.chain.up.out ++ fs ∧ fs.flatMap (·.payload) = s'.dev.acq.block ∧
             ∀ f ∈ fs, f.typ = 0xA ∧ 0 < f.payload.length ∧ f.payload.length ≤ 64) ∧
           s'.dev.triad = s.dev.triad ∧ { s'.dev with acq := s.dev.acq, chain := s.dev.chain }.units = s.dev.units)) ∧
        (¬free → s'.dev.units = s.dev.units ∧ s.regsSame s'))

/-- When the end of the window in progress has come, and it is not the early end of a transitional window,
WINDOW_BOUNDARY completes: the window number advances modulo 2^24, the next window starts at that end under the source
called for, and is transitional exactly when the source changed. A converter that integrated an input other than PCS,
or PCS with its pair, owes the result of that window. Each converter with RUN = 1 integrates PCS in a window whose
number is a multiple of PCS_DIV, else the next enabled input after the last, and each with RUN = 0 none. PC_RUN sets
RUN and starts nothing yet. PC_STOP clears RUN and ends the conversion without a result. The other converter, the
other units and memory are as before. [R312; R314; R315; R317; R320] -/
def Obligations.WindowsFollowWithoutGap : Prop :=
  (∀ (t fin : Nat) (s : State), s.dev.winEnd = some fin → fin ≤ t →
      (s.dev.prec.transitional = true → s.dev.prec.winStart + s.dev.halfPeriod ≤ fin) →
      (let no := (s.dev.prec.winNo + 1) % 2 ^ 24
       let pcs := no % max 1 (s.dev.get (pPC 0) PC.WIN_CFG_PCS_DIV) = 0
       ∃ s', exec (.windowBoundary t) s = .next s' ∧ s'.dev.prec.winNo = no ∧
        s'.dev.prec.winStart = fin ∧ s'.dev.prec.kind = s.dev.winWanted ∧
        s'.dev.prec.transitional = decide (s.dev.winWanted ≠ s.dev.prec.kind) ∧
        (∀ (c : Fin 2) (i : Nat), (s.dev.conv c).input = some i → i ≠ 8 ∨ (s.dev.conv (1 - c.val)).input = some 8 →
          (s'.dev.conv c).ended = (s.dev.conv c).ended ++ [⟨s.dev.prec.winNo, i, fin - s.dev.prec.winStart, fin,
            s.dev.pcStamp fin, decide (s.dev.prec.kind ≠ .formed) || s.dev.prec.transitional, (s.dev.conv c).unsettled⟩]) ∧
        (∀ c : Fin 2, (s.dev.conv c).input = none → (s'.dev.conv c).ended = (s.dev.conv c).ended) ∧
        (∀ c : Fin 2, s.dev.flag (pPC c) PC.CTRL_RUN = true → (s'.dev.conv c).input =
          if pcs then some 8 else nextInput (s.dev.get (pPC c) PC.PC_CFG_SEQ_EN) (s.dev.conv c).lastIn) ∧
        (∀ c : Fin 2, s.dev.flag (pPC c) PC.CTRL_RUN = false → (s'.dev.conv c).input = none) ∧
        { s'.dev with prec := s.dev.prec }.units = s.dev.units ∧
        (∀ a, a / 0x1000 ∉ [pPC 0, pPC 1, pLEDGER] → s'.dev.reg a = s.dev.reg a) ∧ s.memSame s')) ∧
    (∀ (c : Fin 2) (t : Nat) (s : State),
      ∃ s', exec (.pcRun c t) s = .next s' ∧ s'.dev.flag (pPC c) PC.CTRL_RUN = true ∧
        s.regsBut [PC.CTRL_RUN.addr (pPC c) 0] s' ∧ s'.dev.units = s.dev.units ∧ s.memSame s') ∧
    (∀ (c : Fin 2) (t : Nat) (s : State),
      ∃ s', exec (.pcStop c t) s = .next s' ∧ s'.dev.flag (pPC c) PC.CTRL_RUN = false ∧
        s'.dev.flag (pPC c) PC.STATUS_CONVERTING = false ∧
        s'.dev.conv c = { (s.dev.conv c) with input := none, lastIn := none } ∧
        s'.dev.conv (1 - c.val) = s.dev.conv (1 - c.val) ∧
        s.regsBut [PC.CTRL_RUN.addr (pPC c) 0, PC.STATUS_CONVERTING.addr (pPC c) 0] s' ∧
        { s'.dev with prec := s.dev.prec }.units = s.dev.units ∧ s.memSame s')

/-- The result of an ended window of an input other than PCS completes: a write of 16 bytes to slot n mod 16 of the
converter's ring, with the window number and the GAP mark, the stamp of the window's end, the formatted value and the
information word, takes a free tag of port 0x15 or waits for one, and LAST_VALUE, LAST_INFO and LAST_STAMP hold those
words. A record that fails after its retry is counted in GAP_CNT, reported with cause 1, and marks the next record.
The first of the two PCS results of a window is kept; with the second the codes are compared: their difference is
shown, a difference above the tolerance, an OVR or an unsettled reference is UNVERIFIED on both pages and closes the
interval, anything else waits for both records to land, and both records are shown. Without trim, the code of a
single-ended input of mean voltage num / den full scales lies within half a code of 2^24 num / den and carries no OVR.
[R316; R317; R318; R320] -/
def Obligations.ConverterResultIsRecorded : Prop :=
  (∀ (c : Fin 2) (num : Int) (den t : Nat) (s : State) (e : Ended) (es : List Ended), (s.dev.conv c).ended = e :: es →
      e.input ≠ 8 →
      (let v := s.dev.pcCode c e.input num (den + 1)
       let w := s.dev.pcFormat c v.1
       let info : Word := BitVec.ofNat 32 (e.len / 32 * 256 + e.input * 16 + v.2.toNat * 8 +
         e.unsettled.toNat * 4 + e.notFormed.toNat * 2)
       let words : List Word := [BitVec.ofNat 32 (e.no + (s.dev.conv c).gap.toNat * 2 ^ 24), e.stamp, w, info]
       let bytes := words.flatMap wordBytes
       let a := 0x100C0000 + 0x100 * c.val + 16 * (e.no % 16)
       ∃ s', exec (.pcResult c num den t) s = .next s' ∧
        (∀ k, s.dev.tagFor 0x15 = some k → s'.dev.tag k =
          some ⟨some bytes, a, 16, t, s.dev.felt.issued, s.dev.felt.issued, 0, false, none, [], none⟩ ∧ s.tagsSame k s' ∧
          s'.dev.felt.issued = s.dev.felt.issued + 1 ∧ s'.dev.felt.queue = s.dev.felt.queue) ∧
        (s.dev.tagFor 0x15 = none →
          s'.dev.felt = { s.dev.felt with queue := s.dev.felt.queue ++ [⟨0x15, some bytes, a, 16⟩] }) ∧
        s'.dev.wordAt (pPC c) PC.LAST_VALUE 0 = w ∧ s'.dev.wordAt (pPC c) PC.LAST_INFO 0 = info ∧
        s'.dev.wordAt (pPC c) PC.LAST_STAMP 0 = e.stamp ∧
        s'.dev.conv c = { (s.dev.conv c) with ended := es, gap := false, issued := words } ∧
        s'.dev.conv (1 - c.val) = s.dev.conv (1 - c.val) ∧ s'.dev.flag (pPC c) PC.IRQ_RAW_RESULT = true ∧
        (v.2 = true → s'.dev.get (pPC c) PC.CNT_OVR_CNT = min 65535 (s.dev.get (pPC c) PC.CNT_OVR_CNT + 1)) ∧
        { s'.dev with prec := s.dev.prec, felt := s.dev.felt }.units = s.dev.units ∧
        (∀ r, r / 0x1000 ∉ [pPC c, pLEDGER, pFELT] → s'.dev.reg r = s.dev.reg r) ∧ s.memSame s')) ∧
    (∀ (c : Fin 2) (k : Fin 48) (t slot : Nat) (x : Tx) (s : State), s.dev.tag k = some x → s.dev.handshakeDue k x = true →
      x.retried = true → pcPlace (k / 2) x.addr = some (c.val, slot) →
      ∃ s', exec (.feltHandshake k true t) s = .next s' ∧ s.memSame s' ∧ (s'.dev.conv c).gap = true ∧
        s'.dev.get (pPC c) PC.CNT_GAP_CNT = min 255 (s.dev.get (pPC c) PC.CNT_GAP_CNT + 1) ∧
        s'.dev.get (pPC c) PC.FAULT_CODE_CAUSE = 1 ∧ s'.dev.flag (pPC c) PC.IRQ_RAW_GAP = true) ∧
    (∀ (c : Fin 2) (num : Int) (den t : Nat) (s : State) (e : Ended) (es : List Ended), (s.dev.conv c).ended = e :: es →
      e.input = 8 → (s.dev.conv (1 - c.val)).pcs = none →
      (let v := s.dev.pcCode c 8 num (den + 1)
       ∃ s', exec (.pcResult c num den t) s = .next s' ∧
        s'.dev.conv c = { (s.dev.conv c) with ended := es, pcs := some ⟨e, v.1, s.dev.pcFormat c v.1, v.2⟩ } ∧
        s'.dev.conv (1 - c.val) = s.dev.conv (1 - c.val) ∧ { s'.dev with prec := s.dev.prec }.units = s.dev.units ∧
        s.regsSame s' ∧ s.memSame s')) ∧
    (∀ (c : Fin 2) (num : Int) (den t : Nat) (s : State) (e : Ended) (es : List Ended) (other : PcsResult),
      (s.dev.conv c).ended = e :: es → e.input = 8 → (s.dev.conv (1 - c.val)).pcs = some other → other.win.no = e.no →
      (let v := s.dev.pcCode c 8 num (den + 1)
       let r : PcsResult := ⟨e, v.1, s.dev.pcFormat c v.1, v.2⟩
       let x := if c = 0 then r else other
       let y := if c = 0 then other else r
       let bad := s.dev.get (pPC 0) PC.PCS_TOL_CODES < (x.code - y.code).natAbs ∨ x.ovr = true ∨ y.ovr = true ∨
         x.win.unsettled = true ∨ y.win.unsettled = true
       ∃ s', exec (.pcResult c num den t) s = .next s' ∧ (s'.dev.conv 0).pcs = none ∧ (s'.dev.conv 1).pcs = none ∧
        s'.dev.get (pPC 0) PC.PCS_DELTA = (BitVec.ofInt 24 (x.code - y.code)).toNat ∧
        s'.dev.wordAt (pPC 0) PC.LAST_VALUE 0 = x.value ∧ s'.dev.wordAt (pPC 1) PC.LAST_VALUE 0 = y.value ∧
        (∀ j : Fin 2, s'.dev.flag (pPC j) PC.IRQ_RAW_RESULT = true) ∧
        (bad → s'.dev.prec.unverAt = some x.win.fin ∧ ∀ j : Fin 2, s'.dev.flag (pPC j) PC.IRQ_RAW_UNVERIFIED = true ∧
          s'.dev.get (pPC j) PC.CNT_UNVER_CNT = min 255 (s.dev.get (pPC j) PC.CNT_UNVER_CNT + 1) ∧
          s'.dev.get (pPC j) PC.LAST_INFO % 2 = 1) ∧
        (¬bad → s'.dev.prec.pcsWait = some ⟨e.no, x.win.fin, [0, 1]⟩ ∧ s'.dev.prec.count = s.dev.prec.count ∧
          ∀ j : Fin 2, s'.dev.get (pPC j) PC.LAST_INFO % 2 = 0) ∧
        { s'.dev with prec := s.dev.prec, felt := s.dev.felt }.units = s.dev.units ∧ s.memSame s')) ∧
    ∀ (d : Dev) (c : Fin 2) (i num den : Nat), d.isDiff c i = false → d.get (pPC c) PC.TRIM_OFS = 0 →
      d.get (pPC c) PC.TRIM_GAIN = 4194304 → 0 < den → 2 * 16777216 * num < (2 * 16777215 + 1) * den →
      (d.pcCode c i num den).2 = false ∧ 0 ≤ (d.pcCode c i num den).1 ∧
        2 * (d.pcCode c i num den).1 * den ≤ 2 * 16777216 * num + den ∧
        2 * 16777216 * (num : Int) ≤ 2 * (d.pcCode c i num den).1 * den + den

/-- TAMPER_ACK, LOG_IN_CODE, LOG_RELEASE, RESTORE_GO and RESTORE_CLOSE from a port that the seal does not accept
complete without their effect: the counters and the restore bits are as before, SEAL_DISCARDS counts, SEAL_DISCARD is
set, FAULT_CODE names cause 0x1 and the port. Accepted, RESTORE_GO of an unrestored counter adds the 64-bit value,
saturating at 2^64 - 1, to that counter alone and sets its DONE bit; of a restored one, and of number 6, it changes
nothing; RESTORE_CLOSE, and RESTORE_GO of number 7, set every DONE bit and add nothing. TAMPER_ACK clears exactly the
logged CHANGED bits. LOG_RELEASE frees the entries below s. LOG_IN_CODE with a permitted code and a free slot puts an
entry with the next sequence number and the time into slot LOG_HEAD mod 256 and advances LOG_HEAD; with a full log the
entry is lost and counted; with another code it is refused with cause 3. [R321; R322; R323; R328; R329; R330; R334] -/
def Obligations.LedgerChangesOnlyUnderItsSeal : Prop :=
  (∀ (port : Fin 24) (w : Word) (k : Fin 8) (t : Nat) (s : State), s.dev.sealOk port = false →
      ∀ c ∈ [Instr.tamperAck port t, .logInCode port w t, .logRelease port w t, .restoreGo port k t, .restoreClose port t],
      ∃ s', exec c s = .next s' ∧ s'.dev.prec.count = s.dev.prec.count ∧
        s'.dev.get pLEDGER LEDGER.RESTORE_STAT_DONE = s.dev.get pLEDGER LEDGER.RESTORE_STAT_DONE ∧
        s'.dev.get pLEDGER LEDGER.TAMPER_STAT_CHANGED = s.dev.get pLEDGER LEDGER.TAMPER_STAT_CHANGED ∧
        s'.dev.prec.logLow = s.dev.prec.logLow ∧
        s'.dev.get pLEDGER LEDGER.SEAL_CNT_SEAL_DISCARDS =
          min 65535 (s.dev.get pLEDGER LEDGER.SEAL_CNT_SEAL_DISCARDS + 1) ∧
        s'.dev.flag pLEDGER LEDGER.IRQ_RAW_SEAL_DISCARD = true ∧ s'.dev.get pLEDGER LEDGER.FAULT_CODE_CAUSE = 1 ∧
        s'.dev.get pLEDGER LEDGER.FAULT_CODE_PORT = port ∧ { s'.dev with prec := s.dev.prec }.units = s.dev.units ∧
        s.memSame s') ∧
    (∀ (port : Fin 24) (k : Fin 8) (t : Nat) (s : State), s.dev.sealOk port = true → k.val < 6 →
      s.dev.prec.count.length = 6 → (s.dev.get pLEDGER LEDGER.RESTORE_STAT_DONE).testBit k = false →
      ∃ s', exec (.restoreGo port k t) s = .next s' ∧
        s'.dev.prec.count = s.dev.prec.count.set k (min (2 ^ 64 - 1) (s.dev.prec.count.getD k 0 +
          ((s.dev.wordAt pLEDGER LEDGER.RESTORE_LO 0).toNat +
            (s.dev.wordAt pLEDGER LEDGER.RESTORE_HI 0).toNat * 2 ^ 32))) ∧
        s'.dev.get pLEDGER LEDGER.RESTORE_STAT_DONE = s.dev.get pLEDGER LEDGER.RESTORE_STAT_DONE + 2 ^ k.val ∧
        { s'.dev with prec := s.dev.prec }.units = s.dev.units ∧ s.memSame s') ∧
    (∀ (port : Fin 24) (k : Fin 8) (t : Nat) (s : State), s.dev.sealOk port = true →
      k.val = 6 ∨ k.val < 6 ∧ (s.dev.get pLEDGER LEDGER.RESTORE_STAT_DONE).testBit k = true →
      ∃ s', exec (.restoreGo port k t) s = .next s' ∧ s.regsBut [] s' ∧ s'.dev.units = s.dev.units ∧ s.memSame s') ∧
    (∀ (port : Fin 24) (t : Nat) (s : State), s.dev.sealOk port = true →
      ∀ c ∈ [Instr.restoreClose port t, .restoreGo port 7 t],
      ∃ s', exec c s = .next s' ∧ s'.dev.get pLEDGER LEDGER.RESTORE_STAT_DONE = 0x3F ∧
        s.regsBut [LEDGER.RESTORE_STAT_DONE.addr pLEDGER 0] s' ∧ s'.dev.units = s.dev.units ∧ s.memSame s') ∧
    (∀ (port : Fin 24) (t : Nat) (s : State), s.dev.sealOk port = true →
      ∃ s', exec (.tamperAck port t) s = .next s' ∧
        (∀ k < 4, (s'.dev.get pLEDGER LEDGER.TAMPER_STAT_CHANGED).testBit k =
          ((s.dev.get pLEDGER LEDGER.TAMPER_STAT_CHANGED).testBit k && !s.dev.prec.tamperLogged.testBit k)) ∧
        s'.dev.prec = { s.dev.prec with tamperLogged := 0 } ∧
        s.regsBut [LEDGER.TAMPER_STAT_CHANGED.addr pLEDGER 0] s' ∧
        { s'.dev with prec := s.dev.prec }.units = s.dev.units ∧ s.memSame s') ∧
    (∀ (port : Fin 24) (w : Word) (t : Nat) (s : State), s.dev.sealOk port = true →
      ∃ s', exec (.logRelease port w t) s = .next s' ∧
        s'.dev.prec = { s.dev.prec with
          logLow := max s.dev.prec.logLow (min w.toNat (s.dev.get pLEDGER LEDGER.LOG_HEAD)) } ∧
        s.regsBut [LEDGER.LOG_STAT_USED.addr pLEDGER 0, LEDGER.STATUS_LOG_FULL.addr pLEDGER 0] s' ∧
        { s'.dev with prec := s.dev.prec }.units = s.dev.units ∧ s.memSame s') ∧
    ∀ (port : Fin 24) (w : Word) (t : Nat) (s : State), s.dev.sealOk port = true →
      (let permitted := w.toNat % 256 = 1 ∨ w.toNat % 256 = 9 ∨ 0x80 ≤ w.toNat % 256
       let head := s.dev.get pLEDGER LEDGER.LOG_HEAD
       ∃ s', exec (.logInCode port w t) s = .next s' ∧
        (permitted → s.dev.logUsed < 256 →
          (let e := s'.dev.prec.log.toArray.getD (head % 256) []
           e.length = 4 ∧ e.getD 0 0 = BitVec.ofNat 32 head ∧
           e.getD 1 0 = (if s.dev.bus.nt.locked then (ntWords (s.dev.bus.nt.taps t)).1 else BitVec.ofNat 32 (s.dev.lifeS t)) ∧
           e.getD 3 0 = s.dev.wordAt pLEDGER LEDGER.LOG_IN_DATA 0 ∧
           bitsGet (e.getD 2 0) 7 0 = w.toNat % 256 ∧ bitsGet (e.getD 2 0) 31 16 = w.toNat / 65536 ∧
           (∀ j < 256, j ≠ head % 256 → s'.dev.prec.log.toArray.getD j [] = s.dev.prec.log.toArray.getD j []) ∧
           s'.dev.get pLEDGER LEDGER.LOG_HEAD = (head + 1) % 2 ^ 32)) ∧
        (permitted → 256 ≤ s.dev.logUsed → s'.dev.prec.log = s.dev.prec.log ∧ s'.dev.get pLEDGER LEDGER.LOG_HEAD = head ∧
          s'.dev.get pLEDGER LEDGER.LOG_STAT_LOST = min 65535 (s.dev.get pLEDGER LEDGER.LOG_STAT_LOST + 1) ∧
          s'.dev.flag pLEDGER LEDGER.IRQ_RAW_LOG_FULL = true) ∧
        (¬permitted → s'.dev.prec = s.dev.prec ∧ s'.dev.get pLEDGER LEDGER.FAULT_CODE_CAUSE = 3 ∧
          s'.dev.get pLEDGER LEDGER.FAULT_CODE_PORT = port ∧ s.regsBut [LEDGER.FAULT_CODE_CAUSE.addr pLEDGER 0] s') ∧
        s'.dev.prec.count = s.dev.prec.count ∧ { s'.dev with prec := s.dev.prec }.units = s.dev.units ∧ s.memSame s')

/-- AC_FEED of the metering engine completes and is held behind those of the same sample, counters unchanged; of any
other port it is discarded, counted and reported with cause 0x2. Beyond FEED_TO_MS without an applied write FEED_LOST
clears FEED_OK and sets the interrupt bit. At the end of PERIOD_S seconds PLAUS_PERIOD_END sets PERIOD_DONE, counts
the period, writes d in whole kJ to PLAUS_LAST and sets PLAUS_FAIL exactly when the magnitude of d exceeds the band,
which it then reports and counts; the next period begins. A change of an enabled tamper input that has stood for 10 ms
counts in its byte, which saturates at 255, and sets its CHANGED bit; of a disabled one neither; one that has not
stood so long changes nothing. The energy counters, the other units and memory are as before. [R324; R327; R328; R334;
R335] -/
def Obligations.LedgerMetersAndTamper : Prop :=
  (∀ (port : Fin 24) (w : Word) (t : Nat) (s : State), port.val < 12 →
      port.val = s.dev.get pLEDGER LEDGER.LED_CFG_AC_ENG →
      ∃ s', exec (.acFeed port w t) s = .next s' ∧
        s'.dev.prec = { s.dev.prec with feed := s.dev.prec.feed ++ [(port.val, w.toInt)] } ∧
        { s'.dev with prec := s.dev.prec }.units = s.dev.units ∧ s.regsBut [] s' ∧ s.memSame s') ∧
    (∀ (port : Fin 24) (w : Word) (t : Nat) (s : State),
      12 ≤ port.val ∨ port.val ≠ s.dev.get pLEDGER LEDGER.LED_CFG_AC_ENG →
      ∃ s', exec (.acFeed port w t) s = .next s' ∧ s'.dev.units = s.dev.units ∧
        s'.dev.get pLEDGER LEDGER.SEAL_CNT_FEED_DISCARDS =
          min 65535 (s.dev.get pLEDGER LEDGER.SEAL_CNT_FEED_DISCARDS + 1) ∧
        s'.dev.get pLEDGER LEDGER.FAULT_CODE_CAUSE = 2 ∧ s'.dev.get pLEDGER LEDGER.FAULT_CODE_PORT = port ∧
        s.regsBut [LEDGER.SEAL_CNT_FEED_DISCARDS.addr pLEDGER 0, LEDGER.FAULT_CODE_CAUSE.addr pLEDGER 0] s' ∧
        s.memSame s') ∧
    (∀ (t a : Nat) (s : State), s.dev.flag pLEDGER LEDGER.STATUS_FEED_OK = true → s.dev.prec.feedAt = some a →
      a + 12800000 * s.dev.get pLEDGER LEDGER.LED_CFG_FEED_TO_MS ≤ t →
      ∃ s', exec (.feedLost t) s = .next s' ∧ s'.dev.flag pLEDGER LEDGER.STATUS_FEED_OK = false ∧
        s'.dev.flag pLEDGER LEDGER.IRQ_RAW_FEED_LOST = true ∧ s'.dev.prec.feedLost = true ∧
        s'.dev.prec.count = s.dev.prec.count ∧ { s'.dev with prec := s.dev.prec }.units = s.dev.units ∧ s.memSame s') ∧
    (∀ (t : Nat) (s : State), s.dev.prec.plausAt + s.dev.get pLEDGER LEDGER.PLAUS_CFG_PERIOD_S ≤ s.dev.lifeS t →
      ∃ s', exec (.plausPeriodEnd t) s = .next s' ∧
        (let g (k : Nat) : Int := (s.dev.prec.count.getD k 0 : Int) - s.dev.prec.plausBase.getD k 0
         let a := g 0 - g 1
         let tot := g 0 + g 1
         let dc := (g 2 + g 4) - (g 3 + g 5)
         let f (x : FieldSpec) : Int := s.dev.get pLEDGER x
         let d10000 := (dc - a) * 10000 - (tot * f LEDGER.PLAUS_CFG_LOSS_BP +
           f LEDGER.AUX_W_W * f LEDGER.PLAUS_CFG_PERIOD_S * 1000 * 10000)
         let band10000 := f LEDGER.BAND_CFG_BAND_FIX_KJ * 1000000 * 10000 + tot * f LEDGER.BAND_CFG_BAND_BP
         s'.dev.wordAt pLEDGER LEDGER.PLAUS_LAST 0 = BitVec.ofInt 32 (Int.tdiv d10000 10000000000) ∧
         (s'.dev.flag pLEDGER LEDGER.STATUS_PLAUS_FAIL = true ↔ band10000 < (d10000.natAbs : Int)) ∧
         (band10000 < (d10000.natAbs : Int) → s'.dev.flag pLEDGER LEDGER.IRQ_RAW_PLAUS_FAIL = true ∧
           s'.dev.get pLEDGER LEDGER.PLAUS_CNT_FAILS = min 65535 (s.dev.get pLEDGER LEDGER.PLAUS_CNT_FAILS + 1))) ∧
        s'.dev.flag pLEDGER LEDGER.IRQ_RAW_PERIOD_DONE = true ∧ s'.dev.prec.count = s.dev.prec.count ∧
        s'.dev.get pLEDGER LEDGER.PLAUS_CNT_PERIODS = min 65535 (s.dev.get pLEDGER LEDGER.PLAUS_CNT_PERIODS + 1) ∧
        s'.dev.prec.plausBase = s.dev.prec.count ∧
        s'.dev.prec.plausAt = s.dev.prec.plausAt + s.dev.get pLEDGER LEDGER.PLAUS_CFG_PERIOD_S ∧
        { s'.dev with prec := s.dev.prec }.units = s.dev.units ∧ s.memSame s') ∧
    ∀ (k : Fin 4) (since t : Nat) (high : Bool) (s : State), s.dev.prec.tamper.testBit k ≠ high →
      (let stood := since + 128000000 ≤ t
       let on := s.dev.bit pLEDGER LEDGER.TAMPER_CFG_EN k
       let byte (d : Dev) : Nat := d.get pLEDGER LEDGER.TAMPER_CNT / 256 ^ k.val % 256
       ∃ s', exec (.tamperChange k high since t) s = .next s' ∧
        (stood → s'.dev.prec.tamper.testBit k = high) ∧
        (stood → on = true → byte s'.dev = min 255 (byte s.dev + 1) ∧
          s'.dev.bit pLEDGER LEDGER.TAMPER_STAT_CHANGED k = true ∧
          (s.dev.boot.gauze = false → s'.dev.flag pLEDGER LEDGER.IRQ_RAW_TAMPER = true) ∧
          (∀ j < 4, j ≠ k.val → s'.dev.get pLEDGER LEDGER.TAMPER_CNT / 256 ^ j % 256 =
            s.dev.get pLEDGER LEDGER.TAMPER_CNT / 256 ^ j % 256)) ∧
        (stood → on = false → s'.dev.get pLEDGER LEDGER.TAMPER_CNT = s.dev.get pLEDGER LEDGER.TAMPER_CNT ∧
          s'.dev.get pLEDGER LEDGER.TAMPER_STAT_CHANGED = s.dev.get pLEDGER LEDGER.TAMPER_STAT_CHANGED ∧
          { s'.dev with prec := s.dev.prec }.units = s.dev.units) ∧
        (¬stood → s'.dev.units = s.dev.units ∧ s.regsSame s') ∧
        s'.dev.prec.count = s.dev.prec.count ∧ s'.dev.triad = s.dev.triad ∧ s.memSame s')

/-- In every state that meets the permit invariant, when a channel of an enabled input accepts a level that is not its
run level, held at the N samples of its filter, the command completes with run permission absent, internal legs-off
asserted and both pulse-inhibit outputs off, and the input demands stop; this holds for both channels and both kinds
of contact. [R344] -/
def Obligations.StopDemandWithdrawsPermissionAtOnce : Prop :=
  ∀ (i : Fin 8) (chanB high : Bool) (since ft t : Nat) (s : State), s.dev.safe.permitInv → s.dev.inEn i = true →
    since + 16 * (s.dev.getAt pSAFE SAFE.IN_CFG_FILT i + 1) ≤ ft + 1 →
    high = (if chanB then s.dev.flagAt pSAFE SAFE.IN_CFG_ANTIVALENT i else false) →
    (if chanB then (s.dev.safeIn i).b else (s.dev.safeIn i).a) ≠ high →
    ∃ s', exec (.safeInputAccepted i chanB high since ft t) s = .next s' ∧ s'.dev.safe.runPermit = false ∧
      s'.dev.safe.legsOff = true ∧ s'.dev.safe.pi0 = false ∧ s'.dev.safe.pi1 = false ∧ s'.dev.demands i = true ∧
      s'.dev.triad = s.dev.triad ∧ s.memSame s'

/-- In every state that meets the permit invariant: a discrepancy timer that has reached DISC_MS, an output pin that
differs from its command for more than 32 filter ticks, a timebase without an edge for 10 us under the armed monitor,
and a second consecutive window beyond 8 percent each complete with their cause added to the lock-outs in force, shown
and counted, permission absent, legs off and both outputs off. While a lock-out is in force FAULT_CODE keeps the first
one's cause. A readback fault names its output and channel. A pin that agrees, or has differed for 32 filter ticks at
most, is no fault; a first bad window is only remembered, and a good one ends the run of bad ones. [R345; R349; R351;
R352; R353] -/
def Obligations.LockoutsStopTheRun : Prop :=
  (∀ (i : Fin 8) (ft t : Nat) (tm : DiscTimer) (s : State), s.dev.safe.permitInv → (s.dev.safeIn i).timer = some tm →
      tm.start + s.dev.getAt pSAFE SAFE.IN_CFG_DISC_MS i * 32 ≤ ft →
      ∃ s', exec (.discrepancyFault i ft t) s = .next s' ∧ s.lockedOut (1, i.val) s' ∧ (s'.dev.safeIn i).timer = none) ∧
    (∀ (k : Fin 2) (chanB high : Bool) (ticks t : Nat) (s : State), s.dev.safe.permitInv →
      (let fault := high ≠ (if k = 0 then s.dev.safe.pi0 else s.dev.safe.pi1) ∧ 32 < ticks
       ∃ s', exec (.piReadbackFault k chanB high ticks t) s = .next s' ∧
        (fault → s.lockedOut (2, k.val) s' ∧
          (s.dev.safe.lockouts = [] → s'.dev.flag pSAFE SAFE.FAULT_CODE_CHANNEL = chanB)) ∧
        (¬fault → s'.dev.units = s.dev.units ∧ s.regsSame s' ∧ s.memSame s'))) ∧
    (∀ (last t : Nat) (s : State), s.dev.safe.permitInv → s.dev.safe.armed.isSome = true → last + 128000 ≤ t →
      ∃ s', exec (.stall last t) s = .next s' ∧ s.lockedOut (3, 0) s' ∧ s'.dev.safe.armed = none ∧
        s'.dev.flag pSAFE SAFE.IRQ_RAW_STALL = true) ∧
    ∀ (ticks t : Nat) (s : State), s.dev.safe.permitInv → s.dev.safe.armed.isSome = true →
      (let dev : Int := (ticks : Int) - 4000000
       let bad := 320000 < dev.natAbs
       ∃ s', exec (.oscWindow ticks t) s = .next s' ∧ s'.dev.safe.oscBad = decide bad ∧
        (dev.natAbs ≤ 320000 → s'.dev.get pSAFE SAFE.OSC_DEV = (BitVec.ofInt 16 (Int.tdiv dev 400)).toNat) ∧
        (bad → s.dev.safe.oscBad = true → s.lockedOut (4, 0) s') ∧
        (¬bad ∨ s.dev.safe.oscBad = false →
          s'.dev.safe = { s.dev.safe with oscBad := decide bad, oscOkSince := s'.dev.safe.oscOkSince } ∧
          s.regsBut [SAFE.OSC_DEV.addr pSAFE 0] s' ∧ { s'.dev with safe := s.dev.safe }.units = s.dev.units ∧
          s.memSame s'))

/-- With a lock-out in force, a pulse of 3,200 to 96,000 filter ticks (100 ms to 3 s) with every cause in force
cleared throughout completes: no lock-out and no LO_CAUSES bit remain, LOCKOUT_CLEARED is set, and no guard input is
tested any more. Any other accepted pulse leaves the lock-outs and is counted in RST_REJECTS; a level of fewer than 32
filter ticks is never accepted and changes nothing. SAFE_PERMIT asserted for 32 filter ticks is shown, and one held
for fewer changes nothing. Its release with LOCK open closes LOCK, makes the configuration count as written and is a
start; with LOCK closed it is shown. STALL_MONITOR_ARMED, after 100 us of running timebase, arms a monitor that is
neither armed nor held off by a halt or a core reset. [R339; R340; R351; R354; R356] -/
def Obligations.SafeResetNeedsAPulseAndClearedCauses : Prop :=
  (∀ (len fallAt t : Nat) (pinsLow : Bool) (s : State), s.dev.safe.lockouts ≠ [] → 3200 ≤ len → len ≤ 96000 →
      (∀ c ∈ s.dev.safe.lockouts, s.dev.causeCleared pinsLow fallAt c = true) →
      ∃ s', exec (.safeRstPulse len fallAt pinsLow t) s = .next s' ∧ s'.dev.safe.lockouts = [] ∧
        s'.dev.get pSAFE SAFE.STATUS_LO_CAUSES = 0 ∧ s'.dev.flag pSAFE SAFE.IRQ_RAW_LOCKOUT_CLEARED = true ∧
        s'.dev.safe.tested = 0 ∧ s'.dev.safe.configured = s.dev.safe.configured ∧ s'.dev.triad = s.dev.triad ∧ s.memSame s') ∧
    (∀ (len fallAt t : Nat) (pinsLow : Bool) (s : State), s.dev.safe.lockouts ≠ [] → 32 ≤ len →
      len < 3200 ∨ 96000 < len ∨ (∃ c ∈ s.dev.safe.lockouts, s.dev.causeCleared pinsLow fallAt c = false) →
      ∃ s', exec (.safeRstPulse len fallAt pinsLow t) s = .next s' ∧ s'.dev.units = s.dev.units ∧
        s'.dev.get pSAFE SAFE.CNT_RST_REJECTS = min 255 (s.dev.get pSAFE SAFE.CNT_RST_REJECTS + 1) ∧
        s'.dev.flag pSAFE SAFE.IRQ_RAW_RST_REJECTED = true ∧
        s.regsBut [SAFE.CNT_RST_REJECTS.addr pSAFE 0, SAFE.IRQ_RAW_RST_REJECTED.addr pSAFE 0] s' ∧ s.memSame s') ∧
    (∀ (len fallAt t : Nat) (pinsLow : Bool) (s : State), s.dev.safe.lockouts = [] ∨ len < 32 →
      ∃ s', exec (.safeRstPulse len fallAt pinsLow t) s = .next s' ∧ s'.dev.units = s.dev.units ∧ s.regsSame s' ∧
        s.memSame s') ∧
    (∀ (since ft t : Nat) (s : State), since + 32 ≤ ft + 1 →
      ∃ s', exec (.safePermitAsserted since ft t) s = .next s' ∧ s'.dev.safe = { s.dev.safe with permitPin := true } ∧
        s'.dev.flag pSAFE SAFE.STATUS_PERMIT_PIN = true ∧ { s'.dev with safe := s.dev.safe }.units = s.dev.units ∧
        s.regsBut [SAFE.STATUS_PERMIT_PIN.addr pSAFE 0, SAFE.IN_LEVEL_A.addr pSAFE 0] s' ∧ s.memSame s') ∧
    (∀ (since ft t : Nat) (s : State), ft + 1 < since + 32 →
      ∀ c ∈ [Instr.safePermitAsserted since ft t, .safePermitRelease since ft t],
      ∃ s', exec c s = .next s' ∧ s'.dev.units = s.dev.units ∧ s.regsSame s' ∧ s.memSame s') ∧
    (∀ (since ft t : Nat) (s : State), since + 32 ≤ ft + 1 →
      ∃ s', exec (.safePermitRelease since ft t) s = .next s' ∧ s'.dev.safe.permitPin = false ∧
        s'.dev.flag pSAFE SAFE.STATUS_PERMIT_PIN = false ∧ s'.dev.lockOpen pSAFE = false ∧
        (s.dev.lockOpen pSAFE = true → s'.dev.safe.configured = true ∧ s'.dev.safe.tested = 0) ∧
        (s.dev.lockOpen pSAFE = false → s'.dev.safe = { s.dev.safe with permitPin := false }) ∧
        s'.dev.triad = s.dev.triad ∧ s.memSame s') ∧
    ∀ (since t : Nat) (s : State), s.dev.safe.armed = none → s.dev.pw.halted = false → s.dev.safe.coreDown = false →
      since + 1280000 ≤ t → s.dev.safe.runFrom + 1280000 ≤ t →
      ∃ s', exec (.stallMonitorArmed since t) s = .next s' ∧ s'.dev.safe.armed = some t ∧ s'.dev.safe.halt = false ∧
        s'.dev.flag pSAFE SAFE.STATUS_STALL_ARMED = true ∧ s'.dev.triad = s.dev.triad ∧ s.memSame s'

/-- In a state whose permission and lock-outs agree with the conditions of R339, PI_ON of an enabled output turns that
output on and leaves the other; without permission or without the enable it changes neither output and sets
PI_REFUSED. PI_OFF turns its output off and leaves the other where permission stays. Each of the commands of Buckram,
run in a state in which absent permission means legs off and outputs off and present permission means legs released,
answers such a state. [R337; R339; R348; R355] -/
def Obligations.PulseInhibitTurnsOnByDeliberateWriteOnly : Prop :=
  (∀ (k : Fin 2) (t : Nat) (s : State), s.dev.safe.runPermit = true → s.dev.mayRun = true →
      s.dev.bit pSAFE SAFE.PI_CFG_EN k = true →
      ∃ s', exec (.piOn k t) s = .next s' ∧ s'.dev.safe.pi0 = (s.dev.safe.pi0 || k.val = 0) ∧
        s'.dev.safe.pi1 = (s.dev.safe.pi1 || k.val = 1) ∧ s'.dev.safe.runPermit = true ∧ s'.dev.triad = s.dev.triad ∧ s.memSame s') ∧
    (∀ (k : Fin 2) (t : Nat) (s : State),
      s.dev.safe.runPermit = false ∨ s.dev.bit pSAFE SAFE.PI_CFG_EN k = false →
      ∃ s', exec (.piOn k t) s = .next s' ∧ s'.dev.safe = s.dev.safe ∧ s'.dev.flag pSAFE SAFE.IRQ_RAW_PI_REFUSED = true ∧
        s.regsBut [SAFE.IRQ_RAW_PI_REFUSED.addr pSAFE 0] s' ∧
        { s'.dev with safe := s.dev.safe }.units = s.dev.units ∧ s.memSame s') ∧
    (∀ (k : Fin 2) (t : Nat) (s : State), s.dev.mayRun = s.dev.safe.runPermit →
      ∃ s', exec (.piOff k t) s = .next s' ∧ s'.dev.safe.pi0 = (s.dev.safe.pi0 && k.val ≠ 0) ∧
        s'.dev.safe.pi1 = (s.dev.safe.pi1 && k.val ≠ 1) ∧ s'.dev.safe.runPermit = s.dev.safe.runPermit ∧
        s'.dev.triad = s.dev.triad ∧ s.memSame s') ∧
    ∀ (i : Fin 8) (k : Fin 2) (b h : Bool) (since ft t len fall : Nat) (s s' : State), s.dev.safe.permitInv →
      ∀ c ∈ [Instr.safeInputAccepted i b h since ft t, .discrepancyFault i ft t, .piOn k t, .piOff k t,
        .piReadbackFault k b h len t, .stallMonitorArmed since t, .stall since t, .oscWindow len t, .safeRstPulse len fall b t,
        .safePermitRelease since ft t, .safePermitAsserted since ft t], exec c s = .next s' → s'.dev.safe.permitInv

/-- TX_REQ of a buffer that is EMPTY, EXPIRED, FAILED or ABORTED completes with it PENDING (PENDING_BUSOFF on a node
that is bus-off, HELD at shedding level 3 unless it is a slot buffer) and its expiry begun anew; of a buffer that is
ACTIVE, or waits and has not expired, it changes nothing. TX_ABORT of a buffer that waits makes it ABORTED, or EXPIRED
where its expiry has passed, and of an ACTIVE one lets the attempt end; ABORT_ALL does the same for all 64 buffers.
TX_EXPIRY of a waiting buffer whose EXP_MS has passed since its request makes it EXPIRED and counts it. The state of
every other buffer, the other units and memory are as before. [R372; R373; R374; R381; R397; R401] -/
def Obligations.TransmitBufferStates : Prop :=
  (∀ (n : Fin 64) (t : Nat) (s : State), s.dev.txCode n ∈ [txEMPTY, txEXPIRED, txFAILED, txABORTED] →
      ∃ s', exec (.txReq n t) s = .next s' ∧
        s'.dev.txCode n = (if s.dev.busOff then txBUSOFF else if s.dev.mp.shed = 3 ∧ s.dev.isSlot n = false then txHELD
          else txPENDING) ∧
        s'.dev.txBuf n = ⟨t, false, false, ((s.dev.txBuf n).seq + 1) % 256⟩ ∧
        (∀ m < 64, m ≠ n.val → s'.dev.txCode m = s.dev.txCode m ∧ s'.dev.txBuf m = s.dev.txBuf m) ∧
        { s'.dev with bus := s.dev.bus }.units = s.dev.units ∧
        s.regsBut [pBUF * 0x1000 + 0x200 + 4 * (n.val / 8)] s' ∧ s.memSame s') ∧
    (∀ (n : Fin 64) (t : Nat) (s : State), s.dev.txBusy n = true → s.dev.txCode n = txACTIVE ∨ s.dev.expired n t = false →
      ∃ s', exec (.txReq n t) s = .next s' ∧ s.regsBut [] s' ∧ s'.dev.units = s.dev.units ∧ s.memSame s') ∧
    (∀ (n : Fin 64) (t : Nat) (s : State), s.dev.txCode n ∈ [txPENDING, txBUSOFF, txHELD] →
      ∃ s', exec (.txAbort n t) s = .next s' ∧
        s'.dev.txCode n = (if s.dev.expired n t then txEXPIRED else txABORTED) ∧
        (∀ m < 64, m ≠ n.val → s'.dev.txCode m = s.dev.txCode m) ∧
        (s.dev.expired n t = false → s.regsBut [pBUF * 0x1000 + 0x200 + 4 * (n.val / 8)] s') ∧
        s'.dev.units = s.dev.units ∧ s.memSame s') ∧
    (∀ (n : Fin 64) (t : Nat) (s : State), s.dev.txCode n = txACTIVE →
      ∃ s', exec (.txAbort n t) s = .next s' ∧ s'.dev.txCode n = txACTIVE ∧
        s'.dev.txBuf n = { (s.dev.txBuf n) with abort := true } ∧ (∀ m < 64, m ≠ n.val → s'.dev.txBuf m = s.dev.txBuf m) ∧
        { s'.dev with bus := s.dev.bus }.units = s.dev.units ∧ s.regsBut [] s' ∧ s.memSame s') ∧
    (∀ (t : Nat) (s : State),
      ∃ s', exec (.abortAll t) s = .next s' ∧
        (∀ m < 64, s.dev.txCode m ∈ [txPENDING, txBUSOFF, txHELD] →
          s'.dev.txCode m = if s.dev.expired m t then txEXPIRED else txABORTED) ∧
        (∀ m < 64, s.dev.txCode m = txACTIVE → s'.dev.txCode m = txACTIVE ∧ (s'.dev.txBuf m).abort = true) ∧
        (∀ m < 64, s.dev.txBusy m = false → s'.dev.txCode m = s.dev.txCode m ∧ s'.dev.txBuf m = s.dev.txBuf m) ∧
        { s'.dev with bus := s.dev.bus }.units = s.dev.units ∧
        (∀ a, a / 0x1000 ≠ pBUF → a / 0x1000 ≠ pPBUS → a % 0x1000 ≠ 0x1C → s'.dev.reg a = s.dev.reg a) ∧ s.memSame s') ∧
    ∀ (n : Fin 64) (t : Nat) (s : State), s.dev.txCode n ∈ [txPENDING, txBUSOFF, txHELD] →
      0 < s.dev.getAt pBUF PBUS_BUF.TX_DESC_EXP_MS n → (s.dev.txBuf n).done = false →
      (s.dev.txBuf n).reqAt + s.dev.getAt pBUF PBUS_BUF.TX_DESC_EXP_MS n * 12800000 ≤ t →
      ∃ s', exec (.txExpiry n t) s = .next s' ∧ s'.dev.txCode n = txEXPIRED ∧
        s'.dev.flag pPBUS PBUS.IRQ_RAW_EXPIRED = true ∧
        s'.dev.get pPBUS PBUS.MISC_CNT_EXPIRED_CNT = min 255 (s.dev.get pPBUS PBUS.MISC_CNT_EXPIRED_CNT + 1) ∧
        s.regsBut [pBUF * 0x1000 + 0x200 + 4 * (n.val / 8), PBUS.IRQ_RAW_EXPIRED.addr pPBUS 0,
          PBUS.MISC_CNT_EXPIRED_CNT.addr pPBUS 0] s' ∧
        (∀ m < 64, m ≠ n.val → s'.dev.txCode m = s.dev.txCode m) ∧ s'.dev.units = s.dev.units ∧ s.memSame s'

/-- At a start opportunity of a node that may send and is not sending, after the expiries and flips that are due, the
pending arbitrating buffer chosen by R373 whose header is valid goes on the bus with its SOF at that instant and
becomes ACTIVE; where arbitration is lost it fails if one-shot, and waits again if neither aborted nor expired. A
buffer whose read fails keeps its state with cause 6; one whose header is invalid fails with cause 0xA. A chosen
buffer never is a slot buffer, is PENDING and fits its window, and no pending arbitrating buffer that fits has a lower
identifier. In an exclusive window of a node on the bus, with the bus idle, a PENDING slot buffer with a valid header
that fits is started as an exclusive attempt with its slot in the sequence field where SEQ_AUTO is set; in every other
case nothing is sent, TT_MISS is set and counted and the buffer keeps its state. Memory and the other buffers are as
before. [R363; R364; R373; R374; R375; R385; R386; R387; R388] -/
def Obligations.FramesStartUnderTheSchedule : Prop :=
  (∀ (readFail lost : Bool) (t n : Nat) (s : State), s.dev.busSends = true → s.dev.bus.cur = none →
      (let d := (s.dev.begin t).busDue t
       let f := s.dev.txFrame s.mem n
       d.pickBuf s.mem t = some n →
       ∃ s', exec (.pbStartOpportunity readFail lost t) s = .next s' ∧
        (readFail = false → headerOk f = true → lost = false → s'.dev.txCode n = txACTIVE ∧
          s'.dev.flag pPBUS PBUS.STATUS_TX_BUSY = true ∧
          ∃ x, s'.dev.bus.cur = some x ∧ x.buf = some n ∧ x.excl = false ∧ x.frame.data = f.data ∧ x.frame.ident = f.ident ∧
            x.frame.typ = f.typ ∧ x.frame.sof = t ∧ x.crc = headerCrc x.frame s.dev.drate ∧
            x.frame.seq = if s.dev.flagAt pBUF PBUS_BUF.TX_DESC_SEQ_AUTO n then (s.dev.txBuf n).seq else f.seq) ∧
        (readFail = false → headerOk f = true → lost = true → s'.dev.bus.cur = none ∧
          (s.dev.flagAt pBUF PBUS_BUF.TX_DESC_ONE_SHOT n = true → (s.dev.txBuf n).abort = false →
            s'.dev.txCode n = txFAILED ∧ s'.dev.flag pPBUS PBUS.IRQ_RAW_TX_FAIL = true) ∧
          (s.dev.flagAt pBUF PBUS_BUF.TX_DESC_ONE_SHOT n = false → (s.dev.txBuf n).abort = false →
            s'.dev.txCode n = if s.dev.mp.shed = 3 then txHELD else txPENDING)) ∧
        (readFail = true → s'.dev.bus.cur = none ∧ s'.dev.txCode n = txPENDING ∧
          s'.dev.flag pPBUS PBUS.IRQ_RAW_BUF_FAIL = true ∧ s'.dev.get pPBUS PBUS.FAULT_CODE_CAUSE = 6 ∧
          s'.dev.get pPBUS PBUS.FAULT_CODE_BUF = n) ∧
        (readFail = false → headerOk f = false → s'.dev.bus.cur = none ∧ s'.dev.txCode n = txFAILED ∧
          s'.dev.get pPBUS PBUS.FAULT_CODE_CAUSE = 0xA ∧ s'.dev.get pPBUS PBUS.FAULT_CODE_BUF = n) ∧
        (∀ m < 64, m ≠ n → s'.dev.txCode m = d.txCode m) ∧ { s'.dev with bus := s.dev.bus }.units = s.dev.units ∧
        s.memSame s')) ∧
    (∀ (t n : Nat) (d : Dev) (m : List Host.Cell), d.pickBuf m t = some n →
      (n < 64 ∧ d.txCode n = txPENDING ∧ d.isSlot n = false ∧ d.fits (d.txFrame m n).data.length t = true) ∧
        (∀ k < 64, d.txCode k = txPENDING → d.isSlot k = false → d.fits (d.txFrame m k).data.length t = true →
          (d.txFrame m n).ident ≤ (d.txFrame m k).ident ∧ ((d.txFrame m n).ident = (d.txFrame m k).ident → n ≤ k))) ∧
    ∀ (idle : Bool) (t j : Nat) (s : State), s.dev.flag pPBUS PBUS.CTRL_ON = true → s.dev.boot.bypass = false →
      s.dev.voile = false → s.dev.exclusiveAt t = some j →
      (let d := (s.dev.begin t).busDue t
       let n := entryBuf (s.dev.entry (s.dev.cycleNo t) j)
       let f := s.dev.txFrame s.mem n
       let free := s.dev.busSends = true ∧ s.dev.bus.cur = none ∧ idle = true ∧ d.txCode n = txPENDING ∧
         s.dev.colStarts.getD j 0 + tFit f.data.length s.dev.drate ≤ s.dev.colEnd j
       ∃ s', exec (.exclusiveWindow idle false false t) s = .next s' ∧
        (free → headerOk f = true → s'.dev.txCode n = txACTIVE ∧
          ∃ x, s'.dev.bus.cur = some x ∧ x.buf = some n ∧ x.excl = true ∧ x.frame.data = f.data ∧ x.frame.sof = t ∧
            (s.dev.flagAt pBUF PBUS_BUF.TX_DESC_SEQ_AUTO n = true → x.frame.seq = j + 32 * (s.dev.cycleNo t % 8))) ∧
        (free → headerOk f = false → s'.dev.bus.cur = none ∧ s'.dev.txCode n = txFAILED ∧
          s'.dev.get pPBUS PBUS.FAULT_CODE_CAUSE = 0xA) ∧
        (¬free → s'.dev.bus = d.bus ∧ s'.dev.txCode n = d.txCode n ∧
          s'.dev.flag pPBUS PBUS.IRQ_RAW_TT_MISS = true ∧
          s'.dev.get pPBUS PBUS.MISC_CNT_TT_MISS_CNT = min 255 (s.dev.get pPBUS PBUS.MISC_CNT_TT_MISS_CNT + 1)) ∧
        (∀ m < 64, m ≠ n → s'.dev.txCode m = d.txCode m) ∧ { s'.dev with bus := s.dev.bus }.units = s.dev.units ∧
        s.memSame s')

/-- A frame of buffer n sent without error empties the buffer at its end (leaves it PENDING with REPEAT on a node that
holds nothing), sets its TX_DONE bit and lowers TEC by one, not below 0; before its end nothing happens, and a REF
reports REF_TX_OK. A bit, stuff or form error while transmitting raises TEC by 8, at most to 256, and an
acknowledgement error does so only while the node is error-active; each acknowledgement error counts in ACK_RUN, any
other clears it; the buffer is ABORTED if aborted, EXPIRED if expired, FAILED if one-shot or exclusive without REPEAT,
else PENDING again, and a REF has failed; an error-active node drives a dominant error flag of six nominal bits. At
TEC 256 the node is bus-off and its requested buffers wait. An error found while receiving raises REC by one, at most
to 255, and the node drives its ACK bit and error flag; a Voile node does neither. After 16 acknowledgement errors
PB_ALONE sets ALONE. [R367; R368; R373; R374; R378; R379; R380; R381; R382; R391; R397] -/
def Obligations.TransmissionEndsAndErrorCounters : Prop :=
  (∀ (loop : BitVec 16) (t : Nat) (n : Fin 64) (x : Sending) (s : State), s.dev.bus.cur = some x → x.buf = some n.val →
      x.fin ≤ t → s.dev.get pPBUS PBUS.STATUS_ERR_STATE ≠ 2 → s.dev.get pPBUS PBUS.ERR_CNT_TEC ≤ 256 →
      (let again := s.dev.flagAt pBUF PBUS_BUF.TX_DESC_REPEAT n = true ∧ (s.dev.txBuf n).abort = false
       ∃ s', exec (.pbFrameTxDone loop t) s = .next s' ∧ s'.dev.bus.cur = none ∧
        s'.dev.get pPBUS PBUS.ERR_CNT_TEC = s.dev.get pPBUS PBUS.ERR_CNT_TEC - 1 ∧
        s'.dev.bit pBUF (if n.val < 32 then PBUS_BUF.TX_DONE0_DONE else PBUS_BUF.TX_DONE1_DONE) (n.val % 32) = true ∧
        s'.dev.get pPBUS PBUS.LOOP_DLY_TAPS = loop.toNat ∧ s'.dev.flag pPBUS PBUS.IRQ_RAW_TX_DONE = true ∧
        s'.dev.flag pPBUS PBUS.STATUS_TX_BUSY = false ∧ s'.dev.get pPBUS PBUS.ERR_STAT_ACK_RUN = 0 ∧
        (¬again → s'.dev.txCode n = txEMPTY) ∧ (again → s.dev.mp.shed ≠ 3 → s'.dev.txCode n = txPENDING) ∧
        (∀ m < 64, m ≠ n.val → s'.dev.txCode m = s.dev.txCode m ∧ s'.dev.txBuf m = s.dev.txBuf m) ∧
        { s'.dev with bus := s.dev.bus }.units = s.dev.units ∧ s.memSame s')) ∧
    (∀ (loop : BitVec 16) (t : Nat) (x : Sending) (s : State), s.dev.bus.cur = some x →
      ∃ s', exec (.pbFrameTxDone loop t) s = .next s' ∧
        (t < x.fin → s'.dev.units = s.dev.units ∧ s.regsSame s') ∧
        (x.fin ≤ t → x.buf = none → s'.dev.flag pTIME PBUS_TIME.IRQ_RAW_REF_TX_OK = true ∧ s'.dev.bus.cur = none) ∧
        s.memSame s') ∧
    (∀ (code : Fin 4) (t : Nat) (x : Sending) (s : State), s.dev.busHears = true → s.dev.voile = false →
      s.dev.bus.cur = some x → s.dev.get pPBUS PBUS.ERR_CNT_TEC ≤ 256 →
      (let tec := s.dev.get pPBUS PBUS.ERR_CNT_TEC
       let up := ¬(code = 3 ∧ s.dev.get pPBUS PBUS.STATUS_ERR_STATE ≠ 0)
       let st (n : Nat) : Nat := if (s.dev.txBuf n).abort then txABORTED else if s.dev.expired n t then txEXPIRED
         else if s.dev.flagAt pBUF PBUS_BUF.TX_DESC_ONE_SHOT n || (x.excl && !s.dev.flagAt pBUF PBUS_BUF.TX_DESC_REPEAT n)
         then txFAILED else txPENDING
       ∃ s', exec (.pbError code false none t) s = .next s' ∧ s'.dev.bus.cur = none ∧
        s'.dev.get pPBUS PBUS.ERR_CNT_TEC = (if up then min 256 (tec + 8) else tec) ∧
        s'.dev.get pPBUS PBUS.ERR_STAT_ACK_RUN =
          (if code = 3 then min 255 (s.dev.get pPBUS PBUS.ERR_STAT_ACK_RUN + 1) else 0) ∧
        s'.dev.get pPBUS PBUS.FAULT_CODE_CAUSE = (if code.val < 2 then code.val + 1 else code.val + 2) ∧
        s'.dev.flag pPBUS PBUS.FAULT_CODE_RX = false ∧
        s'.dev.bus.drove = (if s.dev.get pPBUS PBUS.STATUS_ERR_STATE = 0 then [(t, 76800)] else []) ∧
        (∀ n < 64, x.buf = some n → s.dev.mp.shed ≠ 3 → tec + 8 < 256 → s'.dev.txCode n = st n) ∧
        (∀ n < 64, x.buf ≠ some n → tec + 8 < 256 → s'.dev.txCode n = s.dev.txCode n) ∧
        (x.buf = none → s'.dev.flag pTIME PBUS_TIME.IRQ_RAW_REF_TX_FAIL = true ∧
          s'.dev.get pTIME PBUS_TIME.FAULT_CODE_CAUSE = 5) ∧
        (up → 256 ≤ tec + 8 → s'.dev.busOff = true ∧ s'.dev.flag pPBUS PBUS.IRQ_RAW_BUS_OFF = true ∧
          ∀ n < 64, x.buf ≠ some n → s'.dev.txCode n =
            if s.dev.txCode n ∈ [txPENDING, txACTIVE, txHELD] then txBUSOFF else s.dev.txCode n) ∧
        { s'.dev with bus := s.dev.bus }.units = s.dev.units ∧ s.memSame s')) ∧
    (∀ (code : Fin 4) (ack : Option Nat) (t : Nat) (s : State), s.dev.busHears = true → s.dev.bus.cur = none →
      ∃ s', exec (.pbError code true ack t) s = .next s' ∧
        (code = 3 → s'.dev.units = s.dev.units ∧ s.regsSame s') ∧
        (code ≠ 3 → s'.dev.get pPBUS PBUS.ERR_CNT_REC = (if s.dev.voile then s.dev.get pPBUS PBUS.ERR_CNT_REC
            else min 255 (s.dev.get pPBUS PBUS.ERR_CNT_REC + 1)) ∧
          s'.dev.get pPBUS PBUS.FAULT_CODE_CAUSE = (if code.val < 2 then code.val + 1 else code.val + 2) ∧
          s'.dev.flag pPBUS PBUS.FAULT_CODE_RX = true ∧
          s'.dev.bus.drove = (if s.dev.voile then [] else (ack.map (fun a => (a, 12800))).toList ++
            if s.dev.get pPBUS PBUS.STATUS_ERR_STATE = 0 then [(t, 76800)] else [])) ∧
        s'.dev.get pPBUS PBUS.ERR_CNT_TEC = s.dev.get pPBUS PBUS.ERR_CNT_TEC ∧
        { s'.dev with bus := s.dev.bus }.units = s.dev.units ∧ s.memSame s') ∧
    ∀ (t : Nat) (s : State), 16 ≤ s.dev.get pPBUS PBUS.ERR_STAT_ACK_RUN → s.dev.flag pPBUS PBUS.STATUS_ALONE = false →
      ∃ s', exec (.pbAlone t) s = .next s' ∧ s'.dev.flag pPBUS PBUS.STATUS_ALONE = true ∧
        s'.dev.flag pPBUS PBUS.IRQ_RAW_ALONE = true ∧
        s.regsBut [PBUS.STATUS_ALONE.addr pPBUS 0, PBUS.IRQ_RAW_ALONE.addr pPBUS 0] s' ∧
        s'.dev.units = s.dev.units ∧ s.memSame s'

/-- PB_ON with a valid DRATE sets ON with the node unsynchronised, and recessive bits count from then; with a reserved
DRATE ON stays 0 and FAULT_CODE takes cause 0x8; on a node that is on it changes nothing. PB_SYNCED, with 11 recessive
bits, of a node on the bus and out of recovery sets SYNCED, and during recovery counts an occurrence; with fewer it
changes nothing. PB_OFF clears ON and SYNCED and cuts the frame being sent. RECOVER on a bus-off node starts recovery,
and outside bus-off changes nothing. BUSOFF_RECOVERED, the 128th occurrence, makes the node error-active with both
counters 0, and each PENDING_BUSOFF buffer that has not expired PENDING on a node that holds nothing. The other units
and memory are as before. [R358; R359; R361; R381; R397; R398] -/
def Obligations.ControllerJoinsLeavesAndRecovers : Prop :=
  (∀ (t : Nat) (s : State), s.dev.flag pPBUS PBUS.CTRL_ON = false → s.dev.drate < 5 →
      ∃ s', exec (.pbOn t) s = .next s' ∧ s'.dev.flag pPBUS PBUS.CTRL_ON = true ∧
        s'.dev.flag pPBUS PBUS.STATUS_SYNCED = false ∧ s'.dev.flag pPBUS PBUS.STATUS_VOILE = s.dev.voile ∧
        s'.dev.bus = { s.dev.bus with joinAt := t } ∧ s.regsBut [PBUS.CTRL_ON.addr pPBUS 0, PBUS.STATUS_SYNCED.addr pPBUS 0] s' ∧
        { s'.dev with bus := s.dev.bus }.units = s.dev.units ∧ s.memSame s') ∧
    (∀ (t : Nat) (s : State), s.dev.flag pPBUS PBUS.CTRL_ON = false → 5 ≤ s.dev.drate →
      ∃ s', exec (.pbOn t) s = .next s' ∧ s'.dev.flag pPBUS PBUS.CTRL_ON = false ∧
        s'.dev.get pPBUS PBUS.FAULT_CODE_CAUSE = 8 ∧ s.regsBut [PBUS.FAULT_CODE_CAUSE.addr pPBUS 0] s' ∧
        s'.dev.units = s.dev.units ∧ s.memSame s') ∧
    (∀ (t : Nat) (s : State), s.dev.flag pPBUS PBUS.CTRL_ON = true →
      ∃ s', exec (.pbOn t) s = .next s' ∧ s.regsBut [] s' ∧ s'.dev.units = s.dev.units ∧ s.memSame s') ∧
    (∀ (t : Nat) (s : State), s.dev.flag pPBUS PBUS.CTRL_ON = true →
      ∃ s', exec (.pbOff t) s = .next s' ∧ s'.dev.flag pPBUS PBUS.CTRL_ON = false ∧
        s'.dev.flag pPBUS PBUS.STATUS_SYNCED = false ∧ s'.dev.bus.cur = none ∧
        s'.dev.bus.nt = { s.dev.bus.nt with
          sending := false, locked := s.dev.bus.nt.locked && s.dev.bus.nt.masterAt.isNone } ∧
        (∀ m < 64, s.dev.bus.cur.bind (·.buf) ≠ some m → s'.dev.txCode m = s.dev.txCode m) ∧
        { s'.dev with bus := s.dev.bus }.units = s.dev.units ∧ s.memSame s') ∧
    (∀ (since t : Nat) (s : State), s.dev.flag pPBUS PBUS.CTRL_ON = true → s.dev.boot.bypass = false →
      (let seen := since + 140800 ≤ t ∧ s.dev.bus.joinAt + 140800 ≤ t
       ∃ s', exec (.pbSynced since t) s = .next s' ∧
        (seen → s.dev.flag pPBUS PBUS.STATUS_RECOVERING = false → s'.dev.flag pPBUS PBUS.STATUS_SYNCED = true ∧
          s.regsBut [PBUS.STATUS_SYNCED.addr pPBUS 0] s') ∧
        (seen → s.dev.flag pPBUS PBUS.STATUS_RECOVERING = true → s'.dev.get pPBUS PBUS.ERR_STAT_BUSOFF_RCV =
          min 127 (s.dev.get pPBUS PBUS.ERR_STAT_BUSOFF_RCV + 1) ∧ s.regsBut [PBUS.ERR_STAT_BUSOFF_RCV.addr pPBUS 0] s') ∧
        (seen → s'.dev.bus = { s.dev.bus with joinAt := t }) ∧ (¬seen → s'.dev.bus = s.dev.bus ∧ s.regsSame s') ∧
        { s'.dev with bus := s.dev.bus }.units = s.dev.units ∧ s.memSame s')) ∧
    (∀ (t : Nat) (s : State), s.dev.busOff = true → s.dev.flag pPBUS PBUS.STATUS_RECOVERING = false →
      ∃ s', exec (.recover t) s = .next s' ∧ s'.dev.flag pPBUS PBUS.STATUS_RECOVERING = true ∧ s'.dev.busOff = true ∧
        s'.dev.bus = { s.dev.bus with joinAt := t } ∧ s'.dev.get pPBUS PBUS.ERR_STAT_BUSOFF_RCV = 0 ∧
        { s'.dev with bus := s.dev.bus }.units = s.dev.units ∧ s.memSame s') ∧
    (∀ (t : Nat) (s : State), s.dev.busOff = false →
      ∃ s', exec (.recover t) s = .next s' ∧ s.regsBut [] s' ∧ s'.dev.units = s.dev.units ∧ s.memSame s') ∧
    ∀ (since t : Nat) (s : State), s.dev.busOff = true → s.dev.flag pPBUS PBUS.STATUS_RECOVERING = true →
      127 ≤ s.dev.get pPBUS PBUS.ERR_STAT_BUSOFF_RCV → s.dev.flag pPBUS PBUS.CTRL_ON = true → s.dev.boot.bypass = false →
      since + 140800 ≤ t → s.dev.bus.joinAt + 140800 ≤ t →
      ∃ s', exec (.busoffRecovered since t) s = .next s' ∧ s'.dev.get pPBUS PBUS.STATUS_ERR_STATE = 0 ∧
        s'.dev.get pPBUS PBUS.ERR_CNT_TEC = 0 ∧ s'.dev.get pPBUS PBUS.ERR_CNT_REC = 0 ∧
        s'.dev.flag pPBUS PBUS.STATUS_RECOVERING = false ∧ s'.dev.flag pPBUS PBUS.IRQ_RAW_ERR_ACTIVE = true ∧
        (∀ m < 64, s.dev.txCode m = txBUSOFF → s.dev.expired m t = false → s.dev.mp.shed ≠ 3 →
          s'.dev.txCode m = txPENDING) ∧
        (∀ m < 64, s.dev.txCode m ≠ txBUSOFF → s.dev.expired m t = false ∨ s.dev.txBusy m = false →
          s'.dev.txCode m = s.dev.txCode m) ∧
        { s'.dev with bus := s.dev.bus }.units = s.dev.units ∧ s.memSame s'

/-- On a node that hears and is not sending, a frame whose header CRC agrees is acknowledged in its ACK slot, by a
Voile node not, and counted; addressed here and with buffer n, its bytes are issued through port 0x16 for the inactive
half, in blocks of up to 64 bytes, and with the last block written the half is marked; with both halves unread, or a
frame on its way there, memory is unchanged, the newer frame is dropped and counted. A frame for another unit is not
stored, one that matches no buffer goes to MP or is counted, and one whose header CRC differs is a receive error with
cause 3 and stored nowhere. RX_BUFFER_FLIP of a buffer with a full shadow and no full active half, kept from MP, turns
the halves and sets FULL and RX_NEW; a frame for MP goes to its queue instead. RX_RELEASE, after a flip that is due,
clears FULL, OVR and RX_NEW, and leaves memory and the other buffers. [R363; R367; R368; R369; R370; R371; R376; R377;
R382; R401] -/
def Obligations.ReceivedFramesReachOneHalf : Prop :=
  (∀ (typ : Fin 8) (ident : BitVec 29) (seq : BitVec 8) (data : List (BitVec 8)) (crc : BitVec 17) (sof t : Nat) (s : State),
      s.dev.busHears = true → s.dev.bus.cur = none → typ.val < 3 →
      (typ.val = 0 → ident.toNat % 64 < 0x34 ∨ ident.toNat % 64 = 0x3F) →
      (let f : BusFrame := ⟨typ.val, ident.toNat, seq.toNat, data.take 64, sof⟩
       let good := crc.toNat = headerCrc f s.dev.drate
       ∃ s', exec (.pbFrameRx typ ident seq data crc sof t) s = .next s' ∧ s.memSame s' ∧
        (good → s'.dev.flag pPBUS PBUS.IRQ_RAW_RX_DONE = true ∧
          s'.dev.bus.drove = if s.dev.voile then [] else [(t - 115200, 12800)]) ∧
        (∀ n, good → s.dev.addressed f = true → s.dev.rxMatch f = some n → (s.dev.rxCode n).testBit 2 = false →
          (∀ w ∈ s.dev.bus.rxWrites, w.buf ≠ n) →
          (let a := rxAddr n (!(s.dev.rxCode n).testBit 1)
           let bs := halfBytes f
           let block (o : Nat) (xs : List Byte) : Option Tx :=
             some ⟨some xs, a + o, xs.length, t, s.dev.felt.issued + o / 64, s.dev.felt.issued + o / 64, 0, false, none, [], none⟩
           s'.dev.bus.rxWrites = ⟨n, if 64 < bs.length then 2 else 1, f⟩ :: s.dev.bus.rxWrites ∧
           s'.dev.rxCode n = s.dev.rxCode n ∧
           (∀ k, s.dev.tagFor 0x16 = some k → s'.dev.tag k = block 0 (bs.take 64)) ∧
           (64 < bs.length → s.dev.tag 44 = none → s.dev.tag 45 = none → s'.dev.tag 45 = block 64 (bs.drop 64)) ∧
           (s.dev.tagFor 0x16 = none → ⟨0x16, some (bs.take 64), a, 64⟩ ∈ s'.dev.felt.queue) ∧
           (64 < bs.length → s.dev.tagFor 0x16 = none ∨ s.dev.tag 44 ≠ none ∨ s.dev.tag 45 ≠ none →
             ⟨0x16, some (bs.drop 64), a + 64, 64⟩ ∈ s'.dev.felt.queue))) ∧
        (∀ n, good → s.dev.addressed f = true → s.dev.rxMatch f = some n →
          (s.dev.rxCode n).testBit 2 = true ∧ (s.dev.rxCode n).testBit 0 = true ∨
            (s.dev.rxCode n).testBit 2 = false ∧ (∃ w ∈ s.dev.bus.rxWrites, w.buf = n) →
          (s'.dev.rxCode n).testBit 3 = true ∧ s'.dev.rxCode n % 8 = s.dev.rxCode n % 8 ∧
          s'.dev.flag pPBUS PBUS.IRQ_RAW_RX_OVR = true ∧ s'.dev.felt = s.dev.felt ∧
          s'.dev.bus.rxWrites = s.dev.bus.rxWrites ∧
          s'.dev.get pPBUS PBUS.MISC_CNT_RX_OVR_CNT = min 255 (s.dev.get pPBUS PBUS.MISC_CNT_RX_OVR_CNT + 1)) ∧
        (good → s.dev.addressed f = false → s'.dev.felt = s.dev.felt ∧ s'.dev.bus.queue = s.dev.bus.queue ∧
          ∀ m < 64, s'.dev.rxCode m = s.dev.rxCode m) ∧
        (good → s.dev.addressed f = true → s.dev.rxMatch f = none → s'.dev.felt = s.dev.felt ∧
          (s.dev.flag pPBUS PBUS.PB_CFG_UNMATCHED_TO_MP = true → s.dev.bus.queue.length < 64 →
            s'.dev.bus.queue = s.dev.bus.queue ++ [f]) ∧
          (s.dev.flag pPBUS PBUS.PB_CFG_UNMATCHED_TO_MP = false → s'.dev.flag pPBUS PBUS.IRQ_RAW_RX_NOMATCH = true)) ∧
        (¬good → s'.dev.get pPBUS PBUS.FAULT_CODE_CAUSE = 3 ∧ s'.dev.flag pPBUS PBUS.FAULT_CODE_RX = true ∧
          (s.dev.voile = false → s'.dev.get pPBUS PBUS.ERR_CNT_REC = min 255 (s.dev.get pPBUS PBUS.ERR_CNT_REC + 1)) ∧
          s'.dev.felt = s.dev.felt ∧ s'.dev.bus.queue = s.dev.bus.queue ∧ ∀ m < 64, s'.dev.rxCode m = s.dev.rxCode m) ∧
        (∀ m < 64, s.dev.rxMatch f ≠ some m → s'.dev.rxCode m = s.dev.rxCode m) ∧
        { s'.dev with bus := s.dev.bus, felt := s.dev.felt }.units = s.dev.units)) ∧
    (∀ (k : Fin 48) (t n : Nat) (x : Tx) (bs : List Byte) (w : RxWrite) (s : State), s.dev.tag k = some x → x.data = some bs →
      s.dev.handshakeDue k x = true → x.progress + 1 = x.units.length → rxPlace (k / 2) x.addr = some n →
      s.dev.bus.rxWrites.find? (fun y => decide (y.buf = n)) = some w → n < 64 →
      ∃ s', exec (.feltHandshake k false t) s = .next s' ∧
        (w.left ≤ 1 → (s'.dev.rxCode n).testBit 2 = true ∧ (n, w.frame) ∈ s'.dev.bus.rxShadow ∧
          ∀ y ∈ s'.dev.bus.rxWrites, y.buf ≠ n) ∧
        (1 < w.left → s'.dev.rxCode n = s.dev.rxCode n ∧ { w with left := w.left - 1 } ∈ s'.dev.bus.rxWrites)) ∧
    (∀ (n : Fin 64) (t : Nat) (s : State), (s.dev.rxCode n).testBit 2 = true → (s.dev.rxCode n).testBit 0 = false →
      (let mp := s.dev.flagAt pBUF PBUS_BUF.RX_CFG_TO_MP n
       ∃ s', exec (.rxBufferFlip n t) s = .next s' ∧
        (mp = false → (s'.dev.rxCode n).testBit 0 = true ∧ s'.dev.bus.queue = s.dev.bus.queue ∧
          s'.dev.bit pBUF (if n.val < 32 then PBUS_BUF.RX_NEW0_NEW else PBUS_BUF.RX_NEW1_NEW) (n.val % 32) = true) ∧
        (mp = true → (s'.dev.rxCode n).testBit 0 = false ∧ ∀ f, s.dev.bus.rxShadow.find? (fun x => decide (x.1 = n.val)) = some f →
          s.dev.bus.queue.length < 64 → s'.dev.bus.queue = s.dev.bus.queue ++ [f.2]) ∧
        (s'.dev.rxCode n).testBit 1 = !(s.dev.rxCode n).testBit 1 ∧ (s'.dev.rxCode n).testBit 2 = false ∧
        (∀ m < 64, m ≠ n.val → s'.dev.rxCode m = s.dev.rxCode m) ∧
        { s'.dev with bus := s.dev.bus }.units = s.dev.units ∧ s.memSame s')) ∧
    ∀ (n : Fin 64) (t : Nat) (s : State),
      (let d := (s.dev.begin t).rxFlip n
       ∃ s', exec (.rxRelease n t) s = .next s' ∧ (s'.dev.rxCode n).testBit 0 = false ∧
        (s'.dev.rxCode n).testBit 3 = false ∧ (s'.dev.rxCode n).testBit 1 = (d.rxCode n).testBit 1 ∧
        (s'.dev.rxCode n).testBit 2 = (d.rxCode n).testBit 2 ∧
        s'.dev.bit pBUF (if n.val < 32 then PBUS_BUF.RX_NEW0_NEW else PBUS_BUF.RX_NEW1_NEW) (n.val % 32) = false ∧
        (∀ m < 64, m ≠ n.val → s'.dev.rxCode m = s.dev.rxCode m) ∧ s'.dev.units = d.units ∧ s.memSame s')

/-- On a unit with network time and no MASTER, a REF of length 8 that passes R392 is counted, sets the rate to the
clamped r + e / (8 T_cyc) and holds e / 2 to be applied over the following cycle; a REF beyond STEP_THR leaves network
time as it was and is rejected with cause 0x2, and one whose header CRC differs is a receive error. LOCK_N good REFs
gain the lock, MISS_N missed cycles lose it into holdover. NT_STEP after three rejected REFs whose offsets agree sets
network time by the third and loses the lock. MASTER makes the unit master with rate 0 and a valid network time, and
its clearing ends that. SET on the master waits for the boundary, elsewhere it is ignored with cause 0x3. A cycle
boundary shows the cycle number, counts a cycle without an accepted REF, applies a SET on the master, and has a master
that may send put a REF with the cycle number on an idle bus; where a latched schedule applies, that set is the active
one; elsewhere than at a boundary the command changes nothing. A commit of the schedule that passes its checks latches
the whole shadow set, and one that fails them is refused with cause and entry. [R363; R384; R389; R391; R392; R393;
R394; R396; R399; R400] -/
def Obligations.NetworkTimeFollowsTheMaster : Prop :=
  (∀ (ident : BitVec 29) (seq : BitVec 8) (data : List (BitVec 8)) (crc : BitVec 17) (sof t : Nat) (s : State),
      s.dev.busHears = true → s.dev.bus.cur = none → s.dev.bus.nt.masterAt = none → s.dev.bus.nt.valid = true →
      (data.take 64).length = 8 →
      (let f : BusFrame := ⟨3, ident.toNat, seq.toNat, data.take 64, sof⟩
       let good := crc.toNat = headerCrc f s.dev.drate
       let r := ((dataWord f 0).toNat * 400000000 + (dataWord f 4).toNat) * 32
       let e : Int := (r : Int) + s.dev.get pTIME PBUS_TIME.PROP_DLY_TAPS - s.dev.bus.nt.tapsI sof
       let thr := s.dev.get pTIME PBUS_TIME.STEP_THR_TAPS
       let ok := (dataWord f 4).toNat < 400000000 ∧ r % (s.dev.cycle * 32) = 0 ∧ seq.toNat = r / (s.dev.cycle * 32) % 64
       ∃ s', exec (.refRx ident seq data crc sof t) s = .next s' ∧
        (good → ok → e.natAbs ≤ thr → s'.dev.bus.nt.rate = max (-200000) (min 200000 (s.dev.bus.nt.rate + e * 1000000000 /
            (8 * ((s.dev.cycle : Int) * 32)))) ∧
          s'.dev.bus.nt.slew = e * 500000000 ∧ s'.dev.bus.nt.slewLen = s.dev.cycle * 32 ∧
          s'.dev.bus.nt.nano t = s.dev.bus.nt.nano t ∧ s'.dev.bus.nt.seen = true ∧
          s'.dev.get pTIME PBUS_TIME.REF_CNT_ACCEPTED = (s.dev.get pTIME PBUS_TIME.REF_CNT_ACCEPTED + 1) % 65536) ∧
        (good → ok → thr < e.natAbs → (∀ u, s'.dev.bus.nt.nano u = s.dev.bus.nt.nano u) ∧
          s'.dev.flag pTIME PBUS_TIME.IRQ_RAW_REF_REJECT = true ∧ s'.dev.get pTIME PBUS_TIME.FAULT_CODE_CAUSE = 2) ∧
        (¬good → s'.dev.bus.nt = s.dev.bus.nt ∧ s'.dev.get pPBUS PBUS.FAULT_CODE_CAUSE = 3 ∧
          s'.dev.flag pPBUS PBUS.FAULT_CODE_RX = true) ∧
        { s'.dev with bus := s.dev.bus }.units = s.dev.units ∧ s.memSame s')) ∧
    (∀ (t : Nat) (s : State), s.dev.bus.nt.masterAt = none → s.dev.bus.nt.locked = false →
      max 1 (s.dev.get pTIME PBUS_TIME.NT_CFG_LOCK_N) ≤ s.dev.bus.nt.good →
      ∃ s', exec (.ntLockGained t) s = .next s' ∧ s'.dev.bus.nt.locked = true ∧
        s'.dev.flag pTIME PBUS_TIME.STATUS_LOCKED = true ∧ s'.dev.flag pTIME PBUS_TIME.IRQ_RAW_LOCK_GAINED = true ∧
        { s'.dev with bus := s.dev.bus }.units = s.dev.units ∧ s.memSame s') ∧
    (∀ (t : Nat) (s : State), s.dev.bus.nt.masterAt = none → s.dev.bus.nt.locked = true →
      s.dev.get pTIME PBUS_TIME.NT_CFG_MISS_N ≤ s.dev.bus.nt.missed →
      ∃ s', exec (.ntLockLost t) s = .next s' ∧ s'.dev.bus.nt.locked = false ∧
        s'.dev.bus.nt.holdover = s.dev.bus.nt.valid ∧ s'.dev.bus.nt.rate = s.dev.bus.nt.rate ∧
        s'.dev.flag pTIME PBUS_TIME.IRQ_RAW_LOCK_LOST = true ∧
        { s'.dev with bus := s.dev.bus }.units = s.dev.units ∧ s.memSame s') ∧
    (∀ (t : Nat) (a b c : Int) (s : State), s.dev.bus.nt.rejects = [a, b, c] →
      (∀ x ∈ [a, b, c], ∀ y ∈ [a, b, c], x - y ≤ (s.dev.get pTIME PBUS_TIME.LOCK_ERR_TAPS : Int)) →
      ∃ s', exec (.ntStep t) s = .next s' ∧ s'.dev.bus.nt.nano t = ((t : Int) + a) * 1000000000 ∧
        s'.dev.bus.nt.locked = false ∧ s'.dev.flag pTIME PBUS_TIME.IRQ_RAW_STEP = true ∧
        { s'.dev with bus := s.dev.bus }.units = s.dev.units ∧ s.memSame s') ∧
    (∀ (t : Nat) (s : State), s.dev.bus.nt.masterAt = none →
      ∃ s', exec (.master true t) s = .next s' ∧ s'.dev.flag pTIME PBUS_TIME.CTRL_MASTER = true ∧
        s'.dev.bus.nt.masterAt = some t ∧ s'.dev.bus.nt.valid = true ∧ s'.dev.bus.nt.rate = 0 ∧
        { s'.dev with bus := s.dev.bus }.units = s.dev.units ∧ s.memSame s') ∧
    (∀ (t : Nat) (s : State), s.dev.bus.nt.masterAt.isSome = true →
      ∃ s', exec (.master false t) s = .next s' ∧ s'.dev.flag pTIME PBUS_TIME.CTRL_MASTER = false ∧
        s'.dev.bus.nt.masterAt = none ∧ s'.dev.bus.nt.locked = false ∧
        { s'.dev with bus := s.dev.bus }.units = s.dev.units ∧ s.memSame s') ∧
    (∀ (t : Nat) (s : State),
      ∃ s', exec (.set t) s = .next s' ∧
        (s.dev.bus.nt.masterAt.isSome = true → s'.dev.bus.nt = { s.dev.bus.nt with setPend := true } ∧ s.regsBut [] s') ∧
        (s.dev.bus.nt.masterAt = none → s'.dev.bus = s.dev.bus ∧ s'.dev.get pTIME PBUS_TIME.FAULT_CODE_CAUSE = 3) ∧
        s.memSame s') ∧
    (∀ (idle lost : Bool) (t : Nat) (s : State), s.dev.ntCross 0 t = true →
      (let n := s.dev.bus.nt
       ∃ s', exec (.cycleBoundary idle lost t) s = .next s' ∧
        (n.setPend = false → s'.dev.get pTIME PBUS_TIME.CYCLE_NO = s.dev.cycleNo t) ∧
        (n.masterAt = none → s'.dev.bus.nt = { n with missed := if n.seen then 0 else n.missed + 1, seen := false }) ∧
        (n.masterAt.isSome = true → n.setPend = true → s'.dev.flag pTIME PBUS_TIME.IRQ_RAW_SET_DONE = true ∧
          s'.dev.bus.nt.nano t = (ntOfWords (s.dev.wordAt pTIME PBUS_TIME.NT_SET_LO 0)
            (s.dev.wordAt pTIME PBUS_TIME.NT_SET_HI 0) : Int) * 1000000000 ∧ s'.dev.bus.nt.setPend = false) ∧
        (∀ a, n.masterAt = some a → a + 128000 ≤ t → s.dev.busSends = true → s.dev.bus.cur = none → idle = true →
          lost = false → s'.dev.bus.nt.sending = true ∧ s'.dev.bus.nt.locked = true ∧
          ∃ x, s'.dev.bus.cur = some x ∧ x.buf = none ∧ x.frame.typ = 3 ∧ x.frame.sof = t ∧
            (n.setPend = false → x.frame.seq = s.dev.cycleNo t)) ∧
        (∀ l, n.setPend = false → s.dev.bus.latch = some l → s.dev.cycleNo t = 0 → l.latchedAt + 128000 ≤ t →
          s'.dev.bus.latch = none ∧ s'.dev.bus.active = l.entries ∧
          s'.dev.flag pSCHED PBUS_SCHED.IRQ_RAW_COMMIT_DONE = true ∧
          s'.dev.flag pSCHED PBUS_SCHED.STATUS_COMMIT_PENDING = false) ∧
        { s'.dev with bus := s.dev.bus, triad := s.dev.triad }.units = s.dev.units ∧ s.memSame s')) ∧
    (∀ (idle lost : Bool) (t : Nat) (s : State), s.dev.ntCross 0 t = false →
      ∃ s', exec (.cycleBoundary idle lost t) s = .next s' ∧ s'.dev.units = s.dev.units ∧ s.regsSame s' ∧ s.memSame s') ∧
    ∀ (t : Nat) (s : State),
      ∃ s', exec (.pbusSchedCommit t) s = .next s' ∧
        (s.dev.schedRefusal = none → s'.dev.bus = { s.dev.bus with
            latch := some ⟨(List.range 23).map (fun j => s.dev.getAt pSCHED PBUS_SCHED.COL_START_TICKS j),
              s.dev.bus.shadow, t⟩ } ∧
          s'.dev.flag pSCHED PBUS_SCHED.STATUS_COMMIT_PENDING = true ∧
          s.regsBut [PBUS_SCHED.STATUS_COMMIT_PENDING.addr pSCHED 0] s') ∧
        (∀ c e, s.dev.schedRefusal = some (c, e) → s'.dev.bus = s.dev.bus ∧
          s'.dev.flag pSCHED PBUS_SCHED.IRQ_RAW_COMMIT_REFUSED = true ∧ s'.dev.get pSCHED PBUS_SCHED.FAULT_CODE_CAUSE = c ∧
          s'.dev.get pSCHED PBUS_SCHED.FAULT_CODE_ENTRY = e) ∧
        { s'.dev with bus := s.dev.bus }.units = s.dev.units ∧ s.memSame s'

/-- A link that has received 256 clean characters is up; after a loss it holds eight credits and restarts its
sequences, after a change of rate it goes on where it stood; one that has received nothing for 100 us is lost and
holds none: an upstream loss makes an orphan, a downstream one counts a break and answers every waiting request with
status 4. A quiet link sends a keep-alive. ACK releases the frames up to the named one with their credit, NAK
retransmits from it, and the sixteenth time loses the link. RATE trains again. A whole frame in sequence with a good
header and room is buffered, and acknowledged with its credit when its buffer is free again; any other is refused by
NAK and counted; a command of unknown code is answered with status 6. A frame leaves only against a credit, the lower
class first; a request beyond the end is answered in its place. CLOSE_DN, CLR_CNT, MAIL, the backlogs and the
interrupt request act as their rules say. Every other unit, every register off the pages named, and memory are
unchanged. [R402; R403; R404; R405; R409; R410; R411; R414; R425; R430; R274; R418] -/
def Obligations.LinksCarryFramesWithCredit : Prop :=
  (∀ (up : Bool) (chars t : Nat) (s : State),
      ∃ s', exec (.linkUp up chars t) s = .next s' ∧ s.chainOnly s' ∧
        ((s.dev.port up).alive = true → (s.dev.port up).link = 1 → 256 ≤ chars →
          { s'.dev.port up with ackHeld := none, lastSet := (0, 0), lastTx := 0 } =
            { s.dev.port up with link := 2, lastRx := t, ackHeld := none, lastSet := (0, 0), lastTx := 0 } ∧
          s'.dev.port (!up) = s.dev.port (!up) ∧ s'.dev.isEnd = s.dev.isEnd) ∧
        ((s.dev.port up).alive = false → (s.dev.port up).link ≠ 3 → 256 ≤ chars →
          (s'.dev.port up).link = 2 ∧ (s'.dev.port up).credit = 8 ∧ (s'.dev.port up).txSeq = 0 ∧
          (s'.dev.port up).rxSeq = 0 ∧ (s'.dev.port up).unacked = [] ∧
          (up = true → s'.dev.flag pCHAIN CHAIN.STATUS_ORPHAN = false) ∧
          (up = false → s'.dev.chain.broken = false ∧ s'.dev.flag pCHAIN CHAIN.STATUS_END = false ∧
            (s.dev.chain.broken = true → s'.dev.flag pCHAIN CHAIN.IRQ_RAW_DN_HEALED = true ∧
              s'.dev.get pCHAIN CHAIN.BREAKS_HEALS = min 255 (s.dev.get pCHAIN CHAIN.BREAKS_HEALS + 1)))) ∧
        ((s.dev.port up).link = 2 ∨ (s.dev.port up).link = 3 ∨ chars < 256 →
          s'.dev.units = s.dev.units ∧ s.regsSame s')) ∧
    (∀ (up : Bool) (ka t : Nat) (s : State),
      ∃ s', exec (.linkLost up ka t) s = .next s' ∧ s.chainOnly s' ∧
        ((s.dev.port up).alive = true → (s.dev.port up).lastRx + 1280000 ≤ t → ka + 1280000 ≤ t →
          (s'.dev.port up).link = 0 ∧ (s'.dev.port up).credit = 0 ∧ (s'.dev.port up).unacked = [] ∧
          s'.dev.get pCHAIN CHAIN.FAULT_CODE_CAUSE = (if up then 2 else 1) ∧
          (up = true → s'.dev.flag pCHAIN CHAIN.STATUS_ORPHAN = true ∧ s'.dev.flag pCHAIN CHAIN.IRQ_RAW_UP_LOST = true ∧
            s'.dev.chain.dn = s.dev.chain.dn) ∧
          (up = false → s'.dev.chain.broken = true ∧ s'.dev.flag pCHAIN CHAIN.IRQ_RAW_DN_BREAK = true ∧
            s'.dev.get pCHAIN CHAIN.BREAKS_BREAKS = min 255 (s.dev.get pCHAIN CHAIN.BREAKS_BREAKS + 1) ∧
            s'.dev.isEnd = s.dev.addressed' ∧
            ∀ f ∈ s.dev.chain.dn.unacked.map (fun u => u.frame) ++ s.dev.chain.dn.out, f.request = true →
              s.dev.respond f.typ f.w1 f.tag 4 [] ∈ s'.dev.chain.up.out)) ∧
        ((s.dev.port up).alive = false ∨ t < (s.dev.port up).lastRx + 1280000 ∨ t < ka + 1280000 →
          s'.dev.units = s.dev.units ∧ s.regsSame s')) ∧
    (∀ (up : Bool) (t : Nat) (s : State), (s.dev.port up).link = 2 → (s.dev.port up).lastTx + 128000 ≤ t →
      ∃ s', exec (.keepaliveSend up t) s = .next s' ∧ s.chainOnly s' ∧
        s'.dev.port up = { s.dev.port up with lastSet := (0xBC, 0), lastTx := t } ∧
        s'.dev.port (!up) = s.dev.port (!up)) ∧
    (∀ (up : Bool) (q : Fin 64) (t : Nat) (s : State),
      (let x := s.dev.port up
       ∃ s', exec (.ack up q t) s = .next s' ∧ s.chainOnly s' ∧ s'.dev.port (!up) = s.dev.port (!up) ∧
        (∀ i, x.unacked.findIdx? (fun u => decide (u.seq = q.val)) = some i →
          s'.dev.port up = { x with unacked := x.unacked.drop (i + 1), credit := min 8 (x.credit + i + 1) }) ∧
        (x.unacked.findIdx? (fun u => decide (u.seq = q.val)) = none → s'.dev.chain = s.dev.chain))) ∧
    (∀ (up : Bool) (q : Fin 64) (t : Nat) (s : State), (s.dev.port up).link = 2 →
      (let x := s.dev.port up
       let f := if up then CHAIN.RETX_UP else CHAIN.RETX_DN
       ∃ s', exec (.nak up q t) s = .next s' ∧ s.chainOnly s' ∧
        (∀ i, x.unacked.findIdx? (fun u => decide (u.seq = q.val)) = some i →
          (let again := (x.unacked.drop i).map (fun u => { u with retx := u.retx + 1 })
           s'.dev.get pCHAIN f = min 65535 (s.dev.get pCHAIN f + again.length) ∧
            ((∀ u ∈ again, u.retx < 16) → s'.dev.port up = { x with unacked := x.unacked.take i ++ again, lastTx := t } ∧
              s'.dev.port (!up) = s.dev.port (!up)) ∧
            ((∃ u ∈ again, 16 ≤ u.retx) → (s'.dev.port up).link = 0 ∧ s'.dev.get pCHAIN CHAIN.FAULT_CODE_CAUSE = 3))) ∧
        (x.unacked.findIdx? (fun u => decide (u.seq = q.val)) = none → s'.dev.chain = s.dev.chain))) ∧
    (∀ (up full : Bool) (t : Nat) (s : State),
      ∃ s', exec (.rate up full t) s = .next s' ∧ s.chainOnly s' ∧
        s'.dev.port up = { s.dev.port up with
          peerLow := !full,
          link := if (s.dev.port up).link = 0 ∨ (s.dev.port up).link = 3 then (s.dev.port up).link else 1 } ∧
        s'.dev.port (!up) = s.dev.port (!up)) ∧
    (∀ (up : Bool) (f : Machine.ChainFrame) (eof : Bool) (bad : List Nat) (t : Nat) (s : State), (s.dev.port up).link = 2 →
      (let x := s.dev.port up
       let named := f.typ = 5 → 1 ≤ bitsGet f.w1 31 24 ∧ bitsGet f.w1 31 24 ≤ 6
       let good := bitsGet f.w2 15 0 = f.crc ∧ eof = true ∧ f.payload.length = f.payloadLen ∧ f.payloadLen ≤ 64 ∧
         f.lseq = x.rxSeq ∧ x.rxBufs.length < 8
       let errs := if up then CHAIN.HDR_ERR_UP else CHAIN.HDR_ERR_DN
       ∃ s', exec (.chainFrameRx up f eof bad t) s = .next s' ∧ s.chainOnly s' ∧
        (named → s'.dev.port (!up) = s.dev.port (!up)) ∧
        (named → good → (s'.dev.port up).lastRx = t ∧ (s'.dev.port up).rxSeq = (x.rxSeq + 1) % 64 ∧
          (f.known = true →
            (s'.dev.port up).rxBufs = x.rxBufs ++ [{ f with payload := blankBytes bad f.payload }]) ∧
          (f.known = false → (s'.dev.port up).rxBufs = x.rxBufs ∧ s'.dev.get pCHAIN CHAIN.FAULT_CODE_CAUSE = 6) ∧
          (x.rxBufs ≠ [] ∨ f.known = true → (s'.dev.port up).lastSet = x.lastSet ∧ (s'.dev.port up).ackHeld = x.ackHeld) ∧
          (x.rxBufs = [] → f.known = false →
            if up = true ∧ 32 ≤ s.dev.chain.queue.length then (s'.dev.port up).ackHeld = some f.lseq
            else (s'.dev.port up).lastSet = (0x3C, f.lseq))) ∧
        (named → ¬good → s'.dev.port up = { x with lastRx := t, lastSet := (0x7C, x.rxSeq), lastTx := t } ∧
          s'.dev.flag pCHAIN CHAIN.IRQ_RAW_HDR_ERR = true ∧
          s'.dev.get pCHAIN errs = min 65535 (s.dev.get pCHAIN errs + 1)) ∧
        (¬named → good → f.bcast = false → up = true → s.dev.addressed' = true → f.dest = s.dev.ownSrc →
          s.dev.boot.inReset = none → x.rxBufs.contains f = false →
          s'.dev.chain.up.rxBufs = x.rxBufs ∧ s'.dev.chain.up.out =
            x.out ++ [s.dev.respond 5 f.w1 f.tag (if bitsGet f.w0 7 0 = s.dev.epoch then 6 else 3) []]))) ∧
    (∀ (up : Bool) (t : Nat) (s : State), (s.dev.port up).link = 2 →
      (let x := s.dev.port up
       let held := (s.dev.port (!up)).rxBufs.filter (fun g => s.dev.passes (!up) g)
       ∃ s', exec (.chainFrameForward up t) s = .next s' ∧ s.chainOnly s' ∧
        (x.credit = 0 → s'.dev.chain = s.dev.chain) ∧
        (∀ f, x.credit ≠ 0 → firstOf x.out = some f → (s.dev.port (!up)).rxBufs = [] →
          s'.dev.port up = { x with
            out := x.out.erase f, credit := x.credit - 1, txSeq := (x.txSeq + 1) % 64,
            unacked := x.unacked ++ [⟨x.txSeq, f.seal x.txSeq, 0⟩], lastTx := t, fwd := false }) ∧
        (∀ f, x.credit ≠ 0 → x.out = [] → s.dev.addressed' = true → s.dev.chain.overflow = false → firstOf held = some f →
          (s'.dev.port up).credit = x.credit - 1 ∧ (s'.dev.port up).txSeq = (x.txSeq + 1) % 64 ∧
          (s'.dev.port up).unacked = x.unacked ++ [⟨x.txSeq, f.seal x.txSeq, 0⟩] ∧
          (s'.dev.port (!up)).rxBufs = (s.dev.port (!up)).rxBufs.eraseP (fun g => decide (g = f)) ∧
          ((s.dev.port (!up)).rxBufs = [f] → (s.dev.port (!up)).link = 2 →
            (s.dev.port (!up)).rxSeq = (f.lseq + 1) % 64 → (up = false → s.dev.chain.queue.length < 32) →
            (s'.dev.port (!up)).lastSet = (0x3C, f.lseq))) ∧
        (∀ a b, x.credit ≠ 0 → firstOf x.out = some a → s.dev.addressed' = true → s.dev.chain.overflow = false →
          firstOf held = some b →
          (s'.dev.port up).unacked = x.unacked ++
            [⟨x.txSeq, (if a.cls < b.cls ∨ a.cls = b.cls ∧ x.fwd = true then a else b).seal x.txSeq, 0⟩]))) ∧
    (∀ (t : Nat) (f : Machine.ChainFrame) (s : State), s.dev.chain.dn.alive = false → s.dev.addressed' = true →
      s.dev.chain.overflow = false → firstOf (s.dev.chain.up.rxBufs.filter (fun g => s.dev.passes true g)) = some f →
      f.request = true →
      ∃ s', exec (.chainFrameForward false t) s = .next s' ∧ s.chainOnly s' ∧
        s'.dev.chain.up.out = s.dev.chain.up.out ++ [s.dev.respond f.typ f.w1 f.tag 4 []] ∧
        s'.dev.get pCHAIN CHAIN.XACT_UNREACH = min 65535 (s.dev.get pCHAIN CHAIN.XACT_UNREACH + 1) ∧
        s'.dev.chain.dn = s.dev.chain.dn) ∧
    (∀ (close : Bool) (t : Nat) (s : State),
      (let was := s.dev.flag pCHAIN CHAIN.CTRL_CLOSE_DN
       ∃ s', exec (.closeDn close t) s = .next s' ∧ s.chainOnly s' ∧ s'.dev.flag pCHAIN CHAIN.CTRL_CLOSE_DN = close ∧
        (close = was → s'.dev.chain = s.dev.chain) ∧
        (close = true → was = false →
          s'.dev.chain.dn = { s.dev.chain.dn with link := 3, credit := 0, unacked := [], out := [] } ∧
          s'.dev.isEnd = s.dev.addressed' ∧
          ∀ f ∈ s.dev.chain.dn.unacked.map (fun u => u.frame) ++ s.dev.chain.dn.out, f.request = true →
            s.dev.respond f.typ f.w1 f.tag 4 [] ∈ s'.dev.chain.up.out) ∧
        (close = false → was = true → s'.dev.chain.dn = { s.dev.chain.dn with link := 1 } ∧
          s'.dev.chain.up = s.dev.chain.up))) ∧
    (∀ (t : Nat) (s : State),
      ∃ s', exec (.chainClrCnt t) s = .next s' ∧ s'.dev.wordAt pCHAIN CHAIN.HDR_ERR_UP 0 = 0 ∧
        s'.dev.wordAt pCHAIN CHAIN.RETX_UP 0 = 0 ∧ s'.dev.wordAt pCHAIN CHAIN.CODE_ERR_UP 0 = 0 ∧
        s'.dev.wordAt pCHAIN CHAIN.XACT_UNREACH 0 = 0 ∧ s'.dev.wordAt pCHAIN CHAIN.BREAKS_BREAKS 0 = 0 ∧
        s.regsBut [0xB0044, 0xB0048, 0xB004C, 0xB0050, 0xB0058] s' ∧ s'.dev.units = s.dev.units ∧ s.memSame s') ∧
    (∀ (f : Machine.ChainFrame) (t : Nat) (s : State), f.typ = 0xB → s.dev.addressed' = true → f.dest = s.dev.ownSrc →
      ∃ s', exec (.mail f t) s = .next s' ∧ { s'.dev with chain := s.dev.chain }.units = s.dev.units ∧
        s.regsOff [pCHAIN, pFELT] s' ∧ s.memSame s' ∧ s'.dev.chain.dn = s.dev.chain.dn ∧
        (s.dev.chain.queue.length < 32 → s'.dev.chain.queue = s.dev.chain.queue ++ [f]) ∧
        (32 ≤ s.dev.chain.queue.length → s'.dev.chain.queue = s.dev.chain.queue ∧
          s'.dev.flag pFELT FELT.IRQ_RAW_BACKLOG_DROP = true ∧
          s'.dev.get pFELT FELT.CHAIN_Q_DROPS = min 65535 (s.dev.get pFELT FELT.CHAIN_Q_DROPS + 1))) ∧
    (∀ (chain : Bool) (t : Nat) (s : State),
      ∃ s', exec (.backlogFrameTaken chain t) s = .next s' ∧
        { s'.dev with chain := s.dev.chain, bus := s.dev.bus }.units = s.dev.units ∧ s.regsOff [pCHAIN, pFELT] s' ∧
        s.memSame s' ∧ s'.dev.chain.dn = s.dev.chain.dn ∧
        s'.dev.chain.queue = (if chain then s.dev.chain.queue.drop 1 else s.dev.chain.queue) ∧
        s'.dev.bus = { s.dev.bus with queue := if chain then s.dev.bus.queue else s.dev.bus.queue.drop 1 } ∧
        (∀ q, chain = true → s.dev.chain.up.ackHeld = some q → s.dev.chain.queue.length ≤ 32 →
          s.dev.chain.up.link = 2 → s'.dev.chain.up.ackHeld = none ∧ s'.dev.chain.up.lastSet = (0x3C, q))) ∧
    ∀ (t : Nat) (s : State),
      (let d := (s.dev.begin t).sdAllDue t
       let due := d.irqOr = true ∧ d.flag pSYS SYS.IRQ_ROUTE_HOST = true ∧
         (s.dev.chain.irqOr = false ∨ ∀ a, s.dev.chain.irqSent = some a → a + 1280000 ≤ t)
       ∃ s', exec (.eventIrq t) s = .next s' ∧ s'.dev.chain.irqOr = d.irqOr ∧
        s'.dev.chain.mpIrq = (d.irqOr && d.flag pSYS SYS.IRQ_ROUTE_MP) ∧
        { s'.dev with chain := d.chain }.units = d.units ∧ (∀ a, a / 0x1000 ≠ pCHAIN → s'.dev.reg a = d.reg a) ∧
        s.memSame s' ∧
        (due → s'.dev.chain.irqSent = some t ∧ ∃ f, s'.dev.chain.up.out = s.dev.chain.up.out ++ [f] ∧ f.typ = 9 ∧
          bitsGet f.w1 31 24 = 4) ∧
        (¬due → s'.dev.chain.irqSent = s.dev.chain.irqSent ∧ s'.dev.chain.up = s.dev.chain.up))

/-- A request or a command of another epoch is answered with status 3 and does nothing, one past its limit is dropped.
An admitted READ of memory answers its words, an admitted WRITE to acquisition memory stores its words and nothing
else, each with status 0; a range that is not allowed is answered with its status and does nothing. Each chain command
answers and acts: reset, engine restart, arming, Muslin clear, debug halt and resume; a refused one answers with 6 or
7 and does nothing. A broadcast acts, is passed on and is not answered. SPI answers a good READ of memory while it is
on, and nothing where it is off or the header is bad. CMD_OUT sends ARM on both ports and refuses others. ENUM gives
the next position and the epoch, or an overflow; ENUM_DONE gives the length; an EVENT is passed up; RE_ENUM begins an
enumeration. [R299; R408; R412; R413; R415; R416; R417; R418; R419; R420; R422; R471] -/
def Obligations.RequestsAndEnumerationOfTheChain : Prop :=
  (∀ (f : Machine.ChainFrame) (arrived ready t : Nat) (felt : Option Nat) (fromUp : Bool) (s : State), s.dev.addressed' = true →
      f.dest = s.dev.ownSrc → t ≤ arrived + f.limit → ready ≤ arrived + f.limit → s.dev.boot.inReset = none →
      bitsGet f.w0 7 0 ≠ s.dev.epoch →
      ∀ c : Instr, c = .read f arrived ready felt t ∧ f.typ = 1 ∨ c = .write f arrived ready felt t ∧ f.typ = 2 ∨
        f.typ = 5 ∧ f.bcast = false ∧ (c = .chainReset f fromUp arrived ready t ∧ bitsGet f.w1 31 24 = 1 ∨
          c = .engineReset f fromUp arrived ready t ∧ bitsGet f.w1 31 24 = 2 ∨
          c = .arm f fromUp arrived ready t ∧ bitsGet f.w1 31 24 = 3 ∨
          c = .clearRetry f fromUp arrived ready t ∧ bitsGet f.w1 31 24 = 4 ∨
          c = .debugHalt f fromUp arrived ready t ∧ bitsGet f.w1 31 24 = 5 ∨
          c = .debugResume f fromUp arrived ready t ∧ bitsGet f.w1 31 24 = 6) →
      ∃ s', exec c s = .next s' ∧ s.chainOnly s' ∧ s'.dev.chain.dn = s.dev.chain.dn ∧
        s'.dev.chain.up.out = s.dev.chain.up.out ++ [s.dev.respond f.typ f.w1 f.tag 3 []]) ∧
    (∀ (f : Machine.ChainFrame) (arrived ready t : Nat) (s : State), f.typ = 1 → s.dev.addressed' = true →
      f.dest = s.dev.ownSrc → t ≤ arrived + f.limit → ready ≤ arrived + f.limit → s.dev.boot.inReset = none →
      bitsGet f.w0 7 0 = s.dev.epoch → 0x100000 ≤ f.w1.toNat →
      ∃ s', exec (.read f arrived ready none t) s = .next s' ∧ s.chainOnly s' ∧ s.regsBut [0xB000C, 0xB0054] s' ∧
        s'.dev.chain.dn = s.dev.chain.dn ∧
        s'.dev.chain.up.out = s.dev.chain.up.out ++ [s.dev.respond 1 f.w1 f.tag (s.dev.accessStatus false f.w1.toNat f.len)
          (if s.dev.accessStatus false f.w1.toNat f.len = 0 then
            (List.range f.len).map (fun j => (s.dev.begin t).word s.mem (f.w1.toNat + 4 * j)) else [])]) ∧
    (∀ (f : Machine.ChainFrame) (arrived ready t : Nat) (s : State), f.typ = 2 → s.dev.addressed' = true →
      f.dest = s.dev.ownSrc → t ≤ arrived + f.limit → ready ≤ arrived + f.limit → s.dev.boot.inReset = none →
      bitsGet f.w0 7 0 = s.dev.epoch → f.payload.length = f.len → 0x20000000 ≤ f.w1.toNat → f.w1.toNat < 0x20400000 →
      ∃ s', exec (.write f arrived ready none t) s = .next s' ∧ s.regsBut [0xB000C, 0xB0054] s' ∧
        { s'.dev with chain := s.dev.chain }.units = s.dev.units ∧ s'.dev.chain.dn = s.dev.chain.dn ∧
        s'.dev.chain.up.out =
          s.dev.chain.up.out ++ [s.dev.respond 2 f.w1 f.tag (s.dev.accessStatus true f.w1.toNat f.len) []] ∧
        (s.dev.accessStatus true f.w1.toNat f.len = 0 →
          (∀ j < 4 * f.len, memByte s'.mem (f.w1.toNat + j) = (f.payload.flatMap wordBytes).getD j 0) ∧
          s.memSameBut f.w1.toNat (4 * f.len) s') ∧
        (s.dev.accessStatus true f.w1.toNat f.len ≠ 0 → s.memSame s')) ∧
    (∀ (f : Machine.ChainFrame) (arrived t : Nat) (s : State), f.request = true → arrived + f.limit < t →
      ∃ s', exec (.requestTimeout f arrived t) s = .next s' ∧ s.chainOnly s' ∧
        s'.dev.chain.up.rxBufs = s.dev.chain.up.rxBufs.eraseP (fun g => decide (g = f)) ∧
        s'.dev.chain.up.out = s.dev.chain.up.out ∧ s'.dev.chain.dn = s.dev.chain.dn) ∧
    (∀ (f : Machine.ChainFrame) (fromUp : Bool) (arrived ready t : Nat) (s : State), f.typ = 5 → f.bcast = false →
      s.dev.addressed' = true → f.dest = s.dev.ownSrc → t ≤ arrived + f.limit → ready ≤ arrived + f.limit →
      s.dev.boot.inReset = none → bitsGet f.w0 7 0 = s.dev.epoch →
      (bitsGet f.w1 31 24 = 1 → ∃ s', exec (.chainReset f fromUp arrived ready t) s = .next s' ∧
        s'.dev.boot.inReset = some .chain ∧ s'.dev.boot.resetAt = t ∧ s'.dev.safe.runPermit = false ∧
        s'.dev.triad = Triad.reset ∧ s'.dev.chain = Chain.reset ∧
        s'.dev.get pRST RST.COUNTS_CHAIN = min 255 (s.dev.get pRST RST.COUNTS_CHAIN + 1)) ∧
      (bitsGet f.w1 31 24 = 2 → ∃ s', exec (.engineReset f fromUp arrived ready t) s = .next s' ∧
        s.dev.respond 5 f.w1 f.tag (if bitsGet f.w1 23 0 % 16 = 15 then 6 else 0) [] ∈ s'.dev.chain.up.out ∧
        (bitsGet f.w1 23 0 % 16 = 15 → s.chainOnly s') ∧
        (bitsGet f.w1 23 0 % 16 ≠ 15 → (s'.dev.engine (bitsGet f.w1 23 0 % 16)).st = .restart ∧
          (s'.dev.engine (bitsGet f.w1 23 0 % 16)).restartAt = some t ∧ (s'.dev.engine (bitsGet f.w1 23 0 % 16)).pc = 0 ∧
          (s'.dev.engine (bitsGet f.w1 23 0 % 16)).regs = Vector.replicate 32 0)) ∧
      (bitsGet f.w1 31 24 = 3 → ∃ s', exec (.arm f fromUp arrived ready t) s = .next s' ∧ s.memSame s' ∧
        { s'.dev with chain := s.dev.chain, acq := s.dev.acq }.units = s.dev.units ∧
        s'.dev.chain.up.out = s.dev.chain.up.out ++ [s.dev.respond 5 f.w1 f.tag 0 []] ∧
        s'.dev.acq = (if bitsGet f.w1 23 0 % 8 ≠ 0 ∧ s.dev.get pTRIG TRIG.TRIG_CFG_ARM_GRP = bitsGet f.w1 23 0 % 8 then
          (s.dev.begin t).acqArm.acq else s.dev.acq)) ∧
      (bitsGet f.w1 31 24 = 4 → (s.dev.boot.muslin = false ∨ s.dev.flag pBOOT BOOT.STATUS_DL_GOOD = false) →
        ∃ s', exec (.clearRetry f fromUp arrived ready t) s = .next s' ∧ s.chainOnly s' ∧
        s'.dev.chain.up.out = s.dev.chain.up.out ++ [s.dev.respond 5 f.w1 f.tag 7 []]) ∧
      (bitsGet f.w1 31 24 = 4 → s.dev.boot.muslin = true → s.dev.flag pBOOT BOOT.STATUS_DL_GOOD = true →
        (∀ x ∈ (imgSections ((s.dev.begin t).download s.mem)).getD [], x.typ ≠ 2 ∧ x.typ ≠ 4) →
        ∃ s', exec (.clearRetry f fromUp arrived ready t) s = .next s' ∧ s'.dev.boot.muslin = false ∧
        s'.dev.boot.firmware = true ∧ s'.dev.boot.loaded = some 2 ∧ s'.dev.get pBOOT BOOT.STATUS_SOURCE = 2 ∧
        s'.dev.get pBOOT BOOT.ATTEMPTS_COUNT = 0 ∧ s'.dev.flag pBOOT BOOT.ATTEMPTS_IN_ATTEMPT = true ∧
        s.dev.respond 5 f.w1 f.tag 0 [] ∈ s'.dev.chain.up.out) ∧
      (bitsGet f.w1 31 24 = 5 → ∃ s', exec (.debugHalt f fromUp arrived ready t) s = .next s' ∧ s.memSame s' ∧
        s'.dev.triad = s.dev.triad ∧ s'.dev.pw.halted = (s.dev.pw.halted || s.dev.flag pSYS SYS.DBG_CTRL_DBG_EN) ∧
        s.dev.respond 5 f.w1 f.tag (if s.dev.flag pSYS SYS.DBG_CTRL_DBG_EN then 0 else 7) [] ∈ s'.dev.chain.up.out ∧
        (s.dev.flag pSYS SYS.DBG_CTRL_DBG_EN = false → s.chainOnly s') ∧
        (s.dev.flag pSYS SYS.DBG_CTRL_DBG_EN = true → s.dev.pw.halted = false →
          s'.dev.flag pSYS SYS.STATUS_HALTED = true ∧
          ∀ n < 15, (s'.dev.engine n).st = if s.dev.engCode n = 0 then .off else .halted)) ∧
      (bitsGet f.w1 31 24 = 6 → ∃ s', exec (.debugResume f fromUp arrived ready t) s = .next s' ∧ s.memSame s' ∧
        s'.dev.pw.halted = false ∧ s.dev.respond 5 f.w1 f.tag 0 [] ∈ s'.dev.chain.up.out ∧
        (s.dev.pw.halted = false → s.chainOnly s') ∧
        (s.dev.pw.halted = true → s'.dev.flag pSYS SYS.STATUS_HALTED = false ∧
          ∀ n < 15, (s'.dev.engine n).st = if (s.dev.engine n).st = .halted then
            (if (s.dev.engine n).stHeld = .run then .wait else (s.dev.engine n).stHeld) else (s.dev.engine n).st))) ∧
    (∀ (f : Machine.ChainFrame) (fromUp : Bool) (arrived ready t : Nat) (s : State), f.typ = 5 → f.bcast = true →
      s.dev.addressed' = true →
      (bitsGet f.w1 31 24 = 3 → ∃ s', exec (.arm f fromUp arrived ready t) s = .next s' ∧ s.memSame s' ∧
        (s.dev.port (!fromUp)).out ++ (if fromUp && s.dev.isEnd then [] else [f]) = (s'.dev.port (!fromUp)).out ∧
        (s.dev.port fromUp).out = (s'.dev.port fromUp).out ∧
        s'.dev.acq = (if bitsGet f.w1 23 0 % 8 ≠ 0 ∧ s.dev.get pTRIG TRIG.TRIG_CFG_ARM_GRP = bitsGet f.w1 23 0 % 8 then
          (s.dev.begin t).acqArm.acq else s.dev.acq)) ∧
      (bitsGet f.w1 31 24 = 5 → ∃ s', exec (.debugHalt f fromUp arrived ready t) s = .next s' ∧ s.memSame s' ∧
        s'.dev.pw.halted = (s.dev.pw.halted || s.dev.flag pSYS SYS.DBG_CTRL_DBG_EN) ∧
        (s.dev.port (!fromUp)).out ++ (if fromUp && s.dev.isEnd then [] else [f]) = (s'.dev.port (!fromUp)).out ∧
        (s.dev.port fromUp).out = (s'.dev.port fromUp).out)) ∧
    (∀ (f : Machine.ChainFrame) (t : Nat) (s : State),
      (s.dev.spiOn = false ∨ bitsGet f.w2 15 0 ≠ f.crc →
        ∃ s', exec (.spiRequest f none t) s = .next s' ∧ s'.dev.units = s.dev.units ∧ s.regsSame s' ∧ s.memSame s') ∧
      (s.dev.spiOn = true → bitsGet f.w2 15 0 = f.crc → s.dev.boot.inReset = none → f.typ = 1 → 0x100000 ≤ f.w1.toNat →
        ∃ s', exec (.spiRequest f none t) s = .next s' ∧ s.regsSame s' ∧ s.chainOnly s' ∧ s'.dev.chain.up = s.dev.chain.up ∧
        s'.dev.chain.dn = s.dev.chain.dn ∧
        s'.dev.chain.spi = some ((s.dev.respond 1 f.w1 f.tag (s.dev.accessStatus false f.w1.toNat f.len)
          (if s.dev.accessStatus false f.w1.toNat f.len = 0 then
            (List.range f.len).map (fun j => (s.dev.begin t).word s.mem (f.w1.toNat + 4 * j)) else [])).seal 0))) ∧
    (∀ (w : Word) (t : Nat) (s : State),
      ∃ s', exec (.cmdOut w t) s = .next s' ∧
        { s'.dev with chain := s.dev.chain, acq := s.dev.acq }.units = s.dev.units ∧ s.memSame s' ∧
        (bitsGet w 31 24 = 3 → s'.dev.chain.up.out = s.dev.chain.up.out ++ [s.dev.frameOf 5 true w 0 0 0 []] ∧
          s'.dev.chain.dn.out = s.dev.chain.dn.out ++ [s.dev.frameOf 5 true w 0 0 0 []] ∧
          s'.dev.acq = (if bitsGet w 2 0 ≠ 0 ∧ s.dev.get pTRIG TRIG.TRIG_CFG_ARM_GRP = bitsGet w 2 0 then
            (s.dev.begin t).acqArm.acq else s.dev.acq)) ∧
        (bitsGet w 31 24 ≠ 3 → s'.dev.units = s.dev.units ∧ s'.dev.flag pSYS SYS.IRQ_RAW_REFUSED = true ∧
          s'.dev.get pSYS SYS.FAULT_CODE_CAUSE = 2)) ∧
    (∀ (f : Machine.ChainFrame) (t : Nat) (s : State), f.typ = 7 →
      (let p := bitsGet f.w1 6 0
       let e := bitsGet f.w1 15 8
       ∃ s', exec (.enum f t) s = .next s' ∧ { s'.dev with chain := s.dev.chain }.units = s.dev.units ∧
        s.regsOff [pCHAIN, pSYS, pPBUS] s' ∧ s.memSame s' ∧
        (p < 64 → s'.dev.position = p + 1 ∧ s'.dev.addressed' = true ∧
          s'.dev.epoch = (if epochNewer e s.dev.epochMax then e else (s.dev.epochMax + 1) % 256) ∧
          s'.dev.get pSYS SYS.PLANT_ADDR_POSITION = p ∧ s'.dev.flag pCHAIN CHAIN.IRQ_RAW_ENUM_DONE = true ∧
          s'.dev.isEnd = !(s.dev.chain.dn.link == 2 && !s.dev.flag pCHAIN CHAIN.CTRL_CLOSE_DN)) ∧
        (64 ≤ p → s'.dev.position = 0 ∧ s'.dev.addressed' = false ∧ s'.dev.flag pCHAIN CHAIN.IRQ_RAW_OVERFLOW = true))) ∧
    (∀ (f : Machine.ChainFrame) (t : Nat) (s : State), f.typ = 8 →
      ∃ s', exec (.enumDone f t) s = .next s' ∧ s.chainOnly s' ∧
        (s.dev.addressed' = true → s'.dev.get pCHAIN CHAIN.POSITION_LENGTH = bitsGet f.w1 6 0 ∧
          (s.dev.chain.enum = none → s'.dev.chain.up.out.length = s.dev.chain.up.out.length + 1) ∧
          (∀ second, s.dev.chain.enum = some (bitsGet f.w1 15 8, second) → s'.dev.chain.enum = none ∧
            s'.dev.chain.up.out.length = s.dev.chain.up.out.length + 1) ∧
          (∀ e, e ≠ bitsGet f.w1 15 8 → s.dev.chain.enum = some (e, false) →
            s'.dev.chain.enum = some ((bitsGet f.w1 15 8 + 1) % 256, true) ∧
            s'.dev.chain.dn.out.length = s.dev.chain.dn.out.length + 1)) ∧
        (s.dev.addressed' = false → s'.dev.chain.up = s.dev.chain.up ∧ s'.dev.chain.enum = s.dev.chain.enum)) ∧
    (∀ (f : Machine.ChainFrame) (t : Nat) (s : State), f.typ = 9 → s.dev.addressed' = true →
      ∃ s', exec (.event f t) s = .next s' ∧ s.chainOnly s' ∧
        ∃ g, s'.dev.chain.up.out = s.dev.chain.up.out ++ [g] ∧ g.w1 = f.w1 ∧ g.typ = 9) ∧
    ∀ (t : Nat) (s : State),
      ∃ s', exec (.reEnum t) s = .next s' ∧ s.chainOnly s' ∧
        (s.dev.addressed' = true → s.dev.chain.dn.link = 2 →
          s'.dev.epochMax = (s.dev.epochMax + 1) % 256 ∧ s'.dev.chain.enum = some ((s.dev.epochMax + 1) % 256, false) ∧
          s'.dev.chain.dn.out.length = s.dev.chain.dn.out.length + 1) ∧
        (s.dev.addressed' = false ∨ s.dev.chain.dn.link ≠ 2 → s'.dev.chain = s.dev.chain)

/-- Enabling the PLL begins a band search at the first valid entry, or fails it where there is none; disabling ends
lock and declares bypass without an action, RESEARCH searches anew. A window within tolerance closes the loop, one
outside tries the next entry; the last of LOCK_N good windows locks; a window outside UNLOCK_TOL or a stopped VCO
loses lock with its cause and searches again. A lost reference stops the PLL; its return, after sixteen good windows,
starts the search. Entry to bypass invalidates the taps, counts, and with the action holds the legs off or has the
running law shut down; return after RETURN_MS of lock recalibrates. An output starts with the first edge of its own
schedule at least 40 ticks later, and stops after the high phase in progress. What each leaves alone is named. [R434;
R435; R436; R437; R438; R439; R440; R442] -/
def Obligations.PllBypassAndClockOutputs : Prop :=
  (∀ (t : Nat) (s : State),
      ∃ s', exec (.pllEnable t) s = .next s' ∧ s'.dev.flag pCLK CLK.CTRL_PLL_EN = true ∧ s.bootOnly [pCLK] s' ∧
        (s.dev.flag pCLK CLK.CTRL_PLL_EN = true → s'.dev.units = s.dev.units ∧ s.regsBut [] s') ∧
        (s.dev.flag pCLK CLK.CTRL_PLL_EN = false → s.searches t s' ∧
          s'.dev.boot = { s.dev.boot with pll := s'.dev.boot.pll })) ∧
    (∀ (t : Nat) (s : State),
      ∃ s', exec (.pllDisable t) s = .next s' ∧ s'.dev.flag pCLK CLK.CTRL_PLL_EN = false ∧ s.bootOnly [pCLK] s' ∧
        s'.dev.flag pCLK CLK.STATUS_LOCKED = false ∧
        s'.dev.boot = { s.dev.boot with
          pll := Pll.reset,
          bypassDue := if s.dev.boot.bypass = false ∧ s.dev.boot.bypassDue = none then some false
            else s.dev.boot.bypassDue }) ∧
    (∀ (t : Nat) (s : State),
      ∃ s', exec (.research t) s = .next s' ∧ s.bootOnly [pCLK] s' ∧
        (s.dev.flag pCLK CLK.CTRL_PLL_EN = true → s.searches t s' ∧
          s'.dev.boot = { s.dev.boot with
            pll := s'.dev.boot.pll,
            bypassDue := if s.dev.boot.bypass = false ∧ s.dev.boot.bypassDue = none then some true
              else s.dev.boot.bypassDue }) ∧
        (s.dev.flag pCLK CLK.CTRL_PLL_EN = false → s'.dev.units = s.dev.units ∧ s.regsBut [] s')) ∧
    (∀ (count : BitVec 16) (t : Nat) (s : State), s.dev.boot.pll.st = 1 → s.dev.boot.pll.failedAt = none →
      (let hit := countWithin count.toNat (s.dev.get pCLK CLK.BAND_TOL_COUNTS)
       ∃ s', exec (.bandWindow count t) s = .next s' ∧ s'.dev.get pCLK CLK.FB_COUNT_COUNT = count.toNat ∧
        s.bootOnly [pCLK] s' ∧ s'.dev.boot = { s.dev.boot with pll := s'.dev.boot.pll } ∧
        (hit = true → s'.dev.boot.pll = { s.dev.boot.pll with st := 2, opened := false, good := 0 }) ∧
        (∀ k, hit = false → s.dev.nextBand (s.dev.boot.pll.band + 1) = some k →
          s'.dev.boot.pll = { s.dev.boot.pll with band := k }) ∧
        (hit = false → s.dev.nextBand (s.dev.boot.pll.band + 1) = none → s'.dev.boot.pll.failedAt = some t ∧
          s'.dev.flag pCLK CLK.IRQ_RAW_SEARCH_FAIL = true ∧ s'.dev.get pCLK CLK.FAULT_CODE_CAUSE = 4))) ∧
    (∀ (t a : Nat) (s : State), s.dev.flag pCLK CLK.CTRL_PLL_EN = true → s.dev.boot.pll.st = 1 →
      s.dev.boot.pll.failedAt = some a → a + 128000000 ≤ t →
      ∃ s', exec (.searchRetry t) s = .next s' ∧ s.searches t s' ∧ s.bootOnly [pCLK] s' ∧
        s'.dev.boot = { s.dev.boot with pll := s'.dev.boot.pll }) ∧
    (∀ (count : BitVec 16) (t : Nat) (s : State),
      (let p := s.dev.boot.pll
       let near := countWithin count.toNat (s.dev.get pCLK CLK.LOCK_CFG_LOCK_TOL)
       let far := !countWithin count.toNat (s.dev.get pCLK CLK.LOCK_CFG_UNLOCK_TOL)
       ∃ s', exec (.pllWindow count t) s = .next s' ∧ s.bootOnly [pCLK] s' ∧
        (p.st = 2 ∨ p.st = 3 → s'.dev.get pCLK CLK.FB_COUNT_COUNT = count.toNat) ∧
        (p.st = 2 → s'.dev.boot = { s.dev.boot with pll := s'.dev.boot.pll }) ∧
        (p.st = 2 → p.opened = false → s'.dev.boot.pll = { p with opened := true }) ∧
        (p.st = 2 → p.opened = true → near = false → s'.dev.boot.pll = { p with good := 0 }) ∧
        (p.st = 2 → p.opened = true → near = true → p.good + 1 < s.dev.get pCLK CLK.LOCK_CFG_LOCK_N →
          s'.dev.boot.pll = { p with good := p.good + 1 }) ∧
        (p.st = 2 → p.opened = true → near = true → s.dev.get pCLK CLK.LOCK_CFG_LOCK_N ≤ p.good + 1 →
          s'.dev.boot.pll = { p with st := 3, good := p.good + 1, lockedAt := some t } ∧
          s'.dev.flag pCLK CLK.STATUS_LOCKED = true ∧ s'.dev.flag pCLK CLK.IRQ_RAW_LOCK_GAINED = true) ∧
        (p.st = 3 → far = false → s'.dev.boot = s.dev.boot) ∧
        (p.st = 3 → far = true → s.searches t s' ∧ s'.dev.flag pCLK CLK.IRQ_RAW_LOCK_LOST = true ∧
          ((s.dev.nextBand 0).isSome = true → s'.dev.get pCLK CLK.FAULT_CODE_CAUSE = 1) ∧
          (s.dev.boot.bypass = false → s.dev.boot.bypassDue = none → s'.dev.boot.bypassDue = some true)) ∧
        (p.st ≠ 2 → p.st ≠ 3 → s'.dev.units = s.dev.units ∧ s.regsSame s'))) ∧
    (∀ (t : Nat) (s : State), s.dev.boot.pll.st = 2 ∨ s.dev.boot.pll.st = 3 →
      ∃ s', exec (.vcoStopped t) s = .next s' ∧ s.searches t s' ∧ s.bootOnly [pCLK] s' ∧
        s'.dev.flag pCLK CLK.IRQ_RAW_LOCK_LOST = true ∧
        ((s.dev.nextBand 0).isSome = true → s'.dev.get pCLK CLK.FAULT_CODE_CAUSE = 2) ∧
        (s.dev.boot.bypass = false → s.dev.boot.bypassDue = none → s'.dev.boot.bypassDue = some true)) ∧
    (∀ (t : Nat) (s : State), s.dev.boot.refOk = true →
      ∃ s', exec (.refLost t) s = .next s' ∧ s'.dev.boot.refOk = false ∧ s'.dev.boot.pll = Pll.reset ∧
        s.bootOnly [pCLK] s' ∧ s'.dev.flag pCLK CLK.STATUS_REF_OK = false ∧ s'.dev.flag pCLK CLK.IRQ_RAW_REF_LOST = true ∧
        s'.dev.flag pCLK CLK.STATUS_LOCKED = false ∧ s'.dev.get pCLK CLK.FAULT_CODE_CAUSE = 3 ∧
        (s.dev.boot.bypass = true → s'.dev.boot.bypassOsc = true ∧ s'.dev.flag pCLK CLK.STATUS_BYP_SRC = true) ∧
        (s.dev.boot.bypass = false → s.dev.boot.bypassDue = none → s'.dev.boot.bypassDue = some true)) ∧
    (∀ (counts : List (BitVec 16)) (t : Nat) (s : State), s.dev.boot.refOk = false →
      ∃ s', exec (.refBack counts t) s = .next s' ∧ s.bootOnly [pCLK] s' ∧
        (refGood counts = true → s'.dev.boot.refOk = true ∧ s'.dev.flag pCLK CLK.STATUS_REF_OK = true ∧
          s'.dev.flag pCLK CLK.IRQ_RAW_REF_BACK = true ∧
          (s.dev.boot.bypass = true → s'.dev.boot.bypassOsc = false ∧ s'.dev.flag pCLK CLK.STATUS_BYP_SRC = false) ∧
          (s.dev.flag pCLK CLK.CTRL_PLL_EN = true → s.dev.boot.pll.st = 0 → s.searches t s')) ∧
        (refGood counts = false → s'.dev.units = s.dev.units ∧ s.regsSame s')) ∧
    (∀ (act : Bool) (t : Nat) (s : State), s.dev.boot.bypassDue = some act →
      ∃ s', exec (.bypassEntry t) s = .next s' ∧ s'.dev.boot.bypass = true ∧ s'.dev.boot.bypassOsc = !s.dev.boot.refOk ∧
        s'.dev.boot.bypassDue = none ∧ s'.dev.pw.tapsValid = false ∧ s'.dev.flag pCLK CLK.IRQ_RAW_BYPASS_ENTER = true ∧
        s'.dev.get pCLK CLK.BYP_STAT_ENTRIES = min 65535 (s.dev.get pCLK CLK.BYP_STAT_ENTRIES + 1) ∧
        s'.dev.triad = s.dev.triad ∧ s'.dev.eng = s.dev.eng ∧ s'.dev.acq = s.dev.acq ∧ s'.dev.prec = s.dev.prec ∧
        s'.dev.safe = s.dev.safe ∧ s.memSame s' ∧
        (act = true → s.dev.flag pCLK CLK.CLK_CFG_BYPASS_ACTION = false → s.seq.st.runs = true →
          s'.dev.boot.stopDue = true ∧ s'.dev.boot.holdDue = true) ∧
        (act = true → s.dev.flag pCLK CLK.CLK_CFG_BYPASS_ACTION = false → s.seq.st.runs = false →
          s'.dev.boot.hold = true ∧ s'.legsDark (List.range 48)) ∧
        (act = false ∨ s.dev.flag pCLK CLK.CLK_CFG_BYPASS_ACTION = true → s'.dev.boot.hold = s.dev.boot.hold ∧
          s'.dev.boot.stopDue = s.dev.boot.stopDue)) ∧
    (∀ (t a : Nat) (s : State), s.dev.boot.bypass = true → s.dev.boot.pll.st = 3 → s.dev.boot.pll.lockedAt = some a →
      a + max 1 (s.dev.get pCLK CLK.CLK_CFG_RETURN_MS) * 12800000 ≤ t →
      ∃ s', exec (.bypassReturn t) s = .next s' ∧ s'.dev.boot.bypass = false ∧ s'.dev.boot.hold = false ∧
        s'.dev.flag pCLK CLK.STATUS_BYPASS = false ∧ s'.dev.flag pCLK CLK.IRQ_RAW_BYPASS_EXIT = true ∧
        s'.dev.get pCLK CLK.BYP_STAT_LAST_MS = min 65535 ((t - s.dev.boot.bypassAt) / 12800000) ∧
        s'.dev.pw.calBusy = true ∧ s'.dev.triad = s.dev.triad ∧ s'.dev.eng = s.dev.eng ∧ s'.dev.acq = s.dev.acq ∧
        s'.dev.prec = s.dev.prec ∧ s'.dev.safe = s.dev.safe ∧ s.memSame s') ∧
    (∀ (k : Fin 8) (t : Nat) (s : State),
      ∃ s', exec (.tbOutEnable k t) s = .next s' ∧ s'.dev.bit pCLK CLK.TB_EN_EN k = true ∧
        (∀ j < 8, j ≠ k.val → s'.dev.bit pCLK CLK.TB_EN_EN j = s.dev.bit pCLK CLK.TB_EN_EN j ∧
          s'.dev.tbOut j = s.dev.tbOut j) ∧ s.regsBut [CLK.TB_EN_EN.addr pCLK 0] s' ∧ s.memSame s' ∧
        { s'.dev with boot := { s'.dev.boot with tb := s.dev.boot.tb }, sense := s.dev.sense }.units = s.dev.units ∧
        (s.dev.bit pCLK CLK.TB_EN_EN k = true → s'.dev.units = s.dev.units) ∧
        (s.dev.bit pCLK CLK.TB_EN_EN k = false → ∃ e : Nat, s'.dev.tbOut k = ⟨some e, none⟩ ∧ t + 1280 ≤ e ∧
          e < t + 1280 + s.dev.tbPeriod k ∧ ((e : Int) - s.dev.tbDelay k) % s.dev.tbPeriod k = 0)) ∧
    ∀ (k : Fin 8) (t : Nat) (s : State),
      ∃ s', exec (.tbOutDisable k t) s = .next s' ∧ s'.dev.bit pCLK CLK.TB_EN_EN k = false ∧
        (∀ j < 8, j ≠ k.val → s'.dev.bit pCLK CLK.TB_EN_EN j = s.dev.bit pCLK CLK.TB_EN_EN j ∧
          s'.dev.tbOut j = s.dev.tbOut j) ∧ s.regsBut [CLK.TB_EN_EN.addr pCLK 0] s' ∧ s.memSame s' ∧
        { s'.dev with boot := { s'.dev.boot with tb := s.dev.boot.tb } }.units = s.dev.units ∧
        (s.dev.bit pCLK CLK.TB_EN_EN k = false → s'.dev.tbOut k = s.dev.tbOut k) ∧
        (s.dev.bit pCLK CLK.TB_EN_EN k = true → s.dev.tbHigh k t = none →
          s'.dev.tbOut k = { s.dev.tbOut k with stopAt := some t }) ∧
        (∀ h, s.dev.bit pCLK CLK.TB_EN_EN k = true → s.dev.tbHigh k t = some h → t < h.2 ∧
          h.2 ≤ t + s.dev.tbPeriod k ∧ s'.dev.tbOut k = { s.dev.tbOut k with stopAt := some h.2 })

/-- VDD_SAFE below its threshold for 2 us resets the core over every other reset, empties every memory, puts every
unit at its reset value and leaves no permission; another supply does so with kind BOR and its source; RST_N low for
10 us does so with kind PIN and keeps acquisition memory, below 1 us does nothing, and between them may or may not.
The release time starts with the last supply's return, or with RST_N. A release fixes the epoch anew and begins an
attempt: after three failures in Muslin mode, with BOOT_SRC waiting for a download, with no image in either slot
failing again. The watchdog is served, warns after 8 ms and resets after 10 ms. RUN_READY from port 0x0F clears the
attempts; FAIL and an expired download wait record a failed attempt and reset. Fuse burning, download check and
programming take their results. [R433; R445; R448; R449; R451; R452; R460; R466; R467; R468; R469] -/
def Obligations.CoreResetsBootAndImages : Prop :=
  (∀ (since t : Nat) (s : State), since + 25600 ≤ t →
      ∃ s', exec (.por since t) s = .next s' ∧ s'.mem = [] ∧ s'.pending = s.pending ∧ s'.dev.boot.inReset = some .por ∧
        s'.dev.boot.resetAt = t ∧ s'.dev.boot.low.testBit 4 = true ∧ s'.dev.triad = Triad.reset ∧
        s'.dev.chain = Chain.reset ∧ s'.dev.bus = Bus.reset ∧ s'.dev.prec = Prec.reset ∧
        s'.dev.safe.runPermit = false ∧ s'.legsDark (List.range 48) ∧
        ∀ a, a / 0x1000 ≠ pRST → a / 0x1000 ≠ pPWR → a / 0x1000 ≠ pSAFE → a / 0x1000 ≠ pBOOT → s'.dev.reg a = regReset a) ∧
    (∀ (k : Fin 4) (since t : Nat) (s : State), t < since + 25600 →
      ∀ c : Instr, c = .por since t ∨ c = .bor k since t →
      ∃ s', exec c s = .next s' ∧ s'.dev.units = s.dev.units ∧ s.regsSame s' ∧ s.memSame s') ∧
    (∀ (k : Fin 4) (since t : Nat) (s : State), since + 25600 ≤ t → s.dev.boot.inReset = none →
      ∃ s', exec (.bor k since t) s = .next s' ∧ s'.mem = [] ∧ s'.pending = s.pending ∧ s'.dev.boot.inReset = some .bor ∧
        s'.dev.boot.resetAt = t ∧ s'.dev.boot.low = s.dev.boot.low ||| 2 ^ k.val ∧ s'.legsDark (List.range 48) ∧
        s'.dev.triad = Triad.reset ∧ s'.dev.chain = Chain.reset ∧ s'.dev.bus = Bus.reset ∧ s'.dev.get pRST RST.STATUS_BOR_SRC = 2 ^ k.val ∧
        s'.dev.get pRST RST.COUNTS_BOR = min 255 (s.dev.get pRST RST.COUNTS_BOR + 1) ∧ s'.dev.safe.runPermit = false) ∧
    (∀ (low t : Nat) (s : State), s.dev.boot.inReset = none →
      ∃ s', exec (.pin low t) s = .next s' ∧
        (low < 12800 → s'.dev.units = s.dev.units ∧ s.regsSame s' ∧ s.memSame s') ∧
        (12800 ≤ low → low < 128000 → s'.dev.boot.inReset = none ∨ s'.dev.boot.inReset = some .pin) ∧
        (128000 ≤ low → s'.dev.boot.inReset = some .pin ∧ s'.dev.boot.resetAt = t ∧ s'.dev.triad = Triad.reset ∧
          s'.dev.chain = s.dev.chain ∧ s'.dev.safe.runPermit = false ∧
          s'.dev.get pRST RST.COUNTS_PIN = min 255 (s.dev.get pRST RST.COUNTS_PIN + 1) ∧
          ∀ a, memByte s'.mem a = if 0x20000000 ≤ a ∧ a < 0x20400000 then memByte s.mem a else memDefault a)) ∧
    (∀ (k : Fin 5) (t : Nat) (s : State), s.dev.boot.low.testBit k = true →
      ∃ s', exec (.supplyReturn k t) s = .next s' ∧ s'.dev.boot.low = s.dev.boot.low - 2 ^ k.val ∧
        s'.dev.boot.returnAt = (if s.dev.boot.low = 2 ^ k.val then some t else none) ∧
        s'.dev.get pPWR PWR.STATUS_SUPPLY_OK = 15 - (s.dev.boot.low - 2 ^ k.val) % 16 ∧ s.bootOnly [pPWR] s') ∧
    (∀ (t : Nat) (s : State), s.dev.boot.inReset = some .pin → s.dev.boot.returnAt = none →
      ∃ s', exec (.rstNRelease t) s = .next s' ∧ s'.dev.boot = { s.dev.boot with returnAt := some t } ∧ s.regsSame s' ∧
        s.bootOnly [] s') ∧
    (∀ (bootSrc bench : Bool) (t : Nat) (s : State),
      (let cut := s.dev.flag pBOOT BOOT.ATTEMPTS_IN_ATTEMPT
       let n := if cut then min 3 (s.dev.get pBOOT BOOT.ATTEMPTS_COUNT + 1) else s.dev.get pBOOT BOOT.ATTEMPTS_COUNT
       (s.dev.releaseDue t = false →
        ∃ s', exec (.resetRelease bootSrc bench t) s = .next s' ∧ s'.dev.units = s.dev.units ∧ s.regsSame s' ∧ s.memSame s') ∧
       (s.dev.releaseDue t = true → n = 3 →
        ∃ s', exec (.resetRelease bootSrc bench t) s = .next s' ∧ s'.dev.now = 0 ∧ s'.dev.boot.inReset = none ∧
        s'.dev.boot.muslin = true ∧ s'.dev.boot.bypass = true ∧ s.memSame s') ∧
       (s.dev.releaseDue t = true → n ≠ 3 → bootSrc = true →
        ∃ s', exec (.resetRelease bootSrc bench t) s = .next s' ∧ s'.dev.now = 0 ∧ s'.dev.boot.inReset = none ∧
        s'.dev.boot.dlWait = some 0 ∧ s'.dev.flag pBOOT BOOT.ATTEMPTS_IN_ATTEMPT = true ∧
        s'.dev.get pBOOT BOOT.ATTEMPTS_COUNT = n ∧ s.memSame s') ∧
       (s.dev.releaseDue t = true → n ≠ 3 → bootSrc = false → s.dev.boot.slotA = [] → s.dev.boot.slotB = [] →
        ∃ s', exec (.resetRelease bootSrc bench t) s = .next s' ∧ s'.dev.now = 0 ∧ s'.dev.boot.inReset = some .wdog ∧
        s'.dev.get pBOOT BOOT.ATTEMPTS_COUNT = n + 1 ∧ s'.dev.flag pBOOT BOOT.ATTEMPTS_IN_ATTEMPT = false ∧
        s'.dev.get pBOOT BOOT.FAULT_CODE_CAUSE = 1))) ∧
    (∀ (t : Nat) (s : State),
      ∃ s', exec (.wdogKick t) s = .next s' ∧ s'.dev.boot = { s.dev.boot with
          wdogAt := t, wdogStop := s.dev.boot.wdogStop.map (fun _ => t) } ∧ s.regsBut [] s' ∧ s.bootOnly [] s') ∧
    (∀ (t : Nat) (s : State), s.dev.wdogRuns = true → 102400000 ≤ s.dev.wdogUsed t →
      ∃ s', exec (.wdogWarn t) s = .next s' ∧ s'.dev.flag pRST RST.IRQ_RAW_WDOG_WARN = true ∧
        s.regsBut [RST.IRQ_RAW_WDOG_WARN.addr pRST 0] s' ∧ s'.dev.units = s.dev.units ∧ s.memSame s') ∧
    (∀ (t : Nat) (s : State), s.dev.wdogRuns = true → 128000000 ≤ s.dev.wdogUsed t →
      ∃ s', exec (.wdogExpiry t) s = .next s' ∧ s'.dev.boot.inReset = some .wdog ∧ s'.dev.triad = Triad.reset ∧
        s'.dev.boot.resetAt = t ∧ s'.dev.chain = s.dev.chain ∧ s'.legsDark (List.range 48) ∧
        s'.dev.get pRST RST.COUNTS_WDOG = min 255 (s.dev.get pRST RST.COUNTS_WDOG + 1) ∧ s'.dev.safe.runPermit = false) ∧
    (∀ (port : Fin 24) (t : Nat) (s : State),
      ∃ s', exec (.runReady port t) s = .next s' ∧ s'.dev.units = s.dev.units ∧ s.memSame s' ∧
        (port.val = 0x0F → s.dev.boot.muslin = false → s.dev.flag pBOOT BOOT.STATUS_RUN_READY = false →
          s'.dev.get pBOOT BOOT.ATTEMPTS_COUNT = 0 ∧ s'.dev.flag pBOOT BOOT.ATTEMPTS_IN_ATTEMPT = false ∧
          s'.dev.flag pBOOT BOOT.STATUS_RUN_READY = true) ∧
        (port.val ≠ 0x0F ∨ s.dev.boot.muslin = true ∨ s.dev.flag pBOOT BOOT.STATUS_RUN_READY = true → s.regsBut [] s')) ∧
    (∀ (t : Nat) (s : State),
      ∃ s', exec (.fail t) s = .next s' ∧
        (s.dev.flag pBOOT BOOT.STATUS_RUN_READY = true ∨ s.dev.boot.muslin = true →
          s'.dev.units = s.dev.units ∧ s.regsBut [] s' ∧ s.memSame s') ∧
        (s.dev.flag pBOOT BOOT.STATUS_RUN_READY = false → s.dev.boot.muslin = false → s.dev.boot.inReset = none →
          s'.dev.boot.inReset = some .wdog ∧ s'.dev.flag pRST RST.STATUS_BOOT_END = true ∧
          s'.dev.get pBOOT BOOT.HIST =
            (s.dev.get pBOOT BOOT.HIST * 256 + s.dev.get pBOOT BOOT.STATUS_SOURCE * 64 + 6) % 2 ^ 24 ∧
          s'.dev.get pBOOT BOOT.ATTEMPTS_COUNT = min 3 (s.dev.get pBOOT BOOT.ATTEMPTS_COUNT + 1))) ∧
    (∀ (t a : Nat) (s : State), s.dev.boot.dlWait = some a → a + 384000000000 ≤ t → s.dev.boot.inReset = none →
      ∃ s', exec (.downloadWaitExpired t) s = .next s' ∧ s'.dev.boot.inReset = some .wdog ∧
        s'.dev.get pBOOT BOOT.FAULT_CODE_CAUSE = 2 ∧ s'.dev.boot.dlWait = none ∧
        s'.dev.get pBOOT BOOT.ATTEMPTS_COUNT = min 3 (s.dev.get pBOOT BOOT.ATTEMPTS_COUNT + 1)) ∧
    (∀ (t : Nat) (s : State),
      (let v := s.dev.get pBOOT BOOT.SEC_IMG_SEC
       let ok := s.dev.flag pBOOT BOOT.STATUS_RUN_READY && decide (s.dev.get pBOOT BOOT.SEC_FUSE_CNT < v) &&
         !s.dev.boot.low.testBit 2 && !s.dev.boot.low.testBit 3
       ∃ s', exec (.rollbackAdv t) s = .next s' ∧ s.regsBut [] s' ∧ s.bootOnly [] s' ∧
        s'.dev.boot = if ok then { s.dev.boot with burn := some v } else s.dev.boot)) ∧
    (∀ (t v : Nat) (s : State), s.dev.boot.burn = some v →
      ∃ s', exec (.rollbackDone t) s = .next s' ∧ s'.dev.get pBOOT BOOT.SEC_FUSE_CNT = v % 64 ∧
        s'.dev.flag pBOOT BOOT.IRQ_RAW_ROLLBACK_DONE = true ∧ s'.dev.boot = { s.dev.boot with burn := none } ∧
        s.bootOnly [pBOOT] s') ∧
    (∀ (t : Nat) (s : State),
      ∃ s', exec (.dlCheck t) s = .next s' ∧ s.bootOnly [pBOOT] s' ∧
        (s.dev.flag pBOOT BOOT.STATUS_DL_BUSY = false →
          s'.dev.boot = { s.dev.boot with dlCheck := some (s.dev.imgCheck ((s.dev.begin t).download s.mem)) } ∧
          s'.dev.flag pBOOT BOOT.STATUS_DL_BUSY = true ∧ s'.dev.flag pBOOT BOOT.STATUS_DL_GOOD = false) ∧
        (s.dev.flag pBOOT BOOT.STATUS_DL_BUSY = true → s'.dev.boot = s.dev.boot ∧ s.regsBut [] s')) ∧
    (∀ (t : Nat) (s : State), s.dev.boot.dlCheck = some 0 → s.dev.boot.dlWait.isSome = true →
      (∀ x ∈ (imgSections ((s.dev.begin t).download s.mem)).getD [], x.typ ≠ 2 ∧ x.typ ≠ 4) →
      ∃ s', exec (.dlDone t) s = .next s' ∧ s'.dev.boot.firmware = true ∧ s'.dev.boot.loaded = some 2 ∧
        s'.dev.boot.dlWait = none ∧ s'.dev.boot.dlCheck = none ∧ s'.dev.get pBOOT BOOT.STATUS_SOURCE = 2 ∧
        s'.dev.flag pBOOT BOOT.STATUS_DL_GOOD = true ∧ s'.dev.triad = s.dev.triad) ∧
    (∀ (t r : Nat) (s : State), s.dev.boot.dlCheck = some r → s.dev.boot.dlWait = none ∨ r ≠ 0 ∧
      s.dev.flag pBOOT BOOT.STATUS_DL_GOOD = false →
      ∃ s', exec (.dlDone t) s = .next s' ∧ s'.dev.boot = { s.dev.boot with dlCheck := none } ∧
        s'.dev.flag pBOOT BOOT.STATUS_DL_BUSY = false ∧ s'.dev.get pBOOT BOOT.SLOT_RES_DL = r % 16 ∧
        (r = 0 → s'.dev.flag pBOOT BOOT.STATUS_DL_GOOD = true) ∧
        (r ≠ 0 → s'.dev.flag pBOOT BOOT.IRQ_RAW_DL_BAD = true) ∧ s'.dev.flag pBOOT BOOT.IRQ_RAW_DL_DONE = true ∧
        s.bootOnly [pBOOT] s') ∧
    (∀ (t : Nat) (s : State),
      ∃ s', exec (.dlProg t) s = .next s' ∧ s.bootOnly [pBOOT] s' ∧
        (s.dev.flag pBOOT BOOT.STATUS_DL_GOOD = true → s.dev.flag pBOOT BOOT.STATUS_DL_BUSY = false →
          s'.dev.boot = { s.dev.boot with dlProg := some (s.dev.get pBOOT BOOT.BOOT_CFG_DL_SLOT) } ∧
          s'.dev.flag pBOOT BOOT.STATUS_DL_BUSY = true) ∧
        (s.dev.flag pBOOT BOOT.STATUS_DL_GOOD = false ∨ s.dev.flag pBOOT BOOT.STATUS_DL_BUSY = true →
          s'.dev.boot = s.dev.boot ∧ s.regsBut [] s')) ∧
    ∀ (ok : Bool) (t k : Nat) (s : State), s.dev.boot.dlProg = some k →
      ∃ s', exec (.progDone ok t) s = .next s' ∧ s'.dev.boot.dlProg = none ∧ s.bootOnly [pBOOT] s' ∧
        s'.dev.flag pBOOT BOOT.STATUS_DL_BUSY = false ∧
        (ok = true → s'.dev.flag pBOOT BOOT.IRQ_RAW_PROG_DONE = true ∧
          (if k = 0 then s'.dev.boot.slotA else s'.dev.boot.slotB) = (s.dev.begin t).download s.mem) ∧
        (ok = false → s'.dev.flag pBOOT BOOT.IRQ_RAW_PROG_FAIL = true)

/-- IDLE with the law stopped enters IDLE with every leg off; with a running law it is refused with cause 1. IDLE_EXIT
leaves it. GAUZE with the law stopped enters with every leg off, no permission and the entry counted, is refused with
cause 1 while the law runs and with cause 2 during an entry or an exit; but for the header of a record that the entry
completes no memory changes. At the end of the entry only program memories, and bank 12 with PC_ON, keep their
contents, the sequencer is in IDLE and the timebase in bypass. The first of WAKE, WAKE_N and the wake timer, where
enabled, is the cause and acts once core power is gated; GAUZE_EXIT returns to operation with the epoch fixed anew.
[R452; R454; R455; R456; R457; R458; R475] -/
def Obligations.IdleGauzeAndWake : Prop :=
  (∀ (t : Nat) (s : State), s.dev.boot.idle = false → s.dev.boot.gauze = false →
      ∃ s', exec (.idle t) s = .next s' ∧ s'.dev.triad = s.dev.triad ∧ s.memSame s' ∧
        (s.seq.st.runs = true → s'.dev.units = s.dev.units ∧ s'.dev.flag pPWR PWR.IRQ_RAW_REFUSED = true ∧
          s'.dev.get pPWR PWR.FAULT_CODE_CAUSE = 1) ∧
        (s.seq.st.runs = false → s'.dev.boot = { s.dev.boot with idle := true } ∧ s'.legsDark (List.range 48) ∧
          s'.dev.get pPWR PWR.STATUS_STATE = 1 ∧ s'.dev.flag pPWR PWR.IRQ_RAW_IDLE_ENTRY = true)) ∧
    (∀ (t : Nat) (s : State), s.dev.boot.idle = true ∨ s.dev.boot.gauze = true →
      ∃ s', exec (.idle t) s = .next s' ∧ s'.dev.units = s.dev.units ∧ s.regsBut [] s' ∧ s.memSame s') ∧
    (∀ (t : Nat) (s : State),
      ∃ s', exec (.idleExit t) s = .next s' ∧ s.memSame s' ∧ s'.dev.triad = s.dev.triad ∧ s'.dev.safe = s.dev.safe ∧
        s'.dev.bus = s.dev.bus ∧ s'.dev.chain = s.dev.chain ∧ s'.dev.prec = { s.dev.prec with
          feed := s'.dev.prec.feed } ∧ s'.dev.acq = s.dev.acq ∧
        (s.dev.boot.idle = true → s'.dev.boot.idle = false ∧ s'.dev.get pPWR PWR.STATUS_STATE = 0 ∧
          s'.dev.flag pPWR PWR.IRQ_RAW_IDLE_EXIT = true) ∧
        (s.dev.boot.idle = false → s'.dev.units = s.dev.units ∧ s.regsBut [] s')) ∧
    (∀ (t : Nat) (s : State),
      (let st := s.dev.get pPWR PWR.STATUS_STATE
       ∃ s', exec (.gauze t) s = .next s' ∧ s.memSameBut (s.dev.segBase s.dev.acq.seg) 256 s' ∧
        (s.seq.st.runs = true ∨ 2 ≤ st → s.memSame s') ∧
        (s.seq.st.runs = true → s'.dev.units = s.dev.units ∧ s'.dev.flag pPWR PWR.IRQ_RAW_REFUSED = true ∧
          s'.dev.get pPWR PWR.FAULT_CODE_CAUSE = 1) ∧
        (s.seq.st.runs = false → st = 3 → s'.dev.units = s.dev.units ∧ s.regsBut [] s') ∧
        (s.seq.st.runs = false → st = 2 ∨ st = 4 → s'.dev.units = s.dev.units ∧
          s'.dev.flag pPWR PWR.IRQ_RAW_REFUSED = true ∧ s'.dev.get pPWR PWR.FAULT_CODE_CAUSE = 2) ∧
        (s.seq.st.runs = false → st < 2 → s'.dev.boot.gauze = true ∧ s'.dev.boot.gauzeAt = t ∧ s'.dev.boot.wake = none ∧
          s'.dev.boot.idle = false ∧ s'.dev.get pPWR PWR.STATUS_STATE = 2 ∧ s'.legsDark (List.range 48) ∧
          s'.dev.safe.runPermit = false ∧ s'.dev.acq.st = .idle ∧
          s'.dev.get pPWR PWR.GAUZE_CNT_ENTRIES = min 65535 (s.dev.get pPWR PWR.GAUZE_CNT_ENTRIES + 1)))) ∧
    (∀ (t : Nat) (s : State), s.dev.get pPWR PWR.STATUS_STATE = 2 →
      ∃ s', exec (.gauzeEntryDone t) s = .next s' ∧ s'.pending = s.pending ∧
        (∀ a, memByte s'.mem a = if memKept (if s.dev.flag pPWR PWR.GAUZE_CFG_PC_ON then 4 else 3) a = true
          then memByte s.mem a else memDefault a) ∧
        s'.seq.st = .idle ∧ s'.dev.boot.bypass = true ∧ s'.dev.boot.pll = Pll.reset ∧
        s'.dev.get pPWR PWR.STATUS_STATE = (if s.dev.boot.wake.isSome then 4 else 3)) ∧
    (∀ (t : Nat) (s : State), s.dev.boot.gauze = true → s.dev.boot.wake = none → s.dev.get pPWR PWR.STATUS_STATE = 3 →
      ∀ (c : Instr) (cause : Nat), c = .wake t ∧ cause = 1 ∨
        (∃ since, c = .wakeN since t ∧ since + 12800000 ≤ t) ∧ cause = 2 ∧ s.dev.bit pPWR PWR.GAUZE_CFG_WAKE_EN 0 = true ∨
        c = .wakeTimer t ∧ cause = 3 ∧ s.dev.bit pPWR PWR.GAUZE_CFG_WAKE_EN 1 = true ∧
          s.dev.get pPWR PWR.WAKE_S_SECONDS ≠ 0 ∧
          s.dev.lifeS s.dev.boot.gauzeAt + s.dev.get pPWR PWR.WAKE_S_SECONDS ≤ s.dev.lifeS t →
      ∃ s', exec c s = .next s' ∧ s'.dev.boot = { s.dev.boot with wake := some cause } ∧
        s'.dev.get pPWR PWR.WAKE_CAUSE_CAUSE = cause ∧ s'.dev.get pPWR PWR.STATUS_STATE = 4 ∧
        s.bootOnly [pPWR] s') ∧
    (∀ (t : Nat) (s : State), s.dev.boot.gauze = true → s.dev.boot.wake = none → s.dev.get pPWR PWR.STATUS_STATE = 2 →
      ∃ s', exec (.wake t) s = .next s' ∧ s'.dev.boot = { s.dev.boot with wake := some 1 } ∧
        s'.dev.get pPWR PWR.WAKE_CAUSE_CAUSE = 1 ∧ s'.dev.get pPWR PWR.STATUS_STATE = 2 ∧ s.bootOnly [pPWR] s') ∧
    (∀ (since t : Nat) (s : State), s.dev.boot.wake.isSome = true ∨
      s.dev.get pPWR PWR.STATUS_STATE ≠ 2 ∧ s.dev.get pPWR PWR.STATUS_STATE ≠ 3 →
      ∀ c : Instr, c = .wake t ∨ c = .wakeN since t ∨ c = .wakeTimer t →
      ∃ s', exec c s = .next s' ∧ s'.dev.units = s.dev.units ∧ s.regsBut [] s' ∧ s.memSame s') ∧
    ∀ (t : Nat) (s : State), s.dev.boot.gauze = true → s.dev.get pPWR PWR.STATUS_STATE = 4 →
      s.dev.boot.wake.isSome = true →
      ∃ s', exec (.gauzeExit t) s = .next s' ∧ s'.dev.now = 0 ∧ s'.dev.boot.gauze = false ∧ s'.dev.boot.wake = none ∧
        s'.dev.get pPWR PWR.STATUS_STATE = 0 ∧ s'.dev.flag pPWR PWR.IRQ_RAW_WOKE = true ∧ s.memSame s'
end

