-- ==== Sys2Proof/Laws/Store.lean ====
section
/-!
SUPPORT. Sparse maps: what is read after a write, and that a write keeps the canonical form.
-/
namespace Sys2Proof.Machine

variable {α : Type}

theorem storeGet_erase_same (d : Nat → α) (m : List (Nat × α)) (k : Nat) :
    storeGet d (storeErase m k) k = d k := by
  induction m with
  | nil => rfl
  | cons c m ih =>
    obtain ⟨a, v⟩ := c
    by_cases h : a = k <;> simp [storeErase, storeGet, h, ih]

theorem storeGet_erase_ne (d : Nat → α) (m : List (Nat × α)) {k j : Nat} (hj : j ≠ k) :
    storeGet d (storeErase m k) j = storeGet d m j := by
  induction m with
  | nil => rfl
  | cons c m ih =>
    obtain ⟨a, v⟩ := c
    by_cases h : a = k
    · subst h; simp [storeErase, storeGet, ih, Ne.symm hj]
    · simp [storeErase, storeGet, h, ih]

theorem storeGet_insert_same (d : Nat → α) (m : List (Nat × α)) (k : Nat) (v : α) :
    storeGet d (storeInsert m k v) k = v := by
  induction m with
  | nil => simp [storeInsert, storeGet]
  | cons c m ih =>
    obtain ⟨a, w⟩ := c
    simp only [storeInsert]
    split
    · simp [storeGet]
    · split
      · simp [storeGet]
      · rename_i h; simp [storeGet, h, ih]

theorem storeGet_insert_ne (d : Nat → α) (m : List (Nat × α)) {k j : Nat} (v : α) (hj : j ≠ k) :
    storeGet d (storeInsert m k v) j = storeGet d m j := by
  induction m with
  | nil => simp [storeInsert, storeGet, Ne.symm hj]
  | cons c m ih =>
    obtain ⟨a, w⟩ := c
    simp only [storeInsert]
    split
    · simp [storeGet, Ne.symm hj]
    · split
      · rename_i h; subst h; simp [storeGet, Ne.symm hj]
      · simp [storeGet, ih]

/-- A read at the key just written gives the value written. -/
@[simp] theorem storeGet_put_same [DecidableEq α] (d : Nat → α) (m : List (Nat × α)) (k : Nat) (v : α) :
    storeGet d (storePut d m k v) k = v := by
  unfold storePut
  split
  · rename_i h; rw [storeGet_erase_same, h]
  · exact storeGet_insert_same d m k v

/-- A write leaves every other key alone. -/
theorem storeGet_put_ne [DecidableEq α] (d : Nat → α) (m : List (Nat × α)) {k j : Nat} (v : α) (hj : j ≠ k) :
    storeGet d (storePut d m k v) j = storeGet d m j := by
  unfold storePut
  split
  · exact storeGet_erase_ne d m hj
  · exact storeGet_insert_ne d m v hj

theorem storeAbove_le {lo lo' : Nat} {m : List (Nat × α)} (h : storeAbove lo m = true) (hl : lo' ≤ lo) :
    storeAbove lo' m = true := by
  induction m with
  | nil => rfl
  | cons c m ih =>
    obtain ⟨a, v⟩ := c
    simp only [storeAbove, Bool.and_eq_true, decide_eq_true_eq] at h ⊢
    exact ⟨by omega, ih h.2⟩

theorem storeAbove_erase {lo : Nat} {m : List (Nat × α)} (k : Nat) (h : storeAbove lo m = true) :
    storeAbove lo (storeErase m k) = true := by
  induction m with
  | nil => rfl
  | cons c m ih =>
    obtain ⟨a, v⟩ := c
    simp only [storeAbove, Bool.and_eq_true, decide_eq_true_eq] at h
    simp only [storeErase]
    split
    · exact ih h.2
    · simp [storeAbove, h.1, ih h.2]

theorem storeAbove_insert {lo : Nat} {m : List (Nat × α)} (k : Nat) (v : α) (h : storeAbove lo m = true)
    (hk : lo < k) : storeAbove lo (storeInsert m k v) = true := by
  induction m with
  | nil => simp [storeInsert, storeAbove, hk]
  | cons c m ih =>
    obtain ⟨a, w⟩ := c
    simp only [storeAbove, Bool.and_eq_true, decide_eq_true_eq] at h
    simp only [storeInsert]
    split
    · simp [storeAbove, hk, h.1, h.2]
    · split
      · simp [storeAbove, hk, h.2]
      · simp [storeAbove, h.1, ih h.2]

theorem storeWf_erase [DecidableEq α] {d : Nat → α} {m : List (Nat × α)} (k : Nat) (h : storeWf d m = true) :
    storeWf d (storeErase m k) = true := by
  induction m with
  | nil => rfl
  | cons c m ih =>
    obtain ⟨a, v⟩ := c
    simp only [storeWf, Bool.and_eq_true, decide_eq_true_eq] at h
    simp only [storeErase]
    split
    · exact ih h.2
    · simp only [storeWf, Bool.and_eq_true, decide_eq_true_eq]
      exact ⟨⟨h.1.1, storeAbove_erase k h.1.2⟩, ih h.2⟩

theorem storeWf_insert [DecidableEq α] {d : Nat → α} {m : List (Nat × α)} {k : Nat} {v : α} (hv : v ≠ d k)
    (h : storeWf d m = true) : storeWf d (storeInsert m k v) = true := by
  induction m with
  | nil => simp [storeInsert, storeWf, storeAbove, hv]
  | cons c m ih =>
    obtain ⟨a, w⟩ := c
    simp only [storeWf, Bool.and_eq_true, decide_eq_true_eq] at h
    simp only [storeInsert]
    split
    · rename_i hk
      simp only [storeWf, storeAbove, Bool.and_eq_true, decide_eq_true_eq]
      exact ⟨⟨hv, hk, storeAbove_le h.1.2 (by omega)⟩, h⟩
    · split
      · rename_i hk; subst hk
        simp only [storeWf, Bool.and_eq_true, decide_eq_true_eq]
        exact ⟨⟨hv, h.1.2⟩, h.2⟩
      · simp only [storeWf, Bool.and_eq_true, decide_eq_true_eq]
        exact ⟨⟨h.1.1, storeAbove_insert k v h.1.2 (by omega)⟩, ih h.2⟩

/-- A write keeps the canonical form. -/
theorem storeWf_put [DecidableEq α] {d : Nat → α} {m : List (Nat × α)} (k : Nat) (v : α) (h : storeWf d m = true) :
    storeWf d (storePut d m k v) = true := by
  unfold storePut
  split
  · exact storeWf_erase k h
  · rename_i hv; exact storeWf_insert hv h

theorem storeAbove_filter {lo : Nat} {m : List (Nat × α)} (q : Nat × α → Bool) (h : storeAbove lo m = true) :
    storeAbove lo (m.filter q) = true := by
  induction m with
  | nil => rfl
  | cons c m ih =>
    obtain ⟨a, v⟩ := c
    simp only [storeAbove, Bool.and_eq_true, decide_eq_true_eq] at h
    simp only [List.filter]
    split
    · simp [storeAbove, h.1, ih h.2]
    · exact ih h.2

/-- Forgetting entries keeps the canonical form. -/
theorem storeWf_filter [DecidableEq α] {d : Nat → α} {m : List (Nat × α)} (q : Nat × α → Bool)
    (h : storeWf d m = true) : storeWf d (m.filter q) = true := by
  induction m with
  | nil => rfl
  | cons c m ih =>
    obtain ⟨a, v⟩ := c
    simp only [storeWf, Bool.and_eq_true, decide_eq_true_eq] at h
    simp only [List.filter]
    split
    · simp only [storeWf, Bool.and_eq_true, decide_eq_true_eq]
      exact ⟨⟨h.1.1, storeAbove_filter q h.1.2⟩, ih h.2⟩
    · exact ih h.2

end Sys2Proof.Machine
end

