-- ==== Sys2Proof/Laws/Regs.lean ====
section
/-!
SUPPORT. Reading a register or a field after a write of a register or a field.
-/
namespace Sys2Proof.Machine

/-! ## Bits of a word -/

theorem bitsGet_lt (w : Word) (hi lo : Nat) : bitsGet w hi lo < 2 ^ (hi + 1 - lo) :=
  Nat.mod_lt _ (Nat.two_pow_pos _)

theorem bitsGet_testBit (w : Word) (hi lo i : Nat) :
    (bitsGet w hi lo).testBit i = (decide (i < hi + 1 - lo) && w.getLsbD (lo + i)) := by
  simp [bitsGet, Nat.testBit_mod_two_pow, Nat.testBit_div_two_pow, BitVec.getLsbD, Nat.add_comm]

/-- The bits of a word that lie outside hi..lo stay, those inside are replaced. -/
theorem bitsPut_getLsbD (w : Word) {hi lo : Nat} (v i : Nat) (h : lo ≤ hi) :
    (bitsPut w hi lo v).getLsbD i =
      (decide (i < 32) && if lo ≤ i ∧ i ≤ hi then v.testBit (i - lo) else w.getLsbD i) := by
  have key : w.toNat - bitsGet w hi lo * 2 ^ lo + (v % 2 ^ (hi + 1 - lo)) * 2 ^ lo =
      2 ^ (hi + 1) * (w.toNat / 2 ^ (hi + 1)) + ((v % 2 ^ (hi + 1 - lo)) * 2 ^ lo + w.toNat % 2 ^ lo) := by
    have e1 : w.toNat / 2 ^ lo / 2 ^ (hi + 1 - lo) = w.toNat / 2 ^ (hi + 1) := by
      rw [Nat.div_div_eq_div_mul, ← Nat.pow_add]; congr 2; omega
    have e2 := Nat.div_add_mod w.toNat (2 ^ lo)
    have e3 := Nat.div_add_mod (w.toNat / 2 ^ lo) (2 ^ (hi + 1 - lo))
    have e4 : 2 ^ (hi + 1) = 2 ^ (hi + 1 - lo) * 2 ^ lo := by rw [← Nat.pow_add]; congr 1; omega
    rw [e1] at e3
    have e5 : bitsGet w hi lo = w.toNat / 2 ^ lo % 2 ^ (hi + 1 - lo) := rfl
    rw [e5]
    generalize w.toNat / 2 ^ lo % 2 ^ (hi + 1 - lo) = x at *
    generalize w.toNat / 2 ^ (hi + 1) = y at *
    generalize w.toNat % 2 ^ lo = z at *
    generalize hA : 2 ^ (hi + 1 - lo) = A at *
    generalize 2 ^ lo = B at *
    rw [e4]
    have : w.toNat = A * B * y + (x * B + z) := by
      rw [← e2, ← e3]; ring
    rw [this]
    have hle : x * B ≤ A * B * y + (x * B + z) := by nlinarith [Nat.zero_le (A * B * y)]
    generalize v % A * B = q
    generalize x * B = r at *
    generalize A * B * y = p at *
    omega
  simp only [bitsPut, BitVec.getLsbD_ofNat, key]
  by_cases hi32 : i < 32
  · simp only [hi32, decide_true, Bool.true_and]
    have hz : (v % 2 ^ (hi + 1 - lo)) * 2 ^ lo + w.toNat % 2 ^ lo < 2 ^ (hi + 1) := by
      have h1 := Nat.mod_lt w.toNat (Nat.two_pow_pos lo)
      have h2 := Nat.mod_lt v (Nat.two_pow_pos (hi + 1 - lo))
      have e4 : 2 ^ (hi + 1) = 2 ^ (hi + 1 - lo) * 2 ^ lo := by rw [← Nat.pow_add]; congr 1; omega
      rw [e4]
      have h3 := Nat.mul_le_mul_right (2 ^ lo) (Nat.succ_le_of_lt h2)
      rw [Nat.succ_mul] at h3
      omega
    by_cases hgt : hi < i
    · have : ¬(lo ≤ i ∧ i ≤ hi) := by omega
      rw [if_neg this, Nat.testBit_two_pow_mul_add _ hz, if_neg (by omega), Nat.testBit_div_two_pow]
      simp only [BitVec.getLsbD]
      congr 1; omega
    · rw [Nat.testBit_two_pow_mul_add _ hz, if_pos (by omega)]
      rw [Nat.mul_comm, Nat.testBit_two_pow_mul_add _ (Nat.mod_lt _ (Nat.two_pow_pos lo))]
      by_cases hlo : i < lo
      · rw [if_pos hlo, if_neg (by omega), Nat.testBit_mod_two_pow]
        simp [hlo, BitVec.getLsbD]
      · rw [if_neg hlo, if_pos (by omega), Nat.testBit_mod_two_pow]
        have : i - lo < hi + 1 - lo := by omega
        simp [this]
  · simp [hi32]

/-- A field just put reads as the value put, cut to its width. -/
theorem bitsGet_bitsPut_same (w : Word) {hi lo : Nat} (v : Nat) (h : lo ≤ hi) (h' : hi < 32) :
    bitsGet (bitsPut w hi lo v) hi lo = v % 2 ^ (hi + 1 - lo) := by
  apply Nat.eq_of_testBit_eq
  intro i
  rw [bitsGet_testBit, bitsPut_getLsbD w v (lo + i) h, Nat.testBit_mod_two_pow]
  by_cases hi' : i < hi + 1 - lo
  · have h1 : lo + i < 32 := by omega
    have h2 : lo ≤ lo + i ∧ lo + i ≤ hi := by omega
    simp [hi', h1, h2]
  · simp [hi']

/-- A field that shares no bit with the one put reads as before. -/
theorem bitsGet_bitsPut_disj (w : Word) {hi lo hi' lo' : Nat} (v : Nat) (h : lo ≤ hi)
    (hd : hi' < lo ∨ hi < lo') : bitsGet (bitsPut w hi lo v) hi' lo' = bitsGet w hi' lo' := by
  apply Nat.eq_of_testBit_eq
  intro i
  rw [bitsGet_testBit, bitsGet_testBit, bitsPut_getLsbD w v (lo' + i) h]
  by_cases hi' : i < hi' + 1 - lo'
  · have h3 : ¬(lo ≤ lo' + i ∧ lo' + i ≤ hi) := by omega
    by_cases h1 : lo' + i < 32
    · simp [hi', h1, h3]
    · simp [hi', h1, BitVec.getLsbD_of_ge _ _ (Nat.le_of_not_lt h1)]
  · simp [hi']

/-! ## Registers -/

@[simp] theorem reg_setReg_same (d : Dev) (a : Nat) (w : Word) : (d.setReg a w).reg a = w := by
  simp [Dev.reg, Dev.setReg]

theorem reg_setReg_ne (d : Dev) {a b : Nat} (w : Word) (h : b ≠ a) : (d.setReg a w).reg b = d.reg b := by
  simp [Dev.reg, Dev.setReg, storeGet_put_ne _ _ _ h]

/-- The field lies inside its word. -/
def FieldSpec.fits (f : FieldSpec) : Bool := decide (f.lo ≤ f.hi) && decide (f.hi < 32)

/-- Two fields of one word share no bit. -/
def FieldSpec.apart (f g : FieldSpec) : Bool := decide (g.hi < f.lo) || decide (f.hi < g.lo)

theorem getAt_putAt_same (d : Dev) (p : Nat) (f : FieldSpec) (i v : Nat) (h : f.fits = true) :
    (d.putAt p f i v).getAt p f i = v % 2 ^ (f.hi + 1 - f.lo) := by
  simp only [FieldSpec.fits, Bool.and_eq_true, decide_eq_true_eq] at h
  simp [Dev.putAt, Dev.getAt, bitsGet_bitsPut_same _ _ h.1 h.2]

theorem getAt_putAt_word (d : Dev) {p q : Nat} {f g : FieldSpec} {i j : Nat} (v : Nat)
    (h : g.addr q j ≠ f.addr p i) : (d.putAt p f i v).getAt q g j = d.getAt q g j := by
  simp [Dev.putAt, Dev.getAt, reg_setReg_ne _ _ h]

theorem getAt_putAt_apart (d : Dev) {p q : Nat} {f g : FieldSpec} {i j : Nat} (v : Nat) (hf : f.fits = true)
    (h : f.apart g = true) : (d.putAt p f i v).getAt q g j = d.getAt q g j := by
  by_cases he : g.addr q j = f.addr p i
  · simp only [FieldSpec.fits, Bool.and_eq_true, decide_eq_true_eq] at hf
    simp only [FieldSpec.apart, Bool.or_eq_true, decide_eq_true_eq] at h
    simp only [Dev.putAt, Dev.getAt, he, reg_setReg_same]
    exact bitsGet_bitsPut_disj _ _ hf.1 h
  · exact getAt_putAt_word d v he

theorem reg_putAt_ne (d : Dev) {p : Nat} {f : FieldSpec} {i a : Nat} (v : Nat) (h : a ≠ f.addr p i) :
    (d.putAt p f i v).reg a = d.reg a := by
  simp [Dev.putAt, reg_setReg_ne _ _ h]

end Sys2Proof.Machine
end

