-- ==== Sys2Proof/Laws/State.lean ====
section
/-!
SUPPORT. What each update of the state leaves of each of its fields. The proofs stand in parentheses, so that `simp` rewrites
with the lemmas and the kernel never compares register stores.
-/
namespace Sys2Proof.Machine

/-! ## Derived register operations are one put -/

@[simp] theorem Dev.put_eq (p : Nat) (f : FieldSpec) (v : Nat) (d : Dev) : d.put p f v = d.putAt p f 0 v := (rfl)
@[simp] theorem Dev.get_eq (p : Nat) (f : FieldSpec) (d : Dev) : d.get p f = d.getAt p f 0 := (rfl)
@[simp] theorem Dev.flag_eq (p : Nat) (f : FieldSpec) (d : Dev) : d.flag p f = decide (d.getAt p f 0 = 1) := (rfl)
@[simp] theorem Dev.flagAt_eq (p : Nat) (f : FieldSpec) (i : Nat) (d : Dev) :
    d.flagAt p f i = decide (d.getAt p f i = 1) := (rfl)
@[simp] theorem Dev.bit_eq (p : Nat) (f : FieldSpec) (k : Nat) (d : Dev) :
    d.bit p f k = (d.getAt p f 0).testBit k := (rfl)
@[simp] theorem Dev.putFlag_eq (p : Nat) (f : FieldSpec) (b : Bool) (d : Dev) :
    d.putFlag p f b = d.putAt p f 0 b.toNat := (rfl)
@[simp] theorem Dev.raise_eq (p : Nat) (f : FieldSpec) (d : Dev) : d.raise p f = d.putAt p f 0 1 := (rfl)
@[simp] theorem Dev.count_eq (p : Nat) (f : FieldSpec) (d : Dev) :
    d.count p f = d.putAt p f 0 (min f.max (d.getAt p f 0 + 1)) := (rfl)
@[simp] theorem Dev.countAt_eq (p : Nat) (f : FieldSpec) (i : Nat) (d : Dev) :
    d.countAt p f i = d.putAt p f i (min f.max (d.getAt p f i + 1)) := (rfl)
@[simp] theorem Dev.countWrap_eq (p : Nat) (f : FieldSpec) (d : Dev) :
    d.countWrap p f = d.putAt p f 0 (d.getAt p f 0 + 1) := (rfl)
@[simp] theorem Dev.countWrapAt_eq (p : Nat) (f : FieldSpec) (i : Nat) (d : Dev) :
    d.countWrapAt p f i = d.putAt p f i (d.getAt p f i + 1) := (rfl)

/-! ## The fields after an update -/

@[simp] theorem setReg_triad (a : Nat) (w : Word) (d : Dev) : (d.setReg a w).triad = d.triad := (rfl)
@[simp] theorem setReg_eng (a : Nat) (w : Word) (d : Dev) : (d.setReg a w).eng = d.eng := (rfl)
@[simp] theorem setReg_mp (a : Nat) (w : Word) (d : Dev) : (d.setReg a w).mp = d.mp := (rfl)
@[simp] theorem setReg_pw (a : Nat) (w : Word) (d : Dev) : (d.setReg a w).pw = d.pw := (rfl)
@[simp] theorem setReg_sense (a : Nat) (w : Word) (d : Dev) : (d.setReg a w).sense = d.sense := (rfl)
@[simp] theorem setReg_felt (a : Nat) (w : Word) (d : Dev) : (d.setReg a w).felt = d.felt := (rfl)
@[simp] theorem setReg_acq (a : Nat) (w : Word) (d : Dev) : (d.setReg a w).acq = d.acq := (rfl)
@[simp] theorem setReg_prec (a : Nat) (w : Word) (d : Dev) : (d.setReg a w).prec = d.prec := (rfl)
@[simp] theorem setReg_safe (a : Nat) (w : Word) (d : Dev) : (d.setReg a w).safe = d.safe := (rfl)
@[simp] theorem setReg_bus (a : Nat) (w : Word) (d : Dev) : (d.setReg a w).bus = d.bus := (rfl)
@[simp] theorem setReg_chain (a : Nat) (w : Word) (d : Dev) : (d.setReg a w).chain = d.chain := (rfl)
@[simp] theorem setReg_boot (a : Nat) (w : Word) (d : Dev) : (d.setReg a w).boot = d.boot := (rfl)
@[simp] theorem setReg_free (a : Nat) (w : Word) (d : Dev) : (d.setReg a w).free = d.free := (rfl)
@[simp] theorem setReg_now (a : Nat) (w : Word) (d : Dev) : (d.setReg a w).now = d.now := (rfl)
@[simp] theorem setReg_wr (a : Nat) (w : Word) (d : Dev) : (d.setReg a w).wr = d.wr := (rfl)
@[simp] theorem setReg_wipe (a : Nat) (w : Word) (d : Dev) : (d.setReg a w).wipe = d.wipe := (rfl)
@[simp] theorem setReg_rebase (a : Nat) (w : Word) (d : Dev) : (d.setReg a w).rebase = d.rebase := (rfl)
@[simp] theorem setReg_arms (a : Nat) (w : Word) (d : Dev) : (d.setReg a w).arms = d.arms := (rfl)
@[simp] theorem setReg_latches (a : Nat) (w : Word) (d : Dev) : (d.setReg a w).latches = d.latches := (rfl)
@[simp] theorem setReg_regRounds (a : Nat) (w : Word) (d : Dev) : (d.setReg a w).regRounds = d.regRounds := (rfl)

@[simp] theorem putAt_triad (p : Nat) (g : FieldSpec) (i v : Nat) (d : Dev) : (d.putAt p g i v).triad = d.triad := (rfl)
@[simp] theorem putAt_eng (p : Nat) (g : FieldSpec) (i v : Nat) (d : Dev) : (d.putAt p g i v).eng = d.eng := (rfl)
@[simp] theorem putAt_mp (p : Nat) (g : FieldSpec) (i v : Nat) (d : Dev) : (d.putAt p g i v).mp = d.mp := (rfl)
@[simp] theorem putAt_pw (p : Nat) (g : FieldSpec) (i v : Nat) (d : Dev) : (d.putAt p g i v).pw = d.pw := (rfl)
@[simp] theorem putAt_sense (p : Nat) (g : FieldSpec) (i v : Nat) (d : Dev) : (d.putAt p g i v).sense = d.sense := (rfl)
@[simp] theorem putAt_felt (p : Nat) (g : FieldSpec) (i v : Nat) (d : Dev) : (d.putAt p g i v).felt = d.felt := (rfl)
@[simp] theorem putAt_acq (p : Nat) (g : FieldSpec) (i v : Nat) (d : Dev) : (d.putAt p g i v).acq = d.acq := (rfl)
@[simp] theorem putAt_prec (p : Nat) (g : FieldSpec) (i v : Nat) (d : Dev) : (d.putAt p g i v).prec = d.prec := (rfl)
@[simp] theorem putAt_safe (p : Nat) (g : FieldSpec) (i v : Nat) (d : Dev) : (d.putAt p g i v).safe = d.safe := (rfl)
@[simp] theorem putAt_bus (p : Nat) (g : FieldSpec) (i v : Nat) (d : Dev) : (d.putAt p g i v).bus = d.bus := (rfl)
@[simp] theorem putAt_chain (p : Nat) (g : FieldSpec) (i v : Nat) (d : Dev) : (d.putAt p g i v).chain = d.chain := (rfl)
@[simp] theorem putAt_boot (p : Nat) (g : FieldSpec) (i v : Nat) (d : Dev) : (d.putAt p g i v).boot = d.boot := (rfl)
@[simp] theorem putAt_free (p : Nat) (g : FieldSpec) (i v : Nat) (d : Dev) : (d.putAt p g i v).free = d.free := (rfl)
@[simp] theorem putAt_now (p : Nat) (g : FieldSpec) (i v : Nat) (d : Dev) : (d.putAt p g i v).now = d.now := (rfl)
@[simp] theorem putAt_wr (p : Nat) (g : FieldSpec) (i v : Nat) (d : Dev) : (d.putAt p g i v).wr = d.wr := (rfl)
@[simp] theorem putAt_wipe (p : Nat) (g : FieldSpec) (i v : Nat) (d : Dev) : (d.putAt p g i v).wipe = d.wipe := (rfl)
@[simp] theorem putAt_rebase (p : Nat) (g : FieldSpec) (i v : Nat) (d : Dev) : (d.putAt p g i v).rebase = d.rebase := (rfl)
@[simp] theorem putAt_arms (p : Nat) (g : FieldSpec) (i v : Nat) (d : Dev) : (d.putAt p g i v).arms = d.arms := (rfl)
@[simp] theorem putAt_latches (p : Nat) (g : FieldSpec) (i v : Nat) (d : Dev) : (d.putAt p g i v).latches = d.latches :=
  (rfl)
@[simp] theorem putAt_regRounds (p : Nat) (g : FieldSpec) (i v : Nat) (d : Dev) : (d.putAt p g i v).regRounds = d.regRounds :=
  (rfl)

@[simp] theorem begin_triad (t : Nat) (d : Dev) : (d.begin t).triad = d.triad := (rfl)
@[simp] theorem begin_eng (t : Nat) (d : Dev) : (d.begin t).eng = d.eng := (rfl)
@[simp] theorem begin_mp (t : Nat) (d : Dev) : (d.begin t).mp = d.mp := (rfl)
@[simp] theorem begin_pw (t : Nat) (d : Dev) : (d.begin t).pw = d.pw := (rfl)
@[simp] theorem begin_sense (t : Nat) (d : Dev) : (d.begin t).sense = d.sense := (rfl)
@[simp] theorem begin_felt (t : Nat) (d : Dev) : (d.begin t).felt = d.felt := (rfl)
@[simp] theorem begin_acq (t : Nat) (d : Dev) : (d.begin t).acq = d.acq := (rfl)
@[simp] theorem begin_prec (t : Nat) (d : Dev) : (d.begin t).prec = d.prec := (rfl)
@[simp] theorem begin_safe (t : Nat) (d : Dev) : (d.begin t).safe = d.safe := (rfl)
@[simp] theorem begin_bus (t : Nat) (d : Dev) : (d.begin t).bus = d.bus := (rfl)
@[simp] theorem begin_chain (t : Nat) (d : Dev) : (d.begin t).chain = d.chain := (rfl)
@[simp] theorem begin_boot (t : Nat) (d : Dev) : (d.begin t).boot = d.boot := (rfl)
@[simp] theorem begin_free (t : Nat) (d : Dev) : (d.begin t).free = d.free := (rfl)
@[simp] theorem begin_arms (t : Nat) (d : Dev) : (d.begin t).arms = d.arms := (rfl)
@[simp] theorem begin_latches (t : Nat) (d : Dev) : (d.begin t).latches = d.latches := (rfl)
@[simp] theorem begin_regRounds (t : Nat) (d : Dev) : (d.begin t).regRounds = d.regRounds := (rfl)
@[simp] theorem begin_now (t : Nat) (d : Dev) : (d.begin t).now = max d.now t := (rfl)
@[simp] theorem begin_wr (t : Nat) (d : Dev) : (d.begin t).wr = [] := (rfl)
@[simp] theorem begin_wipe (t : Nat) (d : Dev) : (d.begin t).wipe = [] := (rfl)
@[simp] theorem begin_rebase (t : Nat) (d : Dev) : (d.begin t).rebase = false := (rfl)
@[simp] theorem begin_reg (t a : Nat) (d : Dev) : (d.begin t).reg a = d.reg a := (rfl)
@[simp] theorem begin_getAt (t p : Nat) (f : FieldSpec) (i : Nat) (d : Dev) : (d.begin t).getAt p f i = d.getAt p f i :=
  (rfl)
@[simp] theorem begin_byte (t : Nat) (m : List Host.Cell) (a : Nat) (d : Dev) : (d.begin t).byte m a = memByte m a := (rfl)

@[simp] theorem land_triad (t : Nat) (d : Dev) (s : State) : (s.land t d).dev.triad = d.triad := (rfl)
@[simp] theorem land_eng (t : Nat) (d : Dev) (s : State) : (s.land t d).dev.eng = d.eng := (rfl)
@[simp] theorem land_mp (t : Nat) (d : Dev) (s : State) : (s.land t d).dev.mp = d.mp := (rfl)
@[simp] theorem land_pw (t : Nat) (d : Dev) (s : State) : (s.land t d).dev.pw = d.pw := (rfl)
@[simp] theorem land_sense (t : Nat) (d : Dev) (s : State) : (s.land t d).dev.sense = d.sense := (rfl)
@[simp] theorem land_felt (t : Nat) (d : Dev) (s : State) : (s.land t d).dev.felt = d.felt := (rfl)
@[simp] theorem land_acq (t : Nat) (d : Dev) (s : State) : (s.land t d).dev.acq = d.acq := (rfl)
@[simp] theorem land_prec (t : Nat) (d : Dev) (s : State) : (s.land t d).dev.prec = d.prec := (rfl)
@[simp] theorem land_safe (t : Nat) (d : Dev) (s : State) : (s.land t d).dev.safe = d.safe := (rfl)
@[simp] theorem land_bus (t : Nat) (d : Dev) (s : State) : (s.land t d).dev.bus = d.bus := (rfl)
@[simp] theorem land_chain (t : Nat) (d : Dev) (s : State) : (s.land t d).dev.chain = d.chain := (rfl)
@[simp] theorem land_boot (t : Nat) (d : Dev) (s : State) : (s.land t d).dev.boot = d.boot := (rfl)
@[simp] theorem land_free (t : Nat) (d : Dev) (s : State) : (s.land t d).dev.free = d.free := (rfl)
@[simp] theorem land_arms (t : Nat) (d : Dev) (s : State) : (s.land t d).dev.arms = d.arms := (rfl)
@[simp] theorem land_latches (t : Nat) (d : Dev) (s : State) : (s.land t d).dev.latches = d.latches := (rfl)
@[simp] theorem land_regRounds (t : Nat) (d : Dev) (s : State) : (s.land t d).dev.regRounds = d.regRounds := (rfl)
@[simp] theorem land_pending (t : Nat) (d : Dev) (s : State) : (s.land t d).pending = s.pending := (rfl)
@[simp] theorem land_wr (t : Nat) (d : Dev) (s : State) : (s.land t d).dev.wr = [] := (rfl)
@[simp] theorem land_wipe (t : Nat) (d : Dev) (s : State) : (s.land t d).dev.wipe = [] := (rfl)
@[simp] theorem land_rebase (t : Nat) (d : Dev) (s : State) : (s.land t d).dev.rebase = false := (rfl)
@[simp] theorem land_reg (t a : Nat) (d : Dev) (s : State) : (s.land t d).dev.reg a = d.reg a := (rfl)
@[simp] theorem land_getAt (t p : Nat) (f : FieldSpec) (i : Nat) (d : Dev) (s : State) :
    (s.land t d).dev.getAt p f i = d.getAt p f i := (rfl)
theorem land_now (t : Nat) (d : Dev) (s : State) :
    (s.land t d).dev.now = if d.rebase then 0 else max s.dev.now t := (rfl)
theorem land_mem (t : Nat) (d : Dev) (s : State) : 
    (s.land t d).mem = memApply (memWipe d.wipe s.mem) (d.wr.filter (fun c => inMemory c.1)) := (rfl)

@[simp] theorem memWipe_nil (m : List Host.Cell) : memWipe [] m = m := by simp [memWipe]
@[simp] theorem memApply_nil (m : List Host.Cell) : memApply m [] = m := (rfl)

/-- A command that stages nothing and wipes nothing leaves memory as it was. -/
theorem land_mem_same {t : Nat} {d : Dev} {s : State} (hw : d.wr = []) (hp : d.wipe = []) : (s.land t d).mem = s.mem := by
  simp [land_mem, hw, hp]

/-! ## The register round that ends a register command -/

theorem foldl_put_armed (l : List LockArm) (d : Dev) :
    (∀ a, a % 0x1000 ≠ 0x1C → (l.foldl (fun d a => d.put a.page HDR.LOCK_ARMED 0) d).reg a = d.reg a) ∧
      l.foldl (fun d a => d.put a.page HDR.LOCK_ARMED 0) d =
        { d with regs := (l.foldl (fun d a => d.put a.page HDR.LOCK_ARMED 0) d).regs } := by
  induction l generalizing d with
  | nil => exact ⟨fun _ _ => rfl, rfl⟩
  | cons x l ih =>
    obtain ⟨h1, h2⟩ := ih (d.put x.page HDR.LOCK_ARMED 0)
    refine ⟨fun a ha => ?_, ?_⟩
    · rw [List.foldl_cons, h1 a ha, Dev.put_eq, reg_putAt_ne]
      simp only [FieldSpec.addr, HDR.LOCK_ARMED]
      omega
    · rw [List.foldl_cons, h2]; rfl

/-- The round changes no register but the LOCK words. -/
theorem regRound_reg (d : Dev) {a : Nat} (h : a % 0x1000 ≠ 0x1C) : d.regRound.reg a = d.reg a :=
  (foldl_put_armed _ d).1 a h

theorem regRound_getAt (d : Dev) {p : Nat} {f : FieldSpec} {i : Nat} (h : f.addr p i % 0x1000 ≠ 0x1C) :
    d.regRound.getAt p f i = d.getAt p f i := by
  simp [Dev.getAt, regRound_reg d h]

theorem regRound_frame (d : Dev) :
    d.regRound = { d with regs := d.regRound.regs, regRounds := d.regRound.regRounds, arms := d.regRound.arms } := by
  unfold Dev.regRound
  simp only
  rw [(foldl_put_armed _ d).2]

@[simp] theorem regRound_triad (d : Dev) : d.regRound.triad = d.triad := by rw [regRound_frame]
@[simp] theorem regRound_eng (d : Dev) : d.regRound.eng = d.eng := by rw [regRound_frame]
@[simp] theorem regRound_mp (d : Dev) : d.regRound.mp = d.mp := by rw [regRound_frame]
@[simp] theorem regRound_pw (d : Dev) : d.regRound.pw = d.pw := by rw [regRound_frame]
@[simp] theorem regRound_sense (d : Dev) : d.regRound.sense = d.sense := by rw [regRound_frame]
@[simp] theorem regRound_felt (d : Dev) : d.regRound.felt = d.felt := by rw [regRound_frame]
@[simp] theorem regRound_acq (d : Dev) : d.regRound.acq = d.acq := by rw [regRound_frame]
@[simp] theorem regRound_prec (d : Dev) : d.regRound.prec = d.prec := by rw [regRound_frame]
@[simp] theorem regRound_safe (d : Dev) : d.regRound.safe = d.safe := by rw [regRound_frame]
@[simp] theorem regRound_bus (d : Dev) : d.regRound.bus = d.bus := by rw [regRound_frame]
@[simp] theorem regRound_chain (d : Dev) : d.regRound.chain = d.chain := by rw [regRound_frame]
@[simp] theorem regRound_boot (d : Dev) : d.regRound.boot = d.boot := by rw [regRound_frame]
@[simp] theorem regRound_free (d : Dev) : d.regRound.free = d.free := by rw [regRound_frame]
@[simp] theorem regRound_now (d : Dev) : d.regRound.now = d.now := by rw [regRound_frame]
@[simp] theorem regRound_wr (d : Dev) : d.regRound.wr = d.wr := by rw [regRound_frame]
@[simp] theorem regRound_wipe (d : Dev) : d.regRound.wipe = d.wipe := by rw [regRound_frame]
@[simp] theorem regRound_rebase (d : Dev) : d.regRound.rebase = d.rebase := by rw [regRound_frame]
@[simp] theorem regRound_latches (d : Dev) : d.regRound.latches = d.latches := by rw [regRound_frame]

/-! ## Running -/

theorem run_next (t : Nat) (f : List Host.Cell → Dev → Dev) (s : State) :
    run t f s = .next (s.land t (f s.mem (s.dev.begin t))) := (rfl)

theorem runReg_next (t : Nat) (f : List Host.Cell → Dev → Dev) (s : State) :
    runReg t f s = .next (s.land t (f s.mem (s.dev.begin t)).regRound) := (rfl)

/-- What a command that may fault answers. -/
theorem runF_cases (t : Nat) (f : List Host.Cell → Dev → Except Fault Dev) (s : State) :
    (∃ d, f s.mem (s.dev.begin t) = .ok d ∧ runF t f s = .next (s.land t d)) ∨
      ∃ e, f s.mem (s.dev.begin t) = .error e ∧ runF t f s = .fault e := by
  unfold runF
  cases h : f s.mem (s.dev.begin t) with
  | ok d => exact .inl ⟨d, rfl, rfl⟩
  | error e => exact .inr ⟨e, rfl, rfl⟩

end Sys2Proof.Machine
end

