-- ==== Sys2Proof/Laws/Memory.lean ====
section
/-!
SUPPORT. Memory: what a byte reads as after a write, and that every operation of a command keeps the canonical form.
-/
namespace Sys2Proof.Machine

/-! ## One byte -/

/-- A byte just written reads as the value written. -/
@[simp] theorem memByte_put_same (m : List Host.Cell) (a : Nat) (b : Byte) :
    memByte (storePut memDefault m a b) a = b := storeGet_put_same _ _ _ _

/-- A write leaves every other byte alone. -/
theorem memByte_put_ne (m : List Host.Cell) {a a' : Nat} (b : Byte) (h : a' ≠ a) :
    memByte (storePut memDefault m a b) a' = memByte m a' := storeGet_put_ne _ _ _ h

/-- An address that no staged cell names reads as before. -/
theorem memByte_apply_ne (m ws : List Host.Cell) {a : Nat} (h : ∀ c ∈ ws, c.1 ≠ a) :
    memByte (memApply m ws) a = memByte m a := by
  induction ws generalizing m with
  | nil => rfl
  | cons c ws ih =>
    rw [memApply, List.foldl_cons, ← memApply, ih _ (fun c' hc' => h c' (List.mem_cons_of_mem _ hc'))]
    exact memByte_put_ne _ _ (Ne.symm (h c List.mem_cons_self))

/-! ## The canonical form -/

theorem mem_storeErase {α : Type} {m : List (Nat × α)} {k : Nat} {c : Nat × α} (h : c ∈ storeErase m k) : c ∈ m := by
  induction m with
  | nil => exact h
  | cons x m ih =>
    obtain ⟨a, v⟩ := x
    simp only [storeErase] at h
    split at h
    · exact List.mem_cons_of_mem _ (ih h)
    · rcases List.mem_cons.mp h with h | h
      · exact h ▸ List.mem_cons_self
      · exact List.mem_cons_of_mem _ (ih h)

theorem mem_storeInsert {α : Type} {m : List (Nat × α)} {k : Nat} {v : α} {c : Nat × α} (h : c ∈ storeInsert m k v) :
    c = (k, v) ∨ c ∈ m := by
  induction m with
  | nil => simpa [storeInsert] using h
  | cons x m ih =>
    obtain ⟨a, w⟩ := x
    simp only [storeInsert] at h
    split at h
    · simpa using h
    · split at h
      · rcases List.mem_cons.mp h with h | h
        · exact .inl h
        · exact .inr (List.mem_cons_of_mem _ h)
      · rcases List.mem_cons.mp h with h | h
        · exact .inr (h ▸ List.mem_cons_self)
        · rcases ih h with h | h
          · exact .inl h
          · exact .inr (List.mem_cons_of_mem _ h)

/-- Writing cells keeps the canonical form and lists no address but those written and those listed before. -/
theorem memApply_wf {m : List Host.Cell} (ws : List Host.Cell) (h : Memory.wf m = true)
    (hm : ∀ c ∈ m, inMemory c.1 = true) (hw : ∀ c ∈ ws, inMemory c.1 = true) :
    Memory.wf (memApply m ws) = true ∧ ∀ c ∈ memApply m ws, inMemory c.1 = true := by
  induction ws generalizing m with
  | nil => exact ⟨h, hm⟩
  | cons x ws ih =>
    refine ih (m := storePut memDefault m x.1 x.2) (storeWf_put _ _ h) (fun c hc => ?_)
      (fun c hc => hw c (List.mem_cons_of_mem _ hc))
    unfold storePut at hc
    split at hc
    · exact hm c (mem_storeErase hc)
    · rcases mem_storeInsert hc with h' | h'
      · exact h' ▸ hw x List.mem_cons_self
      · exact hm c h'

/-- A wipe keeps the canonical form. -/
theorem memWipe_wf {m : List Host.Cell} (ws : List Nat) (h : Memory.wf m = true) : Memory.wf (memWipe ws m) = true :=
  storeWf_filter _ h

/-- Whatever a command does, the state it leaves has the form of a state between commands. -/
theorem land_canonical (t : Nat) (d : Dev) {s : State} (h : s.canonical) : (s.land t d).canonical := by
  obtain ⟨h1, h2, -⟩ := h
  have hm : ∀ c ∈ memWipe d.wipe s.mem, inMemory c.1 = true := fun c hc => h2 c (List.mem_filter.mp hc).1
  have hw : ∀ c ∈ d.wr.filter (fun c => inMemory c.1), inMemory c.1 = true := fun c hc => by
    simpa using (List.mem_filter.mp hc).2
  have := memApply_wf _ (memWipe_wf d.wipe h1) hm hw
  exact ⟨this.1, this.2, rfl, rfl, rfl⟩

/-- A command that stages nothing and wipes nothing leaves memory and queue alone. -/
theorem land_memSame {t : Nat} {d : Dev} {s : State} (hw : d.wr = []) (hp : d.wipe = []) : s.memSame (s.land t d) :=
  ⟨fun a => by rw [land_mem_same hw hp], rfl⟩

end Sys2Proof.Machine
end

