-- ==== Sys2Proof/Laws/Exec.lean ====
section
/-!
SUPPORT. What every command has in common: a next state is the old one with a command's effect landed on it.
-/
namespace Sys2Proof.Machine

theorem runF_lands {t : Nat} {f : List Host.Cell → Dev → Except Fault Dev} {s s' : State}
    (h : runF t f s = .next s') : ∃ t d, s' = s.land t d := by
  rcases runF_cases t f s with ⟨d, -, h2⟩ | ⟨e, -, h2⟩
  · rw [h2] at h; cases h; exact ⟨_, _, rfl⟩
  · rw [h2] at h; cases h

theorem next_lands {o : Host.Outcome State Fault Refusal} {s s' : State} (h : ∃ t d, o = .next (s.land t d))
    (h' : o = .next s') : ∃ t d, s' = s.land t d := by
  obtain ⟨t, d, rfl⟩ := h
  cases h'; exact ⟨t, d, rfl⟩

/-- Whatever command runs, the state it answers is the state before it with some effect landed. -/
theorem exec_lands (c : Instr) {s s' : State} (h : exec c s = .next s') : ∃ t d, s' = s.land t d := by
  cases c <;> first
    | exact next_lands ⟨_, _, rfl⟩ h
    | (simp only [exec, execRegisterWrite, execDutyWrite, execAssignWrite, execDebugHalt, execDebugResume,
        execBrkCmdWrite, execFsrcWrite, execFeltHandshake, execRead, execWrite,
        execChainReset, execEngineReset, execArm, execClearRetry, execSpiRequest,
        execResetRelease, execDlDone, runRegF] at h
       exact runF_lands h)

end Sys2Proof.Machine
end

