-- ==== Sys2Proof/Laws/Units.lean ====
section
/-!
SUPPORT. What each update of a unit leaves of the device's other fields and of the unit's own, and what its parts read as.
The proofs stand in parentheses, so that `simp` rewrites with the lemmas and the kernel never compares register stores.
-/
namespace Sys2Proof.Machine

theorem getD_setIfInBounds_same {α : Type} {n : Nat} (v : Vector α n) {i : Nat} (x y : α) (h : i < n) :
    (v.setIfInBounds i x).toArray.getD i y = x := by
  simp [Array.getD, h]

theorem getD_setIfInBounds_ne {α : Type} {n : Nat} (v : Vector α n) {i j : Nat} (x y : α) (h : j ≠ i) :
    (v.setIfInBounds i x).toArray.getD j y = v.toArray.getD j y := by
  by_cases hj : j < n <;> simp [Array.getD, hj, Ne.symm h]

/-! ## setEngine -/

@[simp] theorem setEngine_triad (n : Nat) (x : Engine) (d : Dev) : (d.setEngine n x).triad = d.triad := (rfl)
@[simp] theorem setEngine_mp (n : Nat) (x : Engine) (d : Dev) : (d.setEngine n x).mp = d.mp := (rfl)
@[simp] theorem setEngine_pw (n : Nat) (x : Engine) (d : Dev) : (d.setEngine n x).pw = d.pw := (rfl)
@[simp] theorem setEngine_sense (n : Nat) (x : Engine) (d : Dev) : (d.setEngine n x).sense = d.sense := (rfl)
@[simp] theorem setEngine_felt (n : Nat) (x : Engine) (d : Dev) : (d.setEngine n x).felt = d.felt := (rfl)
@[simp] theorem setEngine_acq (n : Nat) (x : Engine) (d : Dev) : (d.setEngine n x).acq = d.acq := (rfl)
@[simp] theorem setEngine_prec (n : Nat) (x : Engine) (d : Dev) : (d.setEngine n x).prec = d.prec := (rfl)
@[simp] theorem setEngine_safe (n : Nat) (x : Engine) (d : Dev) : (d.setEngine n x).safe = d.safe := (rfl)
@[simp] theorem setEngine_bus (n : Nat) (x : Engine) (d : Dev) : (d.setEngine n x).bus = d.bus := (rfl)
@[simp] theorem setEngine_chain (n : Nat) (x : Engine) (d : Dev) : (d.setEngine n x).chain = d.chain := (rfl)
@[simp] theorem setEngine_boot (n : Nat) (x : Engine) (d : Dev) : (d.setEngine n x).boot = d.boot := (rfl)
@[simp] theorem setEngine_free (n : Nat) (x : Engine) (d : Dev) : (d.setEngine n x).free = d.free := (rfl)
@[simp] theorem setEngine_now (n : Nat) (x : Engine) (d : Dev) : (d.setEngine n x).now = d.now := (rfl)
@[simp] theorem setEngine_wr (n : Nat) (x : Engine) (d : Dev) : (d.setEngine n x).wr = d.wr := (rfl)
@[simp] theorem setEngine_wipe (n : Nat) (x : Engine) (d : Dev) : (d.setEngine n x).wipe = d.wipe := (rfl)
@[simp] theorem setEngine_rebase (n : Nat) (x : Engine) (d : Dev) : (d.setEngine n x).rebase = d.rebase := (rfl)
@[simp] theorem setEngine_arms (n : Nat) (x : Engine) (d : Dev) : (d.setEngine n x).arms = d.arms := (rfl)
@[simp] theorem setEngine_latches (n : Nat) (x : Engine) (d : Dev) : (d.setEngine n x).latches = d.latches := (rfl)
@[simp] theorem setEngine_regRounds (n : Nat) (x : Engine) (d : Dev) : (d.setEngine n x).regRounds = d.regRounds := (rfl)
@[simp] theorem setEngine_regs (n : Nat) (x : Engine) (d : Dev) : (d.setEngine n x).regs = d.regs := (rfl)
@[simp] theorem setEngine_reg (n : Nat) (x : Engine) (a : Nat) (d : Dev) : (d.setEngine n x).reg a = d.reg a := (rfl)
@[simp] theorem setEngine_getAt (n : Nat) (x : Engine) (p : Nat) (f : FieldSpec) (i : Nat) (d : Dev) :
    (d.setEngine n x).getAt p f i = d.getAt p f i := (rfl)
@[simp] theorem engine_setEngine_same {n : Nat} (x : Engine) (d : Dev) (h : n < 15) : (d.setEngine n x).engine n = x := 
  getD_setIfInBounds_same _ _ _ h
theorem engine_setEngine_ne {n : Nat} (x : Engine) {m : Nat} (d : Dev) (h : m ≠ n) : (d.setEngine n x).engine m = d.engine m :=
  
  getD_setIfInBounds_ne _ _ _ h

/-! ## setLeg -/

@[simp] theorem setLeg_triad (n : Nat) (x : Leg) (d : Dev) : (d.setLeg n x).triad = d.triad := (rfl)
@[simp] theorem setLeg_eng (n : Nat) (x : Leg) (d : Dev) : (d.setLeg n x).eng = d.eng := (rfl)
@[simp] theorem setLeg_mp (n : Nat) (x : Leg) (d : Dev) : (d.setLeg n x).mp = d.mp := (rfl)
@[simp] theorem setLeg_sense (n : Nat) (x : Leg) (d : Dev) : (d.setLeg n x).sense = d.sense := (rfl)
@[simp] theorem setLeg_felt (n : Nat) (x : Leg) (d : Dev) : (d.setLeg n x).felt = d.felt := (rfl)
@[simp] theorem setLeg_acq (n : Nat) (x : Leg) (d : Dev) : (d.setLeg n x).acq = d.acq := (rfl)
@[simp] theorem setLeg_prec (n : Nat) (x : Leg) (d : Dev) : (d.setLeg n x).prec = d.prec := (rfl)
@[simp] theorem setLeg_safe (n : Nat) (x : Leg) (d : Dev) : (d.setLeg n x).safe = d.safe := (rfl)
@[simp] theorem setLeg_bus (n : Nat) (x : Leg) (d : Dev) : (d.setLeg n x).bus = d.bus := (rfl)
@[simp] theorem setLeg_chain (n : Nat) (x : Leg) (d : Dev) : (d.setLeg n x).chain = d.chain := (rfl)
@[simp] theorem setLeg_boot (n : Nat) (x : Leg) (d : Dev) : (d.setLeg n x).boot = d.boot := (rfl)
@[simp] theorem setLeg_free (n : Nat) (x : Leg) (d : Dev) : (d.setLeg n x).free = d.free := (rfl)
@[simp] theorem setLeg_now (n : Nat) (x : Leg) (d : Dev) : (d.setLeg n x).now = d.now := (rfl)
@[simp] theorem setLeg_wr (n : Nat) (x : Leg) (d : Dev) : (d.setLeg n x).wr = d.wr := (rfl)
@[simp] theorem setLeg_wipe (n : Nat) (x : Leg) (d : Dev) : (d.setLeg n x).wipe = d.wipe := (rfl)
@[simp] theorem setLeg_rebase (n : Nat) (x : Leg) (d : Dev) : (d.setLeg n x).rebase = d.rebase := (rfl)
@[simp] theorem setLeg_arms (n : Nat) (x : Leg) (d : Dev) : (d.setLeg n x).arms = d.arms := (rfl)
@[simp] theorem setLeg_latches (n : Nat) (x : Leg) (d : Dev) : (d.setLeg n x).latches = d.latches := (rfl)
@[simp] theorem setLeg_regRounds (n : Nat) (x : Leg) (d : Dev) : (d.setLeg n x).regRounds = d.regRounds := (rfl)
@[simp] theorem setLeg_regs (n : Nat) (x : Leg) (d : Dev) : (d.setLeg n x).regs = d.regs := (rfl)
@[simp] theorem setLeg_reg (n : Nat) (x : Leg) (a : Nat) (d : Dev) : (d.setLeg n x).reg a = d.reg a := (rfl)
@[simp] theorem setLeg_getAt (n : Nat) (x : Leg) (p : Nat) (f : FieldSpec) (i : Nat) (d : Dev) :
    (d.setLeg n x).getAt p f i = d.getAt p f i := (rfl)
@[simp] theorem setLeg_pw_trips (n : Nat) (x : Leg) (d : Dev) : (d.setLeg n x).pw.trips = d.pw.trips := (rfl)
@[simp] theorem setLeg_pw_groups (n : Nat) (x : Leg) (d : Dev) : (d.setLeg n x).pw.groups = d.pw.groups := (rfl)
@[simp] theorem setLeg_pw_dev (n : Nat) (x : Leg) (d : Dev) : (d.setLeg n x).pw.dev = d.pw.dev := (rfl)
@[simp] theorem setLeg_pw_brk (n : Nat) (x : Leg) (d : Dev) : (d.setLeg n x).pw.brk = d.pw.brk := (rfl)
@[simp] theorem setLeg_pw_rps (n : Nat) (x : Leg) (d : Dev) : (d.setLeg n x).pw.rps = d.pw.rps := (rfl)
@[simp] theorem setLeg_pw_tapsValid (n : Nat) (x : Leg) (d : Dev) : (d.setLeg n x).pw.tapsValid = d.pw.tapsValid := (rfl)
@[simp] theorem setLeg_pw_calBusy (n : Nat) (x : Leg) (d : Dev) : (d.setLeg n x).pw.calBusy = d.pw.calBusy := (rfl)
@[simp] theorem setLeg_pw_halted (n : Nat) (x : Leg) (d : Dev) : (d.setLeg n x).pw.halted = d.pw.halted := (rfl)
@[simp] theorem setLeg_pw_seqHold (n : Nat) (x : Leg) (d : Dev) : (d.setLeg n x).pw.seqHold = d.pw.seqHold := (rfl)
@[simp] theorem leg_setLeg_same {n : Nat} (x : Leg) (d : Dev) (h : n < 48) : (d.setLeg n x).leg n = x := 
  getD_setIfInBounds_same _ _ _ h
theorem leg_setLeg_ne {n : Nat} (x : Leg) {m : Nat} (d : Dev) (h : m ≠ n) : (d.setLeg n x).leg m = d.leg m := 
  getD_setIfInBounds_ne _ _ _ h

/-! ## setTrip -/

@[simp] theorem setTrip_triad (n : Nat) (x : TripLatch) (d : Dev) : (d.setTrip n x).triad = d.triad := (rfl)
@[simp] theorem setTrip_eng (n : Nat) (x : TripLatch) (d : Dev) : (d.setTrip n x).eng = d.eng := (rfl)
@[simp] theorem setTrip_mp (n : Nat) (x : TripLatch) (d : Dev) : (d.setTrip n x).mp = d.mp := (rfl)
@[simp] theorem setTrip_sense (n : Nat) (x : TripLatch) (d : Dev) : (d.setTrip n x).sense = d.sense := (rfl)
@[simp] theorem setTrip_felt (n : Nat) (x : TripLatch) (d : Dev) : (d.setTrip n x).felt = d.felt := (rfl)
@[simp] theorem setTrip_acq (n : Nat) (x : TripLatch) (d : Dev) : (d.setTrip n x).acq = d.acq := (rfl)
@[simp] theorem setTrip_prec (n : Nat) (x : TripLatch) (d : Dev) : (d.setTrip n x).prec = d.prec := (rfl)
@[simp] theorem setTrip_safe (n : Nat) (x : TripLatch) (d : Dev) : (d.setTrip n x).safe = d.safe := (rfl)
@[simp] theorem setTrip_bus (n : Nat) (x : TripLatch) (d : Dev) : (d.setTrip n x).bus = d.bus := (rfl)
@[simp] theorem setTrip_chain (n : Nat) (x : TripLatch) (d : Dev) : (d.setTrip n x).chain = d.chain := (rfl)
@[simp] theorem setTrip_boot (n : Nat) (x : TripLatch) (d : Dev) : (d.setTrip n x).boot = d.boot := (rfl)
@[simp] theorem setTrip_free (n : Nat) (x : TripLatch) (d : Dev) : (d.setTrip n x).free = d.free := (rfl)
@[simp] theorem setTrip_now (n : Nat) (x : TripLatch) (d : Dev) : (d.setTrip n x).now = d.now := (rfl)
@[simp] theorem setTrip_wr (n : Nat) (x : TripLatch) (d : Dev) : (d.setTrip n x).wr = d.wr := (rfl)
@[simp] theorem setTrip_wipe (n : Nat) (x : TripLatch) (d : Dev) : (d.setTrip n x).wipe = d.wipe := (rfl)
@[simp] theorem setTrip_rebase (n : Nat) (x : TripLatch) (d : Dev) : (d.setTrip n x).rebase = d.rebase := (rfl)
@[simp] theorem setTrip_arms (n : Nat) (x : TripLatch) (d : Dev) : (d.setTrip n x).arms = d.arms := (rfl)
@[simp] theorem setTrip_latches (n : Nat) (x : TripLatch) (d : Dev) : (d.setTrip n x).latches = d.latches := (rfl)
@[simp] theorem setTrip_regRounds (n : Nat) (x : TripLatch) (d : Dev) : (d.setTrip n x).regRounds = d.regRounds := (rfl)
@[simp] theorem setTrip_regs (n : Nat) (x : TripLatch) (d : Dev) : (d.setTrip n x).regs = d.regs := (rfl)
@[simp] theorem setTrip_reg (n : Nat) (x : TripLatch) (a : Nat) (d : Dev) : (d.setTrip n x).reg a = d.reg a := (rfl)
@[simp] theorem setTrip_getAt (n : Nat) (x : TripLatch) (p : Nat) (f : FieldSpec) (i : Nat) (d : Dev) :
    (d.setTrip n x).getAt p f i = d.getAt p f i := (rfl)
@[simp] theorem setTrip_pw_legs (n : Nat) (x : TripLatch) (d : Dev) : (d.setTrip n x).pw.legs = d.pw.legs := (rfl)
@[simp] theorem setTrip_pw_groups (n : Nat) (x : TripLatch) (d : Dev) : (d.setTrip n x).pw.groups = d.pw.groups := (rfl)
@[simp] theorem setTrip_pw_dev (n : Nat) (x : TripLatch) (d : Dev) : (d.setTrip n x).pw.dev = d.pw.dev := (rfl)
@[simp] theorem setTrip_pw_brk (n : Nat) (x : TripLatch) (d : Dev) : (d.setTrip n x).pw.brk = d.pw.brk := (rfl)
@[simp] theorem setTrip_pw_rps (n : Nat) (x : TripLatch) (d : Dev) : (d.setTrip n x).pw.rps = d.pw.rps := (rfl)
@[simp] theorem setTrip_pw_tapsValid (n : Nat) (x : TripLatch) (d : Dev) : (d.setTrip n x).pw.tapsValid = d.pw.tapsValid :=
  (rfl)
@[simp] theorem setTrip_pw_calBusy (n : Nat) (x : TripLatch) (d : Dev) : (d.setTrip n x).pw.calBusy = d.pw.calBusy := (rfl)
@[simp] theorem setTrip_pw_halted (n : Nat) (x : TripLatch) (d : Dev) : (d.setTrip n x).pw.halted = d.pw.halted := (rfl)
@[simp] theorem setTrip_pw_seqHold (n : Nat) (x : TripLatch) (d : Dev) : (d.setTrip n x).pw.seqHold = d.pw.seqHold := (rfl)
@[simp] theorem tripOf_setTrip_same {n : Nat} (x : TripLatch) (d : Dev) (h : n < 48) : (d.setTrip n x).tripOf n = x := 
  getD_setIfInBounds_same _ _ _ h
theorem tripOf_setTrip_ne {n : Nat} (x : TripLatch) {m : Nat} (d : Dev) (h : m ≠ n) : (d.setTrip n x).tripOf m = d.tripOf m :=
  
  getD_setIfInBounds_ne _ _ _ h

/-! ## setGrp -/

@[simp] theorem setGrp_triad (n : Nat) (x : Group) (d : Dev) : (d.setGrp n x).triad = d.triad := (rfl)
@[simp] theorem setGrp_eng (n : Nat) (x : Group) (d : Dev) : (d.setGrp n x).eng = d.eng := (rfl)
@[simp] theorem setGrp_mp (n : Nat) (x : Group) (d : Dev) : (d.setGrp n x).mp = d.mp := (rfl)
@[simp] theorem setGrp_sense (n : Nat) (x : Group) (d : Dev) : (d.setGrp n x).sense = d.sense := (rfl)
@[simp] theorem setGrp_felt (n : Nat) (x : Group) (d : Dev) : (d.setGrp n x).felt = d.felt := (rfl)
@[simp] theorem setGrp_acq (n : Nat) (x : Group) (d : Dev) : (d.setGrp n x).acq = d.acq := (rfl)
@[simp] theorem setGrp_prec (n : Nat) (x : Group) (d : Dev) : (d.setGrp n x).prec = d.prec := (rfl)
@[simp] theorem setGrp_safe (n : Nat) (x : Group) (d : Dev) : (d.setGrp n x).safe = d.safe := (rfl)
@[simp] theorem setGrp_bus (n : Nat) (x : Group) (d : Dev) : (d.setGrp n x).bus = d.bus := (rfl)
@[simp] theorem setGrp_chain (n : Nat) (x : Group) (d : Dev) : (d.setGrp n x).chain = d.chain := (rfl)
@[simp] theorem setGrp_boot (n : Nat) (x : Group) (d : Dev) : (d.setGrp n x).boot = d.boot := (rfl)
@[simp] theorem setGrp_free (n : Nat) (x : Group) (d : Dev) : (d.setGrp n x).free = d.free := (rfl)
@[simp] theorem setGrp_now (n : Nat) (x : Group) (d : Dev) : (d.setGrp n x).now = d.now := (rfl)
@[simp] theorem setGrp_wr (n : Nat) (x : Group) (d : Dev) : (d.setGrp n x).wr = d.wr := (rfl)
@[simp] theorem setGrp_wipe (n : Nat) (x : Group) (d : Dev) : (d.setGrp n x).wipe = d.wipe := (rfl)
@[simp] theorem setGrp_rebase (n : Nat) (x : Group) (d : Dev) : (d.setGrp n x).rebase = d.rebase := (rfl)
@[simp] theorem setGrp_arms (n : Nat) (x : Group) (d : Dev) : (d.setGrp n x).arms = d.arms := (rfl)
@[simp] theorem setGrp_latches (n : Nat) (x : Group) (d : Dev) : (d.setGrp n x).latches = d.latches := (rfl)
@[simp] theorem setGrp_regRounds (n : Nat) (x : Group) (d : Dev) : (d.setGrp n x).regRounds = d.regRounds := (rfl)
@[simp] theorem setGrp_regs (n : Nat) (x : Group) (d : Dev) : (d.setGrp n x).regs = d.regs := (rfl)
@[simp] theorem setGrp_reg (n : Nat) (x : Group) (a : Nat) (d : Dev) : (d.setGrp n x).reg a = d.reg a := (rfl)
@[simp] theorem setGrp_getAt (n : Nat) (x : Group) (p : Nat) (f : FieldSpec) (i : Nat) (d : Dev) :
    (d.setGrp n x).getAt p f i = d.getAt p f i := (rfl)
@[simp] theorem setGrp_pw_legs (n : Nat) (x : Group) (d : Dev) : (d.setGrp n x).pw.legs = d.pw.legs := (rfl)
@[simp] theorem setGrp_pw_trips (n : Nat) (x : Group) (d : Dev) : (d.setGrp n x).pw.trips = d.pw.trips := (rfl)
@[simp] theorem setGrp_pw_dev (n : Nat) (x : Group) (d : Dev) : (d.setGrp n x).pw.dev = d.pw.dev := (rfl)
@[simp] theorem setGrp_pw_brk (n : Nat) (x : Group) (d : Dev) : (d.setGrp n x).pw.brk = d.pw.brk := (rfl)
@[simp] theorem setGrp_pw_rps (n : Nat) (x : Group) (d : Dev) : (d.setGrp n x).pw.rps = d.pw.rps := (rfl)
@[simp] theorem setGrp_pw_tapsValid (n : Nat) (x : Group) (d : Dev) : (d.setGrp n x).pw.tapsValid = d.pw.tapsValid := (rfl)
@[simp] theorem setGrp_pw_calBusy (n : Nat) (x : Group) (d : Dev) : (d.setGrp n x).pw.calBusy = d.pw.calBusy := (rfl)
@[simp] theorem setGrp_pw_halted (n : Nat) (x : Group) (d : Dev) : (d.setGrp n x).pw.halted = d.pw.halted := (rfl)
@[simp] theorem setGrp_pw_seqHold (n : Nat) (x : Group) (d : Dev) : (d.setGrp n x).pw.seqHold = d.pw.seqHold := (rfl)
@[simp] theorem grp_setGrp_same {n : Nat} (x : Group) (d : Dev) (h : n < 4) : (d.setGrp n x).grp n = x := 
  getD_setIfInBounds_same _ _ _ h
theorem grp_setGrp_ne {n : Nat} (x : Group) {m : Nat} (d : Dev) (h : m ≠ n) : (d.setGrp n x).grp m = d.grp m := 
  getD_setIfInBounds_ne _ _ _ h

/-! ## setPair -/

@[simp] theorem setPair_triad (n : Nat) (x : BrkPair) (d : Dev) : (d.setPair n x).triad = d.triad := (rfl)
@[simp] theorem setPair_eng (n : Nat) (x : BrkPair) (d : Dev) : (d.setPair n x).eng = d.eng := (rfl)
@[simp] theorem setPair_mp (n : Nat) (x : BrkPair) (d : Dev) : (d.setPair n x).mp = d.mp := (rfl)
@[simp] theorem setPair_sense (n : Nat) (x : BrkPair) (d : Dev) : (d.setPair n x).sense = d.sense := (rfl)
@[simp] theorem setPair_felt (n : Nat) (x : BrkPair) (d : Dev) : (d.setPair n x).felt = d.felt := (rfl)
@[simp] theorem setPair_acq (n : Nat) (x : BrkPair) (d : Dev) : (d.setPair n x).acq = d.acq := (rfl)
@[simp] theorem setPair_prec (n : Nat) (x : BrkPair) (d : Dev) : (d.setPair n x).prec = d.prec := (rfl)
@[simp] theorem setPair_safe (n : Nat) (x : BrkPair) (d : Dev) : (d.setPair n x).safe = d.safe := (rfl)
@[simp] theorem setPair_bus (n : Nat) (x : BrkPair) (d : Dev) : (d.setPair n x).bus = d.bus := (rfl)
@[simp] theorem setPair_chain (n : Nat) (x : BrkPair) (d : Dev) : (d.setPair n x).chain = d.chain := (rfl)
@[simp] theorem setPair_boot (n : Nat) (x : BrkPair) (d : Dev) : (d.setPair n x).boot = d.boot := (rfl)
@[simp] theorem setPair_free (n : Nat) (x : BrkPair) (d : Dev) : (d.setPair n x).free = d.free := (rfl)
@[simp] theorem setPair_now (n : Nat) (x : BrkPair) (d : Dev) : (d.setPair n x).now = d.now := (rfl)
@[simp] theorem setPair_wr (n : Nat) (x : BrkPair) (d : Dev) : (d.setPair n x).wr = d.wr := (rfl)
@[simp] theorem setPair_wipe (n : Nat) (x : BrkPair) (d : Dev) : (d.setPair n x).wipe = d.wipe := (rfl)
@[simp] theorem setPair_rebase (n : Nat) (x : BrkPair) (d : Dev) : (d.setPair n x).rebase = d.rebase := (rfl)
@[simp] theorem setPair_arms (n : Nat) (x : BrkPair) (d : Dev) : (d.setPair n x).arms = d.arms := (rfl)
@[simp] theorem setPair_latches (n : Nat) (x : BrkPair) (d : Dev) : (d.setPair n x).latches = d.latches := (rfl)
@[simp] theorem setPair_regRounds (n : Nat) (x : BrkPair) (d : Dev) : (d.setPair n x).regRounds = d.regRounds := (rfl)
@[simp] theorem setPair_regs (n : Nat) (x : BrkPair) (d : Dev) : (d.setPair n x).regs = d.regs := (rfl)
@[simp] theorem setPair_reg (n : Nat) (x : BrkPair) (a : Nat) (d : Dev) : (d.setPair n x).reg a = d.reg a := (rfl)
@[simp] theorem setPair_getAt (n : Nat) (x : BrkPair) (p : Nat) (f : FieldSpec) (i : Nat) (d : Dev) :
    (d.setPair n x).getAt p f i = d.getAt p f i := (rfl)
@[simp] theorem setPair_pw_legs (n : Nat) (x : BrkPair) (d : Dev) : (d.setPair n x).pw.legs = d.pw.legs := (rfl)
@[simp] theorem setPair_pw_trips (n : Nat) (x : BrkPair) (d : Dev) : (d.setPair n x).pw.trips = d.pw.trips := (rfl)
@[simp] theorem setPair_pw_groups (n : Nat) (x : BrkPair) (d : Dev) : (d.setPair n x).pw.groups = d.pw.groups := (rfl)
@[simp] theorem setPair_pw_dev (n : Nat) (x : BrkPair) (d : Dev) : (d.setPair n x).pw.dev = d.pw.dev := (rfl)
@[simp] theorem setPair_pw_rps (n : Nat) (x : BrkPair) (d : Dev) : (d.setPair n x).pw.rps = d.pw.rps := (rfl)
@[simp] theorem setPair_pw_tapsValid (n : Nat) (x : BrkPair) (d : Dev) : (d.setPair n x).pw.tapsValid = d.pw.tapsValid :=
  (rfl)
@[simp] theorem setPair_pw_calBusy (n : Nat) (x : BrkPair) (d : Dev) : (d.setPair n x).pw.calBusy = d.pw.calBusy := (rfl)
@[simp] theorem setPair_pw_halted (n : Nat) (x : BrkPair) (d : Dev) : (d.setPair n x).pw.halted = d.pw.halted := (rfl)
@[simp] theorem setPair_pw_seqHold (n : Nat) (x : BrkPair) (d : Dev) : (d.setPair n x).pw.seqHold = d.pw.seqHold := (rfl)
@[simp] theorem pair_setPair_same {n : Nat} (x : BrkPair) (d : Dev) (h : n < 8) : (d.setPair n x).pair n = x := 
  getD_setIfInBounds_same _ _ _ h
theorem pair_setPair_ne {n : Nat} (x : BrkPair) {m : Nat} (d : Dev) (h : m ≠ n) : (d.setPair n x).pair m = d.pair m := 
  getD_setIfInBounds_ne _ _ _ h

/-! ## setRps -/

@[simp] theorem setRps_triad (x : RpsState) (d : Dev) : (d.setRps x).triad = d.triad := (rfl)
@[simp] theorem setRps_eng (x : RpsState) (d : Dev) : (d.setRps x).eng = d.eng := (rfl)
@[simp] theorem setRps_mp (x : RpsState) (d : Dev) : (d.setRps x).mp = d.mp := (rfl)
@[simp] theorem setRps_sense (x : RpsState) (d : Dev) : (d.setRps x).sense = d.sense := (rfl)
@[simp] theorem setRps_felt (x : RpsState) (d : Dev) : (d.setRps x).felt = d.felt := (rfl)
@[simp] theorem setRps_acq (x : RpsState) (d : Dev) : (d.setRps x).acq = d.acq := (rfl)
@[simp] theorem setRps_prec (x : RpsState) (d : Dev) : (d.setRps x).prec = d.prec := (rfl)
@[simp] theorem setRps_safe (x : RpsState) (d : Dev) : (d.setRps x).safe = d.safe := (rfl)
@[simp] theorem setRps_bus (x : RpsState) (d : Dev) : (d.setRps x).bus = d.bus := (rfl)
@[simp] theorem setRps_chain (x : RpsState) (d : Dev) : (d.setRps x).chain = d.chain := (rfl)
@[simp] theorem setRps_boot (x : RpsState) (d : Dev) : (d.setRps x).boot = d.boot := (rfl)
@[simp] theorem setRps_free (x : RpsState) (d : Dev) : (d.setRps x).free = d.free := (rfl)
@[simp] theorem setRps_now (x : RpsState) (d : Dev) : (d.setRps x).now = d.now := (rfl)
@[simp] theorem setRps_wr (x : RpsState) (d : Dev) : (d.setRps x).wr = d.wr := (rfl)
@[simp] theorem setRps_wipe (x : RpsState) (d : Dev) : (d.setRps x).wipe = d.wipe := (rfl)
@[simp] theorem setRps_rebase (x : RpsState) (d : Dev) : (d.setRps x).rebase = d.rebase := (rfl)
@[simp] theorem setRps_arms (x : RpsState) (d : Dev) : (d.setRps x).arms = d.arms := (rfl)
@[simp] theorem setRps_latches (x : RpsState) (d : Dev) : (d.setRps x).latches = d.latches := (rfl)
@[simp] theorem setRps_regRounds (x : RpsState) (d : Dev) : (d.setRps x).regRounds = d.regRounds := (rfl)
@[simp] theorem setRps_regs (x : RpsState) (d : Dev) : (d.setRps x).regs = d.regs := (rfl)
@[simp] theorem setRps_reg (x : RpsState) (a : Nat) (d : Dev) : (d.setRps x).reg a = d.reg a := (rfl)
@[simp] theorem setRps_getAt (x : RpsState) (p : Nat) (f : FieldSpec) (i : Nat) (d : Dev) :
    (d.setRps x).getAt p f i = d.getAt p f i := (rfl)
@[simp] theorem setRps_pw_legs (x : RpsState) (d : Dev) : (d.setRps x).pw.legs = d.pw.legs := (rfl)
@[simp] theorem setRps_pw_trips (x : RpsState) (d : Dev) : (d.setRps x).pw.trips = d.pw.trips := (rfl)
@[simp] theorem setRps_pw_groups (x : RpsState) (d : Dev) : (d.setRps x).pw.groups = d.pw.groups := (rfl)
@[simp] theorem setRps_pw_dev (x : RpsState) (d : Dev) : (d.setRps x).pw.dev = d.pw.dev := (rfl)
@[simp] theorem setRps_pw_brk (x : RpsState) (d : Dev) : (d.setRps x).pw.brk = d.pw.brk := (rfl)
@[simp] theorem setRps_pw_tapsValid (x : RpsState) (d : Dev) : (d.setRps x).pw.tapsValid = d.pw.tapsValid := (rfl)
@[simp] theorem setRps_pw_calBusy (x : RpsState) (d : Dev) : (d.setRps x).pw.calBusy = d.pw.calBusy := (rfl)
@[simp] theorem setRps_pw_halted (x : RpsState) (d : Dev) : (d.setRps x).pw.halted = d.pw.halted := (rfl)
@[simp] theorem setRps_pw_seqHold (x : RpsState) (d : Dev) : (d.setRps x).pw.seqHold = d.pw.seqHold := (rfl)
@[simp] theorem setRps_pw_rps (x : RpsState) (d : Dev) : (d.setRps x).pw.rps = x := (rfl)

/-! ## setSd -/

@[simp] theorem setSd_triad (n : Nat) (x : SdChain) (d : Dev) : (d.setSd n x).triad = d.triad := (rfl)
@[simp] theorem setSd_eng (n : Nat) (x : SdChain) (d : Dev) : (d.setSd n x).eng = d.eng := (rfl)
@[simp] theorem setSd_mp (n : Nat) (x : SdChain) (d : Dev) : (d.setSd n x).mp = d.mp := (rfl)
@[simp] theorem setSd_pw (n : Nat) (x : SdChain) (d : Dev) : (d.setSd n x).pw = d.pw := (rfl)
@[simp] theorem setSd_felt (n : Nat) (x : SdChain) (d : Dev) : (d.setSd n x).felt = d.felt := (rfl)
@[simp] theorem setSd_acq (n : Nat) (x : SdChain) (d : Dev) : (d.setSd n x).acq = d.acq := (rfl)
@[simp] theorem setSd_prec (n : Nat) (x : SdChain) (d : Dev) : (d.setSd n x).prec = d.prec := (rfl)
@[simp] theorem setSd_safe (n : Nat) (x : SdChain) (d : Dev) : (d.setSd n x).safe = d.safe := (rfl)
@[simp] theorem setSd_bus (n : Nat) (x : SdChain) (d : Dev) : (d.setSd n x).bus = d.bus := (rfl)
@[simp] theorem setSd_chain (n : Nat) (x : SdChain) (d : Dev) : (d.setSd n x).chain = d.chain := (rfl)
@[simp] theorem setSd_boot (n : Nat) (x : SdChain) (d : Dev) : (d.setSd n x).boot = d.boot := (rfl)
@[simp] theorem setSd_free (n : Nat) (x : SdChain) (d : Dev) : (d.setSd n x).free = d.free := (rfl)
@[simp] theorem setSd_now (n : Nat) (x : SdChain) (d : Dev) : (d.setSd n x).now = d.now := (rfl)
@[simp] theorem setSd_wr (n : Nat) (x : SdChain) (d : Dev) : (d.setSd n x).wr = d.wr := (rfl)
@[simp] theorem setSd_wipe (n : Nat) (x : SdChain) (d : Dev) : (d.setSd n x).wipe = d.wipe := (rfl)
@[simp] theorem setSd_rebase (n : Nat) (x : SdChain) (d : Dev) : (d.setSd n x).rebase = d.rebase := (rfl)
@[simp] theorem setSd_arms (n : Nat) (x : SdChain) (d : Dev) : (d.setSd n x).arms = d.arms := (rfl)
@[simp] theorem setSd_latches (n : Nat) (x : SdChain) (d : Dev) : (d.setSd n x).latches = d.latches := (rfl)
@[simp] theorem setSd_regRounds (n : Nat) (x : SdChain) (d : Dev) : (d.setSd n x).regRounds = d.regRounds := (rfl)
@[simp] theorem setSd_regs (n : Nat) (x : SdChain) (d : Dev) : (d.setSd n x).regs = d.regs := (rfl)
@[simp] theorem setSd_reg (n : Nat) (x : SdChain) (a : Nat) (d : Dev) : (d.setSd n x).reg a = d.reg a := (rfl)
@[simp] theorem setSd_getAt (n : Nat) (x : SdChain) (p : Nat) (f : FieldSpec) (i : Nat) (d : Dev) :
    (d.setSd n x).getAt p f i = d.getAt p f i := (rfl)
@[simp] theorem sd_setSd_same {n : Nat} (x : SdChain) (d : Dev) (h : n < 64) : (d.setSd n x).sd n = x := 
  getD_setIfInBounds_same _ _ _ h
theorem sd_setSd_ne {n : Nat} (x : SdChain) {m : Nat} (d : Dev) (h : m ≠ n) : (d.setSd n x).sd m = d.sd m := 
  getD_setIfInBounds_ne _ _ _ h

/-! ## setArb -/

@[simp] theorem setArb_triad (n : Nat) (x : Arbiter) (d : Dev) : (d.setArb n x).triad = d.triad := (rfl)
@[simp] theorem setArb_eng (n : Nat) (x : Arbiter) (d : Dev) : (d.setArb n x).eng = d.eng := (rfl)
@[simp] theorem setArb_mp (n : Nat) (x : Arbiter) (d : Dev) : (d.setArb n x).mp = d.mp := (rfl)
@[simp] theorem setArb_pw (n : Nat) (x : Arbiter) (d : Dev) : (d.setArb n x).pw = d.pw := (rfl)
@[simp] theorem setArb_sense (n : Nat) (x : Arbiter) (d : Dev) : (d.setArb n x).sense = d.sense := (rfl)
@[simp] theorem setArb_acq (n : Nat) (x : Arbiter) (d : Dev) : (d.setArb n x).acq = d.acq := (rfl)
@[simp] theorem setArb_prec (n : Nat) (x : Arbiter) (d : Dev) : (d.setArb n x).prec = d.prec := (rfl)
@[simp] theorem setArb_safe (n : Nat) (x : Arbiter) (d : Dev) : (d.setArb n x).safe = d.safe := (rfl)
@[simp] theorem setArb_bus (n : Nat) (x : Arbiter) (d : Dev) : (d.setArb n x).bus = d.bus := (rfl)
@[simp] theorem setArb_chain (n : Nat) (x : Arbiter) (d : Dev) : (d.setArb n x).chain = d.chain := (rfl)
@[simp] theorem setArb_boot (n : Nat) (x : Arbiter) (d : Dev) : (d.setArb n x).boot = d.boot := (rfl)
@[simp] theorem setArb_free (n : Nat) (x : Arbiter) (d : Dev) : (d.setArb n x).free = d.free := (rfl)
@[simp] theorem setArb_now (n : Nat) (x : Arbiter) (d : Dev) : (d.setArb n x).now = d.now := (rfl)
@[simp] theorem setArb_wr (n : Nat) (x : Arbiter) (d : Dev) : (d.setArb n x).wr = d.wr := (rfl)
@[simp] theorem setArb_wipe (n : Nat) (x : Arbiter) (d : Dev) : (d.setArb n x).wipe = d.wipe := (rfl)
@[simp] theorem setArb_rebase (n : Nat) (x : Arbiter) (d : Dev) : (d.setArb n x).rebase = d.rebase := (rfl)
@[simp] theorem setArb_arms (n : Nat) (x : Arbiter) (d : Dev) : (d.setArb n x).arms = d.arms := (rfl)
@[simp] theorem setArb_latches (n : Nat) (x : Arbiter) (d : Dev) : (d.setArb n x).latches = d.latches := (rfl)
@[simp] theorem setArb_regRounds (n : Nat) (x : Arbiter) (d : Dev) : (d.setArb n x).regRounds = d.regRounds := (rfl)
@[simp] theorem setArb_regs (n : Nat) (x : Arbiter) (d : Dev) : (d.setArb n x).regs = d.regs := (rfl)
@[simp] theorem setArb_reg (n : Nat) (x : Arbiter) (a : Nat) (d : Dev) : (d.setArb n x).reg a = d.reg a := (rfl)
@[simp] theorem setArb_getAt (n : Nat) (x : Arbiter) (p : Nat) (f : FieldSpec) (i : Nat) (d : Dev) :
    (d.setArb n x).getAt p f i = d.getAt p f i := (rfl)
@[simp] theorem setArb_felt_tags (n : Nat) (x : Arbiter) (d : Dev) : (d.setArb n x).felt.tags = d.felt.tags := (rfl)
@[simp] theorem setArb_felt_issued (n : Nat) (x : Arbiter) (d : Dev) : (d.setArb n x).felt.issued = d.felt.issued := (rfl)
@[simp] theorem setArb_felt_got (n : Nat) (x : Arbiter) (d : Dev) : (d.setArb n x).felt.got = d.felt.got := (rfl)
@[simp] theorem setArb_felt_failed (n : Nat) (x : Arbiter) (d : Dev) : (d.setArb n x).felt.failed = d.felt.failed := (rfl)
@[simp] theorem setArb_felt_queue (n : Nat) (x : Arbiter) (d : Dev) : (d.setArb n x).felt.queue = d.felt.queue := (rfl)
@[simp] theorem arb_setArb_same {n : Nat} (x : Arbiter) (d : Dev) (h : n < 16) : (d.setArb n x).arb n = x := 
  getD_setIfInBounds_same _ _ _ h
theorem arb_setArb_ne {n : Nat} (x : Arbiter) {m : Nat} (d : Dev) (h : m ≠ n) : (d.setArb n x).arb m = d.arb m := 
  getD_setIfInBounds_ne _ _ _ h

/-! ## setTag -/

@[simp] theorem setTag_triad (n : Nat) (x : Option Tx) (d : Dev) : (d.setTag n x).triad = d.triad := by simp [Dev.setTag]
@[simp] theorem setTag_eng (n : Nat) (x : Option Tx) (d : Dev) : (d.setTag n x).eng = d.eng := by simp [Dev.setTag]
@[simp] theorem setTag_mp (n : Nat) (x : Option Tx) (d : Dev) : (d.setTag n x).mp = d.mp := by simp [Dev.setTag]
@[simp] theorem setTag_pw (n : Nat) (x : Option Tx) (d : Dev) : (d.setTag n x).pw = d.pw := by simp [Dev.setTag]
@[simp] theorem setTag_sense (n : Nat) (x : Option Tx) (d : Dev) : (d.setTag n x).sense = d.sense := by simp [Dev.setTag]
@[simp] theorem setTag_acq (n : Nat) (x : Option Tx) (d : Dev) : (d.setTag n x).acq = d.acq := by simp [Dev.setTag]
@[simp] theorem setTag_prec (n : Nat) (x : Option Tx) (d : Dev) : (d.setTag n x).prec = d.prec := by simp [Dev.setTag]
@[simp] theorem setTag_safe (n : Nat) (x : Option Tx) (d : Dev) : (d.setTag n x).safe = d.safe := by simp [Dev.setTag]
@[simp] theorem setTag_bus (n : Nat) (x : Option Tx) (d : Dev) : (d.setTag n x).bus = d.bus := by simp [Dev.setTag]
@[simp] theorem setTag_chain (n : Nat) (x : Option Tx) (d : Dev) : (d.setTag n x).chain = d.chain := by simp [Dev.setTag]
@[simp] theorem setTag_boot (n : Nat) (x : Option Tx) (d : Dev) : (d.setTag n x).boot = d.boot := by simp [Dev.setTag]
@[simp] theorem setTag_free (n : Nat) (x : Option Tx) (d : Dev) : (d.setTag n x).free = d.free := by simp [Dev.setTag]
@[simp] theorem setTag_now (n : Nat) (x : Option Tx) (d : Dev) : (d.setTag n x).now = d.now := by simp [Dev.setTag]
@[simp] theorem setTag_wr (n : Nat) (x : Option Tx) (d : Dev) : (d.setTag n x).wr = d.wr := by simp [Dev.setTag]
@[simp] theorem setTag_wipe (n : Nat) (x : Option Tx) (d : Dev) : (d.setTag n x).wipe = d.wipe := by simp [Dev.setTag]
@[simp] theorem setTag_rebase (n : Nat) (x : Option Tx) (d : Dev) : (d.setTag n x).rebase = d.rebase := by simp [Dev.setTag]
@[simp] theorem setTag_arms (n : Nat) (x : Option Tx) (d : Dev) : (d.setTag n x).arms = d.arms := by simp [Dev.setTag]
@[simp] theorem setTag_latches (n : Nat) (x : Option Tx) (d : Dev) : (d.setTag n x).latches = d.latches :=
  by simp [Dev.setTag]
@[simp] theorem setTag_regRounds (n : Nat) (x : Option Tx) (d : Dev) : (d.setTag n x).regRounds = d.regRounds :=
  by simp [Dev.setTag]
@[simp] theorem setTag_felt_arbs (n : Nat) (x : Option Tx) (d : Dev) : (d.setTag n x).felt.arbs = d.felt.arbs :=
  by simp [Dev.setTag]
@[simp] theorem setTag_felt_issued (n : Nat) (x : Option Tx) (d : Dev) : (d.setTag n x).felt.issued = d.felt.issued :=
  by simp [Dev.setTag]
@[simp] theorem setTag_felt_got (n : Nat) (x : Option Tx) (d : Dev) : (d.setTag n x).felt.got = d.felt.got :=
  by simp [Dev.setTag]
@[simp] theorem setTag_felt_failed (n : Nat) (x : Option Tx) (d : Dev) : (d.setTag n x).felt.failed = d.felt.failed :=
  by simp [Dev.setTag]
@[simp] theorem setTag_felt_queue (n : Nat) (x : Option Tx) (d : Dev) : (d.setTag n x).felt.queue = d.felt.queue :=
  by simp [Dev.setTag]
@[simp] theorem tag_setTag_same {n : Nat} (x : Option Tx) (d : Dev) (h : n < 48) : (d.setTag n x).tag n = x := by
  simp only [Dev.setTag, Dev.tag, Dev.put_eq, putAt_felt]
  exact getD_setIfInBounds_same _ _ _ h
theorem tag_setTag_ne {n : Nat} (x : Option Tx) {m : Nat} (d : Dev) (h : m ≠ n) : (d.setTag n x).tag m = d.tag m := by
  simp only [Dev.setTag, Dev.tag, Dev.put_eq, putAt_felt]
  exact getD_setIfInBounds_ne _ _ _ h

/-! ## setAcq -/

@[simp] theorem setAcq_triad (x : Acq) (d : Dev) : (d.setAcq x).triad = d.triad := by simp [Dev.setAcq]
@[simp] theorem setAcq_eng (x : Acq) (d : Dev) : (d.setAcq x).eng = d.eng := by simp [Dev.setAcq]
@[simp] theorem setAcq_mp (x : Acq) (d : Dev) : (d.setAcq x).mp = d.mp := by simp [Dev.setAcq]
@[simp] theorem setAcq_pw (x : Acq) (d : Dev) : (d.setAcq x).pw = d.pw := by simp [Dev.setAcq]
@[simp] theorem setAcq_sense (x : Acq) (d : Dev) : (d.setAcq x).sense = d.sense := by simp [Dev.setAcq]
@[simp] theorem setAcq_felt (x : Acq) (d : Dev) : (d.setAcq x).felt = d.felt := by simp [Dev.setAcq]
@[simp] theorem setAcq_prec (x : Acq) (d : Dev) : (d.setAcq x).prec = d.prec := by simp [Dev.setAcq]
@[simp] theorem setAcq_safe (x : Acq) (d : Dev) : (d.setAcq x).safe = d.safe := by simp [Dev.setAcq]
@[simp] theorem setAcq_bus (x : Acq) (d : Dev) : (d.setAcq x).bus = d.bus := by simp [Dev.setAcq]
@[simp] theorem setAcq_chain (x : Acq) (d : Dev) : (d.setAcq x).chain = d.chain := by simp [Dev.setAcq]
@[simp] theorem setAcq_boot (x : Acq) (d : Dev) : (d.setAcq x).boot = d.boot := by simp [Dev.setAcq]
@[simp] theorem setAcq_free (x : Acq) (d : Dev) : (d.setAcq x).free = d.free := by simp [Dev.setAcq]
@[simp] theorem setAcq_now (x : Acq) (d : Dev) : (d.setAcq x).now = d.now := by simp [Dev.setAcq]
@[simp] theorem setAcq_wr (x : Acq) (d : Dev) : (d.setAcq x).wr = d.wr := by simp [Dev.setAcq]
@[simp] theorem setAcq_wipe (x : Acq) (d : Dev) : (d.setAcq x).wipe = d.wipe := by simp [Dev.setAcq]
@[simp] theorem setAcq_rebase (x : Acq) (d : Dev) : (d.setAcq x).rebase = d.rebase := by simp [Dev.setAcq]
@[simp] theorem setAcq_arms (x : Acq) (d : Dev) : (d.setAcq x).arms = d.arms := by simp [Dev.setAcq]
@[simp] theorem setAcq_latches (x : Acq) (d : Dev) : (d.setAcq x).latches = d.latches := by simp [Dev.setAcq]
@[simp] theorem setAcq_regRounds (x : Acq) (d : Dev) : (d.setAcq x).regRounds = d.regRounds := by simp [Dev.setAcq]
@[simp] theorem setAcq_acq (x : Acq) (d : Dev) : (d.setAcq x).acq = x := by simp [Dev.setAcq]

/-! ## setConv -/

@[simp] theorem setConv_triad (n : Nat) (x : Conv) (d : Dev) : (d.setConv n x).triad = d.triad := (rfl)
@[simp] theorem setConv_eng (n : Nat) (x : Conv) (d : Dev) : (d.setConv n x).eng = d.eng := (rfl)
@[simp] theorem setConv_mp (n : Nat) (x : Conv) (d : Dev) : (d.setConv n x).mp = d.mp := (rfl)
@[simp] theorem setConv_pw (n : Nat) (x : Conv) (d : Dev) : (d.setConv n x).pw = d.pw := (rfl)
@[simp] theorem setConv_sense (n : Nat) (x : Conv) (d : Dev) : (d.setConv n x).sense = d.sense := (rfl)
@[simp] theorem setConv_felt (n : Nat) (x : Conv) (d : Dev) : (d.setConv n x).felt = d.felt := (rfl)
@[simp] theorem setConv_acq (n : Nat) (x : Conv) (d : Dev) : (d.setConv n x).acq = d.acq := (rfl)
@[simp] theorem setConv_safe (n : Nat) (x : Conv) (d : Dev) : (d.setConv n x).safe = d.safe := (rfl)
@[simp] theorem setConv_bus (n : Nat) (x : Conv) (d : Dev) : (d.setConv n x).bus = d.bus := (rfl)
@[simp] theorem setConv_chain (n : Nat) (x : Conv) (d : Dev) : (d.setConv n x).chain = d.chain := (rfl)
@[simp] theorem setConv_boot (n : Nat) (x : Conv) (d : Dev) : (d.setConv n x).boot = d.boot := (rfl)
@[simp] theorem setConv_free (n : Nat) (x : Conv) (d : Dev) : (d.setConv n x).free = d.free := (rfl)
@[simp] theorem setConv_now (n : Nat) (x : Conv) (d : Dev) : (d.setConv n x).now = d.now := (rfl)
@[simp] theorem setConv_wr (n : Nat) (x : Conv) (d : Dev) : (d.setConv n x).wr = d.wr := (rfl)
@[simp] theorem setConv_wipe (n : Nat) (x : Conv) (d : Dev) : (d.setConv n x).wipe = d.wipe := (rfl)
@[simp] theorem setConv_rebase (n : Nat) (x : Conv) (d : Dev) : (d.setConv n x).rebase = d.rebase := (rfl)
@[simp] theorem setConv_arms (n : Nat) (x : Conv) (d : Dev) : (d.setConv n x).arms = d.arms := (rfl)
@[simp] theorem setConv_latches (n : Nat) (x : Conv) (d : Dev) : (d.setConv n x).latches = d.latches := (rfl)
@[simp] theorem setConv_regRounds (n : Nat) (x : Conv) (d : Dev) : (d.setConv n x).regRounds = d.regRounds := (rfl)
@[simp] theorem setConv_regs (n : Nat) (x : Conv) (d : Dev) : (d.setConv n x).regs = d.regs := (rfl)
@[simp] theorem setConv_reg (n : Nat) (x : Conv) (a : Nat) (d : Dev) : (d.setConv n x).reg a = d.reg a := (rfl)
@[simp] theorem setConv_getAt (n : Nat) (x : Conv) (p : Nat) (f : FieldSpec) (i : Nat) (d : Dev) :
    (d.setConv n x).getAt p f i = d.getAt p f i := (rfl)
@[simp] theorem setConv_prec_winNo (n : Nat) (x : Conv) (d : Dev) : (d.setConv n x).prec.winNo = d.prec.winNo := (rfl)
@[simp] theorem setConv_prec_winStart (n : Nat) (x : Conv) (d : Dev) : (d.setConv n x).prec.winStart = d.prec.winStart :=
  (rfl)
@[simp] theorem setConv_prec_kind (n : Nat) (x : Conv) (d : Dev) : (d.setConv n x).prec.kind = d.prec.kind := (rfl)
@[simp] theorem setConv_prec_transitional (n : Nat) (x : Conv) (d : Dev) : (d.setConv n x).prec.transitional = d.prec.transitional :=
  (rfl)
@[simp] theorem setConv_prec_pend (n : Nat) (x : Conv) (d : Dev) : (d.setConv n x).prec.pend = d.prec.pend := (rfl)
@[simp] theorem setConv_prec_votedAt (n : Nat) (x : Conv) (d : Dev) : (d.setConv n x).prec.votedAt = d.prec.votedAt := (rfl)
@[simp] theorem setConv_prec_votedTheta (n : Nat) (x : Conv) (d : Dev) : (d.setConv n x).prec.votedTheta = d.prec.votedTheta :=
  (rfl)
@[simp] theorem setConv_prec_votedOmega (n : Nat) (x : Conv) (d : Dev) : (d.setConv n x).prec.votedOmega = d.prec.votedOmega :=
  (rfl)
@[simp] theorem setConv_prec_pcsWait (n : Nat) (x : Conv) (d : Dev) : (d.setConv n x).prec.pcsWait = d.prec.pcsWait := (rfl)
@[simp] theorem setConv_prec_unverAt (n : Nat) (x : Conv) (d : Dev) : (d.setConv n x).prec.unverAt = d.prec.unverAt := (rfl)
@[simp] theorem setConv_prec_count (n : Nat) (x : Conv) (d : Dev) : (d.setConv n x).prec.count = d.prec.count := (rfl)
@[simp] theorem setConv_prec_capHi (n : Nat) (x : Conv) (d : Dev) : (d.setConv n x).prec.capHi = d.prec.capHi := (rfl)
@[simp] theorem setConv_prec_resDis (n : Nat) (x : Conv) (d : Dev) : (d.setConv n x).prec.resDis = d.prec.resDis := (rfl)
@[simp] theorem setConv_prec_resChg (n : Nat) (x : Conv) (d : Dev) : (d.setConv n x).prec.resChg = d.prec.resChg := (rfl)
@[simp] theorem setConv_prec_dcV (n : Nat) (x : Conv) (d : Dev) : (d.setConv n x).prec.dcV = d.prec.dcV := (rfl)
@[simp] theorem setConv_prec_dcEnd (n : Nat) (x : Conv) (d : Dev) : (d.setConv n x).prec.dcEnd = d.prec.dcEnd := (rfl)
@[simp] theorem setConv_prec_feed (n : Nat) (x : Conv) (d : Dev) : (d.setConv n x).prec.feed = d.prec.feed := (rfl)
@[simp] theorem setConv_prec_feedAt (n : Nat) (x : Conv) (d : Dev) : (d.setConv n x).prec.feedAt = d.prec.feedAt := (rfl)
@[simp] theorem setConv_prec_feedLost (n : Nat) (x : Conv) (d : Dev) : (d.setConv n x).prec.feedLost = d.prec.feedLost :=
  (rfl)
@[simp] theorem setConv_prec_lifePrior (n : Nat) (x : Conv) (d : Dev) : (d.setConv n x).prec.lifePrior = d.prec.lifePrior :=
  (rfl)
@[simp] theorem setConv_prec_lifeAt (n : Nat) (x : Conv) (d : Dev) : (d.setConv n x).prec.lifeAt = d.prec.lifeAt := (rfl)
@[simp] theorem setConv_prec_plausAt (n : Nat) (x : Conv) (d : Dev) : (d.setConv n x).prec.plausAt = d.prec.plausAt := (rfl)
@[simp] theorem setConv_prec_plausBase (n : Nat) (x : Conv) (d : Dev) : (d.setConv n x).prec.plausBase = d.prec.plausBase :=
  (rfl)
@[simp] theorem setConv_prec_tamper (n : Nat) (x : Conv) (d : Dev) : (d.setConv n x).prec.tamper = d.prec.tamper := (rfl)
@[simp] theorem setConv_prec_tamperLogged (n : Nat) (x : Conv) (d : Dev) : (d.setConv n x).prec.tamperLogged = d.prec.tamperLogged :=
  (rfl)
@[simp] theorem setConv_prec_log (n : Nat) (x : Conv) (d : Dev) : (d.setConv n x).prec.log = d.prec.log := (rfl)
@[simp] theorem setConv_prec_logLow (n : Nat) (x : Conv) (d : Dev) : (d.setConv n x).prec.logLow = d.prec.logLow := (rfl)
@[simp] theorem conv_setConv_same {n : Nat} (x : Conv) (d : Dev) (h : n < 2) : (d.setConv n x).conv n = x := 
  getD_setIfInBounds_same _ _ _ h
theorem conv_setConv_ne {n : Nat} (x : Conv) {m : Nat} (d : Dev) (h : m ≠ n) : (d.setConv n x).conv m = d.conv m := 
  getD_setIfInBounds_ne _ _ _ h

/-! ## setSafeIn -/

@[simp] theorem setSafeIn_triad (n : Nat) (x : SafeIn) (d : Dev) : (d.setSafeIn n x).triad = d.triad := (rfl)
@[simp] theorem setSafeIn_eng (n : Nat) (x : SafeIn) (d : Dev) : (d.setSafeIn n x).eng = d.eng := (rfl)
@[simp] theorem setSafeIn_mp (n : Nat) (x : SafeIn) (d : Dev) : (d.setSafeIn n x).mp = d.mp := (rfl)
@[simp] theorem setSafeIn_pw (n : Nat) (x : SafeIn) (d : Dev) : (d.setSafeIn n x).pw = d.pw := (rfl)
@[simp] theorem setSafeIn_sense (n : Nat) (x : SafeIn) (d : Dev) : (d.setSafeIn n x).sense = d.sense := (rfl)
@[simp] theorem setSafeIn_felt (n : Nat) (x : SafeIn) (d : Dev) : (d.setSafeIn n x).felt = d.felt := (rfl)
@[simp] theorem setSafeIn_acq (n : Nat) (x : SafeIn) (d : Dev) : (d.setSafeIn n x).acq = d.acq := (rfl)
@[simp] theorem setSafeIn_prec (n : Nat) (x : SafeIn) (d : Dev) : (d.setSafeIn n x).prec = d.prec := (rfl)
@[simp] theorem setSafeIn_bus (n : Nat) (x : SafeIn) (d : Dev) : (d.setSafeIn n x).bus = d.bus := (rfl)
@[simp] theorem setSafeIn_chain (n : Nat) (x : SafeIn) (d : Dev) : (d.setSafeIn n x).chain = d.chain := (rfl)
@[simp] theorem setSafeIn_boot (n : Nat) (x : SafeIn) (d : Dev) : (d.setSafeIn n x).boot = d.boot := (rfl)
@[simp] theorem setSafeIn_free (n : Nat) (x : SafeIn) (d : Dev) : (d.setSafeIn n x).free = d.free := (rfl)
@[simp] theorem setSafeIn_now (n : Nat) (x : SafeIn) (d : Dev) : (d.setSafeIn n x).now = d.now := (rfl)
@[simp] theorem setSafeIn_wr (n : Nat) (x : SafeIn) (d : Dev) : (d.setSafeIn n x).wr = d.wr := (rfl)
@[simp] theorem setSafeIn_wipe (n : Nat) (x : SafeIn) (d : Dev) : (d.setSafeIn n x).wipe = d.wipe := (rfl)
@[simp] theorem setSafeIn_rebase (n : Nat) (x : SafeIn) (d : Dev) : (d.setSafeIn n x).rebase = d.rebase := (rfl)
@[simp] theorem setSafeIn_arms (n : Nat) (x : SafeIn) (d : Dev) : (d.setSafeIn n x).arms = d.arms := (rfl)
@[simp] theorem setSafeIn_latches (n : Nat) (x : SafeIn) (d : Dev) : (d.setSafeIn n x).latches = d.latches := (rfl)
@[simp] theorem setSafeIn_regRounds (n : Nat) (x : SafeIn) (d : Dev) : (d.setSafeIn n x).regRounds = d.regRounds := (rfl)
@[simp] theorem setSafeIn_regs (n : Nat) (x : SafeIn) (d : Dev) : (d.setSafeIn n x).regs = d.regs := (rfl)
@[simp] theorem setSafeIn_reg (n : Nat) (x : SafeIn) (a : Nat) (d : Dev) : (d.setSafeIn n x).reg a = d.reg a := (rfl)
@[simp] theorem setSafeIn_getAt (n : Nat) (x : SafeIn) (p : Nat) (f : FieldSpec) (i : Nat) (d : Dev) :
    (d.setSafeIn n x).getAt p f i = d.getAt p f i := (rfl)
@[simp] theorem setSafeIn_safe_configured (n : Nat) (x : SafeIn) (d : Dev) : (d.setSafeIn n x).safe.configured = d.safe.configured :=
  (rfl)
@[simp] theorem setSafeIn_safe_lockouts (n : Nat) (x : SafeIn) (d : Dev) : (d.setSafeIn n x).safe.lockouts = d.safe.lockouts :=
  (rfl)
@[simp] theorem setSafeIn_safe_armed (n : Nat) (x : SafeIn) (d : Dev) : (d.setSafeIn n x).safe.armed = d.safe.armed := (rfl)
@[simp] theorem setSafeIn_safe_runFrom (n : Nat) (x : SafeIn) (d : Dev) : (d.setSafeIn n x).safe.runFrom = d.safe.runFrom :=
  (rfl)
@[simp] theorem setSafeIn_safe_halt (n : Nat) (x : SafeIn) (d : Dev) : (d.setSafeIn n x).safe.halt = d.safe.halt := (rfl)
@[simp] theorem setSafeIn_safe_oscBad (n : Nat) (x : SafeIn) (d : Dev) : (d.setSafeIn n x).safe.oscBad = d.safe.oscBad :=
  (rfl)
@[simp] theorem setSafeIn_safe_oscOkSince (n : Nat) (x : SafeIn) (d : Dev) : (d.setSafeIn n x).safe.oscOkSince = d.safe.oscOkSince :=
  (rfl)
@[simp] theorem setSafeIn_safe_pi0 (n : Nat) (x : SafeIn) (d : Dev) : (d.setSafeIn n x).safe.pi0 = d.safe.pi0 := (rfl)
@[simp] theorem setSafeIn_safe_pi1 (n : Nat) (x : SafeIn) (d : Dev) : (d.setSafeIn n x).safe.pi1 = d.safe.pi1 := (rfl)
@[simp] theorem setSafeIn_safe_piDropAt (n : Nat) (x : SafeIn) (d : Dev) : (d.setSafeIn n x).safe.piDropAt = d.safe.piDropAt :=
  (rfl)
@[simp] theorem setSafeIn_safe_permitPin (n : Nat) (x : SafeIn) (d : Dev) : (d.setSafeIn n x).safe.permitPin = d.safe.permitPin :=
  (rfl)
@[simp] theorem setSafeIn_safe_tested (n : Nat) (x : SafeIn) (d : Dev) : (d.setSafeIn n x).safe.tested = d.safe.tested :=
  (rfl)
@[simp] theorem setSafeIn_safe_coreDown (n : Nat) (x : SafeIn) (d : Dev) : (d.setSafeIn n x).safe.coreDown = d.safe.coreDown :=
  (rfl)
@[simp] theorem setSafeIn_safe_runPermit (n : Nat) (x : SafeIn) (d : Dev) : (d.setSafeIn n x).safe.runPermit = d.safe.runPermit :=
  (rfl)
@[simp] theorem setSafeIn_safe_legsOff (n : Nat) (x : SafeIn) (d : Dev) : (d.setSafeIn n x).safe.legsOff = d.safe.legsOff :=
  (rfl)
@[simp] theorem safeIn_setSafeIn_same {n : Nat} (x : SafeIn) (d : Dev) (h : n < 8) : (d.setSafeIn n x).safeIn n = x := 
  getD_setIfInBounds_same _ _ _ h
theorem safeIn_setSafeIn_ne {n : Nat} (x : SafeIn) {m : Nat} (d : Dev) (h : m ≠ n) : (d.setSafeIn n x).safeIn m = d.safeIn m :=
  
  getD_setIfInBounds_ne _ _ _ h

/-! ## setTxBuf -/

@[simp] theorem setTxBuf_triad (n : Nat) (x : TxBuf) (d : Dev) : (d.setTxBuf n x).triad = d.triad := (rfl)
@[simp] theorem setTxBuf_eng (n : Nat) (x : TxBuf) (d : Dev) : (d.setTxBuf n x).eng = d.eng := (rfl)
@[simp] theorem setTxBuf_mp (n : Nat) (x : TxBuf) (d : Dev) : (d.setTxBuf n x).mp = d.mp := (rfl)
@[simp] theorem setTxBuf_pw (n : Nat) (x : TxBuf) (d : Dev) : (d.setTxBuf n x).pw = d.pw := (rfl)
@[simp] theorem setTxBuf_sense (n : Nat) (x : TxBuf) (d : Dev) : (d.setTxBuf n x).sense = d.sense := (rfl)
@[simp] theorem setTxBuf_felt (n : Nat) (x : TxBuf) (d : Dev) : (d.setTxBuf n x).felt = d.felt := (rfl)
@[simp] theorem setTxBuf_acq (n : Nat) (x : TxBuf) (d : Dev) : (d.setTxBuf n x).acq = d.acq := (rfl)
@[simp] theorem setTxBuf_prec (n : Nat) (x : TxBuf) (d : Dev) : (d.setTxBuf n x).prec = d.prec := (rfl)
@[simp] theorem setTxBuf_safe (n : Nat) (x : TxBuf) (d : Dev) : (d.setTxBuf n x).safe = d.safe := (rfl)
@[simp] theorem setTxBuf_chain (n : Nat) (x : TxBuf) (d : Dev) : (d.setTxBuf n x).chain = d.chain := (rfl)
@[simp] theorem setTxBuf_boot (n : Nat) (x : TxBuf) (d : Dev) : (d.setTxBuf n x).boot = d.boot := (rfl)
@[simp] theorem setTxBuf_free (n : Nat) (x : TxBuf) (d : Dev) : (d.setTxBuf n x).free = d.free := (rfl)
@[simp] theorem setTxBuf_now (n : Nat) (x : TxBuf) (d : Dev) : (d.setTxBuf n x).now = d.now := (rfl)
@[simp] theorem setTxBuf_wr (n : Nat) (x : TxBuf) (d : Dev) : (d.setTxBuf n x).wr = d.wr := (rfl)
@[simp] theorem setTxBuf_wipe (n : Nat) (x : TxBuf) (d : Dev) : (d.setTxBuf n x).wipe = d.wipe := (rfl)
@[simp] theorem setTxBuf_rebase (n : Nat) (x : TxBuf) (d : Dev) : (d.setTxBuf n x).rebase = d.rebase := (rfl)
@[simp] theorem setTxBuf_arms (n : Nat) (x : TxBuf) (d : Dev) : (d.setTxBuf n x).arms = d.arms := (rfl)
@[simp] theorem setTxBuf_latches (n : Nat) (x : TxBuf) (d : Dev) : (d.setTxBuf n x).latches = d.latches := (rfl)
@[simp] theorem setTxBuf_regRounds (n : Nat) (x : TxBuf) (d : Dev) : (d.setTxBuf n x).regRounds = d.regRounds := (rfl)
@[simp] theorem setTxBuf_regs (n : Nat) (x : TxBuf) (d : Dev) : (d.setTxBuf n x).regs = d.regs := (rfl)
@[simp] theorem setTxBuf_reg (n : Nat) (x : TxBuf) (a : Nat) (d : Dev) : (d.setTxBuf n x).reg a = d.reg a := (rfl)
@[simp] theorem setTxBuf_getAt (n : Nat) (x : TxBuf) (p : Nat) (f : FieldSpec) (i : Nat) (d : Dev) :
    (d.setTxBuf n x).getAt p f i = d.getAt p f i := (rfl)
@[simp] theorem setTxBuf_bus_nt (n : Nat) (x : TxBuf) (d : Dev) : (d.setTxBuf n x).bus.nt = d.bus.nt := (rfl)
@[simp] theorem setTxBuf_bus_cur (n : Nat) (x : TxBuf) (d : Dev) : (d.setTxBuf n x).bus.cur = d.bus.cur := (rfl)
@[simp] theorem setTxBuf_bus_shadow (n : Nat) (x : TxBuf) (d : Dev) : (d.setTxBuf n x).bus.shadow = d.bus.shadow := (rfl)
@[simp] theorem setTxBuf_bus_active (n : Nat) (x : TxBuf) (d : Dev) : (d.setTxBuf n x).bus.active = d.bus.active := (rfl)
@[simp] theorem setTxBuf_bus_latch (n : Nat) (x : TxBuf) (d : Dev) : (d.setTxBuf n x).bus.latch = d.bus.latch := (rfl)
@[simp] theorem setTxBuf_bus_queue (n : Nat) (x : TxBuf) (d : Dev) : (d.setTxBuf n x).bus.queue = d.bus.queue := (rfl)
@[simp] theorem setTxBuf_bus_joinAt (n : Nat) (x : TxBuf) (d : Dev) : (d.setTxBuf n x).bus.joinAt = d.bus.joinAt := (rfl)
@[simp] theorem setTxBuf_bus_ntHi (n : Nat) (x : TxBuf) (d : Dev) : (d.setTxBuf n x).bus.ntHi = d.bus.ntHi := (rfl)
@[simp] theorem setTxBuf_bus_rxWrites (n : Nat) (x : TxBuf) (d : Dev) : (d.setTxBuf n x).bus.rxWrites = d.bus.rxWrites :=
  (rfl)
@[simp] theorem setTxBuf_bus_rxShadow (n : Nat) (x : TxBuf) (d : Dev) : (d.setTxBuf n x).bus.rxShadow = d.bus.rxShadow :=
  (rfl)
@[simp] theorem setTxBuf_bus_drove (n : Nat) (x : TxBuf) (d : Dev) : (d.setTxBuf n x).bus.drove = d.bus.drove := (rfl)
@[simp] theorem txBuf_setTxBuf_same {n : Nat} (x : TxBuf) (d : Dev) (h : n < 64) : (d.setTxBuf n x).txBuf n = x := 
  getD_setIfInBounds_same _ _ _ h
theorem txBuf_setTxBuf_ne {n : Nat} (x : TxBuf) {m : Nat} (d : Dev) (h : m ≠ n) : (d.setTxBuf n x).txBuf m = d.txBuf m := 
  getD_setIfInBounds_ne _ _ _ h

/-! ## setNt -/

@[simp] theorem setNt_triad (x : NetTime) (d : Dev) : (d.setNt x).triad = d.triad := (rfl)
@[simp] theorem setNt_eng (x : NetTime) (d : Dev) : (d.setNt x).eng = d.eng := (rfl)
@[simp] theorem setNt_mp (x : NetTime) (d : Dev) : (d.setNt x).mp = d.mp := (rfl)
@[simp] theorem setNt_pw (x : NetTime) (d : Dev) : (d.setNt x).pw = d.pw := (rfl)
@[simp] theorem setNt_sense (x : NetTime) (d : Dev) : (d.setNt x).sense = d.sense := (rfl)
@[simp] theorem setNt_felt (x : NetTime) (d : Dev) : (d.setNt x).felt = d.felt := (rfl)
@[simp] theorem setNt_acq (x : NetTime) (d : Dev) : (d.setNt x).acq = d.acq := (rfl)
@[simp] theorem setNt_prec (x : NetTime) (d : Dev) : (d.setNt x).prec = d.prec := (rfl)
@[simp] theorem setNt_safe (x : NetTime) (d : Dev) : (d.setNt x).safe = d.safe := (rfl)
@[simp] theorem setNt_chain (x : NetTime) (d : Dev) : (d.setNt x).chain = d.chain := (rfl)
@[simp] theorem setNt_boot (x : NetTime) (d : Dev) : (d.setNt x).boot = d.boot := (rfl)
@[simp] theorem setNt_free (x : NetTime) (d : Dev) : (d.setNt x).free = d.free := (rfl)
@[simp] theorem setNt_now (x : NetTime) (d : Dev) : (d.setNt x).now = d.now := (rfl)
@[simp] theorem setNt_wr (x : NetTime) (d : Dev) : (d.setNt x).wr = d.wr := (rfl)
@[simp] theorem setNt_wipe (x : NetTime) (d : Dev) : (d.setNt x).wipe = d.wipe := (rfl)
@[simp] theorem setNt_rebase (x : NetTime) (d : Dev) : (d.setNt x).rebase = d.rebase := (rfl)
@[simp] theorem setNt_arms (x : NetTime) (d : Dev) : (d.setNt x).arms = d.arms := (rfl)
@[simp] theorem setNt_latches (x : NetTime) (d : Dev) : (d.setNt x).latches = d.latches := (rfl)
@[simp] theorem setNt_regRounds (x : NetTime) (d : Dev) : (d.setNt x).regRounds = d.regRounds := (rfl)
@[simp] theorem setNt_regs (x : NetTime) (d : Dev) : (d.setNt x).regs = d.regs := (rfl)
@[simp] theorem setNt_reg (x : NetTime) (a : Nat) (d : Dev) : (d.setNt x).reg a = d.reg a := (rfl)
@[simp] theorem setNt_getAt (x : NetTime) (p : Nat) (f : FieldSpec) (i : Nat) (d : Dev) :
    (d.setNt x).getAt p f i = d.getAt p f i := (rfl)
@[simp] theorem setNt_bus_tx (x : NetTime) (d : Dev) : (d.setNt x).bus.tx = d.bus.tx := (rfl)
@[simp] theorem setNt_bus_cur (x : NetTime) (d : Dev) : (d.setNt x).bus.cur = d.bus.cur := (rfl)
@[simp] theorem setNt_bus_shadow (x : NetTime) (d : Dev) : (d.setNt x).bus.shadow = d.bus.shadow := (rfl)
@[simp] theorem setNt_bus_active (x : NetTime) (d : Dev) : (d.setNt x).bus.active = d.bus.active := (rfl)
@[simp] theorem setNt_bus_latch (x : NetTime) (d : Dev) : (d.setNt x).bus.latch = d.bus.latch := (rfl)
@[simp] theorem setNt_bus_queue (x : NetTime) (d : Dev) : (d.setNt x).bus.queue = d.bus.queue := (rfl)
@[simp] theorem setNt_bus_joinAt (x : NetTime) (d : Dev) : (d.setNt x).bus.joinAt = d.bus.joinAt := (rfl)
@[simp] theorem setNt_bus_ntHi (x : NetTime) (d : Dev) : (d.setNt x).bus.ntHi = d.bus.ntHi := (rfl)
@[simp] theorem setNt_bus_rxWrites (x : NetTime) (d : Dev) : (d.setNt x).bus.rxWrites = d.bus.rxWrites := (rfl)
@[simp] theorem setNt_bus_rxShadow (x : NetTime) (d : Dev) : (d.setNt x).bus.rxShadow = d.bus.rxShadow := (rfl)
@[simp] theorem setNt_bus_drove (x : NetTime) (d : Dev) : (d.setNt x).bus.drove = d.bus.drove := (rfl)
@[simp] theorem setNt_bus_nt (x : NetTime) (d : Dev) : (d.setNt x).bus.nt = x := (rfl)

/-! ## setPort -/

@[simp] theorem setPort_triad (n : Bool) (x : ChainPort) (d : Dev) : (d.setPort n x).triad = d.triad := by simp [Dev.setPort]
@[simp] theorem setPort_eng (n : Bool) (x : ChainPort) (d : Dev) : (d.setPort n x).eng = d.eng := by simp [Dev.setPort]
@[simp] theorem setPort_mp (n : Bool) (x : ChainPort) (d : Dev) : (d.setPort n x).mp = d.mp := by simp [Dev.setPort]
@[simp] theorem setPort_pw (n : Bool) (x : ChainPort) (d : Dev) : (d.setPort n x).pw = d.pw := by simp [Dev.setPort]
@[simp] theorem setPort_sense (n : Bool) (x : ChainPort) (d : Dev) : (d.setPort n x).sense = d.sense := by simp [Dev.setPort]
@[simp] theorem setPort_felt (n : Bool) (x : ChainPort) (d : Dev) : (d.setPort n x).felt = d.felt := by simp [Dev.setPort]
@[simp] theorem setPort_acq (n : Bool) (x : ChainPort) (d : Dev) : (d.setPort n x).acq = d.acq := by simp [Dev.setPort]
@[simp] theorem setPort_prec (n : Bool) (x : ChainPort) (d : Dev) : (d.setPort n x).prec = d.prec := by simp [Dev.setPort]
@[simp] theorem setPort_safe (n : Bool) (x : ChainPort) (d : Dev) : (d.setPort n x).safe = d.safe := by simp [Dev.setPort]
@[simp] theorem setPort_bus (n : Bool) (x : ChainPort) (d : Dev) : (d.setPort n x).bus = d.bus := by simp [Dev.setPort]
@[simp] theorem setPort_boot (n : Bool) (x : ChainPort) (d : Dev) : (d.setPort n x).boot = d.boot := by simp [Dev.setPort]
@[simp] theorem setPort_free (n : Bool) (x : ChainPort) (d : Dev) : (d.setPort n x).free = d.free := by simp [Dev.setPort]
@[simp] theorem setPort_now (n : Bool) (x : ChainPort) (d : Dev) : (d.setPort n x).now = d.now := by simp [Dev.setPort]
@[simp] theorem setPort_wr (n : Bool) (x : ChainPort) (d : Dev) : (d.setPort n x).wr = d.wr := by simp [Dev.setPort]
@[simp] theorem setPort_wipe (n : Bool) (x : ChainPort) (d : Dev) : (d.setPort n x).wipe = d.wipe := by simp [Dev.setPort]
@[simp] theorem setPort_rebase (n : Bool) (x : ChainPort) (d : Dev) : (d.setPort n x).rebase = d.rebase :=
  by simp [Dev.setPort]
@[simp] theorem setPort_arms (n : Bool) (x : ChainPort) (d : Dev) : (d.setPort n x).arms = d.arms := by simp [Dev.setPort]
@[simp] theorem setPort_latches (n : Bool) (x : ChainPort) (d : Dev) : (d.setPort n x).latches = d.latches :=
  by simp [Dev.setPort]
@[simp] theorem setPort_regRounds (n : Bool) (x : ChainPort) (d : Dev) : (d.setPort n x).regRounds = d.regRounds :=
  by simp [Dev.setPort]
@[simp] theorem port_setPort_same (n : Bool) (x : ChainPort) (d : Dev) : (d.setPort n x).port n = x := by
  cases n <;> simp [Dev.setPort, Dev.port]
@[simp] theorem port_setPort_other (n : Bool) (x : ChainPort) (d : Dev) : (d.setPort n x).port (!n) = d.port (!n) := by
  cases n <;> simp [Dev.setPort, Dev.port]

/-! ## setTbOut -/

@[simp] theorem setTbOut_triad (n : Nat) (x : TbOut) (d : Dev) : (d.setTbOut n x).triad = d.triad := (rfl)
@[simp] theorem setTbOut_eng (n : Nat) (x : TbOut) (d : Dev) : (d.setTbOut n x).eng = d.eng := (rfl)
@[simp] theorem setTbOut_mp (n : Nat) (x : TbOut) (d : Dev) : (d.setTbOut n x).mp = d.mp := (rfl)
@[simp] theorem setTbOut_pw (n : Nat) (x : TbOut) (d : Dev) : (d.setTbOut n x).pw = d.pw := (rfl)
@[simp] theorem setTbOut_sense (n : Nat) (x : TbOut) (d : Dev) : (d.setTbOut n x).sense = d.sense := (rfl)
@[simp] theorem setTbOut_felt (n : Nat) (x : TbOut) (d : Dev) : (d.setTbOut n x).felt = d.felt := (rfl)
@[simp] theorem setTbOut_acq (n : Nat) (x : TbOut) (d : Dev) : (d.setTbOut n x).acq = d.acq := (rfl)
@[simp] theorem setTbOut_prec (n : Nat) (x : TbOut) (d : Dev) : (d.setTbOut n x).prec = d.prec := (rfl)
@[simp] theorem setTbOut_safe (n : Nat) (x : TbOut) (d : Dev) : (d.setTbOut n x).safe = d.safe := (rfl)
@[simp] theorem setTbOut_bus (n : Nat) (x : TbOut) (d : Dev) : (d.setTbOut n x).bus = d.bus := (rfl)
@[simp] theorem setTbOut_chain (n : Nat) (x : TbOut) (d : Dev) : (d.setTbOut n x).chain = d.chain := (rfl)
@[simp] theorem setTbOut_free (n : Nat) (x : TbOut) (d : Dev) : (d.setTbOut n x).free = d.free := (rfl)
@[simp] theorem setTbOut_now (n : Nat) (x : TbOut) (d : Dev) : (d.setTbOut n x).now = d.now := (rfl)
@[simp] theorem setTbOut_wr (n : Nat) (x : TbOut) (d : Dev) : (d.setTbOut n x).wr = d.wr := (rfl)
@[simp] theorem setTbOut_wipe (n : Nat) (x : TbOut) (d : Dev) : (d.setTbOut n x).wipe = d.wipe := (rfl)
@[simp] theorem setTbOut_rebase (n : Nat) (x : TbOut) (d : Dev) : (d.setTbOut n x).rebase = d.rebase := (rfl)
@[simp] theorem setTbOut_arms (n : Nat) (x : TbOut) (d : Dev) : (d.setTbOut n x).arms = d.arms := (rfl)
@[simp] theorem setTbOut_latches (n : Nat) (x : TbOut) (d : Dev) : (d.setTbOut n x).latches = d.latches := (rfl)
@[simp] theorem setTbOut_regRounds (n : Nat) (x : TbOut) (d : Dev) : (d.setTbOut n x).regRounds = d.regRounds := (rfl)
@[simp] theorem setTbOut_regs (n : Nat) (x : TbOut) (d : Dev) : (d.setTbOut n x).regs = d.regs := (rfl)
@[simp] theorem setTbOut_reg (n : Nat) (x : TbOut) (a : Nat) (d : Dev) : (d.setTbOut n x).reg a = d.reg a := (rfl)
@[simp] theorem setTbOut_getAt (n : Nat) (x : TbOut) (p : Nat) (f : FieldSpec) (i : Nat) (d : Dev) :
    (d.setTbOut n x).getAt p f i = d.getAt p f i := (rfl)
@[simp] theorem setTbOut_boot_idle (n : Nat) (x : TbOut) (d : Dev) : (d.setTbOut n x).boot.idle = d.boot.idle := (rfl)
@[simp] theorem setTbOut_boot_bypass (n : Nat) (x : TbOut) (d : Dev) : (d.setTbOut n x).boot.bypass = d.boot.bypass := (rfl)
@[simp] theorem setTbOut_boot_bypassOsc (n : Nat) (x : TbOut) (d : Dev) : (d.setTbOut n x).boot.bypassOsc = d.boot.bypassOsc :=
  (rfl)
@[simp] theorem setTbOut_boot_hold (n : Nat) (x : TbOut) (d : Dev) : (d.setTbOut n x).boot.hold = d.boot.hold := (rfl)
@[simp] theorem setTbOut_boot_stopDue (n : Nat) (x : TbOut) (d : Dev) : (d.setTbOut n x).boot.stopDue = d.boot.stopDue :=
  (rfl)
@[simp] theorem setTbOut_boot_holdDue (n : Nat) (x : TbOut) (d : Dev) : (d.setTbOut n x).boot.holdDue = d.boot.holdDue :=
  (rfl)
@[simp] theorem setTbOut_boot_muslin (n : Nat) (x : TbOut) (d : Dev) : (d.setTbOut n x).boot.muslin = d.boot.muslin := (rfl)
@[simp] theorem setTbOut_boot_gauze (n : Nat) (x : TbOut) (d : Dev) : (d.setTbOut n x).boot.gauze = d.boot.gauze := (rfl)
@[simp] theorem setTbOut_boot_pll (n : Nat) (x : TbOut) (d : Dev) : (d.setTbOut n x).boot.pll = d.boot.pll := (rfl)
@[simp] theorem setTbOut_boot_refOk (n : Nat) (x : TbOut) (d : Dev) : (d.setTbOut n x).boot.refOk = d.boot.refOk := (rfl)
@[simp] theorem setTbOut_boot_bypassDue (n : Nat) (x : TbOut) (d : Dev) : (d.setTbOut n x).boot.bypassDue = d.boot.bypassDue :=
  (rfl)
@[simp] theorem setTbOut_boot_bypassAt (n : Nat) (x : TbOut) (d : Dev) : (d.setTbOut n x).boot.bypassAt = d.boot.bypassAt :=
  (rfl)
@[simp] theorem setTbOut_boot_inReset (n : Nat) (x : TbOut) (d : Dev) : (d.setTbOut n x).boot.inReset = d.boot.inReset :=
  (rfl)
@[simp] theorem setTbOut_boot_resetAt (n : Nat) (x : TbOut) (d : Dev) : (d.setTbOut n x).boot.resetAt = d.boot.resetAt :=
  (rfl)
@[simp] theorem setTbOut_boot_returnAt (n : Nat) (x : TbOut) (d : Dev) : (d.setTbOut n x).boot.returnAt = d.boot.returnAt :=
  (rfl)
@[simp] theorem setTbOut_boot_romDue (n : Nat) (x : TbOut) (d : Dev) : (d.setTbOut n x).boot.romDue = d.boot.romDue := (rfl)
@[simp] theorem setTbOut_boot_low (n : Nat) (x : TbOut) (d : Dev) : (d.setTbOut n x).boot.low = d.boot.low := (rfl)
@[simp] theorem setTbOut_boot_wdogAt (n : Nat) (x : TbOut) (d : Dev) : (d.setTbOut n x).boot.wdogAt = d.boot.wdogAt := (rfl)
@[simp] theorem setTbOut_boot_wdogStop (n : Nat) (x : TbOut) (d : Dev) : (d.setTbOut n x).boot.wdogStop = d.boot.wdogStop :=
  (rfl)
@[simp] theorem setTbOut_boot_firmware (n : Nat) (x : TbOut) (d : Dev) : (d.setTbOut n x).boot.firmware = d.boot.firmware :=
  (rfl)
@[simp] theorem setTbOut_boot_entry (n : Nat) (x : TbOut) (d : Dev) : (d.setTbOut n x).boot.entry = d.boot.entry := (rfl)
@[simp] theorem setTbOut_boot_loaded (n : Nat) (x : TbOut) (d : Dev) : (d.setTbOut n x).boot.loaded = d.boot.loaded := (rfl)
@[simp] theorem setTbOut_boot_dlWait (n : Nat) (x : TbOut) (d : Dev) : (d.setTbOut n x).boot.dlWait = d.boot.dlWait := (rfl)
@[simp] theorem setTbOut_boot_dlCheck (n : Nat) (x : TbOut) (d : Dev) : (d.setTbOut n x).boot.dlCheck = d.boot.dlCheck :=
  (rfl)
@[simp] theorem setTbOut_boot_dlProg (n : Nat) (x : TbOut) (d : Dev) : (d.setTbOut n x).boot.dlProg = d.boot.dlProg := (rfl)
@[simp] theorem setTbOut_boot_burn (n : Nat) (x : TbOut) (d : Dev) : (d.setTbOut n x).boot.burn = d.boot.burn := (rfl)
@[simp] theorem setTbOut_boot_slotA (n : Nat) (x : TbOut) (d : Dev) : (d.setTbOut n x).boot.slotA = d.boot.slotA := (rfl)
@[simp] theorem setTbOut_boot_slotB (n : Nat) (x : TbOut) (d : Dev) : (d.setTbOut n x).boot.slotB = d.boot.slotB := (rfl)
@[simp] theorem setTbOut_boot_gauzeAt (n : Nat) (x : TbOut) (d : Dev) : (d.setTbOut n x).boot.gauzeAt = d.boot.gauzeAt :=
  (rfl)
@[simp] theorem setTbOut_boot_wake (n : Nat) (x : TbOut) (d : Dev) : (d.setTbOut n x).boot.wake = d.boot.wake := (rfl)
@[simp] theorem tbOut_setTbOut_same {n : Nat} (x : TbOut) (d : Dev) (h : n < 8) : (d.setTbOut n x).tbOut n = x := 
  getD_setIfInBounds_same _ _ _ h
theorem tbOut_setTbOut_ne {n : Nat} (x : TbOut) {m : Nat} (d : Dev) (h : m ≠ n) : (d.setTbOut n x).tbOut m = d.tbOut m := 
  getD_setIfInBounds_ne _ _ _ h

/-! ## setPll -/

@[simp] theorem setPll_triad (x : Pll) (d : Dev) : (d.setPll x).triad = d.triad := by simp [Dev.setPll]
@[simp] theorem setPll_eng (x : Pll) (d : Dev) : (d.setPll x).eng = d.eng := by simp [Dev.setPll]
@[simp] theorem setPll_mp (x : Pll) (d : Dev) : (d.setPll x).mp = d.mp := by simp [Dev.setPll]
@[simp] theorem setPll_pw (x : Pll) (d : Dev) : (d.setPll x).pw = d.pw := by simp [Dev.setPll]
@[simp] theorem setPll_sense (x : Pll) (d : Dev) : (d.setPll x).sense = d.sense := by simp [Dev.setPll]
@[simp] theorem setPll_felt (x : Pll) (d : Dev) : (d.setPll x).felt = d.felt := by simp [Dev.setPll]
@[simp] theorem setPll_acq (x : Pll) (d : Dev) : (d.setPll x).acq = d.acq := by simp [Dev.setPll]
@[simp] theorem setPll_prec (x : Pll) (d : Dev) : (d.setPll x).prec = d.prec := by simp [Dev.setPll]
@[simp] theorem setPll_safe (x : Pll) (d : Dev) : (d.setPll x).safe = d.safe := by simp [Dev.setPll]
@[simp] theorem setPll_bus (x : Pll) (d : Dev) : (d.setPll x).bus = d.bus := by simp [Dev.setPll]
@[simp] theorem setPll_chain (x : Pll) (d : Dev) : (d.setPll x).chain = d.chain := by simp [Dev.setPll]
@[simp] theorem setPll_free (x : Pll) (d : Dev) : (d.setPll x).free = d.free := by simp [Dev.setPll]
@[simp] theorem setPll_now (x : Pll) (d : Dev) : (d.setPll x).now = d.now := by simp [Dev.setPll]
@[simp] theorem setPll_wr (x : Pll) (d : Dev) : (d.setPll x).wr = d.wr := by simp [Dev.setPll]
@[simp] theorem setPll_wipe (x : Pll) (d : Dev) : (d.setPll x).wipe = d.wipe := by simp [Dev.setPll]
@[simp] theorem setPll_rebase (x : Pll) (d : Dev) : (d.setPll x).rebase = d.rebase := by simp [Dev.setPll]
@[simp] theorem setPll_arms (x : Pll) (d : Dev) : (d.setPll x).arms = d.arms := by simp [Dev.setPll]
@[simp] theorem setPll_latches (x : Pll) (d : Dev) : (d.setPll x).latches = d.latches := by simp [Dev.setPll]
@[simp] theorem setPll_regRounds (x : Pll) (d : Dev) : (d.setPll x).regRounds = d.regRounds := by simp [Dev.setPll]
@[simp] theorem setPll_boot_idle (x : Pll) (d : Dev) : (d.setPll x).boot.idle = d.boot.idle := by simp [Dev.setPll]
@[simp] theorem setPll_boot_bypass (x : Pll) (d : Dev) : (d.setPll x).boot.bypass = d.boot.bypass := by simp [Dev.setPll]
@[simp] theorem setPll_boot_bypassOsc (x : Pll) (d : Dev) : (d.setPll x).boot.bypassOsc = d.boot.bypassOsc :=
  by simp [Dev.setPll]
@[simp] theorem setPll_boot_hold (x : Pll) (d : Dev) : (d.setPll x).boot.hold = d.boot.hold := by simp [Dev.setPll]
@[simp] theorem setPll_boot_stopDue (x : Pll) (d : Dev) : (d.setPll x).boot.stopDue = d.boot.stopDue := by simp [Dev.setPll]
@[simp] theorem setPll_boot_holdDue (x : Pll) (d : Dev) : (d.setPll x).boot.holdDue = d.boot.holdDue := by simp [Dev.setPll]
@[simp] theorem setPll_boot_muslin (x : Pll) (d : Dev) : (d.setPll x).boot.muslin = d.boot.muslin := by simp [Dev.setPll]
@[simp] theorem setPll_boot_gauze (x : Pll) (d : Dev) : (d.setPll x).boot.gauze = d.boot.gauze := by simp [Dev.setPll]
@[simp] theorem setPll_boot_refOk (x : Pll) (d : Dev) : (d.setPll x).boot.refOk = d.boot.refOk := by simp [Dev.setPll]
@[simp] theorem setPll_boot_bypassDue (x : Pll) (d : Dev) : (d.setPll x).boot.bypassDue = d.boot.bypassDue :=
  by simp [Dev.setPll]
@[simp] theorem setPll_boot_bypassAt (x : Pll) (d : Dev) : (d.setPll x).boot.bypassAt = d.boot.bypassAt :=
  by simp [Dev.setPll]
@[simp] theorem setPll_boot_tb (x : Pll) (d : Dev) : (d.setPll x).boot.tb = d.boot.tb := by simp [Dev.setPll]
@[simp] theorem setPll_boot_inReset (x : Pll) (d : Dev) : (d.setPll x).boot.inReset = d.boot.inReset := by simp [Dev.setPll]
@[simp] theorem setPll_boot_resetAt (x : Pll) (d : Dev) : (d.setPll x).boot.resetAt = d.boot.resetAt := by simp [Dev.setPll]
@[simp] theorem setPll_boot_returnAt (x : Pll) (d : Dev) : (d.setPll x).boot.returnAt = d.boot.returnAt :=
  by simp [Dev.setPll]
@[simp] theorem setPll_boot_romDue (x : Pll) (d : Dev) : (d.setPll x).boot.romDue = d.boot.romDue := by simp [Dev.setPll]
@[simp] theorem setPll_boot_low (x : Pll) (d : Dev) : (d.setPll x).boot.low = d.boot.low := by simp [Dev.setPll]
@[simp] theorem setPll_boot_wdogAt (x : Pll) (d : Dev) : (d.setPll x).boot.wdogAt = d.boot.wdogAt := by simp [Dev.setPll]
@[simp] theorem setPll_boot_wdogStop (x : Pll) (d : Dev) : (d.setPll x).boot.wdogStop = d.boot.wdogStop :=
  by simp [Dev.setPll]
@[simp] theorem setPll_boot_firmware (x : Pll) (d : Dev) : (d.setPll x).boot.firmware = d.boot.firmware :=
  by simp [Dev.setPll]
@[simp] theorem setPll_boot_entry (x : Pll) (d : Dev) : (d.setPll x).boot.entry = d.boot.entry := by simp [Dev.setPll]
@[simp] theorem setPll_boot_loaded (x : Pll) (d : Dev) : (d.setPll x).boot.loaded = d.boot.loaded := by simp [Dev.setPll]
@[simp] theorem setPll_boot_dlWait (x : Pll) (d : Dev) : (d.setPll x).boot.dlWait = d.boot.dlWait := by simp [Dev.setPll]
@[simp] theorem setPll_boot_dlCheck (x : Pll) (d : Dev) : (d.setPll x).boot.dlCheck = d.boot.dlCheck := by simp [Dev.setPll]
@[simp] theorem setPll_boot_dlProg (x : Pll) (d : Dev) : (d.setPll x).boot.dlProg = d.boot.dlProg := by simp [Dev.setPll]
@[simp] theorem setPll_boot_burn (x : Pll) (d : Dev) : (d.setPll x).boot.burn = d.boot.burn := by simp [Dev.setPll]
@[simp] theorem setPll_boot_slotA (x : Pll) (d : Dev) : (d.setPll x).boot.slotA = d.boot.slotA := by simp [Dev.setPll]
@[simp] theorem setPll_boot_slotB (x : Pll) (d : Dev) : (d.setPll x).boot.slotB = d.boot.slotB := by simp [Dev.setPll]
@[simp] theorem setPll_boot_gauzeAt (x : Pll) (d : Dev) : (d.setPll x).boot.gauzeAt = d.boot.gauzeAt := by simp [Dev.setPll]
@[simp] theorem setPll_boot_wake (x : Pll) (d : Dev) : (d.setPll x).boot.wake = d.boot.wake := by simp [Dev.setPll]
@[simp] theorem setPll_boot_pll (x : Pll) (d : Dev) : (d.setPll x).boot.pll = x := by simp [Dev.setPll]

/-! ## setPos -/

@[simp] theorem setPos_eng (n : Nat) (x : Position) (d : Dev) : (d.setPos n x).eng = d.eng := by simp [Dev.setPos]
@[simp] theorem setPos_mp (n : Nat) (x : Position) (d : Dev) : (d.setPos n x).mp = d.mp := by simp [Dev.setPos]
@[simp] theorem setPos_pw (n : Nat) (x : Position) (d : Dev) : (d.setPos n x).pw = d.pw := by simp [Dev.setPos]
@[simp] theorem setPos_sense (n : Nat) (x : Position) (d : Dev) : (d.setPos n x).sense = d.sense := by simp [Dev.setPos]
@[simp] theorem setPos_felt (n : Nat) (x : Position) (d : Dev) : (d.setPos n x).felt = d.felt := by simp [Dev.setPos]
@[simp] theorem setPos_acq (n : Nat) (x : Position) (d : Dev) : (d.setPos n x).acq = d.acq := by simp [Dev.setPos]
@[simp] theorem setPos_prec (n : Nat) (x : Position) (d : Dev) : (d.setPos n x).prec = d.prec := by simp [Dev.setPos]
@[simp] theorem setPos_safe (n : Nat) (x : Position) (d : Dev) : (d.setPos n x).safe = d.safe := by simp [Dev.setPos]
@[simp] theorem setPos_bus (n : Nat) (x : Position) (d : Dev) : (d.setPos n x).bus = d.bus := by simp [Dev.setPos]
@[simp] theorem setPos_chain (n : Nat) (x : Position) (d : Dev) : (d.setPos n x).chain = d.chain := by simp [Dev.setPos]
@[simp] theorem setPos_boot (n : Nat) (x : Position) (d : Dev) : (d.setPos n x).boot = d.boot := by simp [Dev.setPos]
@[simp] theorem setPos_free (n : Nat) (x : Position) (d : Dev) : (d.setPos n x).free = d.free := by simp [Dev.setPos]
@[simp] theorem setPos_now (n : Nat) (x : Position) (d : Dev) : (d.setPos n x).now = d.now := by simp [Dev.setPos]
@[simp] theorem setPos_wr (n : Nat) (x : Position) (d : Dev) : (d.setPos n x).wr = d.wr := by simp [Dev.setPos]
@[simp] theorem setPos_wipe (n : Nat) (x : Position) (d : Dev) : (d.setPos n x).wipe = d.wipe := by simp [Dev.setPos]
@[simp] theorem setPos_rebase (n : Nat) (x : Position) (d : Dev) : (d.setPos n x).rebase = d.rebase := by simp [Dev.setPos]
@[simp] theorem setPos_arms (n : Nat) (x : Position) (d : Dev) : (d.setPos n x).arms = d.arms := by simp [Dev.setPos]
@[simp] theorem setPos_latches (n : Nat) (x : Position) (d : Dev) : (d.setPos n x).latches = d.latches :=
  by simp [Dev.setPos]
@[simp] theorem setPos_regRounds (n : Nat) (x : Position) (d : Dev) : (d.setPos n x).regRounds = d.regRounds :=
  by simp [Dev.setPos]
@[simp] theorem setPos_triad_law (n : Nat) (x : Position) (d : Dev) : (d.setPos n x).triad.law = d.triad.law :=
  by simp [Dev.setPos]
@[simp] theorem setPos_triad_live (n : Nat) (x : Position) (d : Dev) : (d.setPos n x).triad.live = d.triad.live :=
  by simp [Dev.setPos]
@[simp] theorem setPos_triad_brkCmd (n : Nat) (x : Position) (d : Dev) : (d.setPos n x).triad.brkCmd = d.triad.brkCmd :=
  by simp [Dev.setPos]
@[simp] theorem setPos_triad_sampleNo (n : Nat) (x : Position) (d : Dev) : (d.setPos n x).triad.sampleNo = d.triad.sampleNo :=
  by simp [Dev.setPos]
@[simp] theorem setPos_triad_paramSet (n : Nat) (x : Position) (d : Dev) : (d.setPos n x).triad.paramSet = d.triad.paramSet :=
  by simp [Dev.setPos]
@[simp] theorem setPos_triad_ckpt (n : Nat) (x : Position) (d : Dev) : (d.setPos n x).triad.ckpt = d.triad.ckpt :=
  by simp [Dev.setPos]
@[simp] theorem setPos_triad_ckptSample (n : Nat) (x : Position) (d : Dev) : (d.setPos n x).triad.ckptSample = d.triad.ckptSample :=
  by simp [Dev.setPos]
@[simp] theorem setPos_triad_ckptB (n : Nat) (x : Position) (d : Dev) : (d.setPos n x).triad.ckptB = d.triad.ckptB :=
  by simp [Dev.setPos]
@[simp] theorem setPos_triad_bufB (n : Nat) (x : Position) (d : Dev) : (d.setPos n x).triad.bufB = d.triad.bufB :=
  by simp [Dev.setPos]
@[simp] theorem setPos_triad_hold (n : Nat) (x : Position) (d : Dev) : (d.setPos n x).triad.hold = d.triad.hold :=
  by simp [Dev.setPos]
@[simp] theorem setPos_triad_holdCnt (n : Nat) (x : Position) (d : Dev) : (d.setPos n x).triad.holdCnt = d.triad.holdCnt :=
  by simp [Dev.setPos]
@[simp] theorem setPos_triad_mode (n : Nat) (x : Position) (d : Dev) : (d.setPos n x).triad.mode = d.triad.mode :=
  by simp [Dev.setPos]
@[simp] theorem setPos_triad_lastVoted (n : Nat) (x : Position) (d : Dev) : (d.setPos n x).triad.lastVoted = d.triad.lastVoted :=
  by simp [Dev.setPos]
@[simp] theorem setPos_triad_holdShut (n : Nat) (x : Position) (d : Dev) : (d.setPos n x).triad.holdShut = d.triad.holdShut :=
  by simp [Dev.setPos]
@[simp] theorem setPos_triad_heldRec (n : Nat) (x : Position) (d : Dev) : (d.setPos n x).triad.heldRec = d.triad.heldRec :=
  by simp [Dev.setPos]
@[simp] theorem setPos_triad_sampleOpen (n : Nat) (x : Position) (d : Dev) : (d.setPos n x).triad.sampleOpen = d.triad.sampleOpen :=
  by simp [Dev.setPos]
@[simp] theorem setPos_triad_tickAt (n : Nat) (x : Position) (d : Dev) : (d.setPos n x).triad.tickAt = d.triad.tickAt :=
  by simp [Dev.setPos]
@[simp] theorem setPos_triad_cmd (n : Nat) (x : Position) (d : Dev) : (d.setPos n x).triad.cmd = d.triad.cmd :=
  by simp [Dev.setPos]
@[simp] theorem setPos_triad_wireEdge (n : Nat) (x : Position) (d : Dev) : (d.setPos n x).triad.wireEdge = d.triad.wireEdge :=
  by simp [Dev.setPos]
@[simp] theorem setPos_triad_tmRole (n : Nat) (x : Position) (d : Dev) : (d.setPos n x).triad.tmRole = d.triad.tmRole :=
  by simp [Dev.setPos]
@[simp] theorem setPos_triad_pcRole (n : Nat) (x : Position) (d : Dev) : (d.setPos n x).triad.pcRole = d.triad.pcRole :=
  by simp [Dev.setPos]
@[simp] theorem setPos_triad_testBusy (n : Nat) (x : Position) (d : Dev) : (d.setPos n x).triad.testBusy = d.triad.testBusy :=
  by simp [Dev.setPos]
@[simp] theorem setPos_triad_testPass (n : Nat) (x : Position) (d : Dev) : (d.setPos n x).triad.testPass = d.triad.testPass :=
  by simp [Dev.setPos]
@[simp] theorem setPos_triad_outvotedAt (n : Nat) (x : Position) (d : Dev) : (d.setPos n x).triad.outvotedAt = d.triad.outvotedAt :=
  by simp [Dev.setPos]
@[simp] theorem pos_setPos_same {n : Nat} (x : Position) (d : Dev) (h : n < 3) : (d.setPos n x).pos n = x := by
  simp only [Dev.setPos, Dev.pos, putAt_triad]
  exact getD_setIfInBounds_same _ _ _ h
theorem pos_setPos_ne {n : Nat} (x : Position) {m : Nat} (d : Dev) (h : m ≠ n) : (d.setPos n x).pos m = d.pos m := by
  simp only [Dev.setPos, Dev.pos, putAt_triad]
  exact getD_setIfInBounds_ne _ _ _ h

end Sys2Proof.Machine
end

