-- ==== Sys2Proof/WellFormed.lean ====
section
/-!
DEFINITION. Which commands are well formed: operands that the spec's formats can carry. `exec` is total and does not ask for
it; a command outside it stands for no event of the hardware.
-/
namespace Sys2Proof

/-- A chain frame fits its format (R406): at most 64 payload words. -/
def Machine.ChainFrame.wellFormed (f : Machine.ChainFrame) : Bool := decide (f.payload.length ≤ 64)

/-- A Felt transaction fits its format (R255): 1 to 64 bytes, a write carries as many bytes as its length says. -/
def feltWellFormed (data : Option (List (BitVec 8))) (len : Nat) : Bool :=
  decide (1 ≤ len) && (match data with | some bs => decide (bs.length = len) | none => true)

/-- The operand check of a command. -/
def Instr.wellFormed : Instr → Bool
  | .registerWrite a _ _ _ => decide (a.toNat % 4 = 0)
  | .cbr _ _ _ len => decide (1 ≤ len.val)
  | .cbw _ _ _ len => decide (1 ≤ len.val)
  | .debugHalt f _ _ _ _ => f.wellFormed
  | .debugResume f _ _ _ _ => f.wellFormed
  | .feltRequest _ data _ len _ => feltWellFormed data len.val
  | .pcResult _ _ den _ => decide (den ≠ 0)
  | .pbFrameRx _ _ _ data _ _ _ => decide (data.length ≤ 64)
  | .refRx _ _ data _ _ _ => decide (data.length ≤ 64)
  | .chainFrameRx _ f _ _ _ => f.wellFormed
  | .read f _ _ _ _ => f.wellFormed
  | .write f _ _ _ _ => f.wellFormed
  | .requestTimeout f _ _ => f.wellFormed
  | .chainReset f _ _ _ _ => f.wellFormed
  | .engineReset f _ _ _ _ => f.wellFormed
  | .arm f _ _ _ _ => f.wellFormed
  | .clearRetry f _ _ _ _ => f.wellFormed
  | .enum f _ => f.wellFormed
  | .enumDone f _ => f.wellFormed
  | .event f _ => f.wellFormed
  | .mail f _ => f.wellFormed
  | .spiRequest f _ _ => f.wellFormed
  | .irqClr .. | .lockWrite .. | .slackMinRead .. | .waitMaxRead .. | .ntLoRead .. | .ledgerCounterRead ..
  | .gfmCommit .. | .gfmSnap .. | .triadTick .. | .holdExpired .. | .nonfiniteLimit .. | .shutdownRampEnd ..
  | .profileCommit .. | .feExpired .. | .transitCommit .. | .blackStart .. | .armStart .. | .attach ..
  | .reconnect .. | .island .. | .stop .. | .abortSync .. | .deadMsExpired .. | .brkFbTimeout .. | .startInstant ..
  | .leadWireInstant .. | .farSideSettled .. | .syncClose .. | .syncTimeout .. | .rtSatCount .. | .rtTmaxExpired ..
  | .rtExit .. | .frtCommit .. | .voterStep .. | .holdShutdown .. | .leaseExpiry .. | .spareLoadDone ..
  | .selftestPassDone .. | .failback .. | .voterTest .. | .voterTestDone .. | .voterClrCnt .. | .roleFrameRx ..
  | .roleFrameTx .. | .roleClaim .. | .roleLeaseExpiry .. | .roleReclaim .. | .engineTick .. | .sampleDeadline ..
  | .missOff .. | .legResume .. | .engineRun .. | .engineStop .. | .restart .. | .restartDone .. | .ceCommit ..
  | .legHoldExpired .. | .legNonfiniteLimit .. | .hkTick .. | .hkDone .. | .mpOverloadSet .. | .mpOverloadClear ..
  | .shedLevelUp .. | .add .. | .sub .. | .and .. | .or .. | .xor .. | .shl .. | .shr .. | .sar .. | .cmp ..
  | .sel .. | .mul .. | .mulh .. | .fmin .. | .fmax .. | .fabs .. | .fneg .. | .fclamp .. | .fcmp .. | .fadd ..
  | .fsub .. | .fmul .. | .fma .. | .fcvt .. | .fdiv .. | .fsqrt .. | .sincos .. | .ld .. | .st .. | .crd ..
  | .cwr .. | .lwr .. | .br .. | .brz .. | .brnz .. | .call .. | .ret .. | .done .. | .tickstamp .. | .cpoll ..
  | .legCommit .. | .dutyWrite .. | .dutyFracWrite .. | .updateBoundary .. | .switchRise .. | .switchFall ..
  | .deadTimeEnd .. | .forceOff .. | .forceLow .. | .forceRelease .. | .legInvert .. | .legEnable .. | .legDisable ..
  | .refresh .. | .bootUvFullDuty .. | .cal .. | .calDone .. | .assignWrite .. | .groupCommit .. | .groupSetActive ..
  | .dbgCtrlHalt .. | .dbgCtrlResume .. | .gsLevelAccepted .. | .gsOffDeadline .. | .scHiActive .. | .scLoActive ..
  | .blankingEnd .. | .trip .. | .tripClr .. | .gfault .. | .groupTrip .. | .groupTripClr .. | .devTrip ..
  | .devTripClear .. | .rpsArm .. | .rpsDisarm .. | .rpsDwellDone .. | .rpsFbFail .. | .brkCmdWrite ..
  | .brkFbChange .. | .brkMismatch .. | .finalSample .. | .settled .. | .stuckDetected .. | .sdfCommit ..
  | .sdfSync .. | .fsrcWrite .. | .arbiterDecision .. | .feltHandshake .. | .preempt .. | .hsTimeout ..
  | .txTimeout .. | .arbCommit .. | .arbClrCnt .. | .feltClrCnt .. | .acqArm .. | .acqStop .. | .captureInstant ..
  | .acqReady .. | .recordDone .. | .holdoffEnd .. | .autoTrigger .. | .segRelease .. | .soft .. | .wireEdge ..
  | .wirePulseEnd .. | .tbFrameTx .. | .tbFrameRx .. | .streamBlock .. | .windowBoundary .. | .pcRun .. | .pcStop ..
  | .acFeed .. | .feedLost .. | .plausPeriodEnd .. | .tamperChange .. | .tamperAck .. | .logInCode ..
  | .logRelease .. | .restoreGo .. | .restoreClose .. | .safeInputAccepted .. | .discrepancyFault .. | .piOn ..
  | .piOff .. | .piReadbackFault .. | .stallMonitorArmed .. | .stall .. | .oscWindow .. | .safeRstPulse ..
  | .safePermitRelease .. | .pbOn .. | .pbOff .. | .pbSynced .. | .txReq .. | .txAbort .. | .abortAll ..
  | .rxRelease .. | .pbStartOpportunity .. | .pbFrameTxDone .. | .rxBufferFlip .. | .pbError .. | .pbAlone ..
  | .recover .. | .busoffRecovered .. | .txExpiry .. | .cycleBoundary .. | .exclusiveWindow .. | .pbusSchedCommit ..
  | .ntLockGained .. | .ntLockLost .. | .ntStep .. | .master .. | .set .. | .linkUp .. | .linkLost ..
  | .keepaliveSend .. | .ack .. | .nak .. | .rate .. | .chainFrameForward .. | .reEnum .. | .closeDn ..
  | .chainClrCnt .. | .cmdOut .. | .eventIrq .. | .pllEnable .. | .pllDisable .. | .research .. | .bandWindow ..
  | .searchRetry .. | .pllWindow .. | .vcoStopped .. | .refLost .. | .refBack .. | .bypassEntry .. | .bypassReturn ..
  | .tbOutEnable .. | .tbOutDisable .. | .por .. | .bor .. | .pin .. | .resetRelease .. | .downloadWaitExpired ..
  | .wdogKick .. | .wdogWarn .. | .wdogExpiry .. | .runReady .. | .fail .. | .rollbackAdv .. | .rollbackDone ..
  | .dlCheck .. | .dlDone .. | .dlProg .. | .progDone .. | .idle .. | .idleExit .. | .gauze .. | .wake .. | .wakeN ..
  | .wakeTimer .. | .gauzeExit .. | .gsOnDeadline .. | .refreshPulseEnd .. | .scRelease .. | .safePermitAsserted ..
  | .wireRise .. | .gauzeEntryDone .. | .supplyReturn .. | .rstNRelease .. | .backlogFrameTaken .. => true

end Sys2Proof
end

