-- ==== Sys2Proof/Tests/Slice0.lean ====
section
/-!
SUPPORT. Tests: small states, the checks of well-formedness, single steps with results taken from the spec's tables and
worked timelines, and for every statement of Certificates/Slice0/Obligations.lean states and operands that meet its
hypotheses.
-/
namespace Sys2Proof.Tests
open Sys2Proof.Machine

set_option Elab.async false
set_option linter.unusedVariables false

/-- The reset state with its device changed. -/
def st (f : Dev → Dev) : State := { State.reset with dev := f Dev.reset }
/-- The device with one part changed. -/
def lw (f : LawState → LawState) (d : Dev) : Dev := { d with triad := { d.triad with law := f d.triad.law } }
def sq (f : SeqState → SeqState) : Dev → Dev := lw (fun l => { l with seq := f l.seq })
def runs : Dev → Dev := sq (fun q => { q with st := .island })
def tri (f : Triad → Triad) (d : Dev) : Dev := { d with triad := f d.triad }
def posn (k : Nat) (x : Position) : Dev → Dev := tri (fun y => { y with pos := y.pos.setIfInBounds k x })
def ra (p : Nat) (f : FieldSpec) (v : Nat) (d : Dev) : Dev :=
  d.setReg (f.addr p 0 + 0x800) (bitsPut (d.reg (f.addr p 0 + 0x800)) f.hi f.lo v)
def eg (n : Nat) (f : Engine → Engine) (d : Dev) : Dev := d.setEngine n (f (d.engine n))
def lg (n : Nat) (f : Leg → Leg) (d : Dev) : Dev := d.setLeg n (f (d.leg n))
def pwr (f : PowerStage → PowerStage) (d : Dev) : Dev := { d with pw := f d.pw }
def aq (f : Acq → Acq) (d : Dev) : Dev := { d with acq := f d.acq }
def prc (f : Prec → Prec) (d : Dev) : Dev := { d with prec := f d.prec }
def saf (f : Safe → Safe) (d : Dev) : Dev := { d with safe := f d.safe }
def bs (f : Bus → Bus) (d : Dev) : Dev := { d with bus := f d.bus }
def ntm (f : NetTime → NetTime) : Dev → Dev := bs (fun b => { b with nt := f b.nt })
def chn (f : Chain → Chain) (d : Dev) : Dev := { d with chain := f d.chain }
def prt (up : Bool) (f : ChainPort → ChainPort) (d : Dev) : Dev := d.setPort up (f (d.port up))
def bt (f : Boot → Boot) (d : Dev) : Dev := { d with boot := f d.boot }
def pl (f : Pll → Pll) : Dev → Dev := bt (fun b => { b with pll := f b.pll })
/-- An engine in a sample. -/
def exe (n : Nat) (d : Dev) : Dev := eg n (fun e => { e with st := .run, tickAt := some 0 }) d
/-- A controller on the peer bus that hears it. -/
def onBus (d : Dev) : Dev :=
  bt (fun b => { b with bypass := false }) ((d.put pPBUS PBUS.CTRL_ON 1).put pPBUS PBUS.STATUS_SYNCED 1)
/-- A unit with an address, an open upstream link. -/
def addr (d : Dev) : Dev := (d.put pCHAIN CHAIN.STATUS_ADDRESSED 1).put pCHAIN CHAIN.POSITION_POS 1
/-- A chain frame for the unit of `addr`, sealed. -/
def fr (typ : Nat) (a : Word) (len : Nat) (ws : List Word) : Machine.ChainFrame :=
  ChainFrame.seal ⟨BitVec.ofNat 32 (typ * 2 ^ 28), a, BitVec.ofNat 32 (len * 2 ^ 25), ws⟩ 0
/-- A device whose start checks pass and that Buckram permits to run. -/
def startable (d : Dev) : Dev :=
  saf (fun s => { s with legsOff := false })
    (((((d.setReg 0x80058 0x3F800000).setReg 0x8005C 0x3F800000).put (pGRP 0) GRP.ASSIGN0_LEGS 1).put (pGRP 1) GRP.ASSIGN0_LEGS
      2).put (pGRP 2) GRP.ASSIGN0_LEGS 4)
/-- The ledger sealed and its page open. -/
def unsealed (d : Dev) : Dev := (d.put pLEDGER LEDGER.STATUS_SEALED 1).put pLEDGER HDR.LOCK_OPEN 1
/-- Where no other tag is in use, any fact about another tag in use holds. -/
theorem oldest_alone {P : Nat → Tx → Prop} (d : Dev) (k : Nat)
    (h : ∀ j : Fin 48, j.val ≠ k → d.felt.tags.toArray.getD j.val none = none) :
    ∀ (j : Nat) (y : Tx), j ≠ k → Dev.tag j d = some y → P j y := by
  intro j y hj hy
  by_cases hlt : j < 48
  · have := h ⟨j, hlt⟩ hj
    simp only [Dev.tag] at hy
    simp_all
  · simp [Dev.tag, Array.getD, hlt] at hy
/-- What a next state shows. -/
def obs {α : Type} (f : State → α) : Host.Outcome State Fault Refusal → Option α
  | .next s => some (f s)
  | .fault _ => none
  | .refused _ => none
/-- One more command. -/
def andThen (o : Host.Outcome State Fault Refusal) (f : State → Host.Outcome State Fault Refusal) :
    Host.Outcome State Fault Refusal :=
  match o with
  | .next s => f s
  | .fault r => .fault r
  | .refused r => .refused r

/-! ## Well-formedness: a term that each check refuses -/

theorem test_wf_refuses_unaligned_register : (Instr.registerWrite 2 0 0 0).wellFormed = false := by decide
theorem test_wf_refuses_felt_length_zero : (Instr.feltRequest 0 none 0 0 0).wellFormed = false := by decide
theorem test_wf_refuses_felt_data_of_other_length : (Instr.feltRequest 0 (some [1]) 0 2 0).wellFormed = false := by decide
theorem test_wf_refuses_empty_block_read : (Instr.cbr 0 (.lit 0) (.lit 0) 0).wellFormed = false := by decide
theorem test_wf_refuses_empty_block_write : (Instr.cbw 0 (.lit 0) (.lit 0) 0).wellFormed = false := by decide
theorem test_wf_refuses_zero_denominator : (Instr.pcResult 0 1 0 0).wellFormed = false := by decide
theorem test_wf_refuses_long_bus_frame : (Instr.pbFrameRx 0 0 0 (List.replicate 65 0) 0 0 0).wellFormed = false := by decide
theorem test_wf_refuses_long_ref : (Instr.refRx 0 0 (List.replicate 65 0) 0 0 0).wellFormed = false := by decide
theorem test_wf_refuses_long_chain_frames :
    (let f : Machine.ChainFrame := ⟨0, 0, 0, List.replicate 65 0⟩
     [Instr.chainFrameRx true f true [] 0, .read f 0 0 none 0, .write f 0 0 none 0, .requestTimeout f 0 0,
      .chainReset f true 0 0 0, .engineReset f true 0 0 0, .arm f true 0 0 0, .clearRetry f true 0 0 0,
      .debugHalt f true 0 0 0, .debugResume f true 0 0 0, .enum f 0, .enumDone f 0, .event f 0, .mail f 0,
      .spiRequest f none 0].any Instr.wellFormed) = false := by decide
theorem test_wf_accepts : ([Instr.registerWrite 4 0 0 0, .feltRequest 0 (some [1]) 0 1 0, .pcResult 0 1 2 0,
    .hkTick 0].all Instr.wellFormed) = true := by decide

/-! ## The step and the table's words -/

theorem test_no_word_spells_a_command : decodeTableWord 32 0xFFFFFFFF = none := rfl
theorem test_step_takes_the_front :
    obs (fun s => (s.pending, s.dev.mp.hkBusy)) (step { State.reset with pending := [.hkTick 12800000, .hkDone 12800006] }) =
      some ([.hkDone 12800006], true) := by decide +kernel

/-! ## Registers: reset values and access codes -/

-- R55: M_P resets to 0.02; R163: leg lists of CE00, CE01
theorem test_reset_m_p : Dev.reset.wordAt pGFM GFM.M_P 0 = 0x3CA3D70A := by decide +kernel
theorem test_reset_leg_lists : (Dev.reset.get (pENG 0) CE.LEG_LIST0_SLOTS, Dev.reset.get (pENG 1) CE.LEG_LIST0_SLOTS) =
    (0x83828180, 0x87868584) := by decide +kernel
-- R427: the page number arms, its complement from the same port opens
theorem test_lock_opens :
    obs (fun s => s.dev.lockOpen 0x80)
      (andThen (exec (.lockWrite 0x80 3 0x80 0) State.reset) (exec (.lockWrite 0x80 3 0xFFFFFF7F 1))) = some true := by
  decide +kernel
theorem test_lock_needs_the_same_port :
    obs (fun s => s.dev.lockOpen 0x80)
      (andThen (exec (.lockWrite 0x80 3 0x80 0) State.reset) (exec (.lockWrite 0x80 4 0xFFFFFF7F 1))) = some false := by
  decide +kernel

/-! ## Engine instructions -/

theorem test_add_wraps : obs (fun s => (s.dev.engine 0).regs[1]) (exec (.add 0 1 (.lit 0xFFFFFFFF) (.lit 1)) (st (exe 0))) =
    some 0 := by decide +kernel
theorem test_sub_order : obs (fun s => (s.dev.engine 0).regs[1]) (exec (.sub 0 1 (.lit 3) (.lit 5)) (st (exe 0))) =
    some 0xFFFFFFFE := by decide +kernel
theorem test_sar_keeps_sign : obs (fun s => (s.dev.engine 0).regs[1]) (exec (.sar 0 1 (.lit 0x80000000) (.lit 31)) (st (exe 0))) =
    some 0xFFFFFFFF := by decide +kernel
-- 1 + 2 = 3, 1/3, the root of 2, 1.5 * 2 + 0.25, rounded to nearest even
theorem test_fadd : faddW 0x3F800000 0x40000000 = .of 0x40400000 := by decide +kernel
theorem test_fdiv_third : (fdivW 0x3F800000 0x40400000).w = 0x3EAAAAAB := by decide +kernel
theorem test_fsqrt_two : (fsqrtW 0x40000000).w = 0x3FB504F3 := by decide +kernel
theorem test_fma : (ffmaW 0x3FC00000 0x40000000 0x3E800000).w = 0x40500000 := by decide +kernel
-- R139 item 6: 2.5 rounds to even, 2^31 saturates, a NaN converts to 0
theorem test_fcvt_even : fToIntW 0x40200000 = (2, FFlags.none) := by decide +kernel
theorem test_fcvt_saturates : fToIntW 0x4F000000 = (0x7FFFFFFF, FFlags.onlyCvtSat) := by decide +kernel
theorem test_fcvt_nan : (fToIntW 0x7FC00000).1 = 0 := by decide +kernel
-- R142: a store below the descriptor's end is fault 3
theorem test_store_to_descriptor_faults :
    obs (fun s => ((s.dev.engine 0).st, s.dev.get (pENG 0) TE.FAULT_CODE_CAUSE))
      (exec (.st 0 false (.lit 0x1F) (.lit 1)) (st (fun d => (exe 0 d).put (pENG 0) TE.ENG_CFG_AUTO_RESTART 0))) =
      some (.fault, 3) := by decide +kernel
-- the worked timeline of three misses: the third miss takes the legs off
theorem test_third_miss_turns_legs_off :
    obs (fun s => (s.dev.get (pENG 4) CE.MISS_STAT_CONSEC, (s.dev.engine 4).legsOff)) (exec (.sampleDeadline 4 none 1000000)
      (st (fun d => ((eg 4 (fun e => { e with st := .run, tickAt := some 0 }) d).put (pENG 4) CE.ENG_CFG_VENDOR_PROG 0).put
        (pENG 4) CE.MISS_STAT_CONSEC 2))) = some (3, true) := by decide +kernel

/-! ## Legs and protection -/

-- the worked trap of 06: DUTY alone latches the period that stands
theorem test_duty_write_latches_old_period :
    obs (fun s => (s.dev.leg 44).latched) (exec (.dutyWrite 44 15 10000 7)
      (st (fun d => (d.setReg (LEG.PERIOD_INT.addr (pLEG 44) 0) 20000).put (pLEG 44) LEG.CFG_COMMIT_MODE 1))) =
      some (some ⟨20000, 10000, 0, 7⟩) := by decide +kernel
-- the worked shoot-through of 07: 580 ns after LEG14's trip, LEG17's makes the group trip with cause 0x10
theorem test_second_short_circuit_trips_the_group :
    obs (fun s => ((s.dev.grp 1).tripped, (s.dev.grp 1).cause, (s.dev.grp 1).multiSc))
      (andThen (exec (.scHiActive 14 6000000 1888) (st (fun d => d.put (pGRP 1) GRP.ASSIGN0_LEGS 0xFFF000)))
        (exec (.scHiActive 17 (-6000000) 9312))) = some (true, 0x10, true) := by decide +kernel
theorem test_first_short_circuit_trips_the_leg_only :
    obs (fun s => ((s.dev.tripOf 14).cause, (s.dev.grp 1).tripped))
      (exec (.scHiActive 14 6000000 1888) (st (fun d => d.put (pGRP 1) GRP.ASSIGN0_LEGS 0xFFF000))) = some (0x12, false) := by
  decide +kernel

/-! ## Sensing, acquisition -/

-- the worked reset of SD03: a SYNC write at 9.995 µs resets at 10 µs
theorem test_sync_resets_on_time : obs (fun s => (s.dev.sd 3).resets) (exec (.sdfSync 0 8 127936) State.reset) =
    some [128000] := by decide +kernel
-- R306: 16 channels at 100 ticks under 64 units of 0.125 MB/s start at k0 = 5; KAS-A's 5,456 samples a segment
theorem test_stream_rate : ((Dev.reset.put pACQ ACQ.ACQ_CFG_MODE 2).put pACQ ACQ.ACQ_CFG_NCH 15 |>.put pACQ
    ACQ.ACQ_PERIOD_TICKS 100).acqK0 = 5 := by decide +kernel
theorem test_segment_capacity : ((Dev.reset.put pACQ ACQ.ACQ_CFG_SEG_LOG2 4).put pACQ ACQ.ACQ_CFG_NCH 11).bodyCap = 5456 := by
  decide +kernel
-- the worked fault record of 10: q = 171, 53,438 taps into the interval
theorem test_level_crossing : crossing 1400000 1200000 1500000 80000 80000 = ⟨1, 53438, some 171, 0⟩ := by decide +kernel

/-! ## Safety, peer bus, chain -/

-- 3,200 filter ticks are the shortest reset pulse
theorem test_short_reset_pulse_is_rejected :
    obs (fun s => s.dev.safe.lockouts) (exec (.safeRstPulse 3199 5 true 0) (st (saf (fun s => { s with lockouts := [(2, 0)] })))) =
      some [(2, 0)] := by decide +kernel
-- the worked bus-off of 13: 1.408 ms after RECOVER at the earliest
theorem test_recovery_not_before :
    obs (fun s => s.dev.busOff) (exec (.busoffRecovered 17881600 18022399) (st (fun d =>
      (((onBus d).put pPBUS PBUS.STATUS_ERR_STATE 2).put pPBUS PBUS.STATUS_RECOVERING 1).put pPBUS PBUS.ERR_STAT_BUSOFF_RCV 127))) =
      some true := by decide +kernel
-- the worked insertion of 14: a unit that hears sender 3, epoch 8 takes position 4 and plant address 0x000FF
theorem test_enumeration_moves_the_address :
    obs (fun s => (s.dev.position, s.dev.epoch, s.dev.get pPBUS PBUS.OWN_ADDR_ADDR))
      (exec (.enum (fr 7 0x0803 0 []) 0) (st (fun d => d.put pCHAIN CHAIN.STATUS_EPOCH_MAX 7))) = some (4, 8, 0xFF) := by
  decide +kernel
-- R416: a read of one word of Canvas
theorem test_chain_read :
    obs (fun s => s.dev.chain.up.out.map (fun f => (f.typ, f.payload)))
      (exec (.read (fr 1 0x10000000 1 []) 0 0 none 0) { st addr with mem := [(0x10000000, 0x5A)] }) = some [(3, [0x5A])] := by
  decide +kernel

/-! ## Power and reset -/

-- 10 µs low resets, less than 1 µs does not
theorem test_pin_glitch : obs (fun s => s.dev.boot.inReset) (exec (.pin 12799 0) State.reset) = some none := by decide +kernel
theorem test_pin_resets : obs (fun s => s.dev.boot.inReset) (exec (.pin 128000 0) State.reset) = some (some .pin) := by
  decide +kernel
theorem test_idle_holds_the_legs : obs (fun s => (s.dev.boot.idle, s.dev.get pPWR PWR.STATUS_STATE)) (exec (.idle 0) State.reset) =
    some (true, 1) := by decide +kernel

/-! ## Hypotheses of the statements -/

theorem hyps_CommandKeepsQueueAndClock : ∃ (c : Instr) (s t : State), exec c s = .next t := ⟨.hkDone 0, State.reset, _, rfl⟩

theorem hyps_StepKeepsCanonicalMemory : ∃ s t : State, s.canonical ∧ step s = .next t :=
  ⟨{ State.reset with pending := [.hkTick 5], mem := [(0x10000000, 7)] }, _,
    (by unfold State.canonical; decide +kernel), rfl⟩

theorem reset_legs : ∀ n : Fin 48, State.reset.dev.leg n = Leg.reset := by decide +kernel

theorem hyps_LegSwitchesNeverBothConduct :
    ∃ (c : Instr) (s s' : State), commandOfLegs c = true ∧ s.legsOrdered ∧ exec c s = .next s' :=
  ⟨.forceOff 0 5, State.reset, _, rfl,
    fun n h => by rw [reset_legs ⟨n, h⟩]; simp [Leg.ordered, Leg.reset], rfl⟩

theorem hyps_PermitInvariant :
    ∃ s s' : State, s.dev.safe.permitInv ∧ exec (.piOn 0 5) s = .next s' :=
  ⟨State.reset, _, by unfold Safe.permitInv; decide +kernel, rfl⟩

/-- Two transmissions that wait, of equal identifier. -/
def twoWait (d : Dev) : Dev := onBus ((d.setTxCode 9 txPENDING).setTxCode 8 txPENDING)

theorem hyps_PickedBuffer :
    ∃ (t n k : Nat) (d : Dev) (m : List Host.Cell), d.pickBuf m t = some n ∧ k < 64 ∧ d.txCode k = txPENDING ∧
      d.isSlot k = false ∧ d.fits (d.txFrame m k).data.length t = true ∧ (d.txFrame m n).ident = (d.txFrame m k).ident :=
  ⟨0, 8, 9, twoWait Dev.reset, [], by decide +kernel⟩

/-- Column 1 of every cycle starts at 300,000 ticks and belongs to buffer 9, which waits; network time starts at 0. -/
def slotted (d : Dev) : Dev :=
  onBus (bs (fun b => { b with nt := { b.nt with valid := true }, active := [(1, 0x901)] })
    ((d.setTxCode 9 txPENDING).setReg (PBUS_SCHED.COL_START_TICKS.addr pSCHED 0 + 0x800) 300000))

theorem hyps_ExclusiveWindow :
    ∃ (t j : Nat) (s : State), s.dev.busSends = true ∧ s.dev.bus.cur = none ∧ s.dev.exclusiveAt t = some j ∧
      (let n := entryBuf (s.dev.entry (s.dev.cycleNo t) j)
       s.dev.txCode n = txPENDING ∧ headerOk (s.dev.txFrame s.mem n) = true ∧
         s.dev.colStarts.getD j 0 + tFit (s.dev.txFrame s.mem n).data.length s.dev.drate ≤ s.dev.colEnd j) ∧ s.dev.wr = [] :=
  ⟨9600000, 1, { st slotted with mem := [(txAddr 9 + 2, 0x20)] }, by decide +kernel⟩

/-- Receive buffer 5 takes broadcast frames of every class; its half is free or held. -/
def receives (code : Nat) (d : Dev) : Dev :=
  onBus ((((d.putAt pBUF PBUS_BUF.RX_CFG_EN 5 1).putAt pBUF PBUS_BUF.RX_CFG_TYPE_MASK 5 7).putAt pBUF
    PBUS_BUF.RX_CFG_CLASS_HI 5 511).setRxCode 5 code)

theorem hyps_ReceivedFrame :
    ∃ (typ : Fin 8) (ident : BitVec 29) (seq : BitVec 8) (data : List (BitVec 8)) (sof n : Nat) (s : State),
      (let f : BusFrame := ⟨typ.val, ident.toNat, seq.toNat, data.take 64, sof⟩
       s.dev.busHears = true ∧ s.dev.bus.cur = none ∧ typ.val < 3 ∧ s.dev.addressed f = true ∧
         (typ.val = 0 → ident.toNat % 64 < 0x34 ∨ ident.toNat % 64 = 0x3F) ∧ s.dev.rxMatch f = some n) ∧
      (s.dev.rxCode n).testBit 2 = false :=
  ⟨2, 0x2000005, 0, [7], 0, 5, st (receives 1), by decide +kernel⟩

theorem hyps_ReceivedFrameOverruns :
    ∃ (typ : Fin 8) (ident : BitVec 29) (seq : BitVec 8) (data : List (BitVec 8)) (sof n : Nat) (s : State),
      (let f : BusFrame := ⟨typ.val, ident.toNat, seq.toNat, data.take 64, sof⟩
       s.dev.busHears = true ∧ s.dev.bus.cur = none ∧ typ.val < 3 ∧ s.dev.addressed f = true ∧
         (typ.val = 0 → ident.toNat % 64 < 0x34 ∨ ident.toNat % 64 = 0x3F) ∧ s.dev.rxMatch f = some n) ∧
      (s.dev.rxCode n).testBit 2 = true ∧ (s.dev.rxCode n).testBit 0 = true :=
  ⟨2, 0x2000005, 0, [7], 0, 5, st (receives 5), by decide +kernel⟩

theorem hyps_ABreakerCommandIsDiscarded :
    ∃ (w : Word) (s : State), w.toNat < 65536 ∧ ∃ k < 8, s.dev.brkOwned k = true ∧ w.toNat.testBit k ≠ (s.dev.pair k).cmd :=
  ⟨0xFFFF, State.reset, by decide +kernel⟩

theorem hyps_AHalfForTheManagementCoreIsQueued :
    ∃ (n : Fin 64) (s : State) (f : Nat × BusFrame), (s.dev.rxCode n).testBit 2 = true ∧ (s.dev.rxCode n).testBit 0 = false ∧
      s.dev.flagAt pBUF PBUS_BUF.RX_CFG_TO_MP n = true ∧
      s.dev.bus.rxShadow.find? (fun x => decide (x.1 = n.val)) = some f ∧ s.dev.bus.queue.length < 64 :=
  ⟨0, st (fun d => { ((d.putAt pBUF PBUS_BUF.RX_CFG_TO_MP 0 1).setRxCode 0 4) with
      bus := { d.bus with rxShadow := [(0, ⟨0, 0x12, 7, [], 100⟩)] } }), (0, ⟨0, 0x12, 7, [], 100⟩), by decide +kernel⟩

theorem hyps_StepRunsFrontCommand :
    (∃ (c : Instr) (rest : List Instr) (s : State), s.pending = c :: rest) ∧
    (∃ (s : State), s.pending = []) :=
  ⟨⟨.hkDone 0, [], { State.reset with pending := [.hkDone 0] }, by decide +kernel⟩,
   ⟨State.reset, by decide +kernel⟩⟩

theorem hyps_RegisterWriteByAccessCode :
    (∃ (p : Fin 256) (port : Fin 24) (w : Word) (t : Nat) (s : State), pageMapped p.val = true ∧
      (s.dev.begin t).pageDue p.val t = s.dev.begin t) ∧
    (∃ (p : Nat) (o : Nat) (port : Fin 24) (w : Word) (t : Nat) (s : State), (p = pGFM ∨ p = pPROFILE ∨ p = pFRT) ∧
      0x40 ≤ o ∧ o < 0x800 ∧ o % 4 = 0 ∧ wordFields p o ≠ [] ∧ (∀ f ∈ wordFields p o, f.acc = .rws) ∧
      reservedHit p o w = false) ∧
    (∃ (p : Nat) (o : Nat) (port : Fin 24) (w : Word) (t : Nat) (s : State), (p = pGFM ∨ p = pPROFILE ∨ p = pFRT) ∧
      0x40 ≤ o ∧ o < 0x800 ∧ o % 4 = 0 ∧ (∀ f ∈ wordFields p o, f.acc = .rwl) ∧ reservedHit p o w = false ∧
      s.dev.lockOpen p = false) ∧
    (∃ (a : BitVec 20) (port : Fin 24) (w : Word) (t : Nat) (s : State), a.toNat % 4 = 0 ∧
      pageMapped (a.toNat / 0x1000) = true ∧ reservedHit (a.toNat / 0x1000) (a.toNat % 0x1000) w = true) :=
  ⟨⟨0, 0, 1, 0, State.reset, by decide +kernel⟩,
   ⟨pGFM, 0x7C, 0, 0, 0, State.reset, by decide +kernel⟩,
   ⟨pGFM, 0x40, 0, 0, 0, State.reset, by decide +kernel⟩,
   ⟨0x00004, 0, 0xFFFFFFFF, 0, State.reset, by decide +kernel⟩⟩

theorem hyps_IrqClearAndLockFollowTheirHandshakes :
    (∃ (p : Fin 256) (w : Word) (ev : Word) (t : Nat) (s : State), pageMapped p.val = true ∧
      (s.dev.begin t).pageDue p.val t = s.dev.begin t) ∧
    (∃ (p : Fin 256) (port : Fin 24) (t : Nat) (s : State), pageMapped p.val = true ∧ s.dev.lockOpen p.val = false ∧
      (∀ a ∈ s.dev.arms, a.page ≠ p.val)) ∧
    (∃ (p : Fin 256) (port : Fin 24) (w : Word) (t : Nat) (a : LockArm) (s : State), pageMapped p.val = true ∧
      s.dev.lockOpen p.val = false ∧ s.dev.arms.find? (fun a => decide (a.page = p.val)) = some a ∧ p.val ≠ pSAFE) ∧
    (∃ (p : Fin 256) (port : Fin 24) (w : Word) (t : Nat) (s : State), pageMapped p.val = true ∧
      s.dev.lockOpen p.val = true ∧ p.val ≠ pSAFE) ∧
    (∃ (d : Dev) (a : LockArm), a ∈ d.arms) :=
  ⟨⟨0, 0xFFFFFFFF, 1, 0, State.reset, by decide +kernel⟩,
   ⟨0, 0, 0, State.reset, by decide +kernel⟩,
   ⟨0x80, 3, 0xFFFFFF7F, 0, ⟨0x80, 3, 1⟩,
     st (fun (d : Dev) => { d.put 0x80 HDR.LOCK_ARMED 1 with arms := [⟨0x80, 3, 1⟩] }), by decide +kernel⟩,
   ⟨0x80, 0, 0, 0, st (fun (d : Dev) => d.put 0x80 HDR.LOCK_OPEN 1), by decide +kernel⟩,
   ⟨{ Dev.reset with arms := [⟨0x80, 3, 1⟩], regRounds := 63 }, ⟨0x80, 3, 1⟩, by decide +kernel⟩⟩

theorem hyps_CommitsLatchWholeSetsAndSnapshotsCopy :
    (∃ (c : Instr) (p : Nat) (t : Nat) (pend : FieldSpec) (refusal : Option (Nat × Nat)) (s : State), (c, p, pend,
      refusal) ∈ [(Instr.gfmCommit t, pGFM, GFM.STATUS_COMMIT_PENDING, s.dev.gfmRefusal), (Instr.profileCommit t, pPROFILE,
      PROFILE.STATUS_COMMIT_PENDING, s.dev.prfRefusal), (Instr.frtCommit t, pFRT, FRT.STATUS_COMMIT_PENDING,
      s.dev.frtRefusal)] ∧ refusal = none) ∧
    (∃ (c : Instr) (p : Nat) (t : Nat) (cause : Nat) (off : Nat) (refusal : Option (Nat × Nat)) (s : State), (c, p,
      refusal) ∈ [(Instr.gfmCommit t, pGFM, s.dev.gfmRefusal), (Instr.profileCommit t, pPROFILE, s.dev.prfRefusal),
      (Instr.frtCommit t, pFRT, s.dev.frtRefusal)] ∧ refusal = some (cause, off)) :=
  ⟨⟨.gfmCommit 0, pGFM, 0, GFM.STATUS_COMMIT_PENDING, none, State.reset, by decide +kernel⟩,
   ⟨.gfmCommit 0, pGFM, 0, 1, 0x60, some (1, 0x60), st (fun (d : Dev) => d.setReg 0x80060 0), by decide +kernel⟩⟩

theorem hyps_TransitCommandsLatch :
    (∃ (t : Nat) (s : State) (c : Instr) (code : Nat), (c, code) ∈ [(Instr.blackStart t, 1), (Instr.armStart t, 2),
      (Instr.attach t, 3), (Instr.reconnect t, 4), (Instr.island t, 5), (Instr.stop t, 6), (Instr.abortSync t, 7)]) :=
  ⟨0, State.reset, .blackStart 0, 1, by decide +kernel⟩

theorem hyps_TriadTickRunsOneSample :
    (∃ (ups : List (Fin 3 × Fin 32 × Word)) (t : Nat) (s : State), (s.dev.begin t).triadDue t = true) :=
  ⟨[], 3200, State.reset, by decide +kernel⟩

theorem hyps_SequencerStartTransitions :
    (∃ (t : Nat) (s : State), s.seq.st = .deadbus ∧ s.seq.busDead = true ∧
      s.seq.since + msTaps (s.dev.act pTRANSIT TRANSIT.DEAD_MS_MS) ≤ t) ∧
    (∃ (t : Nat) (s : State), s.seq.st = .deadbus ∧ s.seq.busDead = false) ∧
    (∃ (t : Nat) (s : State), s.seq.st = .armed ∧ s.seq.mission = .armStart ∧ s.seq.wait = .netTime ∧
      (s.lawIn t).ntLocked = true ∧ s.seq.tStart ≤ (s.lawIn t).ntTaps ∧ (s.lawIn t).refusal = none ∧
      (s.lawIn t).permit = true) ∧
    (∃ (t : Nat) (e : Nat) (s : State), s.seq.st = .armed ∧ s.seq.mission = .armStart ∧ s.seq.wait = .wire ∧
      s.dev.triad.wireEdge = some e ∧ (s.lawIn t).refusal = none ∧ (s.lawIn t).permit = true) ∧
    (∃ (t : Nat) (s : State), s.seq.st = .armed ∧ s.seq.mission = .armStart ∧ s.seq.wait = .wire ∧
      s.seq.wireDriven = false ∧ s.dev.flag pTRANSIT TRANSIT.TR_CFG_LEAD = true ∧
      s.dev.triad.law.leadDue (s.lawIn t) = true) ∧
    (∃ (t : Nat) (s : State), s.seq.st = .armed ∧ s.seq.mission = .attach ∧ s.dev.triad.law.far.on = true ∧
      s.dev.triad.law.far.since + msTaps 100 ≤ t ∧ (s.lawIn t).refusal = none ∧ (s.lawIn t).permit = true ∧
      fLt s.dev.triad.law.far.mag (s.dev.actWord pTRANSIT TRANSIT.DEAD_V) = false) ∧
    (∃ (t : Nat) (s : State), s.seq.st = .armed ∧ s.seq.mission = .attach ∧ s.dev.triad.law.far.on = true ∧
      s.dev.triad.law.far.since + msTaps 100 ≤ t ∧ s.dev.flag pTRANSIT TRANSIT.TR_CFG_DEAD_CLOSE = false ∧
      fLt s.dev.triad.law.far.mag (s.dev.actWord pTRANSIT TRANSIT.DEAD_V) = true) :=
  ⟨⟨1000000000000000, st (sq (fun q => { q with st := .deadbus, busDead := true })), by decide +kernel⟩,
   ⟨1000000000000000, st (sq (fun q => { q with st := .deadbus })), by decide +kernel⟩,
   ⟨1000000000000000,
     st (fun (d : Dev) => startable (ntm (fun n => { n with valid := true, locked := true }) (sq (fun q => { q with st := .armed, mission := .armStart }) d))), by decide +kernel⟩,
   ⟨1000000000000000, 5,
     st (fun (d : Dev) => startable (tri (fun y => { y with wireEdge := some 5 }) (sq (fun q => { q with st := .armed, mission := .armStart, wait := .wire }) d))), by decide +kernel⟩,
   ⟨1000000000000000,
     st (fun (d : Dev) => (sq (fun q => { q with st := .armed, mission := .armStart, wait := .wire }) d).put pTRANSIT TRANSIT.TR_CFG_LEAD 1), by decide +kernel⟩,
   ⟨1000000000000000,
     st (fun (d : Dev) => startable (ra pTRANSIT TRANSIT.DEAD_V 0x3F800000 (lw (fun l => { l with far := { l.far with on := true, mag := 0x40000000 } }) (sq (fun q => { q with st := .armed, mission := .attach }) d)))), by decide +kernel⟩,
   ⟨1000000000000000,
     st (fun (d : Dev) => (ra pTRANSIT TRANSIT.DEAD_V 0x3F800000 (lw (fun l => { l with far := { l.far with on := true, mag := 0 } }) (sq (fun q => { q with st := .armed, mission := .attach }) d)))), by decide +kernel⟩⟩

theorem hyps_SequencerBreakerTransitions :
    (∃ (t : Nat) (s : State), s.seq.st = .sync ∧ s.dev.act pTRANSIT TRANSIT.SYNC_CTL_DWELL ≤ s.seq.dwell ∧
      s.seq.syncOk = true) ∧
    (∃ (t : Nat) (s : State), s.seq.st = .sync ∧ s.seq.mission = .reconnect ∧
      s.seq.since + msTaps (1000 * s.dev.act pTRANSIT TRANSIT.SYNC_CTL_TIMEOUT_S) ≤ t) ∧
    (∃ (t : Nat) (s : State), s.seq.st = .sync ∧ s.seq.mission ≠ .reconnect ∧
      s.seq.since + msTaps (1000 * s.dev.act pTRANSIT TRANSIT.SYNC_CTL_TIMEOUT_S) ≤ t) ∧
    (∃ (t : Nat) (t0 : Nat) (c : Bool) (s : State), s.seq.st = .closeOut ∧ s.seq.brkWait = some (c, t0) ∧
      t0 + msTaps (s.dev.act pTRANSIT TRANSIT.BRK_TIMES_FB_MS) ≤ t) ∧
    (∃ (t : Nat) (t0 : Nat) (c : Bool) (s : State), s.seq.st = .closeBrk ∧ s.seq.brkWait = some (c, t0) ∧
      t0 + msTaps (s.dev.act pTRANSIT TRANSIT.BRK_TIMES_FB_MS) ≤ t) ∧
    (∃ (t : Nat) (t0 : Nat) (c : Bool) (s : State), s.seq.st = .openPcc ∧ s.seq.brkWait = some (c, t0) ∧
      t0 + msTaps (s.dev.act pTRANSIT TRANSIT.BRK_TIMES_FB_MS) ≤ t) :=
  ⟨⟨0, st (sq (fun q => { q with st := .sync, syncOk := true, dwell := 5000000 })), by decide +kernel⟩,
   ⟨1000000000000000, st (sq (fun q => { q with st := .sync, mission := .reconnect })), by decide +kernel⟩,
   ⟨1000000000000000, st (sq (fun q => { q with st := .sync })), by decide +kernel⟩,
   ⟨1000000000000000, 0, true, st (sq (fun q => { q with st := .closeOut, brkWait := some (true, 0) })), by decide +kernel⟩,
   ⟨1000000000000000, 0, true, st (sq (fun q => { q with st := .closeBrk, brkWait := some (true, 0) })), by decide +kernel⟩,
   ⟨1000000000000000, 0, true, st (sq (fun q => { q with st := .openPcc, brkWait := some (true, 0) })), by decide +kernel⟩⟩

theorem hyps_ControlledShutdownStartsAndEnds :
    (∃ (t : Nat) (s : State), s.seq.st.runs = true ∧ s.seq.st ≠ .stopping ∧ (∃ k < 6,
      (((s.lawIn t).v ++ (s.lawIn t).i).getD k ⟨false, 0, 0⟩).holdMax < (s.dev.triad.law.inputs.getD k ⟨none, 0⟩).held)) ∧
    (∃ (t : Nat) (s : State), s.seq.st.runs = true ∧ s.seq.st ≠ .stopping ∧ 8 ≤ s.dev.triad.law.nonFinite) ∧
    (∃ (t : Nat) (p : Bool) (v : Bool) (s : State), s.seq.st.runs = true ∧ s.seq.st.feHold = false ∧
      p = (s.dev.actFlag pPROFILE PROFILE.PRF_CFG_FE_P_EN && decide (s.dev.act pPROFILE PROFILE.FE_CYC_CYCLES ≤ s.dev.triad.law.feP)) ∧
      v = (s.dev.actFlag pPROFILE PROFILE.PRF_CFG_FE_V_EN && decide (s.dev.act pPROFILE PROFILE.FE_CYC_CYCLES ≤ s.dev.triad.law.feV)) ∧
      (p || v) = true ∧ p = true) ∧
    (∃ (t : Nat) (p : Bool) (v : Bool) (s : State), s.seq.st.runs = true ∧ s.seq.st.feHold = false ∧
      p = (s.dev.actFlag pPROFILE PROFILE.PRF_CFG_FE_P_EN && decide (s.dev.act pPROFILE PROFILE.FE_CYC_CYCLES ≤ s.dev.triad.law.feP)) ∧
      v = (s.dev.actFlag pPROFILE PROFILE.PRF_CFG_FE_V_EN && decide (s.dev.act pPROFILE PROFILE.FE_CYC_CYCLES ≤ s.dev.triad.law.feV)) ∧
      (p || v) = true ∧ v = true) ∧
    (∃ (t : Nat) (s : State), s.dev.triad.holdShut = none ∧ s.seq.st = .stopping ∧ s.seq.since + msTaps 20 ≤ t) ∧
    (∃ (t : Nat) (a : Nat) (s : State), s.dev.triad.holdShut = some a ∧ s.seq.st ≠ .idle ∧ a + msTaps 20 ≤ t) :=
  ⟨⟨0, st (fun (d : Dev) => lw (fun l => { l with inputs := List.replicate 6 ⟨none, 200000⟩ }) (runs d)), by decide +kernel⟩,
   ⟨0, st (fun (d : Dev) => lw (fun l => { l with nonFinite := 8 }) (runs d)), by decide +kernel⟩,
   ⟨0, true, false,
     st (fun (d : Dev) => ra pPROFILE PROFILE.PRF_CFG_FE_P_EN 1 (ra pPROFILE PROFILE.PRF_CFG_FE_ACTION 1 (lw (fun l => { l with feP := 1000000 }) (runs d)))), by decide +kernel⟩,
   ⟨0, false, true,
     st (fun (d : Dev) => ra pPROFILE PROFILE.PRF_CFG_FE_V_EN 1 (ra pPROFILE PROFILE.PRF_CFG_FE_ACTION 1 (lw (fun l => { l with feV := 1000000 }) (runs d)))), by decide +kernel⟩,
   ⟨1000000000000000, st (sq (fun q => { q with st := .stopping })), by decide +kernel⟩,
   ⟨1000000000000000, 0,
     st (fun (d : Dev) => runs (tri (fun y => { y with hold := true, holdCnt := 9, holdShut := some 0 }) d)), by decide +kernel⟩⟩

theorem hyps_RideThroughDecisions :
    (∃ (t : Nat) (s : State), s.dev.actFlag pFRT FRT.FRT_CFG_RT_EN = true ∧
      s.dev.actFlag pFRT FRT.FRT_CFG_SAT_ENTRY = true ∧ s.seq.outClosed = true ∧ s.seq.st.rtStates = true ∧
      s.dev.act pFRT FRT.RT_COUNTS_SAT_N ≤ s.dev.triad.law.rt.satRun ∧ s.dev.triad.law.rt.pendEntry = false) ∧
    (∃ (t : Nat) (e : Nat) (s : State), s.dev.actFlag pFRT FRT.FRT_CFG_RT_EN = true ∧ s.seq.st = .rideThrough ∧
      s.dev.triad.law.rt.entryAt = some e ∧ e + msTaps (s.dev.act pFRT FRT.RT_TIMES_TMAX_MS) < t ∧ s.seq.pendStop = none) ∧
    (∃ (t : Nat) (s : State), s.seq.st = .rideThrough ∧ s.dev.act pFRT FRT.RT_COUNTS_EXIT_N ≤ s.dev.triad.law.rt.exitRun) :=
  ⟨⟨0,
     st (fun (d : Dev) => ra pFRT FRT.FRT_CFG_RT_EN 1 (ra pFRT FRT.FRT_CFG_SAT_ENTRY 1 (lw (fun l => { l with rt := { l.rt with satRun := 1000000 } }) (sq (fun q => { q with st := .grid, outClosed := true }) d)))), by decide +kernel⟩,
   ⟨1000000000000000, 0,
     st (fun (d : Dev) => ra pFRT FRT.FRT_CFG_RT_EN 1 (lw (fun l => { l with rt := { l.rt with entryAt := some 0 } }) (sq (fun q => { q with st := .rideThrough }) d))), by decide +kernel⟩,
   ⟨0,
     st (fun (d : Dev) => lw (fun l => { l with rt := { l.rt with exitRun := 1000000 } }) (sq (fun q => { q with st := .rideThrough }) d)), by decide +kernel⟩⟩

theorem hyps_ReadsThatRestartOrCapture :
    (∃ (t : Nat) (s : State), s.dev.bus.nt.valid = true) :=
  ⟨0, st (ntm (fun n => { n with valid := true })), by decide +kernel⟩

theorem hyps_VoteDecidesTheSample :
    (∃ (done : List (Fin 3 × Nat)) (t : Nat) (a : Nat) (s : State), s.seq.st.runs = true ∧ s.dev.triad.holdShut = none ∧
      s.dev.triad.sampleOpen = true ∧ s.dev.triad.tickAt = some a ∧ s.dev.pw.halted = false ∧
      a + tickTaps (s.dev.get (pENG 12) TE.DEADLINE_TICKS) ≤ t ∧ s.dev.triad.holdCnt < 8 ∧ (∀ k < 3,
      (s.dev.pos k).st ≠ .vacant → (s.dev.pos k).holder < 15)) :=
  ⟨[(0, 0), (1, 0), (2, 0)], 1000000000000000, 0,
    st (fun (d : Dev) => tri (fun y => { y with sampleOpen := true, tickAt := some 0 }) (runs (posn 0 ⟨12, .counted, 9, 0,
    false, false, false, .reset⟩ (posn 1 ⟨13, .counted, 9, 0, false, false, false, .reset⟩ (posn 2 ⟨14, .counted, 9, 0,
    false, false, false, .reset⟩ d))))), by decide +kernel⟩

theorem hyps_LeasesLoadsAndTests :
    (∃ (k : Fin 3) (t : Nat) (s : State), s.dev.triad.sampleOpen = false ∧ ((s.dev.pos k).st = .suspended ∨
      ((s.dev.pos k).st = .counted ∧ (s.dev.pos k).withheld = true)) ∧ (s.dev.pos k).expiry ≤ s.dev.triad.sampleNo) ∧
    (∃ (k : Fin 3) (t : Nat) (s : State), (s.dev.pos k).st = .loading) ∧
    (∃ (n : Fin 15) (fail : Option (Fin 4)) (t : Nat) (s : State), s.dev.boot.idle = false ∧ s.dev.tests n = true ∧
      fail = none) ∧
    (∃ (n : Fin 15) (p : Fin 4) (k : Nat) (t : Nat) (s : State), s.dev.boot.idle = false ∧ s.dev.loadingPos n = some k) ∧
    (∃ (k : Fin 3) (t : Nat) (s : State), s.dev.failbackDue k = true) ∧
    (∃ (t : Nat) (s : State), s.seq.st.runs = false) ∧
    (∃ (pass : Bool) (t : Nat) (s : State), s.dev.triad.testBusy = true) ∧
    (∃ (t : Nat) (s : State), s.dev.triad.hold = true ∧ 9 ≤ s.dev.triad.holdCnt ∧ s.dev.triad.holdShut = none ∧
      s.seq.st.runs = true) :=
  ⟨⟨2, 0, st (posn 2 ⟨14, .suspended, 0, 0, false, false, false, .reset⟩), by decide +kernel⟩,
   ⟨0, 0, st (posn 0 ⟨12, .loading, 0, 0, false, false, false, .reset⟩), by decide +kernel⟩,
   ⟨14, none, 0, State.reset, by decide +kernel⟩,
   ⟨12, 1, 1, 0, st (posn 1 ⟨12, .loading, 0, 0, false, false, false, .reset⟩), by decide +kernel⟩,
   ⟨0, 0, st (fun (d : Dev) => posn 0 ⟨3, .counted, 9, 0, false, false, false,
     .reset⟩ ((d.put pVOTER VOTER.VOTE_CFG_FAILBACK_EN 1).putAt pVOTER VOTER.HEALTH_PASS_RUN 12 60000)), by decide +kernel⟩,
   ⟨0, State.reset, by decide +kernel⟩,
   ⟨true, 0, st (tri (fun y => { y with testBusy := true })), by decide +kernel⟩,
   ⟨0, st (fun (d : Dev) => runs (tri (fun y => { y with hold := true, holdCnt := 9 }) d)), by decide +kernel⟩⟩

theorem hyps_SegmentRolesChangeHands :
    (∃ (pc : Bool) (t : Nat) (s : State), s.dev.roleEligible pc = true ∧ s.dev.roleEn pc = true ∧ s.dev.roleRank pc ≠ 15 ∧
      (s.dev.segRole pc).st = 0 ∧ 5 + s.dev.roleRank pc ≤ (s.dev.segRole pc).silent) ∧
    (∃ (pc : Bool) (t : Nat) (s : State), (s.dev.segRole pc).st ∈ [1, 2]) ∧
    (∃ (pc : Bool) (addr : BitVec 20) (rank : Option (Fin 16)) (t : Nat) (s : State), (s.dev.segRole pc).st = 1) ∧
    (∃ (pc : Bool) (addr : BitVec 20) (rank : Option (Fin 16)) (t : Nat) (s : State), (s.dev.segRole pc).st ≠ 1) ∧
    (∃ (pc : Bool) (t : Nat) (s : State), (s.dev.segRole pc).st ∈ [1, 3] ∧ (s.dev.segRole pc).lease = 0) ∧
    (∃ (pc : Bool) (t : Nat) (h : Nat) (s : State), s.dev.roleEligible pc = true ∧ s.dev.roleEn pc = true ∧
      64 ≤ (s.dev.segRole pc).eligibleRun ∧ (s.dev.segRole pc).st = 0 ∧ (s.dev.segRole pc).holderRank = some h ∧
      s.dev.roleRank pc < h) :=
  ⟨⟨false, 0,
     st (fun (d : Dev) => bt (fun b => { b with bypass := false }) (tri (fun y => { y with tmRole := ⟨0, 20, 0, 64, 0, some 9⟩ }) ((d.put pVOTER VOTER.ROLE_CFG_TM_RANK 3).put pVOTER VOTER.ROLE_CFG_TM_EN 1))), by decide +kernel⟩,
   ⟨false, 0,
     st (fun (d : Dev) => bt (fun b => { b with bypass := false }) (tri (fun y => { y with tmRole := ⟨2, 20, 0, 64, 0, some 9⟩ }) ((d.put pVOTER VOTER.ROLE_CFG_TM_RANK 3).put pVOTER VOTER.ROLE_CFG_TM_EN 1))), by decide +kernel⟩,
   ⟨false, 5, some 3, 0,
     st (fun (d : Dev) => bt (fun b => { b with bypass := false }) (tri (fun y => { y with tmRole := ⟨1, 20, 0, 64, 0, some 9⟩ }) ((d.put pVOTER VOTER.ROLE_CFG_TM_RANK 3).put pVOTER VOTER.ROLE_CFG_TM_EN 1))), by decide +kernel⟩,
   ⟨false, 5, none, 0,
     st (fun (d : Dev) => bt (fun b => { b with bypass := false }) (tri (fun y => { y with tmRole := ⟨2, 20, 0, 64, 0, some 9⟩ }) ((d.put pVOTER VOTER.ROLE_CFG_TM_RANK 3).put pVOTER VOTER.ROLE_CFG_TM_EN 1))), by decide +kernel⟩,
   ⟨false, 0,
     st (fun (d : Dev) => bt (fun b => { b with bypass := false }) (tri (fun y => { y with tmRole := ⟨3, 20, 0, 64, 0, some 9⟩ }) ((d.put pVOTER VOTER.ROLE_CFG_TM_RANK 3).put pVOTER VOTER.ROLE_CFG_TM_EN 1))), by decide +kernel⟩,
   ⟨false, 0, 9,
     st (fun (d : Dev) => bt (fun b => { b with bypass := false }) (tri (fun y => { y with tmRole := ⟨0, 20, 0, 64, 0, some 9⟩ }) ((d.put pVOTER VOTER.ROLE_CFG_TM_RANK 3).put pVOTER VOTER.ROLE_CFG_TM_EN 1))), by decide +kernel⟩⟩

theorem hyps_SamplesBeginCommitAndMiss :
    (∃ (n : Fin 12) (t : Nat) (s : State), s.dev.tickDue n t = true ∧ (¬(s.dev.spareEn = true ∧ s.dev.spare = n.val)) ∧
      ((s.dev.engine n).st = .wait ∨ (s.dev.engine n).st = .run) ∧ s.dev.pw.halted = false ∧ s.dev.boot.idle = false ∧
      s.dev.boot.gauze = false ∧ (∀ a, (s.dev.engine n).tickAt = some a → a < t)) ∧
    (∃ (n : Fin 12) (t : Nat) (s : State), s.dev.tickDue n t = true ∧ (¬(s.dev.spareEn = true ∧ s.dev.spare = n.val)) ∧
      ((s.dev.engine n).st = .wait ∨ (s.dev.engine n).st = .run) ∧ s.dev.pw.halted = false ∧ s.dev.boot.idle = false ∧
      s.dev.boot.gauze = false ∧ (∀ a, (s.dev.engine n).tickAt = some a → a < t) ∧
      s.dev.flag (pENG n) CE.ENG_CFG_VENDOR_PROG = false ∧ (s.dev.engine n).resumeDue = false) ∧
    (∃ (n : Fin 12) (t : Nat) (a : Nat) (x : Nat) (arr : Option Nat) (s : State), (s.dev.engine n).st = .run ∧
      s.dev.pw.halted = false ∧ s.dev.flag (pENG n) CE.ENG_CFG_VENDOR_PROG = false ∧ (s.dev.engine n).tickAt = some a ∧
      (s.dev.engine n).doneAt = some x ∧ x ≤ a + tickTaps (s.dev.get (pENG n) CE.DEADLINE_TICKS) ∧
      a + tickTaps (s.dev.get (pENG n) CE.DEADLINE_TICKS) ≤ t) ∧
    (∃ (n : Fin 12) (t : Nat) (a : Nat) (arr : Option Nat) (s : State), (s.dev.engine n).st = .run ∧
      s.dev.pw.halted = false ∧ s.dev.flag (pENG n) CE.ENG_CFG_VENDOR_PROG = false ∧ (s.dev.engine n).tickAt = some a ∧
      (∀ x, (s.dev.engine n).doneAt = some x → a + tickTaps (s.dev.get (pENG n) CE.DEADLINE_TICKS) < x) ∧
      a + tickTaps (s.dev.get (pENG n) CE.DEADLINE_TICKS) ≤ t ∧ s.dev.get (pENG n) CE.MISS_STAT_CONSEC = 2) ∧
    (∃ (n : Fin 12) (t : Nat) (s : State), s.dev.get (pENG n) CE.MISS_STAT_CONSEC = 3 ∧ (s.dev.engine n).legsOff = false ∧
      ((s.dev.engine n).st = .wait ∨ (s.dev.engine n).st = .run) ∧ s.dev.pw.halted = false) :=
  ⟨⟨0, 3200, st (eg 0 (fun e => { e with st := .wait, mboxLatched := true })), by decide +kernel⟩,
   ⟨3, 3200,
     st (fun (d : Dev) => (eg 3 (fun e => { e with st := .wait }) d).put (pENG 3) CE.ENG_CFG_VENDOR_PROG 0), by decide +kernel⟩,
   ⟨0, 1000000000000000, 0, 0, none,
     st (fun (d : Dev) => (eg 0 (fun e => { e with st := .run, tickAt := some 0, doneAt := some 0, written := [4] }) d).put (pENG 0) CE.ENG_CFG_VENDOR_PROG 0), by decide +kernel⟩,
   ⟨0, 1000000000000000, 0, none,
     st (fun (d : Dev) => ((eg 0 (fun e => { e with st := .run, tickAt := some 0 }) d).put (pENG 0) CE.ENG_CFG_VENDOR_PROG 0).put (pENG 0) CE.MISS_STAT_CONSEC 2), by decide +kernel⟩,
   ⟨0, 0,
     st (fun (d : Dev) => eg 0 (fun e => { e with st := .run }) (d.put (pENG 0) CE.MISS_STAT_CONSEC 3)), by decide +kernel⟩⟩

theorem hyps_EnginesStartStopAndRestart :
    (∃ (n : Fin 12) (t : Nat) (s : State), s.dev.boot.idle = false ∧ (s.dev.engine n).st = .off ∧ s.dev.runRefusal n = none) ∧
    (∃ (n : Fin 12) (t : Nat) (c : Nat) (s : State), s.dev.boot.idle = false ∧ (s.dev.engine n).st = .off ∧
      s.dev.runRefusal n = some c) ∧
    (∃ (n : Fin 12) (t : Nat) (s : State), s.dev.boot.idle = false ∧ (s.dev.engine n).st ≠ .off ∧
      (s.dev.engine n).st ≠ .role ∧ s.dev.pw.halted = false) ∧
    (∃ (n : Fin 15) (t : Nat) (s : State), n.val < 12) ∧
    (∃ (n : Fin 15) (t : Nat) (s : State), (s.dev.engine n).st = .restart) ∧
    (∃ (n : Fin 12) (t : Nat) (s : State), 64 ≤ s.dev.get (pENG n) CE.CLEAN_RUN ∧ ((s.dev.engine n).st = .wait ∨
      (s.dev.engine n).st = .run)) ∧
    (∃ (n : Fin 12) (t : Nat) (s : State), (s.dev.get (pENG n) CE.CLEAN_RUN < 64 ∨ (s.dev.engine n).st ≠ .wait ∧
      (s.dev.engine n).st ≠ .run)) :=
  ⟨⟨3, 0,
     st (fun (d : Dev) => ((((d.put (pENG 3) CE.TICK_PERIOD_TICKS 800).put (pENG 3) CE.DEADLINE_TICKS 760).put (pENG 3) CE.LEG_LIST0_SLOTS 0x80))), by decide +kernel⟩,
   ⟨3, 0, 8, st (fun (d : Dev) => d.put (pENG 3) CE.TICK_PERIOD_TICKS 799), by decide +kernel⟩,
   ⟨3, 0, st (eg 3 (fun e => { e with st := .wait })), by decide +kernel⟩,
   ⟨0, 0, State.reset, by decide +kernel⟩,
   ⟨12, 0, st (eg 12 (fun e => { e with st := .restart })), by decide +kernel⟩,
   ⟨3, 0, st (fun (d : Dev) => eg 3 (fun e => { e with st := .run }) (d.put (pENG 3) CE.CLEAN_RUN 64)), by decide +kernel⟩,
   ⟨3, 0, st (fun (d : Dev) => d.put (pENG 3) CE.CLEAN_RUN 63), by decide +kernel⟩⟩

theorem hyps_HousekeepingOverloadAndShedding :
    (∃ (t : Nat) (s : State), s.dev.hkDue t = true ∧ s.dev.mp.hkBusy = false) ∧
    (∃ (t : Nat) (s : State), s.dev.hkDue t = true ∧ s.dev.mp.hkBusy = true ∧ 2 ≤ s.dev.get pMP MP.HK_STAT_CONSEC) ∧
    (∃ (t : Nat) (s : State), s.dev.get pMP MP.HK_STAT_CONSEC = 3 ∧ s.dev.mp.overload = false) ∧
    (∃ (t : Nat) (s : State), s.dev.mp.overload = true ∧ 64 ≤ s.dev.mp.cleanRun) ∧
    (∃ (t : Nat) (s : State), s.dev.mp.overload = true ∧ 3 ≤ s.dev.mp.shedRun ∧ s.dev.mp.shed < 3 ∧ s.dev.mp.shed = 2) ∧
    (∃ (n : Fin 12) (k : Fin 8) (p : List Word) (x : Nat × Nat) (g : Nat) (t : Nat) (s : State),
      (s.dev.engine n).vendorWork.params = some p ∧ (s.dev.engSlots n).find? (fun y => decide (y.1 = k.val)) = some x ∧
      s.dev.groupOf x.2 = some g ∧
      (s.dev.inputExpired (s.dev.engine n).vendorWork.held ((p.getD 6 0).toNat % 64) || s.dev.inputExpired (s.dev.engine n).vendorWork.held ((p.getD (16 + 2 * k.val) 0).toNat % 64)) = true) ∧
    (∃ (n : Fin 12) (k : Fin 8) (x : Nat × Nat) (g : Nat) (t : Nat) (s : State),
      (s.dev.engSlots n).find? (fun y => decide (y.1 = k.val)) = some x ∧ s.dev.groupOf x.2 = some g ∧
      8 ≤ (s.dev.engine n).vendorWork.nonFinite.getD k.val 0) :=
  ⟨⟨1000000000000000, State.reset, by decide +kernel⟩,
   ⟨1000000000000000,
     st (fun (d : Dev) => ({ d with mp := { d.mp with hkBusy := true } } : Dev).put pMP MP.HK_STAT_CONSEC 2), by decide +kernel⟩,
   ⟨0, st (fun (d : Dev) => d.put pMP MP.HK_STAT_CONSEC 3), by decide +kernel⟩,
   ⟨0, st (fun (d : Dev) => { d with mp := { d.mp with overload := true, shed := 2, cleanRun := 64 } }), by decide +kernel⟩,
   ⟨0, st (fun (d : Dev) => { d with mp := { d.mp with overload := true, shedRun := 3, shed := 2 } }), by decide +kernel⟩,
   ⟨3, 0, [], (0, 0), 1, 0,
     st (fun (d : Dev) => eg 3 (fun e => { e with vendorWork := { e.vendorWork with params := some [], held := [⟨none, 70000⟩] } }) (((d.put (pENG 3) CE.LEG_LIST0_SLOTS 0x80).put (pGRP 1) GRP.ASSIGN0_LEGS 1))), by decide +kernel⟩,
   ⟨3, 0, (0, 0), 1, 0,
     st (fun (d : Dev) => eg 3 (fun e => { e with vendorWork := { e.vendorWork with nonFinite := [8] } }) (((d.put (pENG 3) CE.LEG_LIST0_SLOTS 0x80).put (pGRP 1) GRP.ASSIGN0_LEGS 1))), by decide +kernel⟩⟩

theorem hyps_ComputingInstructionsWriteOneRegister :
    (∃ (n : Fin 15) (rd : Fin 32) (a : Src) (b : Src) (s : State) (c : Instr) (f : Word → Word → FV), (c,
      f) ∈ [(Instr.add n rd a b, fun x y => .of (x + y)), (.sub n rd a b, fun x y => .of (x - y)), (.and n rd a b,
      fun x y => .of (x &&& y)), (.or n rd a b, fun x y => .of (x ||| y)), (.xor n rd a b, fun x y => .of (x ^^^ y)),
      (.mul n rd a b, fun x y => .of (x * y)), (.shl n rd a b,
      fun x y => .of (if y.toNat < 32 then x <<< y.toNat else Config.wideShift 0 x y)), (.shr n rd a b,
      fun x y => .of (if y.toNat < 32 then x >>> y.toNat else Config.wideShift 1 x y)), (.sar n rd a b,
      fun x y => .of (if y.toNat < 32 then x.sshiftRight y.toNat else Config.wideShift 2 x y)), (.mulh n rd a b,
      fun x y => .of (if Config.mulhSigned then BitVec.ofInt 32 (x.toInt * y.toInt / 2 ^ 32) else BitVec.ofNat 32 (x.toNat * y.toNat / 2 ^ 32))),
      (.cmp n rd a b, fun x y => .of (Config.cmpResult x y)), (.fcmp n rd a b,
      fun x y => .of (Config.fcmpResult (fcmpW x y).code)), (.fmin n rd a b, fun x y => .of (fminW x y)), (.fmax n rd a b,
      fun x y => .of (fmaxW x y)), (.fadd n rd a b, faddW), (.fsub n rd a b, fsubW), (.fmul n rd a b, fmulW),
      (.fdiv n rd a b, fdivW)] ∧ s.fetches n [a, b]) ∧
    (∃ (n : Fin 15) (rd : Fin 32) (a : Src) (toInt : Bool) (s : State) (c : Instr) (f : Word → FV), (c,
      f) ∈ [(Instr.fabs n rd a, fun x => .of (fabsW x)), (.fneg n rd a, fun x => .of (fnegW x)), (.fsqrt n rd a, fsqrtW),
      (.fcvt n toInt rd a, fun x => if toInt then ⟨BitVec.ofInt 32 (fToIntW x).1, (fToIntW x).2⟩ else fOfInt x.toInt)] ∧
      s.fetches n [a]) ∧
    (∃ (n : Fin 15) (rd : Fin 32) (a : Src) (b : Src) (x : Src) (s : State) (c : Instr) (f : Word → Word → Word → FV), (c,
      f) ∈ [(Instr.sel n rd a b x, fun i j k => .of (if i = 0 then k else j)), (.fma n rd a b x, ffmaW),
      (.fclamp n rd a b x, fun i j k => .of (fminW (fmaxW i j) k))] ∧ s.fetches n [a, b, x]) ∧
    (∃ (n : Fin 15) (rs : Fin 32) (rc : Fin 32) (a : Src) (s : State), s.fetches n [a] ∧ rs ≠ rc) ∧
    (∃ (n : Fin 15) (rd : Fin 32) (a : Src) (b : Src) (x : Src) (s : State) (c : Instr) (xs : List Src), (c,
      xs) ∈ [(Instr.add n rd a b, [a, b]), (.fadd n rd a b, [a, b]), (.fabs n rd a, [a]), (.fma n rd a b x, [a, b, x]),
      (.sincos n rd rd a, [a]), (.ld n false rd a, [a]), (.brz n a b, [a, b])] ∧ (s.dev.engine n).pc % 4 = 0 ∧
      (s.dev.engine n).pc + 4 * srcWords xs ≤ 0x7800 ∧ s.dev.srcAwaits n xs = true) :=
  ⟨⟨0, 1, .lit 0x3F800000, .lit 3, st (exe 0), .add 0 1 (.lit 0x3F800000) (.lit 3), fun x y => .of (x + y),
     ⟨.head _, by unfold State.fetches; decide +kernel⟩⟩,
   ⟨0, 1, .lit 0xBF800000, true, st (exe 0), .fabs 0 1 (.lit 0xBF800000), fun x => .of (fabsW x),
     ⟨.head _, by unfold State.fetches; decide +kernel⟩⟩,
   ⟨0, 1, .reg 5, .lit 0x3F800000, .lit 0x40000000, st (exe 0), .sel 0 1 (.reg 5) (.lit 0x3F800000) (.lit 0x40000000),
     fun i j k => .of (if i = 0 then k else j), ⟨.head _, by unfold State.fetches; decide +kernel⟩⟩,
   ⟨0, 1, 2, .lit 0x40000000, st (exe 0), by unfold State.fetches; decide +kernel⟩,
   ⟨0, 1, .reg 5, .lit 3, .lit 4,
     st (fun (d : Dev) => eg 0 (fun e => { e with pend := [⟨.word 5, 4, 0, none⟩] }) (exe 0 d)), .add 0 1 (.reg 5) (.lit 3),
     [.reg 5, .lit 3], by decide +kernel⟩⟩

theorem hyps_OperandsNaNsZerosAndInfinities :
    (∃ (n : Fin 15) (r : Fin 32) (s : State), (∀ p ∈ (s.dev.engine n).pend, p.loads r = false)) ∧
    (∃ (n : Fin 15) (r : Fin 32) (len : Nat) (order : Nat) (bs : List Byte) (s : State),
      (s.dev.engine n).pend.filter (fun p => p.loads r) = [⟨.word r, len, order, some bs⟩]) ∧
    (∃ (a : Word) (b : Word), (isNaN a = true ∨ isNaN b = true)) ∧
    (∃ (a : Word) (b : Word) (c : Word), (isNaN a = true ∨ isNaN b = true ∨ isNaN c = true)) ∧
    (∃ (a : Word), isNaN a = true) ∧
    (∃ (a : Word) (b : Word), 0 < fExp a ∧ fExp a < 255 ∧ (b = 0 ∨ b = 0x80000000)) :=
  ⟨⟨0, 5, State.reset, by decide +kernel⟩,
   ⟨0, 5, 4, 0, [1, 0, 0, 0],
     st (eg 0 (fun e => { e with pend := [⟨.word 5, 4, 0, some [1, 0, 0, 0]⟩] })), by decide +kernel⟩,
   ⟨0x7FC00000, 0, by decide +kernel⟩,
   ⟨0, 0, 0x7F800001, by decide +kernel⟩,
   ⟨0xFFC00000, by decide +kernel⟩,
   ⟨0x00800000, 0x80000000, by decide +kernel⟩⟩

theorem hyps_MemoryInstructionsMoveBytes :
    (∃ (n : Fin 15) (rd : Fin 32) (x : Src) (s : State), s.fetches n [x] ∧ (s.dev.engine n).pend = [] ∧
      (let a := ((s.vals n [x]).getD 0 0).toNat; a + 4 ≤ 0x3800)) ∧
    (∃ (n : Fin 15) (rd : Fin 32) (x : Src) (s : State), s.fetches n [x] ∧ (s.dev.engine n).pend = [] ∧
      (let a := ((s.vals n [x]).getD 0 0).toNat; a + 4 ≤ 0x8000)) ∧
    (∃ (n : Fin 15) (x : Src) (y : Src) (s : State), s.fetches n [x, y] ∧ (s.dev.engine n).pend = [] ∧
      (let a := ((s.vals n [x, y]).getD 0 0).toNat; 0x20 ≤ a ∧ a + 4 ≤ 0x3800)) ∧
    (∃ (n : Fin 15) (rd : Fin 32) (x : Src) (k : Nat) (s : State), s.fetches n [x] ∧ (s.dev.engine n).pend = [] ∧
      s.dev.tagFor n = some k ∧ (let a := ((s.vals n [x]).getD 0 0).toNat; inCanvas a 4 = true)) ∧
    (∃ (n : Fin 15) (x : Src) (y : Src) (len : Fin 65) (k : Nat) (s : State), s.fetches n [x, y] ∧
      (s.dev.engine n).pend = [] ∧ s.dev.tagFor n = some k ∧ len.val ≠ 0 ∧ (let p := ((s.vals n [x, y]).getD 0 0).toNat;
      (let a := ((s.vals n [x, y]).getD 1 0).toNat; 0x20 ≤ p ∧ p + len ≤ 0x3800 ∧ inCanvas a len = true))) ∧
    (∃ (n : Fin 15) (x : Src) (y : Src) (k : Nat) (s : State), s.fetches n [x, y] ∧ (s.dev.engine n).pend = [] ∧
      s.dev.tagFor n = some k ∧ (let a := ((s.vals n [x, y]).getD 0 0).toNat; inCanvas a 4 = true)) ∧
    (∃ (n : Fin 15) (x : Src) (y : Src) (len : Fin 65) (k : Nat) (s : State), s.fetches n [x, y] ∧
      (s.dev.engine n).pend = [] ∧ s.dev.tagFor n = some k ∧ len.val ≠ 0 ∧ (let a := ((s.vals n [x, y]).getD 0 0).toNat;
      (let p := ((s.vals n [x, y]).getD 1 0).toNat; inCanvas a len = true ∧ p + len ≤ 0x3800))) ∧
    (∃ (n : Fin 15) (rd : Fin 32) (x : Src) (y : Src) (len : Fin 65) (s : State) (c : Instr) (xs : List Src), (c,
      xs) ∈ [(Instr.crd n rd x, [x]), (.cbr n x y len, [x, y]), (.cwr n x y, [x, y]), (.cbw n x y len, [x, y])] ∧
      s.fetches n xs ∧ (s.dev.engine n).pend = [] ∧ s.dev.tagFor n = none ∧ len.val ≠ 0 ∧
      (let v (k : Nat) : Nat := ((s.vals n xs).getD k 0).toNat; (c = .crd n rd x ∨ c = .cwr n x y →
      inCanvas (v 0) 4 = true) ∧ (c = .cbr n x y len → inCanvas (v 1) len = true ∧ 0x20 ≤ v 0 ∧ v 0 + len ≤ 0x3800) ∧
      (c = .cbw n x y len → inCanvas (v 0) len = true ∧ v 1 + len ≤ 0x3800))) ∧
    (∃ (n : Fin 15) (x : Fin 32) (y : Fin 32) (s : State), s.fetches n [.reg x, .reg y] ∧
      (let w := (s.vals n [.reg x, .reg y]).getD 0 0; (let leg := w.toNat % 64; (s.dev.engLegs n).contains leg = true))) ∧
    (∃ (n : Fin 15) (x : Fin 32) (y : Fin 32) (s : State), s.fetches n [.reg x, .reg y] ∧
      (let w := (s.vals n [.reg x, .reg y]).getD 0 0; (let leg := w.toNat % 64; (s.dev.engLegs n).contains leg = false ∧
      leg < 48 ∧ (s.dev.legOwner leg).isSome = true))) ∧
    (∃ (n : Fin 15) (x : Fin 32) (y : Fin 32) (s : State), s.fetches n [.reg x, .reg y] ∧
      (let w := (s.vals n [.reg x, .reg y]).getD 0 0; (let leg := w.toNat % 64; (s.dev.engLegs n).contains leg = false ∧
      ¬(leg < 48 ∧ (s.dev.legOwner leg).isSome = true)))) :=
  ⟨⟨0, 1, .lit 0x37FC, st (exe 0), by unfold State.fetches; decide +kernel⟩,
   ⟨0, 1, .lit 0x7FFC, st (exe 0), by unfold State.fetches; decide +kernel⟩,
   ⟨0, .lit 0x20, .lit 5, st (exe 0), by unfold State.fetches; decide +kernel⟩,
   ⟨0, 1, .lit 0x10000000, 0, st (exe 0), by unfold State.fetches; decide +kernel⟩,
   ⟨0, .lit 0x20, .lit 0x10000000, 64, 0, st (exe 0), by unfold State.fetches; decide +kernel⟩,
   ⟨0, .lit 0x100AFFFC, .lit 7, 0, st (exe 0), by unfold State.fetches; decide +kernel⟩,
   ⟨0, .lit 0x10000000, .lit 0x37C0, 64, 0, st (exe 0), by unfold State.fetches; decide +kernel⟩,
   ⟨0, 1, .lit 0x10000000, .lit 0x37C0, 64, st (fun (d : Dev) => ((exe 0 d).setTag 0 (some ⟨none, 0x10000000, 4, 0, 0, 0, 0,
     false, none, [], none⟩)).setTag 1 (some ⟨none, 0x10000000, 4, 0, 0, 0, 0, false, none, [], none⟩)),
     .crd 0 1 (.lit 0x10000000), [.lit 0x10000000], by unfold State.fetches; decide +kernel⟩,
   ⟨0, 1, 2, st (exe 0), by unfold State.fetches; decide +kernel⟩,
   ⟨0, 1, 2,
     st (fun (d : Dev) => eg 0 (fun e => { e with regs := e.regs.set 1 4 }) ((exe 0 d).put (pENG 1) CE.CTRL_RUN 1)), by unfold State.fetches; decide +kernel⟩,
   ⟨0, 1, 2,
     st (fun (d : Dev) => eg 0 (fun e => { e with regs := e.regs.set 1 63 }) (exe 0 d)), by unfold State.fetches; decide +kernel⟩⟩

theorem hyps_ControlInstructionsAndEngineFaults :
    (∃ (n : Fin 15) (x : Src) (y : Src) (s : State), s.fetches n [x]) ∧
    (∃ (n : Fin 15) (x : Src) (y : Src) (s : State), s.fetches n [x, y]) ∧
    (∃ (n : Fin 15) (x : Src) (y : Src) (s : State), s.fetches n [x] ∧ (s.dev.engine n).stack.length < 16) ∧
    (∃ (n : Fin 15) (x : Src) (y : Src) (s : State) (r : _) (rs : _), s.fetches n [] ∧ (s.dev.engine n).stack = r :: rs) ∧
    (∃ (n : Fin 15) (arr : Nat) (t : Nat) (s : State), s.fetches n [] ∧ (∀ p ∈ (s.dev.engine n).pend, p.bytes = none) ∧
      s.dev.writesOpen n = false) ∧
    (∃ (n : Fin 15) (arr : Nat) (t : Nat) (s : State), s.fetches n [] ∧ s.dev.writesOpen n = true) ∧
    (∃ (n : Fin 15) (rd : Fin 32) (x : Src) (t : Nat) (s : State), s.dev.inPosition n = false ∧ s.fetches n []) ∧
    (∃ (n : Fin 15) (rd : Fin 32) (x : Src) (t : Nat) (s : State), s.dev.inPosition n = false ∧ s.fetches n [x] ∧
      inCanvas ((s.vals n [x]).getD 0 0).toNat 4 = true) ∧
    (∃ (n : Fin 15) (rd : Fin 32) (x : Src) (y : Src) (t : Nat) (s : State) (c : Instr) (k : Nat),
      s.dev.flag (pENG n) TE.ENG_CFG_AUTO_RESTART = false ∧ (((c, k) = (Instr.ld n false rd x, 2) ∧ s.fetches n [x] ∧
      0x3800 < ((s.vals n [x]).getD 0 0).toNat + 4) ∨ ((c, k) = (Instr.st n false x y, 3) ∧ s.fetches n [x, y] ∧
      ((s.vals n [x, y]).getD 0 0).toNat < 0x20) ∨ ((c, k) = (Instr.st n true x y, 3) ∧ s.fetches n [x, y] ∧ ((s.vals n [x,
      y]).getD 0 0).toNat + 4 ≤ 0x8000) ∨ ((c, k) = (Instr.st n false x y, 2) ∧ s.fetches n [x, y] ∧ 0x3800 < ((s.vals n [x,
      y]).getD 0 0).toNat + 4) ∨ ((c, k) = (Instr.ld n true rd x, 2) ∧ s.fetches n [x] ∧
      0x8000 < ((s.vals n [x]).getD 0 0).toNat + 4) ∨ ((c, k) = (Instr.crd n rd x, 2) ∧ s.fetches n [x] ∧
      inCanvas ((s.vals n [x]).getD 0 0).toNat 4 = false) ∨ ((c, k) = (Instr.cwr n x y, 2) ∧ s.fetches n [x, y] ∧
      inCanvas ((s.vals n [x, y]).getD 0 0).toNat 4 = false) ∨ ((c, k) = (Instr.cbr n x y 4, 2) ∧ s.fetches n [x, y] ∧
      inCanvas ((s.vals n [x, y]).getD 1 0).toNat 4 = false) ∨ ((c, k) = (Instr.cbr n x y 4, 3) ∧ s.fetches n [x, y] ∧
      inCanvas ((s.vals n [x, y]).getD 1 0).toNat 4 = true ∧ ((s.vals n [x, y]).getD 0 0).toNat < 0x20) ∨ ((c,
      k) = (Instr.cbw n x y 4, 2) ∧ s.fetches n [x, y] ∧ inCanvas ((s.vals n [x, y]).getD 0 0).toNat 4 = false) ∨ ((c,
      k) = (Instr.br n x, 2) ∧ s.dev.executes n = true ∧ ((s.dev.engine n).pc % 4 ≠ 0 ∨
      0x7800 < (s.dev.engine n).pc + 4 * srcWords [x])) ∨ ((c, k) = (Instr.tickstamp n rd t, 4) ∧ s.fetches n [] ∧
      s.dev.inPosition n = true) ∨ ((c, k) = (Instr.cpoll n rd x t, 4) ∧ s.fetches n [x] ∧ s.dev.inPosition n = true) ∨ ((c,
      k) = (Instr.call n x, 5) ∧ s.fetches n [x] ∧ 16 ≤ (s.dev.engine n).stack.length) ∨ ((c, k) = (Instr.ret n, 5) ∧
      s.fetches n [] ∧ (s.dev.engine n).stack = [])) ∧ n.val < 12) :=
  ⟨⟨0, .lit 8, .lit 0, st (exe 0), by unfold State.fetches; decide +kernel⟩,
   ⟨0, .lit 0, .lit 8, st (exe 0), by unfold State.fetches; decide +kernel⟩,
   ⟨0, .lit 8, .lit 8,
     st (fun (d : Dev) => eg 0 (fun e => { e with stack := List.replicate 15 4 }) (exe 0 d)), by unfold State.fetches; decide +kernel⟩,
   ⟨0, .lit 8, .lit 8,
     st (fun (d : Dev) => eg 0 (fun e => { e with stack := [12] }) (exe 0 d)), 12, [], by unfold State.fetches; decide +kernel⟩,
   ⟨0, 100, 50, st (exe 0), by unfold State.fetches; decide +kernel⟩,
   ⟨0, 100, 50, st (fun (d : Dev) => (exe 0 d).setTag 0 (some ⟨some [1], 0x10000000, 1, 0, 0, 0, 0, false, none, [],
     none⟩)), by unfold State.fetches; decide +kernel⟩,
   ⟨0, 1, .lit 8, 7, st (exe 0), by unfold State.fetches; decide +kernel⟩,
   ⟨0, 1, .lit 0x10000000, 7, st (exe 0), by unfold State.fetches; decide +kernel⟩,
   ⟨0, 1, .lit 0x37FD, .lit 0, 0, st (fun (d : Dev) => (exe 0 d).put (pENG 0) TE.ENG_CFG_AUTO_RESTART 0),
     .ld 0 false 1 (.lit 0x37FD), 2, ⟨by decide +kernel,
     .inl ⟨rfl, by unfold State.fetches; decide +kernel, by decide +kernel⟩, by decide +kernel⟩⟩⟩

theorem hyps_LegSetsLatchByTheirOwner :
    (∃ (n : Fin 48) (port : Fin 24) (t : Nat) (s : State), s.dev.legOwner n = none) ∧
    (∃ (n : Fin 48) (port : Fin 24) (w : Word) (t : Nat) (s : State), s.dev.legOwner n = none ∧ w.toNat < 2 ^ 21) ∧
    (∃ (n : Fin 48) (port : Fin 24) (w : Word) (t : Nat) (v : Nat) (cl : Bool) (s : State), s.dev.legOwner n = none ∧
      fracDuty w (s.dev.fracPeriod n) = some (v, cl) ∧ s.dev.flag (pLEG n) LEG.CFG_COMMIT_MODE = false) ∧
    (∃ (n : Fin 48) (port : Fin 24) (w : Word) (t : Nat) (v : Nat) (cl : Bool) (s : State), s.dev.legOwner n = none ∧
      fracDuty w (s.dev.fracPeriod n) = some (v, cl) ∧ cl = true ∧ s.dev.flag (pLEG n) LEG.CFG_COMMIT_MODE = false) ∧
    (∃ (n : Fin 48) (port : Fin 24) (w : Word) (t : Nat) (s : State), s.dev.legOwner n = none ∧ isNaN w = true) ∧
    (∃ (n : Fin 48) (port : Fin 24) (w : Word) (t : Nat) (e : Nat) (c : Instr) (s : State), s.dev.legOwner n = some e ∧
      w.toNat < 2 ^ 21 ∧ c ∈ [Instr.legCommit n port t, .dutyWrite n port w t, .dutyFracWrite n port w t]) ∧
    (∃ (n : Fin 48) (port : Fin 24) (w : Word) (t : Nat) (s : State), 2 ^ 21 ≤ w.toNat) ∧
    (∃ (w : Word) (per : Nat), isNaN w = true) ∧
    (∃ (w : Word) (per : Nat), isNaN w = false ∧ fSign w = true ∧ w ≠ 0x80000000) ∧
    (∃ (w : Word) (per : Nat), isNaN w = false ∧ fSign w = false ∧ 0x3F800000 < w.toNat) :=
  ⟨⟨47, 0, 0, State.reset, by decide +kernel⟩,
   ⟨0, 0, 0x1FFFFF, 0, State.reset, by decide +kernel⟩,
   ⟨0, 0, 0x3F800000, 0, 640000, false, State.reset, by decide +kernel⟩,
   ⟨0, 0, 0x40000000, 0, 640000, true, State.reset, by decide +kernel⟩,
   ⟨0, 0, 0x7F800001, 0, State.reset, by decide +kernel⟩,
   ⟨12, 0, 0x1FFFFF, 0, 3, .legCommit 12 0 0, st (fun (d : Dev) => d.put (pENG 3) CE.CTRL_RUN 1), by decide +kernel⟩,
   ⟨0, 0, 0x200000, 0, State.reset, by decide +kernel⟩,
   ⟨0x7FC00000, 9, by decide +kernel⟩,
   ⟨0x80000001, 9, by decide +kernel⟩,
   ⟨0x3F800001, 9, by decide +kernel⟩⟩

theorem hyps_UpdateBoundariesApplyLatchedSets :
    (∃ (n : Fin 48) (t : Nat) (x : LegSet) (s : State), s.dev.pw.halted = false ∧ (s.dev.legCfg n).startBoundary = true ∧
      (s.dev.leg n).latched = some x ∧ (s.dev.leg n).start + (s.dev.leg n).len ≤ t ∧
      t < (s.dev.leg n).start + (s.dev.leg n).len + (s.dev.leg n).per ∧ (let b := (s.dev.leg n).start + (s.dev.leg n).len;
      (let w (o : Nat) : Nat := pLEG n * 0x1000 + 0x800 + o; x.at' + leadTaps ≤ b))) ∧
    (∃ (n : Fin 48) (t : Nat) (x : LegSet) (s : State), s.dev.pw.halted = false ∧ (s.dev.legCfg n).startBoundary = true ∧
      (s.dev.leg n).latched = some x ∧ (s.dev.leg n).start + (s.dev.leg n).len ≤ t ∧
      t < (s.dev.leg n).start + (s.dev.leg n).len + (s.dev.leg n).per ∧ (let b := (s.dev.leg n).start + (s.dev.leg n).len;
      (let w (o : Nat) : Nat := pLEG n * 0x1000 + 0x800 + o; b < x.at' + leadTaps))) ∧
    (∃ (n : Fin 48) (t : Nat) (x : LegSet) (s : State), s.dev.pw.halted = false ∧ s.dev.flag (pLEG n) LEG.CFG_CMODE = true ∧
      s.dev.get (pLEG n) LEG.CFG_UPD ∈ [1, 2] ∧ (s.dev.leg n).latched = some x ∧
      t < (s.dev.leg n).start + (s.dev.leg n).len ∧ (s.dev.leg n).peakDone = false ∧
      (s.dev.leg n).peak (s.dev.unitOf n) ≤ t ∧ x.at' + leadTaps ≤ (s.dev.leg n).peak (s.dev.unitOf n) ∧
      s.dev.setMoves n x = false) :=
  ⟨⟨0, 640000, ⟨20000, 5000, 0, 638720⟩,
     st (lg 0 (fun l => { l with latched := some ⟨20000, 5000, 0, 638720⟩ })), by decide +kernel⟩,
   ⟨0, 640000, ⟨20000, 5000, 0, 638721⟩,
     st (lg 0 (fun l => { l with latched := some ⟨20000, 5000, 0, 638721⟩ })), by decide +kernel⟩,
   ⟨0, 320000, ⟨640000, 5000, 0, 0⟩,
     st (fun (d : Dev) => ((lg 0 (fun l => { l with latched := some ⟨640000, 5000, 0, 0⟩ }) d).put (pLEG 0) LEG.CFG_CMODE 1).put (pLEG 0) LEG.CFG_UPD 1), by decide +kernel⟩⟩

theorem hyps_EdgesDeadTimeAndRefresh :
    (∃ (n : Fin 48) (up : Bool) (e : Nat) (t : Nat) (rest : List (Nat × Bool)) (s : State), s.dev.pw.halted = false ∧
      (s.dev.leg n).edges = (e, up) :: rest ∧ e ≤ t ∧ (s.dev.leg n).live = true ∧ (s.dev.leg n).refresh = none ∧
      (s.dev.leg n).dropping = false ∧ (if up then (s.dev.leg n).hs else (s.dev.leg n).ls) = false ∧
      (let c := s.dev.legCfg n; (let on := e + if up then c.dtLH else c.dtHL;
      (let short := (s.dev.setLeg n { s.dev.leg n with s := up, edges := rest }).shortPulse n up on rest; short = false)))) ∧
    (∃ (n : Fin 48) (up : Bool) (e : Nat) (t : Nat) (rest : List (Nat × Bool)) (s : State), s.dev.pw.halted = false ∧
      (s.dev.leg n).edges = (e, up) :: rest ∧ e ≤ t ∧ (s.dev.leg n).live = true ∧ (s.dev.leg n).refresh = none ∧
      (s.dev.leg n).dropping = false ∧ (if up then (s.dev.leg n).hs else (s.dev.leg n).ls) = false ∧
      (let c := s.dev.legCfg n; (let on := e + if up then c.dtLH else c.dtHL;
      (let short := (s.dev.setLeg n { s.dev.leg n with s := up, edges := rest }).shortPulse n up on rest; short = true)))) ∧
    (∃ (n : Fin 48) (t : Nat) (x : TurnOn) (s : State), s.dev.pw.halted = false ∧ (s.dev.leg n).turnOn = some x ∧
      ceilTo (s.dev.legCfg n).res x.due ≤ t ∧
      (let high := if (s.dev.leg n).refresh = some .after then (s.dev.leg n).s else x.high;
      (let on := if x.waiting then s.dev.nextTick t else ceilTo (s.dev.legCfg n).res x.due;
      (if high then (s.dev.leg n).gsLs else (s.dev.leg n).gsHs) = false))) ∧
    (∃ (n : Fin 48) (t : Nat) (x : TurnOn) (s : State), s.dev.pw.halted = false ∧ (s.dev.leg n).turnOn = some x ∧
      ceilTo (s.dev.legCfg n).res x.due ≤ t ∧
      (let high := if (s.dev.leg n).refresh = some .after then (s.dev.leg n).s else x.high;
      (let on := if x.waiting then s.dev.nextTick t else ceilTo (s.dev.legCfg n).res x.due;
      (if high then (s.dev.leg n).gsLs else (s.dev.leg n).gsHs) = true))) ∧
    (∃ (n : Fin 48) (t : Nat) (r : Nat) (s : State), s.dev.pw.halted = false ∧
      s.dev.flag (pLEG n) LEG.CFG_REFRESH_EN = true ∧ (s.dev.leg n).live = true ∧ (s.dev.leg n).refresh = none ∧
      s.dev.refreshDue n = some r ∧ r ≤ t ∧ (s.dev.leg n).ls = false) ∧
    (∃ (n : Fin 48) (t : Nat) (f : Nat) (s : State), s.dev.pw.halted = false ∧ (s.dev.leg n).refresh = some (.pulse f) ∧
      floorTo (s.dev.legCfg n).res f ≤ t) ∧
    (∃ (n : Fin 48) (t : Nat) (r : Nat) (s : State), s.dev.pw.halted = false ∧
      s.dev.flag (pLEG n) LEG.CFG_REFRESH_EN = false ∧ s.dev.refreshDue n = some r ∧ r ≤ t) :=
  ⟨⟨0, true, 100, 100, [(300000, false)],
     st (lg 0 (fun l => { l with edges := [(100, true), (300000, false)], live := true, ls := true })), by decide +kernel⟩,
   ⟨0, false, 100, 500, [(300, true)],
     st (lg 0 (fun l => { l with edges := [(100, false), (300, true)], live := true, hs := true })), by decide +kernel⟩,
   ⟨0, 1024, ⟨true, 100, false⟩,
     st (lg 0 (fun l => { l with turnOn := some ⟨true, 100, false⟩, live := true })), by decide +kernel⟩,
   ⟨0, 1024, ⟨false, 50, true⟩,
     st (lg 0 (fun l => { l with turnOn := some ⟨false, 50, true⟩, gsHs := true })), by decide +kernel⟩,
   ⟨0, 1000000000000000, 1280000,
     st (fun (d : Dev) => (lg 0 (fun l => { l with hs := true, hsSince := some 0, live := true }) d).put (pLEG 0) LEG.CFG_REFRESH_EN 1), by decide +kernel⟩,
   ⟨0, 900, 900, st (lg 0 (fun l => { l with refresh := some (.pulse 900), ls := true, live := true })), by decide +kernel⟩,
   ⟨0, 1000000000000000, 1280000,
     st (fun (d : Dev) => (lg 0 (fun l => { l with hs := true, hsSince := some 0, live := true }) d).put (pLEG 0) LEG.CFG_REFRESH_EN 0), by decide +kernel⟩⟩

theorem hyps_OverridesEnableAndInvert :
    (∃ (n : Fin 48) (t : Nat) (s : State), s.dev.legTripped n = false ∧ s.dev.flag (pLEG n) LEG.CTRL_EN = true ∧
      s.dev.allForced = false ∧ s.dev.seqHeld n = false ∧ s.dev.engHeld n = false ∧ s.dev.pw.halted = false) :=
  ⟨0, 7,
    st (fun (d : Dev) => startable ((lg 0 (fun l => { l with hs := true, live := true }) d).put (pLEG 0) LEG.CTRL_EN 1) |> pwr (fun p => { p with seqHold := false })), by decide +kernel⟩

theorem hyps_GroupsCalibrationAndDebugHalt :
    (∃ (g : Fin 4) (half : Fin 2) (w : Word) (t : Nat) (s : State), (half.val = 0 ∨ w.toNat < 65536) ∧
      s.dev.lockOpen (pGRP g) = false) ∧
    (∃ (g : Fin 4) (half : Fin 2) (w : Word) (t : Nat) (s : State), (half.val = 0 ∨ w.toNat < 65536) ∧
      s.dev.lockOpen (pGRP g) = true ∧ s.dev.assignRefusal g half w = none) ∧
    (∃ (g : Fin 4) (w : Word) (t : Nat) (s : State), 65536 ≤ w.toNat) ∧
    (∃ (g : Fin 4) (t : Nat) (a : Nat) (x : Word) (y : Word) (s : State), (s.dev.grp g).latched = some (x, y, a) ∧
      (if (s.dev.grp g).alone = true ∨ s.dev.counted g = [] then a + leadTaps ≤ t else ∀ n ∈ s.dev.counted g,
      n ∈ (s.dev.grp g).taken)) ∧
    (∃ (t : Nat) (s : State), s.dev.pw.calBusy = false) ∧
    (∃ (t : Nat) (s : State), s.dev.pw.calBusy = true) ∧
    (∃ (us : Fin 401) (code : Fin 64) (err : Option (Fin 3 × Fin 128)) (t : Nat) (s : State), s.dev.pw.calBusy = true ∧
      err = none) ∧
    (∃ (t : Nat) (s : State), s.dev.flag pSYS SYS.DBG_CTRL_DBG_EN = true ∧ s.dev.pw.halted = false) ∧
    (∃ (t : Nat) (s : State), s.dev.flag pSYS SYS.DBG_CTRL_DBG_EN = true ∧ s.dev.pw.halted = false ∧
      s.dev.mayRun = s.dev.safe.runPermit ∧ s.dev.safe.armed.isSome = true) ∧
    (∃ (t : Nat) (s : State), s.dev.flag pSYS SYS.DBG_CTRL_DBG_EN = false) ∧
    (∃ (t : Nat) (s : State), s.dev.pw.halted = true) :=
  ⟨⟨0, 0, 0xFFFFFFFF, 0, State.reset, by decide +kernel⟩,
   ⟨0, 1, 0x1, 0, st (fun (d : Dev) => d.put (pGRP 0) HDR.LOCK_OPEN 1), by decide +kernel⟩,
   ⟨0, 0x10000, 0, State.reset, by decide +kernel⟩,
   ⟨1, 0, 0, 20000, 0,
     st (fun (d : Dev) => (({ d with pw := { d.pw with groups := d.pw.groups.set 1 { d.grp 1 with latched := some (20000, 0, 0), taken := [0] } } } : Dev).put (pGRP 1) GRP.ASSIGN0_LEGS 1).put (pGRP 1) GRP.ILV_CFG_MODE 1), by decide +kernel⟩,
   ⟨0, State.reset, by decide +kernel⟩,
   ⟨0, st (pwr (fun p => { p with calBusy := true })), by decide +kernel⟩,
   ⟨400, 63, none, 0, st (pwr (fun p => { p with calBusy := true })), by decide +kernel⟩,
   ⟨0, st (fun (d : Dev) => d.put pSYS SYS.DBG_CTRL_DBG_EN 1), by decide +kernel⟩,
   ⟨0,
     st (fun (d : Dev) => lg 0 (fun l => { l with hs := true, live := true }) (saf (fun s => { s with armed := some 0 }) (d.put pSYS SYS.DBG_CTRL_DBG_EN 1))), by decide +kernel⟩,
   ⟨0, State.reset, by decide +kernel⟩,
   ⟨0,
     st (fun (d : Dev) => eg 0 (fun e => { e with st := .halted, stHeld := .run }) (pwr (fun p => { p with halted := true }) d)), by decide +kernel⟩⟩

theorem hyps_ScHiTripsWhateverTheLegsState :
    (∃ (n : Fin 48) (pos : Bool) (v : Int) (t : Nat) (s : State), (s.dev.leg n).scHi = false ∧
      s.dev.scTol n true pos ≤ s.dev.scDepth n true pos false v) ∧
    (∃ (n : Fin 48) (hsPin : Bool) (since : Nat) (t : Nat) (s : State),
      s.dev.nextTick since + s.dev.wait (tickTaps (s.dev.get (pLEG n) LEG.GS_CFG_GS_FILT)) ≤ t ∧
      (if hsPin != (s.dev.legCfg n).pinSwap then (s.dev.leg n).gsLs else (s.dev.leg n).gsHs) = true) :=
  ⟨⟨0, true, 1000000000, 0, State.reset, by decide +kernel⟩,
   ⟨0, true, 0, 100000, st (lg 0 (fun l => { l with gsLs := true })), by decide +kernel⟩⟩

theorem hyps_FaultSourcesTripTheLeg :
    (∃ (n : Fin 48) (high : Bool) (t : Nat) (b : Nat) (s : State),
      (if high then (s.dev.leg n).hsOffBy else (s.dev.leg n).lsOffBy) = some b ∧ b ≤ t ∧
      (if high then (s.dev.leg n).gsHs else (s.dev.leg n).gsLs) = true) ∧
    (∃ (n : Fin 48) (t : Nat) (b : Nat) (s : State), (s.dev.leg n).hs = true ∧ (s.dev.leg n).gsHs = false ∧
      (s.dev.leg n).hsOnBy = some b ∧ b ≤ t) ∧
    (∃ (n : Fin 48) (t : Nat) (b : Nat) (s : State), (s.dev.leg n).ls = true ∧ (s.dev.leg n).gsLs = false ∧
      (s.dev.leg n).lsOnBy = some b ∧ b ≤ t) ∧
    (∃ (n : Fin 48) (t : Nat) (w : Nat × Nat) (ws : List (Nat × Nat)) (s : State),
      liveBlanks s.dev.tickRes (s.dev.leg n).blanks = w :: ws ∧ ceilTo s.dev.tickRes w.2 ≤ t ∧ (s.dev.leg n).scLo = true) ∧
    (∃ (n : Fin 48) (pos : Bool) (v : Int) (t : Nat) (s : State), s.dev.blanked n t = false ∧ (s.dev.legCfg n).cbc = false ∧
      (if pos then (s.dev.leg n).scLoPos else (s.dev.leg n).scLoNeg) = false ∧
      s.dev.scTol n false pos ≤ s.dev.scDepth n false pos false v) :=
  ⟨⟨0, true, 9, 9, st (lg 0 (fun l => { l with hsOffBy := some 9, gsHs := true })), by decide +kernel⟩,
   ⟨0, 9, 9, st (lg 0 (fun l => { l with hs := true, hsOnBy := some 9 })), by decide +kernel⟩,
   ⟨0, 9, 9, st (lg 0 (fun l => { l with ls := true, lsOnBy := some 9 })), by decide +kernel⟩,
   ⟨0, 256, (0, 9), [], st (lg 0 (fun l => { l with blanks := [(0, 9)], scLoPos := true })), by decide +kernel⟩,
   ⟨0, true, 1000000000, 320,
     st (fun (d : Dev) => (lg 0 (fun l => { l with blanks := [] }) d).put (pLEG 0) LEG.SC_CFG_CBC_EN 0), by decide +kernel⟩⟩

theorem hyps_LevelsThatDoNotTrip :
    (∃ (n : Fin 48) (v : Int) (t : Nat) (s : State), s.dev.blanked n t = false ∧ (s.dev.legCfg n).cbc = true ∧
      (s.dev.leg n).hs = true ∧ (s.dev.leg n).ls = false ∧ (s.dev.leg n).scLoPos = false ∧
      s.dev.scTol n false true ≤ s.dev.scDepth n false true false v) ∧
    (∃ (n : Fin 48) (v : Int) (t : Nat) (s : State), s.dev.blanked n t = false ∧ (s.dev.legCfg n).cbc = true ∧
      (s.dev.leg n).ls = true ∧ (s.dev.leg n).hs = false ∧ (s.dev.leg n).scLoNeg = false ∧ s.dev.forcedLow n = false ∧
      s.dev.scDepth n false true (s.dev.leg n).scLoPos v < -s.dev.scTol n false true ∧
      s.dev.scTol n false false ≤ s.dev.scDepth n false false false v) ∧
    (∃ (n : Fin 48) (hi : Bool) (pos : Bool) (v : Int) (t : Nat) (s : State),
      (let out (x : State) (p : Bool) : Bool := if hi then (if p then (x.dev.leg n).scHiPos else (x.dev.leg n).scHiNeg) else (if p then (x.dev.leg n).scLoPos else (x.dev.leg n).scLoNeg);
      s.dev.scDepth n hi pos (out s pos) v < -s.dev.scTol n hi pos)) ∧
    (∃ (n : Fin 48) (pos : Bool) (v : Int) (t : Nat) (s : State), s.dev.blanked n t = true ∧
      s.dev.scTol n false pos ≤ s.dev.scDepth n false pos false v) ∧
    (∃ (n : Fin 48) (t : Nat) (w : Nat × Nat) (ws : List (Nat × Nat)) (s : State),
      liveBlanks s.dev.tickRes (s.dev.leg n).blanks = w :: ws ∧ ceilTo s.dev.tickRes w.2 ≤ t ∧ (s.dev.leg n).scLo = false) ∧
    (∃ (n : Fin 48) (hsPin : Bool) (level : Bool) (since : Nat) (t : Nat) (s : State), s.dev.gsAccepts n since t = true) ∧
    (∃ (n : Fin 48) (hsPin : Bool) (level : Bool) (since : Nat) (t : Nat) (s : State), s.dev.gsAccepts n since t = false) :=
  ⟨⟨0, 1000000000, 512,
     st (fun (d : Dev) => (lg 0 (fun l => { l with blanks := [(0, 9)], hs := true, live := true }) d).put (pLEG 0) LEG.SC_CFG_CBC_EN 1), by decide +kernel⟩,
   ⟨0, -1000000000, 512,
     st (fun (d : Dev) => (lg 0 (fun l => { l with blanks := [(0, 9)], ls := true, live := true }) d).put (pLEG 0) LEG.SC_CFG_CBC_EN 1), by decide +kernel⟩,
   ⟨0, true, true, -1000000000, 0, State.reset, by decide +kernel⟩,
   ⟨0, true, 1000000000, 31, st (lg 0 (fun l => { l with blanks := [(0, 40)] })), by decide +kernel⟩,
   ⟨0, 512, (0, 9), [], st (lg 0 (fun l => { l with blanks := [(0, 9)] })), by decide +kernel⟩,
   ⟨0, true, true, 0, 100000, State.reset, by decide +kernel⟩,
   ⟨0, true, true, 0, 1, st (fun (d : Dev) => d.put (pLEG 0) LEG.GS_CFG_GS_FILT 3), by decide +kernel⟩⟩

theorem hyps_LatchesSetAndClear :
    (∃ (g : Fin 4) (t : Nat) (s : State), (s.dev.grp g).tripped = false) ∧
    (∃ (g : Fin 4) (port : Fin 24) (t : Nat) (s : State), (port.val = 0x0F ∨ port.val = 0x17 ∨ port.val < 12 ∧
      (∃ n ∈ s.dev.engLegs port, s.dev.inGroup g n = true))) ∧
    (∃ (g : Fin 4) (port : Fin 24) (t : Nat) (s : State), s.dev.gfaultFrom g port = false) ∧
    (∃ (t : Nat) (s : State), s.dev.pw.dev.tripped = false) ∧
    (∃ (n : Fin 48) (t : Nat) (s : State), (s.dev.tripOf n).set = true ∧
      (let q := quietTaps (s.dev.get (pLEG n) LEG.TRIP_CFG_TRIP_QUIET); (∀ x ∈ (s.dev.tripOf n).sources,
      s.dev.srcActive x = false ∧ s.dev.srcSince x + q ≤ t))) ∧
    (∃ (g : Fin 4) (t : Nat) (s : State), (s.dev.grp g).tripped = true ∧ s.dev.grpQuiet g t = true) ∧
    (∃ (g : Fin 4) (t : Nat) (s : State), (s.dev.grp g).tripped = true ∧ s.dev.grpQuiet g t = false) ∧
    (∃ (t : Nat) (s : State), s.dev.pw.dev.tripped = true ∧ s.dev.devQuiet t = true) ∧
    (∃ (t : Nat) (s : State), s.dev.pw.dev.tripped = true ∧ s.dev.devQuiet t = false) :=
  ⟨⟨3, 0, State.reset, by decide +kernel⟩,
   ⟨0, 0x0F, 0, State.reset, by decide +kernel⟩,
   ⟨0, 0x16, 0, State.reset, by decide +kernel⟩,
   ⟨0, State.reset, by decide +kernel⟩,
   ⟨0, 1000000000000000, st (fun (d : Dev) => lg 0 (fun l => { l with scHiPos := false }) (d.setTrip 0 ⟨true, 0x12, 0, [⟨0,
     0x12, 0, true⟩], 0, 0, 0, 0, 0, false⟩)), by decide +kernel⟩,
   ⟨0, 1000000000000000, st (fun (d : Dev) => d.setGrp 0 { d.grp 0 with tripped := true }), by decide +kernel⟩,
   ⟨0, 0,
     st (fun (d : Dev) => lg 0 (fun l => { l with scHiPos := true }) (d.setGrp 0 { d.grp 0 with tripped := true, sources := [⟨0, 0x12, 0, true⟩] })), by decide +kernel⟩,
   ⟨1000000000000000, st (pwr (fun p => { p with dev := { p.dev with tripped := true } })), by decide +kernel⟩,
   ⟨1000000000000000,
     st (fun (d : Dev) => lg 0 (fun l => { l with scHiPos := true }) (pwr (fun p => { p with dev := { p.dev with tripped := true, sources := [⟨0, 0x12, 0, true⟩] } }) d)), by decide +kernel⟩⟩

theorem hyps_PolaritySwitchAndBreakers :
    (∃ (t : Nat) (a : Nat) (s : State), s.dev.flag pSYS SYS.RPS_CTRL_ARM = true ∧ s.dev.pw.rps.reverse = false ∧
      s.dev.pw.rps.goodSince = some a ∧ a + clampNat 1 4000 (s.dev.get pSYS SYS.RPS_CFG_DWELL_MS) * 12800000 ≤ t) ∧
    (∃ (level : Bool) (since : Nat) (t : Nat) (s : State),
      (level != s.dev.flag pSYS SYS.RPS_CFG_FB_INV) ≠ s.dev.pw.rps.cmd ∧
      max (since + 12800000) (s.dev.pw.rps.cmdAt.getD 0) + max 1 (s.dev.get pSYS SYS.RPS_CFG_FB_MS) * 12800000 < t) ∧
    (∃ (w : Word) (t : Nat) (s : State), w.toNat < 65536) ∧
    (∃ (w : Word) (t : Nat) (s : State), 65536 ≤ w.toNat) ∧
    (∃ (k : Fin 8) (level : Bool) (since : Nat) (t : Nat) (s : State),
      since + clampNat 1 64 (s.dev.get pSYS SYS.BRK_CFG_FILT_MS) * 12800000 ≤ t ∧
      (let closed := level != s.dev.bit pSYS SYS.BRK_CFG_FB_INV k; closed ≠ (s.dev.pair k).closed ∧ (∀ c,
      (s.dev.pair k).cmdAt = some c → c + s.dev.brkTo < t))) ∧
    (∃ (k : Fin 8) (t : Nat) (a : Nat) (s : State), (s.dev.pair k).differAt = some a ∧ a + s.dev.brkTo < t) :=
  ⟨⟨51200000000, 0,
     st (fun (d : Dev) => pwr (fun p => { p with rps := { p.rps with goodSince := some 0 } }) (d.put pSYS SYS.RPS_CTRL_ARM 1)), by decide +kernel⟩,
   ⟨true, 0, 1000000000000000, State.reset, by decide +kernel⟩,
   ⟨0xFFFF, 0, State.reset, by decide +kernel⟩,
   ⟨0x10000, 0, State.reset, by decide +kernel⟩,
   ⟨7, true, 0, 1000000000000000, State.reset, by decide +kernel⟩,
   ⟨0, 1000000000000000, 0,
     st (pwr (fun p => { p with brk := p.brk.set 0 ⟨true, none, false, some 0, false⟩ })), by decide +kernel⟩⟩

theorem hyps_FinalSamplesBecomeFrames :
    (∃ (i : Fin 64) (bits : List Bool) (t : Nat) (s : State), (let d := ((s.dev.begin t).sdDue i t).sdBits i t bits;
      (let c := d.sdCfg i; (let x := ((d.sd i).sample c).1; (let ch := ((d.sd i).sample c).2; (let q := (d.sd i).seq;
      (let p := 0x11 + i.val / 16; (let a := 0x100D0000 + i.val * 0x40 + q % 4 * 0x10;
      (let frame := (frameWords q (s.dev.stampOf t) x).flatMap wordBytes; s.dev.onGrid t c.phase c.tOut = true ∧
      s.dev.onGrid t c.phase c.tOut = true ∧ s.dev.onGrid t c.phase (c.wrDiv * c.tOut) = true))))))))) ∧
    (∃ (i : Fin 64) (bits : List Bool) (t : Nat) (s : State), (let d := ((s.dev.begin t).sdDue i t).sdBits i t bits;
      (let c := d.sdCfg i; (let x := ((d.sd i).sample c).1; (let ch := ((d.sd i).sample c).2; (let q := (d.sd i).seq;
      (let p := 0x11 + i.val / 16; (let a := 0x100D0000 + i.val * 0x40 + q % 4 * 0x10;
      (let frame := (frameWords q (s.dev.stampOf t) x).flatMap wordBytes; s.dev.onGrid t c.phase c.tOut = true ∧
      s.dev.onGrid t c.phase c.tOut = true ∧ s.dev.onGrid t c.phase (c.wrDiv * c.tOut) = false))))))))) ∧
    (∃ (i : Fin 64) (bits : List Bool) (t : Nat) (s : State), (let d := ((s.dev.begin t).sdDue i t).sdBits i t bits;
      (let c := d.sdCfg i; (let x := ((d.sd i).sample c).1; (let ch := ((d.sd i).sample c).2; (let q := (d.sd i).seq;
      (let p := 0x11 + i.val / 16; (let a := 0x100D0000 + i.val * 0x40 + q % 4 * 0x10;
      (let frame := (frameWords q (s.dev.stampOf t) x).flatMap wordBytes; s.dev.onGrid t c.phase c.tOut = false))))))))) ∧
    (∃ (c : SdCfg) (ch : SdChain), (ch.sample c).1.valid = false) ∧
    (∃ (c : SdCfg) (ch : SdChain), c.dcbEn = true) :=
  ⟨⟨0, [true, false], 0, State.reset, by decide +kernel⟩,
   ⟨0, [true], 25600,
     st (fun (d : Dev) => d.setReg (SDF.FCFG_WR_DIV.addr (sdPage 0) 0 + 0x800) (bitsPut (d.reg (SDF.FCFG_WR_DIV.addr (sdPage 0) 0 + 0x800)) SDF.FCFG_WR_DIV.hi SDF.FCFG_WR_DIV.lo 1)), by decide +kernel⟩,
   ⟨0, [true], 1, st (bt (fun b => { b with bypass := false })), by decide +kernel⟩,
   ⟨Dev.reset.sdCfg 0, SdChain.reset, by decide +kernel⟩,
   ⟨{ Dev.reset.sdCfg 0 with dcbEn := true }, { SdChain.reset with i3 := 10000000000 }, by decide +kernel⟩⟩

theorem hyps_ChainsSettleStickCommitAndReset :
    (∃ (i : Fin 64) (t : Nat) (s : State), (s.dev.sd i).settle = .run (settleCount (s.dev.sdCfg i).hb) ∧
      s.dev.getAt (sdPage i) SDF.LAST_FLAGS (i % 8) / 128 % 2 = 1) ∧
    (∃ (i : Fin 64) (b : Bool) (t : Nat) (s : State), (s.dev.sd i).resets = [] ∧ (s.dev.sd i).stuck = false ∧
      (s.dev.sdCfg i).stuckLen ≠ 0 ∧ (s.dev.sdCfg i).stuckLen ≤ (s.dev.sd i).runNext b) ∧
    (∃ (j : Fin 8) (t : Nat) (s : State), (let d := (s.dev.begin t).each (fun i d => d.sdDue (8 * j + i) t) (List.range 8);
      (∀ i < 8, d.sdCheck j i = none))) ∧
    (∃ (i : Fin 64) (w : Word) (t : Nat) (s : State), w.toNat &&& 0xFC0080F8 = 0 ∧ (let d := (s.dev.begin t).sdDue i t;
      s.dev.lockOpen (sdPage i) = false)) ∧
    (∃ (i : Fin 64) (w : Word) (t : Nat) (s : State), w.toNat &&& 0xFC0080F8 = 0 ∧ (let d := (s.dev.begin t).sdDue i t;
      s.dev.lockOpen (sdPage i) = true ∧ bitsGet w 13 8 ≤ 47)) ∧
    (∃ (i : Fin 64) (w : Word) (t : Nat) (s : State), w.toNat &&& 0xFC0080F8 = 0 ∧ (let d := (s.dev.begin t).sdDue i t;
      s.dev.lockOpen (sdPage i) = true ∧ 47 < bitsGet w 13 8)) ∧
    (∃ (i : Fin 64) (w : Word) (t : Nat) (s : State), w.toNat &&& 0xFC0080F8 ≠ 0) :=
  ⟨⟨0, 0,
     st (fun (d : Dev) => ({ d with sense := d.sense.set 0 { SdChain.reset with settle := .run (settleCount (d.sdCfg 0).hb) } } : Dev).putAt (sdPage 0) SDF.LAST_FLAGS 0 0x80), by decide +kernel⟩,
   ⟨0, true, 0,
     st (fun (d : Dev) => { d with sense := d.sense.set 0 { SdChain.reset with run := 70000, lastBit := some true } }), by decide +kernel⟩,
   ⟨0, 0, st (fun (d : Dev) => d.setReg (CLK.TB_EN_EN.addr pCLK 0) 0xFF), by decide +kernel⟩,
   ⟨0, 0x2F00, 0, State.reset, by decide +kernel⟩,
   ⟨0, 0x2F00, 0, st (fun (d : Dev) => d.put (sdPage 0) HDR.LOCK_OPEN 1), by decide +kernel⟩,
   ⟨0, 0x3000, 0, st (fun (d : Dev) => d.put (sdPage 0) HDR.LOCK_OPEN 1), by decide +kernel⟩,
   ⟨0, 8, 0, State.reset, by decide +kernel⟩⟩

theorem hyps_FeltIssuesGrantsAndTransfers :
    (∃ (p : Fin 24) (data : Option (List (BitVec 8))) (addr : BitVec 32) (len : Fin 65) (t : Nat) (s : State),
      (let bs := data.map (fun b => b.take 64); (let n := match bs with | some b => b.length | none => len.val;
      (let inside := feltMapped addr.toNat = true ∧ feltMapped (addr.toNat + n - 1) = true ∧ (bankOf addr.toNat = none ∨ bankOf addr.toNat = bankOf (addr.toNat + n - 1));
      n ≠ 0 ∧ inside)))) ∧
    (∃ (p : Fin 24) (data : Option (List (BitVec 8))) (addr : BitVec 32) (len : Fin 65) (t : Nat) (s : State),
      (let bs := data.map (fun b => b.take 64); (let n := match bs with | some b => b.length | none => len.val;
      (let inside := feltMapped addr.toNat = true ∧ feltMapped (addr.toNat + n - 1) = true ∧ (bankOf addr.toNat = none ∨ bankOf addr.toNat = bankOf (addr.toNat + n - 1));
      n ≠ 0 ∧ inside ∧ n ≠ 0 ∧ inside ∧ s.dev.tagFor p = none)))) ∧
    (∃ (p : Fin 24) (data : Option (List (BitVec 8))) (addr : BitVec 32) (len : Fin 65) (t : Nat) (s : State),
      (let bs := data.map (fun b => b.take 64); (let n := match bs with | some b => b.length | none => len.val;
      (let inside := feltMapped addr.toNat = true ∧ feltMapped (addr.toNat + n - 1) = true ∧ (bankOf addr.toNat = none ∨ bankOf addr.toNat = bankOf (addr.toNat + n - 1));
      (n = 0 ∨ ¬inside ∧ 15 ≤ p.val))))) ∧
    (∃ (p : Fin 24) (data : Option (List (BitVec 8))) (addr : BitVec 32) (len : Fin 65) (t : Nat) (s : State),
      (let bs := data.map (fun b => b.take 64); (let n := match bs with | some b => b.length | none => len.val;
      (let inside := feltMapped addr.toNat = true ∧ feltMapped (addr.toNat + n - 1) = true ∧ (bankOf addr.toNat = none ∨ bankOf addr.toNat = bankOf (addr.toNat + n - 1));
      n ≠ 0 ∧ ¬inside ∧ p.val < 15)))) ∧
    (∃ (b : Fin 16) (t : Nat) (s : State), (s.dev.arb b).owner = none ∧ s.dev.asking b ≠ [] ∧ (let ask := s.dev.asking b;
      (let d := s.dev.arbApply b; (let ptr := d.get (pARB b) ARB.STATUS_POINTER;
      (let cand := if ∃ q ∈ ask, s.dev.wasPreempted b q = false then ask.filter (fun q => !s.dev.wasPreempted b q) else ask;
      (let wait (q : Nat) : Nat := (s.dev.arb b).waits.getD q 0; s.dev.latched (pARB b) = false ∧
      s.dev.act (pARB b) ARB.ARB_CFG_TABLE_LEN ≤ 128)))))) ∧
    (∃ (b : Fin 16) (t : Nat) (s : State), (s.dev.arb b).owner = none ∧ s.dev.asking b ≠ [] ∧ (let ask := s.dev.asking b;
      (let d := s.dev.arbApply b; (let ptr := d.get (pARB b) ARB.STATUS_POINTER;
      (let cand := if ∃ q ∈ ask, s.dev.wasPreempted b q = false then ask.filter (fun q => !s.dev.wasPreempted b q) else ask;
      (let wait (q : Nat) : Nat := (s.dev.arb b).waits.getD q 0; s.dev.latched (pARB b) = true)))))) ∧
    (∃ (k : Fin 48) (t : Nat) (x : Tx) (bs : List Byte) (s : State), s.dev.tag k = some x ∧ x.data = some bs ∧
      s.dev.handshakeDue k x = true ∧ (let u := x.units.getD x.progress (0, []);
      (let taken := (s.dev.guardWrite (k / 2) u.1).1; 0x100000 ≤ u.1 ∧ (¬x.progress + 1 < x.units.length) ∧ taken = true))) ∧
    (∃ (k : Fin 48) (t : Nat) (x : Tx) (bs : List Byte) (s : State), s.dev.tag k = some x ∧ x.data = some bs ∧
      s.dev.handshakeDue k x = true ∧ (let u := x.units.getD x.progress (0, []);
      (let taken := (s.dev.guardWrite (k / 2) u.1).1; 0x100000 ≤ u.1 ∧ (¬x.progress + 1 < x.units.length) ∧ taken = false))) ∧
    (∃ (k : Fin 48) (t : Nat) (x : Tx) (bs : List Byte) (s : State), s.dev.tag k = some x ∧ x.data = some bs ∧
      s.dev.handshakeDue k x = true ∧ (let u := x.units.getD x.progress (0, []);
      (let taken := (s.dev.guardWrite (k / 2) u.1).1; 0x100000 ≤ u.1 ∧ (¬x.progress + 1 < x.units.length) ∧ taken = false ∧
      0x100F0000 ≤ u.1 ∧ u.1 < 0x100F4840 ∧ k.val / 2 ∉ [0x0C, 0x0D, 0x0E, 0x10] ∧ (s.dev.spareEn = false ∨
      s.dev.spare ≠ k.val / 2 ∨ 12 ≤ k.val / 2)))) ∧
    (∃ (k : Fin 48) (t : Nat) (x : Tx) (s : State), s.dev.tag k = some x ∧ x.data = none ∧ s.dev.handshakeDue k x = true ∧
      (let u := x.units.getD x.progress (0, []);
      (let bytes := (List.range u.2.length).map (fun j => memByte s.mem (u.1 + j));
      (let other := s.dev.tag (if k % 2 = (0 : Nat) then k + 1 else k - 1); 0x100000 ≤ u.1 ∧ (∀ y, other = some y →
      y.data = none → x.order ≤ y.order))))) ∧
    (∃ (b : Fin 16) (t : Nat) (k : Nat) (s : State), (s.dev.arb b).owner = some k ∧ (s.dev.arb b).burst ≠ 0 ∧
      (s.dev.arb b).burst ≤ s.dev.unitsUsed b t) :=
  ⟨⟨23, some [1, 2], 0x10000000, 0, 0, State.reset, by decide +kernel⟩,
   ⟨0, none, 0x100FFFC4, 60, 0, st (fun (d : Dev) => (d.setTag 0 (some ⟨none, 0x10000000, 4, 0, 0, 0, 0, false, none, [],
     none⟩)).setTag 1 (some ⟨none, 0x10000000, 4, 0, 1, 0, 0, false, none, [], none⟩)), by decide +kernel⟩,
   ⟨0x15, none, 0x100FFFF0, 64, 0, State.reset, by decide +kernel⟩,
   ⟨5, none, 0x1000FFF8, 16, 0, State.reset, by decide +kernel⟩,
   ⟨0, 0, st (fun (d : Dev) => (d.setTag 2 (some ⟨none, 0x10000000, 4, 0, 0, 0, 0, false, none, [],
     none⟩)).setTag 8 (some ⟨none, 0x10000000, 4, 0, 0, 0, 0, false, none, [], none⟩)), by decide +kernel⟩,
   ⟨15, 0,
     st (fun (d : Dev) => { d.setTag 2 (some ⟨none, 0x100F0000, 4, 0, 0, 0, 0, false, none, [], none⟩) with latches := [⟨pARB 15, []⟩] }), by decide +kernel⟩,
   ⟨2, 0, ⟨some [1, 2, 3, 4], 0x10000000, 4, 0, 0, 0, 0, false, none, [], none⟩, [1, 2, 3, 4],
     st (fun (d : Dev) => (d.setTag 2 (some ⟨some [1, 2, 3, 4], 0x10000000, 4, 0, 0, 0, 0, false, none, [],
     none⟩)).setArb 0 ⟨some 2, 0, 4, 0, List.replicate 24 0, [], none⟩), by decide +kernel⟩,
   ⟨2, 0, ⟨some [1, 2, 3, 4], 0x100D0000, 4, 0, 0, 0, 0, false, none, [], none⟩, [1, 2, 3, 4],
     st (fun (d : Dev) => (d.setTag 2 (some ⟨some [1, 2, 3, 4], 0x100D0000, 4, 0, 0, 0, 0, false, none, [],
     none⟩)).setArb 13 ⟨some 2, 0, 4, 0, List.replicate 24 0, [], none⟩), by decide +kernel⟩,
   ⟨2, 0, ⟨some [1, 2, 3, 4], 0x100F1000, 4, 0, 0, 0, 0, false, none, [], none⟩, [1, 2, 3, 4],
     st (fun (d : Dev) => (d.setArb 15 ⟨some 2, 0, 4, 0, List.replicate 24 0, [], none⟩).setTag 2 (some ⟨some [1, 2, 3, 4],
     0x100F1000, 4, 0, 0, 0, 0, false, none, [], none⟩)), by decide +kernel⟩,
   ⟨2, 0, ⟨none, 0x10000000, 4, 0, 0, 0, 0, false, none, [], none⟩, st (fun (d : Dev) => (d.setTag 2 (some ⟨none,
     0x10000000, 4, 0, 0, 0, 0, false, none, [], none⟩)).setArb 0 ⟨some 2, 0, 4, 0, List.replicate 24 0, [],
     none⟩), by decide +kernel⟩,
   ⟨0, 0, 2, st (fun (d : Dev) => (d.setTag 2 (some ⟨none, 0x10000000, 4, 0, 0, 0, 0, false, none, [],
     none⟩)).setArb 0 ⟨some 2, 4, 4, 0, List.replicate 24 0, [], none⟩), by decide +kernel⟩⟩

theorem hyps_FeltAbortsCommitsAndClears :
    (∃ (k : Fin 48) (t : Nat) (x : Tx) (s : State), s.dev.tag k = some x ∧ s.dev.handshakeDue k x = true) ∧
    (∃ (k : Fin 48) (t : Nat) (a : Nat) (x : Tx) (s : State), s.dev.tag k = some x ∧ s.dev.hsSince k x = some a ∧
      a + 25600 ≤ t) ∧
    (∃ (t : Nat) (k : Fin 48) (x : Tx) (s : State), s.dev.tag k = some x ∧ x.issuedAt + 256000 ≤ t ∧ (∀ j y, j ≠ k.val →
      s.dev.tag j = some y → x.issuedAt < y.issuedAt ∨ x.issuedAt = y.issuedAt ∧ k.val < j)) ∧
    (∃ (b : Fin 16) (t : Nat) (s : State), s.dev.arbRefusal b = none) :=
  ⟨⟨2, 0, ⟨none, 0x10000000, 4, 0, 0, 0, 0, false, none, [], none⟩, st (fun (d : Dev) => (d.setTag 2 (some ⟨none,
     0x10000000, 4, 0, 0, 0, 0, false, none, [], none⟩)).setArb 0 ⟨some 2, 0, 4, 0, List.replicate 24 0, [],
     none⟩), by decide +kernel⟩,
   ⟨2, 25600, 0, ⟨none, 0x10000000, 4, 0, 0, 0, 0, false, none, [], none⟩, st (fun (d : Dev) => (d.setTag 2 (some ⟨none,
     0x10000000, 4, 0, 0, 0, 0, false, none, [], none⟩)).setArb 0 ⟨some 2, 0, 4, 0, List.replicate 24 0, [],
     none⟩), by decide +kernel⟩,
   ⟨256000, 2, ⟨none, 0x10000000, 4, 0, 0, 0, 0, false, none, [], none⟩, st (fun (d : Dev) => d.setTag 2 (some ⟨none,
     0x10000000, 4, 0, 0, 0, 0, false, none, [], none⟩)),
     ⟨by decide +kernel, by decide +kernel, oldest_alone _ _ (by decide +kernel)⟩⟩,
   ⟨0, 0, State.reset, by decide +kernel⟩⟩

theorem hyps_AcquisitionStatesMove :
    (∃ (t : Nat) (s : State), s.dev.armRefusal = none) ∧
    (∃ (t : Nat) (s : State), s.dev.acq.st ≠ .post) ∧
    (∃ (t : Nat) (s : State), s.dev.acq.st = .post) ∧
    (∃ (t : Nat) (s : State), s.dev.acq.st = .fill ∧ s.dev.get pACQ ACQ.PRE_SAMPLES ≤ s.dev.acq.total) ∧
    (∃ (t : Nat) (p : Placed) (s : State), s.dev.acq.st = .post ∧ s.dev.acq.placed = some p ∧
      s.dev.get pACQ ACQ.POST_SAMPLES ≤ s.dev.acq.post ∧ s.dev.acq.seg < 64) ∧
    (∃ (t : Nat) (s : State), s.dev.acq.st = .holdoff ∧
      (if s.dev.flag pACQ ACQ.ACQ_CFG_HOLD_EVT then s.dev.get pACQ ACQ.HOLDOFF ≤ s.dev.acq.holdCnt else s.dev.acq.holdAt + usTaps (s.dev.get pACQ ACQ.HOLDOFF) ≤ t) ∧
      s.dev.get pACQ ACQ.ACQ_CFG_MODE ≠ 1) ∧
    (∃ (t : Nat) (s : State), s.dev.acq.st = .holdoff ∧
      (if s.dev.flag pACQ ACQ.ACQ_CFG_HOLD_EVT then s.dev.get pACQ ACQ.HOLDOFF ≤ s.dev.acq.holdCnt else s.dev.acq.holdAt + usTaps (s.dev.get pACQ ACQ.HOLDOFF) ≤ t) ∧
      s.dev.get pACQ ACQ.ACQ_CFG_MODE = 1) ∧
    (∃ (t : Nat) (s : State), s.dev.acq.st = .holdoff ∧
      (if s.dev.flag pACQ ACQ.ACQ_CFG_HOLD_EVT then s.dev.get pACQ ACQ.HOLDOFF ≤ s.dev.acq.holdCnt else s.dev.acq.holdAt + usTaps (s.dev.get pACQ ACQ.HOLDOFF) ≤ t) ∧
      s.dev.get pACQ ACQ.ACQ_CFG_MODE = 1 ∧ s.dev.get pACQ ACQ.ACQ_CFG_MODE = 1 ∧ s.dev.freeSeg = none) ∧
    (∃ (t : Nat) (s : State), s.dev.acq.st = .ready ∧ s.dev.flag pACQ ACQ.ACQ_CFG_AUTO = true ∧
      s.dev.acq.readyAt + msTaps (s.dev.get pACQ ACQ.AUTO_MS_MS) ≤ t) ∧
    (∃ (g : Fin 64) (t : Nat) (s : State), s.dev.segFull g = false) ∧
    (∃ (g : Fin 64) (t : Nat) (s : State), s.dev.segFull g = true ∧ s.dev.acq.st = .full ∧
      g.val < 2 ^ s.dev.get pACQ ACQ.ACQ_CFG_SEG_LOG2 ∧ (∀ h ∈ s.dev.acq.held, h.1 = g.val ∨
      h.2.1 + h.2.2 ≤ s.dev.segBase g ∨ s.dev.segBase g + s.dev.segSize ≤ h.2.1)) ∧
    (∃ (g : Fin 64) (t : Nat) (s : State), s.dev.segFull g = true ∧ s.dev.acq.st ≠ .full) ∧
    (∃ (t : Nat) (s : State), (s.dev.acq.st = .fill ∨ s.dev.acq.st = .ready ∨ s.dev.acq.st = .post ∨
      s.dev.acq.st = .holdoff)) ∧
    (∃ (t : Nat) (s : State), (s.dev.acq.st = .idle ∨ s.dev.acq.st = .stream ∨ s.dev.acq.st = .full)) :=
  ⟨⟨0, State.reset, by decide +kernel⟩,
   ⟨0, State.reset, by decide +kernel⟩,
   ⟨0,
     st (aq (fun a => { a with st := .post, placed := some ⟨⟨4, 32, none, 0⟩, 0, false, false, 0, none, 0⟩ })), by decide +kernel⟩,
   ⟨0, st (aq (fun a => { a with st := .fill, total := 1024 })), by decide +kernel⟩,
   ⟨0, ⟨⟨4, 32, none, 0⟩, 0, false, false, 0, none, 0⟩,
     st (aq (fun a => { a with st := .post, post := 2048, seg := 63, placed := some ⟨⟨4, 32, none, 0⟩, 0, false, false, 0, none, 0⟩ })), by decide +kernel⟩,
   ⟨1000000000000000, st (aq (fun a => { a with st := .holdoff })), by decide +kernel⟩,
   ⟨1000000000000000,
     st (fun (d : Dev) => aq (fun a => { a with st := .holdoff }) (d.put pACQ ACQ.ACQ_CFG_MODE 1)), by decide +kernel⟩,
   ⟨1000000000000000,
     st (fun (d : Dev) => aq (fun a => { a with st := .holdoff }) ((d.put pACQ ACQ.ACQ_CFG_MODE 1).put pACQ ACQ.SEG_FULL0_FULL 0xFFFFFFFF)), by decide +kernel⟩,
   ⟨1000000000000000,
     st (fun (d : Dev) => aq (fun a => { a with st := .ready }) (d.put pACQ ACQ.ACQ_CFG_AUTO 1)), by decide +kernel⟩,
   ⟨0, 0, State.reset, by decide +kernel⟩,
   ⟨0, 0, st (fun (d : Dev) => aq (fun a => { a with st := .full }) (d.put pACQ ACQ.SEG_FULL0_FULL 1)), by decide +kernel⟩,
   ⟨0, 0, st (fun (d : Dev) => aq (fun a => { a with st := .idle }) (d.put pACQ ACQ.SEG_FULL0_FULL 1)), by decide +kernel⟩,
   ⟨31, st (aq (fun a => { a with st := .ready })), by decide +kernel⟩,
   ⟨0, st (aq (fun a => { a with st := .idle })), by decide +kernel⟩⟩

theorem hyps_TriggersPlaceRecordsAndSamplesAreStored :
    (∃ (buf : Fin 2049) (fails : List (Fin 16)) (t : Nat) (s : State), s.dev.captureDue t = true ∧ s.dev.acq.st = .fill ∧
      (let lvl := s.dev.flag pTRIG TRIG.TRIG_CFG_LVL_EN;
      (let x := (if lvl then s.dev.eventTriggers.levelTest (s.dev.levelValue s.mem t) t else s.dev.eventTriggers).acq;
      (let n := 4 * s.dev.acqCh; (let a := s.dev.segBase s.dev.acq.seg + 256 + s.dev.acq.total % s.dev.bodyCap * n;
      (let stored := s.dev.captureIndex t % 2 ^ s.dev.acq.k = 0; (let failed := s.dev.failedCh (fails.map Fin.val);
      1536 < buf.val ∧ s.dev.acq.kWait = 0 ∧ s.dev.acq.k < 7))))))) ∧
    (∃ (buf : Fin 2049) (fails : List (Fin 16)) (t : Nat) (s : State), s.dev.captureDue t = true ∧ s.dev.acq.st = .fill ∧
      (let lvl := s.dev.flag pTRIG TRIG.TRIG_CFG_LVL_EN;
      (let x := (if lvl then s.dev.eventTriggers.levelTest (s.dev.levelValue s.mem t) t else s.dev.eventTriggers).acq;
      (let n := 4 * s.dev.acqCh; (let a := s.dev.segBase s.dev.acq.seg + 256 + s.dev.acq.total % s.dev.bodyCap * n;
      (let stored := s.dev.captureIndex t % 2 ^ s.dev.acq.k = 0; (let failed := s.dev.failedCh (fails.map Fin.val);
      buf.val ≤ 1536 ∧ buf.val ≤ 1536 ∧ buf.val + n ≤ 2048 ∧ stored ∧ failed = none))))))) ∧
    (∃ (buf : Fin 2049) (fails : List (Fin 16)) (t : Nat) (s : State), s.dev.captureDue t = true ∧ s.dev.acq.st = .fill ∧
      (let lvl := s.dev.flag pTRIG TRIG.TRIG_CFG_LVL_EN;
      (let x := (if lvl then s.dev.eventTriggers.levelTest (s.dev.levelValue s.mem t) t else s.dev.eventTriggers).acq;
      (let n := 4 * s.dev.acqCh; (let a := s.dev.segBase s.dev.acq.seg + 256 + s.dev.acq.total % s.dev.bodyCap * n;
      (let stored := s.dev.captureIndex t % 2 ^ s.dev.acq.k = 0; (let failed := s.dev.failedCh (fails.map Fin.val);
      buf.val ≤ 1536 ∧ buf.val ≤ 1536 ∧ ¬stored))))))) ∧
    (∃ (buf : Fin 2049) (fails : List (Fin 16)) (t : Nat) (s : State), s.dev.captureDue t = true ∧ s.dev.acq.st = .fill ∧
      (let lvl := s.dev.flag pTRIG TRIG.TRIG_CFG_LVL_EN;
      (let x := (if lvl then s.dev.eventTriggers.levelTest (s.dev.levelValue s.mem t) t else s.dev.eventTriggers).acq;
      (let n := 4 * s.dev.acqCh; (let a := s.dev.segBase s.dev.acq.seg + 256 + s.dev.acq.total % s.dev.bodyCap * n;
      (let stored := s.dev.captureIndex t % 2 ^ s.dev.acq.k = 0; (let failed := s.dev.failedCh (fails.map Fin.val);
      2048 < buf.val + n ∧ s.dev.acq.k = 7 ∧ stored))))))) ∧
    (∃ (buf : Fin 2049) (fails : List (Fin 16)) (t : Nat) (s : State), s.dev.captureDue t = true ∧ s.dev.acq.st = .ready) ∧
    (∃ (buf : Fin 2049) (fails : List (Fin 16)) (t : Nat) (s : State), s.dev.captureDue t = true ∧ s.dev.acq.st = .ready ∧
      (let lvl := s.dev.flag pTRIG TRIG.TRIG_CFG_LVL_EN;
      (let y := (if lvl then s.dev.eventTriggers.levelTest (s.dev.levelValue s.mem t) t else s.dev.eventTriggers).acq;
      (let cs := if y.cands = [] ∧ s.dev.acq.forceDue = true then [⟨5, t, some 0, 0⟩] else y.cands;
      (let out := s.dev.flag pTRIG TRIG.TRIG_CFG_WIRE_OUT && !s.dev.wireBlocked;
      (let hear := s.dev.flag pTRIG TRIG.TRIG_CFG_WIRE_IN; (let o := (s.dev.acq.ring.getLastD ⟨0, 0, 0⟩).instant;
      (let a := s.dev.segBase s.dev.acq.seg + 256 + s.dev.acq.total % s.dev.bodyCap * (4 * s.dev.acqCh);
      (let placed (x : Trigger) (s' : State) : Prop := s'.dev.acq.st = .post ∧ s'.dev.acq.waiting = none ∧ s'.dev.acq.placed.map (·.trig) = some (if x.instant < o then { x with instant := o, sub := some 0 } else x) ∧ s'.dev.flag pACQ ACQ.IRQ_RAW_TRIGGERED = true ∧ (x.instant < o → s'.dev.flag pACQ ACQ.IRQ_RAW_LATE = true ∧ s'.dev.get pTRIG TRIG.LAST_INFO_SUB = 0) ∧ s'.dev.get pTRIG TRIG.LAST_STAMP = max o x.instant % 2 ^ 32 ∧ s'.dev.get pTRIG TRIG.LAST_INFO_SOURCE = x.source % 256 ∧ (s.dev.flag pTRIG TRIG.TRIG_CFG_TB_OUT = true → x.source ≠ 3 → s'.dev.acq.tbPend = some (max o x.instant));
      s.dev.acq.waiting = none ∧ earliest cs = none))))))))) ∧
    (∃ (since : Nat) (t : Nat) (s : State), s.dev.flag pTRIG TRIG.STATUS_WIRE_LOW = false ∧ (let i := s.dev.nextTick since;
      (let accepted := i + s.dev.get pTRIG TRIG.WIRE_CFG_FILT * s.dev.tickRes ≤ t; (¬accepted)))) ∧
    (∃ (since : Nat) (t : Nat) (s : State), s.dev.flag pTRIG TRIG.STATUS_WIRE_LOW = false ∧ (let i := s.dev.nextTick since;
      (let accepted := i + s.dev.get pTRIG TRIG.WIRE_CFG_FILT * s.dev.tickRes ≤ t; accepted ∧ accepted ∧
      s.dev.wireBlocked = false ∧ accepted ∧ s.dev.wireBlocked = false ∧ s.dev.flag pTRIG TRIG.TRIG_CFG_WIRE_IN = false))) ∧
    (∃ (since : Nat) (t : Nat) (s : State), s.dev.flag pTRIG TRIG.STATUS_WIRE_LOW = false ∧ (let i := s.dev.nextTick since;
      (let accepted := i + s.dev.get pTRIG TRIG.WIRE_CFG_FILT * s.dev.tickRes ≤ t; accepted ∧ accepted ∧
      s.dev.wireBlocked = false ∧ accepted ∧ s.dev.wireBlocked = false ∧ s.dev.flag pTRIG TRIG.TRIG_CFG_WIRE_IN = true))) ∧
    (∃ (since : Nat) (t : Nat) (s : State), s.dev.flag pTRIG TRIG.STATUS_WIRE_LOW = false ∧ (let i := s.dev.nextTick since;
      (let accepted := i + s.dev.get pTRIG TRIG.WIRE_CFG_FILT * s.dev.tickRes ≤ t; accepted ∧ accepted ∧
      s.dev.wireBlocked = true))) ∧
    (∃ (t : Nat) (i : Nat) (s : State), s.dev.acq.wireDrive = some i ∧ i + s.dev.pulseTaps ≤ t ∧ s.dev.acq.waiting = none) ∧
    (∃ (won : Bool) (t : Nat) (i : Nat) (s : State), s.dev.acq.tbPend = some i ∧
      (let addr := BitVec.ofNat 20 (s.dev.get pPBUS PBUS.OWN_ADDR_ADDR); (let time := ntWords (s.dev.bus.nt.taps i);
      s.dev.bus.nt.locked = true ∧ won = true))) ∧
    (∃ (won : Bool) (t : Nat) (i : Nat) (s : State), s.dev.acq.tbPend = some i ∧
      (let addr := BitVec.ofNat 20 (s.dev.get pPBUS PBUS.OWN_ADDR_ADDR); (let time := ntWords (s.dev.bus.nt.taps i);
      s.dev.bus.nt.locked = true ∧ won = false))) ∧
    (∃ (won : Bool) (t : Nat) (i : Nat) (s : State), s.dev.acq.tbPend = some i ∧
      (let addr := BitVec.ofNat 20 (s.dev.get pPBUS PBUS.OWN_ADDR_ADDR); (let time := ntWords (s.dev.bus.nt.taps i);
      s.dev.bus.nt.locked = false))) ∧
    (∃ (addr : BitVec 20) (type : BitVec 4) (crc : BitVec 8) (lo : Word) (hi : Word) (t : Nat) (s : State),
      (let time := ntOfWords lo hi; (let now := s.dev.bus.nt.taps t;
      (let on := s.dev.flag pTRIG TRIG.TRIG_CFG_TB_IN && s.dev.bus.nt.locked;
      (let bad := crc ≠ tbCrc addr type ∨ type ≠ 1 ∨ now < time ∨ time + msTaps 1000 < now;
      (let idle := { s.dev.acq with tbBusy := min s.dev.acq.tbBusy t }; on = true ∧ ¬bad)))))) ∧
    (∃ (addr : BitVec 20) (type : BitVec 4) (crc : BitVec 8) (lo : Word) (hi : Word) (t : Nat) (s : State),
      (let time := ntOfWords lo hi; (let now := s.dev.bus.nt.taps t;
      (let on := s.dev.flag pTRIG TRIG.TRIG_CFG_TB_IN && s.dev.bus.nt.locked;
      (let bad := crc ≠ tbCrc addr type ∨ type ≠ 1 ∨ now < time ∨ time + msTaps 1000 < now;
      (let idle := { s.dev.acq with tbBusy := min s.dev.acq.tbBusy t }; on = true ∧ bad)))))) ∧
    (∃ (addr : BitVec 20) (type : BitVec 4) (crc : BitVec 8) (lo : Word) (hi : Word) (t : Nat) (s : State),
      (let time := ntOfWords lo hi; (let now := s.dev.bus.nt.taps t;
      (let on := s.dev.flag pTRIG TRIG.TRIG_CFG_TB_IN && s.dev.bus.nt.locked;
      (let bad := crc ≠ tbCrc addr type ∨ type ≠ 1 ∨ now < time ∨ time + msTaps 1000 < now;
      (let idle := { s.dev.acq with tbBusy := min s.dev.acq.tbBusy t }; on = false)))))) ∧
    (∃ (t : Nat) (i : Nat) (k : Nat) (rest : List (Nat × Nat)) (s : State), s.dev.acq.unread = (i, k) :: rest ∧
      (let free := s.dev.acq.st = .stream ∧ s.dev.mp.shed = 0 ∧ s.dev.acq.nextBlock ≤ t; free)) ∧
    (∃ (t : Nat) (i : Nat) (k : Nat) (rest : List (Nat × Nat)) (s : State), s.dev.acq.unread = (i, k) :: rest ∧
      (let free := s.dev.acq.st = .stream ∧ s.dev.mp.shed = 0 ∧ s.dev.acq.nextBlock ≤ t; (¬free))) :=
  ⟨⟨1537, [], 0, st (aq (fun a => { a with st := .fill })), by decide +kernel⟩,
   ⟨0, [], 0, st (aq (fun a => { a with st := .fill, k := 1, cands := [⟨4, 0, none, 0⟩] })), by decide +kernel⟩,
   ⟨0, [], 80000, st (aq (fun a => { a with st := .fill, k := 1 })), by decide +kernel⟩,
   ⟨2048, [], 0, st (aq (fun a => { a with st := .fill, k := 7 })), by decide +kernel⟩,
   ⟨0, [], 1280000,
     st (aq (fun a => { a with st := .ready, cands := [⟨4, 64, none, 0⟩, ⟨4, 32, none, 0⟩] })), by decide +kernel⟩,
   ⟨0, [], 1280000, st (aq (fun a => { a with st := .ready })), by decide +kernel⟩,
   ⟨100, 99, State.reset, by decide +kernel⟩,
   ⟨100, 100000, State.reset, by decide +kernel⟩,
   ⟨100, 100000,
     st (fun (d : Dev) => aq (fun a => { a with st := .ready }) (d.put pTRIG TRIG.TRIG_CFG_WIRE_IN 1)), by decide +kernel⟩,
   ⟨100, 100000, st (fun (d : Dev) => sq (fun q => { q with st := .armed, mission := .armStart }) d), by decide +kernel⟩,
   ⟨1000000000000000, 0, st (aq (fun a => { a with st := .idle, wireDrive := some 0 })), by decide +kernel⟩,
   ⟨true, 100, 64,
     st (fun (d : Dev) => ntm (fun n => { n with valid := true, locked := true }) (aq (fun a => { a with tbPend := some 64 }) d)), by decide +kernel⟩,
   ⟨false, 100, 64,
     st (fun (d : Dev) => ntm (fun n => { n with valid := true, locked := true }) (aq (fun a => { a with tbPend := some 64 }) d)), by decide +kernel⟩,
   ⟨true, 100, 64,
     st (fun (d : Dev) => ntm (fun n => { n with valid := true, locked := false }) (aq (fun a => { a with tbPend := some 64 }) d)), by decide +kernel⟩,
   ⟨5, 1, tbCrc 5 1, 0, 0, 12800000000,
     st (fun (d : Dev) => ntm (fun n => { n with valid := true, locked := true }) (aq (fun a => { a with st := .ready }) (d.put pTRIG TRIG.TRIG_CFG_TB_IN 1))), by decide +kernel⟩,
   ⟨5, 1, tbCrc 5 1 + 1, 0, 0, 100,
     st (fun (d : Dev) => ntm (fun n => { n with valid := true, locked := true }) (aq (fun a => { a with st := .ready }) (d.put pTRIG TRIG.TRIG_CFG_TB_IN 1))), by decide +kernel⟩,
   ⟨5, 1, 0, 0, 0, 100, State.reset, by decide +kernel⟩,
   ⟨0, 7, 0, [(8, 0)],
     st (aq (fun a => { a with st := .stream, unread := [(7, 0), (8, 0)], drop := true })), by decide +kernel⟩,
   ⟨0, 7, 0, [], st (aq (fun a => { a with st := .idle, unread := [(7, 0)] })), by decide +kernel⟩⟩

theorem hyps_WindowsFollowWithoutGap :
    (∃ (t : Nat) (fin : Nat) (s : State), s.dev.winEnd = some fin ∧ fin ≤ t ∧ (s.dev.prec.transitional = true →
      s.dev.prec.winStart + s.dev.halfPeriod ≤ fin)) :=
  ⟨256000000, 256000000, st (fun (d : Dev) => d.put (pPC 0) PC.CTRL_RUN 1), by decide +kernel⟩

theorem hyps_ConverterResultIsRecorded :
    (∃ (c : Fin 2) (num : Int) (den : Nat) (t : Nat) (s : State) (e : Ended) (es : List Ended),
      (s.dev.conv c).ended = e :: es ∧ e.input ≠ 8) ∧
    (∃ (c : Fin 2) (num : Int) (den : Nat) (t : Nat) (s : State) (e : Ended) (es : List Ended),
      (s.dev.conv c).ended = e :: es ∧ e.input ≠ 8 ∧ (let v := s.dev.pcCode c e.input num (den + 1);
      (let w := s.dev.pcFormat c v.1;
      (let info : Word := BitVec.ofNat 32 (e.len / 32 * 256 + e.input * 16 + v.2.toNat * 8 + e.unsettled.toNat * 4 + e.notFormed.toNat * 2);
      (let words : List Word := [BitVec.ofNat 32 (e.no + (s.dev.conv c).gap.toNat * 2 ^ 24), e.stamp, w, info];
      (let bytes := words.flatMap wordBytes; (let a := 0x100C0000 + 0x100 * c.val + 16 * (e.no % 16); v.2 = true))))))) ∧
    (∃ (c : Fin 2) (num : Int) (den : Nat) (t : Nat) (s : State) (e : Ended) (es : List Ended),
      (s.dev.conv c).ended = e :: es ∧ e.input ≠ 8 ∧ (let v := s.dev.pcCode c e.input num (den + 1);
      (let w := s.dev.pcFormat c v.1;
      (let info : Word := BitVec.ofNat 32 (e.len / 32 * 256 + e.input * 16 + v.2.toNat * 8 + e.unsettled.toNat * 4 + e.notFormed.toNat * 2);
      (let words : List Word := [BitVec.ofNat 32 (e.no + (s.dev.conv c).gap.toNat * 2 ^ 24), e.stamp, w, info];
      (let bytes := words.flatMap wordBytes; (let a := 0x100C0000 + 0x100 * c.val + 16 * (e.no % 16);
      s.dev.tagFor 0x15 = none))))))) ∧
    (∃ (c : Fin 2) (k : Fin 48) (t : Nat) (slot : Nat) (x : Tx) (s : State), s.dev.tag k = some x ∧
      s.dev.handshakeDue k x = true ∧ x.retried = true ∧ pcPlace (k / 2) x.addr = some (c.val, slot)) ∧
    (∃ (c : Fin 2) (num : Int) (den : Nat) (t : Nat) (s : State) (e : Ended) (es : List Ended),
      (s.dev.conv c).ended = e :: es ∧ e.input = 8 ∧ (s.dev.conv (1 - c.val)).pcs = none) ∧
    (∃ (c : Fin 2) (num : Int) (den : Nat) (t : Nat) (s : State) (e : Ended) (es : List Ended) (other : PcsResult),
      (s.dev.conv c).ended = e :: es ∧ e.input = 8 ∧ (s.dev.conv (1 - c.val)).pcs = some other ∧ other.win.no = e.no ∧
      (let v := s.dev.pcCode c 8 num (den + 1); (let r : PcsResult := ⟨e, v.1, s.dev.pcFormat c v.1, v.2⟩;
      (let x := if c = 0 then r else other; (let y := if c = 0 then other else r;
      (let bad := s.dev.get (pPC 0) PC.PCS_TOL_CODES < (x.code - y.code).natAbs ∨ x.ovr = true ∨ y.ovr = true ∨ x.win.unsettled = true ∨ y.win.unsettled = true;
      bad)))))) ∧
    (∃ (c : Fin 2) (num : Int) (den : Nat) (t : Nat) (s : State) (e : Ended) (es : List Ended) (other : PcsResult),
      (s.dev.conv c).ended = e :: es ∧ e.input = 8 ∧ (s.dev.conv (1 - c.val)).pcs = some other ∧ other.win.no = e.no ∧
      (let v := s.dev.pcCode c 8 num (den + 1); (let r : PcsResult := ⟨e, v.1, s.dev.pcFormat c v.1, v.2⟩;
      (let x := if c = 0 then r else other; (let y := if c = 0 then other else r;
      (let bad := s.dev.get (pPC 0) PC.PCS_TOL_CODES < (x.code - y.code).natAbs ∨ x.ovr = true ∨ y.ovr = true ∨ x.win.unsettled = true ∨ y.win.unsettled = true;
      (¬bad))))))) ∧
    (∃ (d : Dev) (c : Fin 2) (i : Nat) (num : Nat) (den : Nat), d.isDiff c i = false ∧ d.get (pPC c) PC.TRIM_OFS = 0 ∧
      d.get (pPC c) PC.TRIM_GAIN = 4194304 ∧ 0 < den ∧ 2 * 16777216 * num < (2 * 16777215 + 1) * den) :=
  ⟨⟨1, 1, 2, 0,
     st (fun (d : Dev) => { d with prec := { d.prec with conv := (d.prec.conv.set 1 ⟨some 0, none, true, none, [⟨7, 3, 0, 256000000, 0, true, true⟩], true, none, []⟩).set 0 ⟨some 0, none, true, none, [], false, none, []⟩ } }),
     ⟨7, 3, 0, 256000000, 0, true, true⟩, [], by decide +kernel⟩,
   ⟨1, -1, 0, 0,
     st (fun (d : Dev) => { d with prec := { d.prec with conv := (d.prec.conv.set 1 ⟨some 0, none, true, none, [⟨7, 3, 0, 256000000, 0, true, true⟩], true, none, []⟩).set 0 ⟨some 0, none, true, none, [], false, none, []⟩ } }),
     ⟨7, 3, 0, 256000000, 0, true, true⟩, [], by decide +kernel⟩,
   ⟨1, 1, 2, 0,
     st (fun (d : Dev) => { (d.setTag 42 (some ⟨none, 0x10000000, 4, 0, 0, 0, 0, false, none, [], none⟩)).setTag 43 (some ⟨none, 0x10000000, 4, 0, 0, 0, 0, false, none, [], none⟩) with prec := { d.prec with conv := (d.prec.conv.set 1 ⟨some 0, none, true, none, [⟨7, 3, 0, 256000000, 0, true, true⟩], true, none, []⟩).set 0 ⟨some 0, none, true, none, [], false, none, []⟩ } }),
     ⟨7, 3, 0, 256000000, 0, true, true⟩, [], by decide +kernel⟩,
   ⟨0, 42, 0, 3, ⟨some (List.replicate 16 0), 0x100C0030, 16, 0, 0, 0, 0, true, none, [], some 0⟩,
     st (fun (d : Dev) => (d.setArb 12 ⟨some 42, 0, 4, 0, List.replicate 24 0, [],
     none⟩).setTag 42 (some ⟨some (List.replicate 16 0), 0x100C0030, 16, 0, 0, 0, 0, true, none, [],
     some 0⟩)), by decide +kernel⟩,
   ⟨1, 1, 2, 0,
     st (fun (d : Dev) => { d with prec := { d.prec with conv := (d.prec.conv.set 1 ⟨some 0, none, true, none, [⟨7, 8, 0, 256000000, 0, true, true⟩], true, none, []⟩).set 0 ⟨some 0, none, true, none, [], false, none, []⟩ } }),
     ⟨7, 8, 0, 256000000, 0, true, true⟩, [], by decide +kernel⟩,
   ⟨1, 1, 2, 0,
     st (fun (d : Dev) => { d with prec := { d.prec with conv := (d.prec.conv.set 1 ⟨some 0, none, true, none, [⟨7, 8, 0, 256000000, 0, true, true⟩], true, none, []⟩).set 0 ⟨some 0, none, true, none, [], false, some ⟨⟨7, 8, 0, 256000000, 0, true, false⟩, 5, 5, false⟩, []⟩ } }),
     ⟨7, 8, 0, 256000000, 0, true, true⟩, [], ⟨⟨7, 8, 0, 256000000, 0, true, false⟩, 5, 5, false⟩, by decide +kernel⟩,
   ⟨1, 0, 0, 0,
     st (fun (d : Dev) => { d with prec := { d.prec with conv := (d.prec.conv.set 1 ⟨some 0, none, true, none, [⟨7, 8, 0, 256000000, 0, false, false⟩], true, none, []⟩).set 0 ⟨some 0, none, true, none, [], false, some ⟨⟨7, 8, 0, 256000000, 0, false, false⟩, 0, 0, false⟩, []⟩ } }),
     ⟨7, 8, 0, 256000000, 0, false, false⟩, [], ⟨⟨7, 8, 0, 256000000, 0, false, false⟩, 0, 0, false⟩, by decide +kernel⟩,
   ⟨Dev.reset, 0, 0, 1, 2, by decide +kernel⟩⟩

theorem hyps_LedgerChangesOnlyUnderItsSeal :
    (∃ (port : Fin 24) (w : Word) (k : Fin 8) (t : Nat) (s : State) (c : Instr), s.dev.sealOk port = false ∧
      c ∈ [Instr.tamperAck port t, .logInCode port w t, .logRelease port w t, .restoreGo port k t, .restoreClose port t]) ∧
    (∃ (port : Fin 24) (k : Fin 8) (t : Nat) (s : State), s.dev.sealOk port = true ∧ k.val < 6 ∧
      s.dev.prec.count.length = 6 ∧ (s.dev.get pLEDGER LEDGER.RESTORE_STAT_DONE).testBit k = false) ∧
    (∃ (port : Fin 24) (k : Fin 8) (t : Nat) (s : State), s.dev.sealOk port = true ∧ (k.val = 6 ∨ k.val < 6 ∧
      (s.dev.get pLEDGER LEDGER.RESTORE_STAT_DONE).testBit k = true)) ∧
    (∃ (port : Fin 24) (t : Nat) (s : State) (c : Instr), s.dev.sealOk port = true ∧ c ∈ [Instr.restoreClose port t,
      .restoreGo port 7 t]) ∧
    (∃ (port : Fin 24) (t : Nat) (s : State), s.dev.sealOk port = true) ∧
    (∃ (port : Fin 24) (w : Word) (t : Nat) (s : State), s.dev.sealOk port = true) ∧
    (∃ (port : Fin 24) (w : Word) (t : Nat) (s : State), s.dev.sealOk port = true ∧
      (let permitted := w.toNat % 256 = 1 ∨ w.toNat % 256 = 9 ∨ 0x80 ≤ w.toNat % 256;
      (let head := s.dev.get pLEDGER LEDGER.LOG_HEAD; permitted ∧ s.dev.logUsed < 256))) ∧
    (∃ (port : Fin 24) (w : Word) (t : Nat) (s : State), s.dev.sealOk port = true ∧
      (let permitted := w.toNat % 256 = 1 ∨ w.toNat % 256 = 9 ∨ 0x80 ≤ w.toNat % 256;
      (let head := s.dev.get pLEDGER LEDGER.LOG_HEAD; (¬permitted)))) ∧
    (∃ (port : Fin 24) (w : Word) (t : Nat) (s : State), s.dev.sealOk port = true ∧
      (let permitted := w.toNat % 256 = 1 ∨ w.toNat % 256 = 9 ∨ 0x80 ≤ w.toNat % 256;
      (let head := s.dev.get pLEDGER LEDGER.LOG_HEAD; permitted ∧ 256 ≤ s.dev.logUsed))) :=
  ⟨⟨15, 5, 0, 0, State.reset, .tamperAck 15 0, by decide +kernel⟩,
   ⟨15, 5, 0, st (fun (d : Dev) => (unsealed d).setReg (LEDGER.RESTORE_LO.addr pLEDGER 0) 7), by decide +kernel⟩,
   ⟨15, 0, 0, st (fun (d : Dev) => (unsealed d).put pLEDGER LEDGER.RESTORE_STAT_DONE 1), by decide +kernel⟩,
   ⟨15, 0, st unsealed, .restoreClose 15 0, by decide +kernel⟩,
   ⟨15, 0,
     st (fun (d : Dev) => prc (fun p => { p with tamperLogged := 1 }) ((unsealed d).put pLEDGER LEDGER.TAMPER_STAT_CHANGED 3)), by decide +kernel⟩,
   ⟨15, 9, 0, st (fun (d : Dev) => (unsealed d).put pLEDGER LEDGER.LOG_HEAD 5), by decide +kernel⟩,
   ⟨15, 0x12340080, 0, st unsealed, by decide +kernel⟩,
   ⟨15, 2, 0, st unsealed, by decide +kernel⟩,
   ⟨15, 0x80, 0,
     st (fun (d : Dev) => prc (fun p => { p with logLow := 0 }) ((unsealed d).put pLEDGER LEDGER.LOG_HEAD 256)), by decide +kernel⟩⟩

theorem hyps_LedgerMetersAndTamper :
    (∃ (port : Fin 24) (w : Word) (t : Nat) (s : State), port.val < 12 ∧ port.val = s.dev.get pLEDGER LEDGER.LED_CFG_AC_ENG) ∧
    (∃ (port : Fin 24) (w : Word) (t : Nat) (s : State), (12 ≤ port.val ∨
      port.val ≠ s.dev.get pLEDGER LEDGER.LED_CFG_AC_ENG)) ∧
    (∃ (t : Nat) (a : Nat) (s : State), s.dev.flag pLEDGER LEDGER.STATUS_FEED_OK = true ∧ s.dev.prec.feedAt = some a ∧
      a + 12800000 * s.dev.get pLEDGER LEDGER.LED_CFG_FEED_TO_MS ≤ t) ∧
    (∃ (t : Nat) (s : State), s.dev.prec.plausAt + s.dev.get pLEDGER LEDGER.PLAUS_CFG_PERIOD_S ≤ s.dev.lifeS t) ∧
    (∃ (k : Fin 4) (since : Nat) (t : Nat) (high : Bool) (s : State), s.dev.prec.tamper.testBit k ≠ high ∧
      (let stood := since + 128000000 ≤ t; (let on := s.dev.bit pLEDGER LEDGER.TAMPER_CFG_EN k;
      (let byte (d : Dev) : Nat := d.get pLEDGER LEDGER.TAMPER_CNT / 256 ^ k.val % 256; stood ∧ stood ∧ on = true)))) ∧
    (∃ (k : Fin 4) (since : Nat) (t : Nat) (high : Bool) (s : State), s.dev.prec.tamper.testBit k ≠ high ∧
      (let stood := since + 128000000 ≤ t; (let on := s.dev.bit pLEDGER LEDGER.TAMPER_CFG_EN k;
      (let byte (d : Dev) : Nat := d.get pLEDGER LEDGER.TAMPER_CNT / 256 ^ k.val % 256; stood ∧ stood ∧ on = false)))) ∧
    (∃ (k : Fin 4) (since : Nat) (t : Nat) (high : Bool) (s : State), s.dev.prec.tamper.testBit k ≠ high ∧
      (let stood := since + 128000000 ≤ t; (let on := s.dev.bit pLEDGER LEDGER.TAMPER_CFG_EN k;
      (let byte (d : Dev) : Nat := d.get pLEDGER LEDGER.TAMPER_CNT / 256 ^ k.val % 256; (¬stood))))) :=
  ⟨⟨3, 0x80000000, 0, st (fun (d : Dev) => d.put pLEDGER LEDGER.LED_CFG_AC_ENG 3), by decide +kernel⟩,
   ⟨12, 5, 0, st (fun (d : Dev) => d.put pLEDGER LEDGER.LED_CFG_AC_ENG 12), by decide +kernel⟩,
   ⟨1000000000000000, 0,
     st (fun (d : Dev) => prc (fun p => { p with feedAt := some 0 }) (d.put pLEDGER LEDGER.STATUS_FEED_OK 1)), by decide +kernel⟩,
   ⟨1000000000000000, State.reset, by decide +kernel⟩,
   ⟨3, 0, 128000000, true, st (fun (d : Dev) => d.put pLEDGER LEDGER.TAMPER_CFG_EN 8), by decide +kernel⟩,
   ⟨0, 0, 128000000, true, st (fun (d : Dev) => d.put pLEDGER LEDGER.TAMPER_CFG_EN 0), by decide +kernel⟩,
   ⟨0, 0, 5, true, st (fun (d : Dev) => d.put pLEDGER LEDGER.TAMPER_CFG_EN 1), by decide +kernel⟩⟩

theorem hyps_StopDemandWithdrawsPermissionAtOnce :
    (∃ (i : Fin 8) (chanB : Bool) (high : Bool) (since : Nat) (ft : Nat) (t : Nat) (s : State), s.dev.safe.permitInv ∧
      s.dev.inEn i = true ∧ since + 16 * (s.dev.getAt pSAFE SAFE.IN_CFG_FILT i + 1) ≤ ft + 1 ∧
      high = (if chanB then s.dev.flagAt pSAFE SAFE.IN_CFG_ANTIVALENT i else false) ∧
      (if chanB then (s.dev.safeIn i).b else (s.dev.safeIn i).a) ≠ high) :=
  ⟨2, false, false, 0, 4096, 131072,
    st (fun (d : Dev) => saf (fun s => { s with legsOff := false, runPermit := true, ins := s.ins.set 2 ⟨true, true, none, false, some 0⟩ }) (d.setReg (SAFE.IN_CFG_EN.addr pSAFE 2) (bitsPut 0 SAFE.IN_CFG_EN.hi SAFE.IN_CFG_EN.lo 1))), by unfold Safe.permitInv; decide +kernel⟩

theorem hyps_LockoutsStopTheRun :
    (∃ (i : Fin 8) (ft : Nat) (t : Nat) (tm : DiscTimer) (s : State), s.dev.safe.permitInv ∧
      (s.dev.safeIn i).timer = some tm ∧ tm.start + s.dev.getAt pSAFE SAFE.IN_CFG_DISC_MS i * 32 ≤ ft) ∧
    (∃ (k : Fin 2) (chanB : Bool) (high : Bool) (ticks : Nat) (t : Nat) (s : State), s.dev.safe.permitInv ∧
      (let fault := high ≠ (if k = 0 then s.dev.safe.pi0 else s.dev.safe.pi1) ∧ 32 < ticks; fault)) ∧
    (∃ (k : Fin 2) (chanB : Bool) (high : Bool) (ticks : Nat) (t : Nat) (s : State), s.dev.safe.permitInv ∧
      (let fault := high ≠ (if k = 0 then s.dev.safe.pi0 else s.dev.safe.pi1) ∧ 32 < ticks; (¬fault))) ∧
    (∃ (last : Nat) (t : Nat) (s : State), s.dev.safe.permitInv ∧ s.dev.safe.armed.isSome = true ∧ last + 128000 ≤ t) ∧
    (∃ (ticks : Nat) (t : Nat) (s : State), s.dev.safe.permitInv ∧ s.dev.safe.armed.isSome = true ∧
      (let dev : Int := (ticks : Int) - 4000000; (let bad := 320000 < dev.natAbs; (¬bad ∨ s.dev.safe.oscBad = false)))) ∧
    (∃ (ticks : Nat) (t : Nat) (s : State), s.dev.safe.permitInv ∧ s.dev.safe.armed.isSome = true ∧
      (let dev : Int := (ticks : Int) - 4000000; (let bad := 320000 < dev.natAbs; bad ∧ s.dev.safe.oscBad = true))) ∧
    (∃ (ticks : Nat) (t : Nat) (s : State), s.dev.safe.permitInv ∧ s.dev.safe.armed.isSome = true ∧
      (let dev : Int := (ticks : Int) - 4000000; (let bad := 320000 < dev.natAbs; dev.natAbs ≤ 320000 ∧ (¬bad ∨
      s.dev.safe.oscBad = false)))) :=
  ⟨⟨2, 100000, 0, ⟨true, false, 0, false, false, false⟩,
     st (saf (fun s => { s with legsOff := false, runPermit := true, ins := s.ins.set 2 ⟨true, false, some ⟨true, false, 0, false, false, false⟩, false, none⟩ })), by unfold Safe.permitInv; decide +kernel⟩,
   ⟨0, true, true, 33, 0,
     st (saf (fun s => { s with legsOff := false, runPermit := true })), by unfold Safe.permitInv; decide +kernel⟩,
   ⟨0, true, true, 32, 0, State.reset, by unfold Safe.permitInv; decide +kernel⟩,
   ⟨0, 128000,
     st (saf (fun s => { s with legsOff := false, runPermit := true, armed := some 0 })), by unfold Safe.permitInv; decide +kernel⟩,
   ⟨4320801, 0,
     st (saf (fun s => { s with legsOff := false, runPermit := true, armed := some 0 })), by unfold Safe.permitInv; decide +kernel⟩,
   ⟨3000000, 0, st (saf (fun s => { s with oscBad := true, armed := some 0 })), by unfold Safe.permitInv; decide +kernel⟩,
   ⟨4000000, 0, st (saf (fun s => { s with oscBad := true, armed := some 0 })), by unfold Safe.permitInv; decide +kernel⟩⟩

theorem hyps_SafeResetNeedsAPulseAndClearedCauses :
    (∃ (len : Nat) (fallAt : Nat) (t : Nat) (pinsLow : Bool) (s : State), s.dev.safe.lockouts ≠ [] ∧ 3200 ≤ len ∧
      len ≤ 96000 ∧ (∀ c ∈ s.dev.safe.lockouts, s.dev.causeCleared pinsLow fallAt c = true)) ∧
    (∃ (len : Nat) (fallAt : Nat) (t : Nat) (pinsLow : Bool) (s : State), s.dev.safe.lockouts ≠ [] ∧ 32 ≤ len ∧
      (len < 3200 ∨ 96000 < len ∨ (∃ c ∈ s.dev.safe.lockouts, s.dev.causeCleared pinsLow fallAt c = false))) ∧
    (∃ (len : Nat) (fallAt : Nat) (t : Nat) (pinsLow : Bool) (s : State), (s.dev.safe.lockouts = [] ∨ len < 32)) ∧
    (∃ (since : Nat) (ft : Nat) (t : Nat) (s : State), since + 32 ≤ ft + 1) ∧
    (∃ (since : Nat) (ft : Nat) (t : Nat) (s : State) (c : Instr), ft + 1 < since + 32 ∧
      c ∈ [Instr.safePermitAsserted since ft t, .safePermitRelease since ft t]) ∧
    (∃ (since : Nat) (ft : Nat) (t : Nat) (s : State), since + 32 ≤ ft + 1 ∧ s.dev.lockOpen pSAFE = true) ∧
    (∃ (since : Nat) (ft : Nat) (t : Nat) (s : State), since + 32 ≤ ft + 1 ∧ s.dev.lockOpen pSAFE = false) ∧
    (∃ (since : Nat) (t : Nat) (s : State), s.dev.safe.armed = none ∧ s.dev.pw.halted = false ∧
      s.dev.safe.coreDown = false ∧ since + 1280000 ≤ t ∧ s.dev.safe.runFrom + 1280000 ≤ t) :=
  ⟨⟨3200, 5, 0, true, st (saf (fun s => { s with lockouts := [(2, 0)], tested := 3 })), by decide +kernel⟩,
   ⟨3199, 5, 0, true, st (saf (fun s => { s with lockouts := [(2, 0)] })), by decide +kernel⟩,
   ⟨5, 0, 0, true, State.reset, by decide +kernel⟩,
   ⟨0, 31, 2000, State.reset, by decide +kernel⟩,
   ⟨0, 30, 2000, State.reset, .safePermitAsserted 0 30 2000, by decide +kernel⟩,
   ⟨0, 31, 2000,
     st (fun (d : Dev) => saf (fun s => { s with permitPin := true }) (d.put pSAFE HDR.LOCK_OPEN 1)), by decide +kernel⟩,
   ⟨0, 31, 2000, State.reset, by decide +kernel⟩,
   ⟨0, 1280000, st (saf (fun s => { s with armed := none, runFrom := 0, coreDown := false })), by decide +kernel⟩⟩

theorem hyps_PulseInhibitTurnsOnByDeliberateWriteOnly :
    (∃ (k : Fin 2) (t : Nat) (s : State), s.dev.safe.runPermit = true ∧ s.dev.mayRun = true ∧
      s.dev.bit pSAFE SAFE.PI_CFG_EN k = true) ∧
    (∃ (k : Fin 2) (t : Nat) (s : State), (s.dev.safe.runPermit = false ∨ s.dev.bit pSAFE SAFE.PI_CFG_EN k = false)) ∧
    (∃ (k : Fin 2) (t : Nat) (s : State), s.dev.mayRun = s.dev.safe.runPermit) :=
  ⟨⟨0, 0,
     st (fun (d : Dev) => saf (fun s => { s with legsOff := false, runPermit := true, configured := true, armed := some 0 }) (d.put pSAFE SAFE.PI_CFG_EN 3)), by decide +kernel⟩,
   ⟨0, 0, State.reset, by decide +kernel⟩,
   ⟨0, 0, State.reset, by decide +kernel⟩⟩

theorem hyps_TransmitBufferStates :
    (∃ (n : Fin 64) (t : Nat) (s : State), s.dev.txCode n ∈ [txEMPTY, txEXPIRED, txFAILED, txABORTED]) ∧
    (∃ (n : Fin 64) (t : Nat) (s : State), s.dev.txBusy n = true ∧ (s.dev.txCode n = txACTIVE ∨ s.dev.expired n t = false)) ∧
    (∃ (n : Fin 64) (t : Nat) (s : State), s.dev.txCode n ∈ [txPENDING, txBUSOFF, txHELD] ∧ s.dev.expired n t = false) ∧
    (∃ (n : Fin 64) (t : Nat) (s : State), s.dev.txCode n = txACTIVE) ∧
    (∃ (n : Fin 64) (t : Nat) (s : State), s.dev.txCode n ∈ [txPENDING, txBUSOFF, txHELD] ∧
      0 < s.dev.getAt pBUF PBUS_BUF.TX_DESC_EXP_MS n ∧ (s.dev.txBuf n).done = false ∧
      (s.dev.txBuf n).reqAt + s.dev.getAt pBUF PBUS_BUF.TX_DESC_EXP_MS n * 12800000 ≤ t) :=
  ⟨⟨63, 5, State.reset, by decide +kernel⟩,
   ⟨0, 5, st (fun (d : Dev) => d.setTxCode 0 txPENDING), by decide +kernel⟩,
   ⟨9, 5, st (fun (d : Dev) => d.setTxCode 9 txHELD), by decide +kernel⟩,
   ⟨9, 5, st (fun (d : Dev) => d.setTxCode 9 txACTIVE), by decide +kernel⟩,
   ⟨9, 1000000000000000,
     st (fun (d : Dev) => (d.setTxCode 9 txPENDING).putAt pBUF PBUS_BUF.TX_DESC_EXP_MS 9 5), by decide +kernel⟩⟩

theorem hyps_FramesStartUnderTheSchedule :
    (∃ (readFail : Bool) (lost : Bool) (t : Nat) (n : Nat) (s : State), s.dev.busSends = true ∧ s.dev.bus.cur = none ∧
      (let d := (s.dev.begin t).busDue t; (let f := s.dev.txFrame s.mem n; d.pickBuf s.mem t = some n ∧ readFail = false ∧
      headerOk f = true ∧ lost = false))) ∧
    (∃ (readFail : Bool) (lost : Bool) (t : Nat) (n : Nat) (s : State), s.dev.busSends = true ∧ s.dev.bus.cur = none ∧
      (let d := (s.dev.begin t).busDue t; (let f := s.dev.txFrame s.mem n; d.pickBuf s.mem t = some n ∧ readFail = false ∧
      headerOk f = true ∧ lost = true))) ∧
    (∃ (readFail : Bool) (lost : Bool) (t : Nat) (n : Nat) (s : State), s.dev.busSends = true ∧ s.dev.bus.cur = none ∧
      (let d := (s.dev.begin t).busDue t; (let f := s.dev.txFrame s.mem n; d.pickBuf s.mem t = some n ∧ readFail = true))) ∧
    (∃ (readFail : Bool) (lost : Bool) (t : Nat) (n : Nat) (s : State), s.dev.busSends = true ∧ s.dev.bus.cur = none ∧
      (let d := (s.dev.begin t).busDue t; (let f := s.dev.txFrame s.mem n; d.pickBuf s.mem t = some n ∧ readFail = false ∧
      headerOk f = false))) ∧
    (∃ (t : Nat) (n : Nat) (d : Dev) (m : List Host.Cell), d.pickBuf m t = some n) ∧
    (∃ (t : Nat) (n : Nat) (d : Dev) (m : List Host.Cell) (k : Nat), d.pickBuf m t = some n ∧ k < 64 ∧
      d.txCode k = txPENDING ∧ d.isSlot k = false ∧ d.fits (d.txFrame m k).data.length t = true) ∧
    (∃ (idle : Bool) (t : Nat) (j : Nat) (s : State), s.dev.flag pPBUS PBUS.CTRL_ON = true ∧ s.dev.boot.bypass = false ∧
      s.dev.voile = false ∧ s.dev.exclusiveAt t = some j ∧ (let d := (s.dev.begin t).busDue t;
      (let n := entryBuf (s.dev.entry (s.dev.cycleNo t) j); (let f := s.dev.txFrame s.mem n;
      (let free := s.dev.busSends = true ∧ s.dev.bus.cur = none ∧ idle = true ∧ d.txCode n = txPENDING ∧ s.dev.colStarts.getD j 0 + tFit f.data.length s.dev.drate ≤ s.dev.colEnd j;
      free ∧ headerOk f = false))))) ∧
    (∃ (idle : Bool) (t : Nat) (j : Nat) (s : State), s.dev.flag pPBUS PBUS.CTRL_ON = true ∧ s.dev.boot.bypass = false ∧
      s.dev.voile = false ∧ s.dev.exclusiveAt t = some j ∧ (let d := (s.dev.begin t).busDue t;
      (let n := entryBuf (s.dev.entry (s.dev.cycleNo t) j); (let f := s.dev.txFrame s.mem n;
      (let free := s.dev.busSends = true ∧ s.dev.bus.cur = none ∧ idle = true ∧ d.txCode n = txPENDING ∧ s.dev.colStarts.getD j 0 + tFit f.data.length s.dev.drate ≤ s.dev.colEnd j;
      (¬free)))))) ∧
    (∃ (idle : Bool) (t : Nat) (j : Nat) (s : State), s.dev.flag pPBUS PBUS.CTRL_ON = true ∧ s.dev.boot.bypass = false ∧
      s.dev.voile = false ∧ s.dev.exclusiveAt t = some j ∧ (let d := (s.dev.begin t).busDue t;
      (let n := entryBuf (s.dev.entry (s.dev.cycleNo t) j); (let f := s.dev.txFrame s.mem n;
      (let free := s.dev.busSends = true ∧ s.dev.bus.cur = none ∧ idle = true ∧ d.txCode n = txPENDING ∧ s.dev.colStarts.getD j 0 + tFit f.data.length s.dev.drate ≤ s.dev.colEnd j;
      free ∧ headerOk f = true))))) :=
  ⟨⟨false, false, 0, 9,
     { st (fun (d : Dev) => onBus (d.setTxCode 9 txPENDING)) with mem := [(txAddr 9 + 2, 0x20)] }, by decide +kernel⟩,
   ⟨false, true, 0, 9,
     { st (fun (d : Dev) => onBus ((d.setTxCode 9 txPENDING).putAt pBUF PBUS_BUF.TX_DESC_ONE_SHOT 9 1)) with mem := [(txAddr 9 + 2, 0x20)] }, by decide +kernel⟩,
   ⟨true, false, 0, 9,
     { st (fun (d : Dev) => onBus (d.setTxCode 9 txPENDING)) with mem := [(txAddr 9 + 2, 0x20)] }, by decide +kernel⟩,
   ⟨false, false, 0, 9,
     { st (fun (d : Dev) => onBus (d.setTxCode 9 txPENDING)) with mem := [(txAddr 9 + 2, 0xFF), (txAddr 9 + 3, 0xFF)] }, by decide +kernel⟩,
   ⟨0, 8, onBus ((Dev.reset.setTxCode 9 txPENDING).setTxCode 8 txPENDING), [], by decide +kernel⟩,
   ⟨0, 8, onBus ((Dev.reset.setTxCode 9 txPENDING).setTxCode 8 txPENDING), [], 9, by decide +kernel⟩,
   ⟨true, 32000, 1,
     st (fun (d : Dev) => onBus (bs (fun b => { b with nt := { b.nt with valid := true }, active := [(1, BitVec.ofNat 32 0x901)] }) ((d.setTxCode 9 txPENDING).setReg (PBUS_SCHED.COL_START_TICKS.addr pSCHED 0 + 0x800) 1000))), by decide +kernel⟩,
   ⟨false, 32000, 1,
     st (fun (d : Dev) => onBus (bs (fun b => { b with nt := { b.nt with valid := true }, active := [(1, BitVec.ofNat 32 0x901)] }) ((d.setTxCode 9 txPENDING).setReg (PBUS_SCHED.COL_START_TICKS.addr pSCHED 0 + 0x800) 1000))), by decide +kernel⟩,
   ⟨true, 9600000, 1,
     { st (fun (d : Dev) => onBus (bs (fun b => { b with nt := { b.nt with valid := true }, active := [(1, BitVec.ofNat 32 0x901)] }) ((d.setTxCode 9 txPENDING).setReg (PBUS_SCHED.COL_START_TICKS.addr pSCHED 0 + 0x800) 300000))) with mem := [(txAddr 9 + 2, 0x20)] }, by decide +kernel⟩⟩

theorem hyps_TransmissionEndsAndErrorCounters :
    (∃ (loop : BitVec 16) (t : Nat) (n : Fin 64) (x : Sending) (s : State), s.dev.bus.cur = some x ∧ x.buf = some n.val ∧
      x.fin ≤ t ∧ s.dev.get pPBUS PBUS.STATUS_ERR_STATE ≠ 2 ∧ s.dev.get pPBUS PBUS.ERR_CNT_TEC ≤ 256 ∧
      (let again := s.dev.flagAt pBUF PBUS_BUF.TX_DESC_REPEAT n = true ∧ (s.dev.txBuf n).abort = false; (¬again))) ∧
    (∃ (loop : BitVec 16) (t : Nat) (n : Fin 64) (x : Sending) (s : State), s.dev.bus.cur = some x ∧ x.buf = some n.val ∧
      x.fin ≤ t ∧ s.dev.get pPBUS PBUS.STATUS_ERR_STATE ≠ 2 ∧ s.dev.get pPBUS PBUS.ERR_CNT_TEC ≤ 256 ∧
      (let again := s.dev.flagAt pBUF PBUS_BUF.TX_DESC_REPEAT n = true ∧ (s.dev.txBuf n).abort = false; again ∧
      s.dev.mp.shed ≠ 3)) ∧
    (∃ (loop : BitVec 16) (t : Nat) (x : Sending) (s : State), s.dev.bus.cur = some x ∧ t < x.fin) ∧
    (∃ (loop : BitVec 16) (t : Nat) (x : Sending) (s : State), s.dev.bus.cur = some x ∧ x.fin ≤ t ∧ x.buf = none) ∧
    (∃ (code : Fin 4) (t : Nat) (x : Sending) (s : State), s.dev.busHears = true ∧ s.dev.voile = false ∧
      s.dev.bus.cur = some x ∧ s.dev.get pPBUS PBUS.ERR_CNT_TEC ≤ 256) ∧
    (∃ (code : Fin 4) (t : Nat) (x : Sending) (s : State), s.dev.busHears = true ∧ s.dev.voile = false ∧
      s.dev.bus.cur = some x ∧ s.dev.get pPBUS PBUS.ERR_CNT_TEC ≤ 256 ∧ (let tec := s.dev.get pPBUS PBUS.ERR_CNT_TEC;
      (let up := ¬(code = 3 ∧ s.dev.get pPBUS PBUS.STATUS_ERR_STATE ≠ 0);
      (let st (n : Nat) : Nat := if (s.dev.txBuf n).abort then txABORTED else if s.dev.expired n t then txEXPIRED else if s.dev.flagAt pBUF PBUS_BUF.TX_DESC_ONE_SHOT n || (x.excl && !s.dev.flagAt pBUF PBUS_BUF.TX_DESC_REPEAT n) then txFAILED else txPENDING;
      x.buf = none)))) ∧
    (∃ (code : Fin 4) (ack : Option Nat) (t : Nat) (s : State), s.dev.busHears = true ∧ s.dev.bus.cur = none ∧ code ≠ 3) ∧
    (∃ (code : Fin 4) (ack : Option Nat) (t : Nat) (s : State), s.dev.busHears = true ∧ s.dev.bus.cur = none ∧ code = 3) ∧
    (∃ (t : Nat) (s : State), 16 ≤ s.dev.get pPBUS PBUS.ERR_STAT_ACK_RUN ∧ s.dev.flag pPBUS PBUS.STATUS_ALONE = false) :=
  ⟨⟨0xFFFF, 5, 9, ⟨some 9, false, ⟨0, 0, 0, [], 0⟩, 0, 0⟩,
     st (fun (d : Dev) => bs (fun b => { b with cur := some ⟨some 9, false, ⟨0, 0, 0, [], 0⟩, 0, 0⟩ }) (onBus (d.setTxCode 9 txACTIVE))), by decide +kernel⟩,
   ⟨0x1, 5, 9, ⟨some 9, false, ⟨0, 0, 0, [], 0⟩, 0, 0⟩,
     st (fun (d : Dev) => (bs (fun b => { b with cur := some ⟨some 9, false, ⟨0, 0, 0, [], 0⟩, 0, 0⟩ }) (onBus (d.setTxCode 9 txACTIVE))).put pPBUS PBUS.ERR_CNT_TEC 200 |>.putAt pBUF PBUS_BUF.TX_DESC_REPEAT 9 1), by decide +kernel⟩,
   ⟨0, 5, ⟨some 9, false, ⟨0, 0, 0, [], 0⟩, 0, 7⟩,
     st (fun (d : Dev) => bs (fun b => { b with cur := some ⟨some 9, false, ⟨0, 0, 0, [], 0⟩, 0, 7⟩ }) (onBus (d.setTxCode 9 txACTIVE))), by decide +kernel⟩,
   ⟨0, 5, ⟨none, false, ⟨0, 0, 0, [], 0⟩, 0, 0⟩,
     st (fun (d : Dev) => bs (fun b => { b with cur := some ⟨none, false, ⟨0, 0, 0, [], 0⟩, 0, 0⟩ }) (onBus (d.setTxCode 9 txACTIVE))), by decide +kernel⟩,
   ⟨0, 5, ⟨some 9, false, ⟨0, 0, 0, [], 0⟩, 0, 0⟩,
     st (fun (d : Dev) => bs (fun b => { b with cur := some ⟨some 9, false, ⟨0, 0, 0, [], 0⟩, 0, 0⟩ }) (onBus (d.setTxCode 9 txACTIVE))), by decide +kernel⟩,
   ⟨0, 5, ⟨none, false, ⟨0, 0, 0, [], 0⟩, 0, 0⟩,
     st (fun (d : Dev) => bs (fun b => { b with cur := some ⟨none, false, ⟨0, 0, 0, [], 0⟩, 0, 0⟩ }) (onBus (d.setTxCode 9 txACTIVE))), by decide +kernel⟩,
   ⟨0, some 3, 5, st onBus, by decide +kernel⟩,
   ⟨3, none, 5, st onBus, by decide +kernel⟩,
   ⟨5, st (fun (d : Dev) => d.put pPBUS PBUS.ERR_STAT_ACK_RUN 16), by decide +kernel⟩⟩

theorem hyps_ControllerJoinsLeavesAndRecovers :
    (∃ (t : Nat) (s : State), s.dev.flag pPBUS PBUS.CTRL_ON = false ∧ s.dev.drate < 5) ∧
    (∃ (t : Nat) (s : State), s.dev.flag pPBUS PBUS.CTRL_ON = false ∧ 5 ≤ s.dev.drate) ∧
    (∃ (t : Nat) (s : State), s.dev.flag pPBUS PBUS.CTRL_ON = true) ∧
    (∃ (since : Nat) (t : Nat) (s : State), s.dev.flag pPBUS PBUS.CTRL_ON = true ∧ s.dev.boot.bypass = false ∧
      (let seen := since + 140800 ≤ t ∧ s.dev.bus.joinAt + 140800 ≤ t; seen ∧
      s.dev.flag pPBUS PBUS.STATUS_RECOVERING = false ∧ seen)) ∧
    (∃ (since : Nat) (t : Nat) (s : State), s.dev.flag pPBUS PBUS.CTRL_ON = true ∧ s.dev.boot.bypass = false ∧
      (let seen := since + 140800 ≤ t ∧ s.dev.bus.joinAt + 140800 ≤ t; seen ∧
      s.dev.flag pPBUS PBUS.STATUS_RECOVERING = true ∧ seen)) ∧
    (∃ (since : Nat) (t : Nat) (s : State), s.dev.flag pPBUS PBUS.CTRL_ON = true ∧ s.dev.boot.bypass = false ∧
      (let seen := since + 140800 ≤ t ∧ s.dev.bus.joinAt + 140800 ≤ t; (¬seen))) ∧
    (∃ (t : Nat) (s : State), s.dev.busOff = true ∧ s.dev.flag pPBUS PBUS.STATUS_RECOVERING = false) ∧
    (∃ (t : Nat) (s : State), s.dev.busOff = false) ∧
    (∃ (since : Nat) (t : Nat) (s : State), s.dev.busOff = true ∧ s.dev.flag pPBUS PBUS.STATUS_RECOVERING = true ∧
      127 ≤ s.dev.get pPBUS PBUS.ERR_STAT_BUSOFF_RCV ∧ s.dev.flag pPBUS PBUS.CTRL_ON = true ∧ s.dev.boot.bypass = false ∧
      since + 140800 ≤ t ∧ s.dev.bus.joinAt + 140800 ≤ t) :=
  ⟨⟨0, st (fun (d : Dev) => d.put pPBUS PBUS.PB_CFG_DRATE 4), by decide +kernel⟩,
   ⟨0, st (fun (d : Dev) => d.put pPBUS PBUS.PB_CFG_DRATE 5), by decide +kernel⟩,
   ⟨0, st onBus, by decide +kernel⟩,
   ⟨0, 140800, st (fun (d : Dev) => onBus (d.put pPBUS PBUS.STATUS_SYNCED 0)), by decide +kernel⟩,
   ⟨0, 140800, st (fun (d : Dev) => (onBus d).put pPBUS PBUS.STATUS_RECOVERING 1), by decide +kernel⟩,
   ⟨0, 140799, st onBus, by decide +kernel⟩,
   ⟨7, st (fun (d : Dev) => (onBus (d.setTxCode 9 txBUSOFF)).put pPBUS PBUS.STATUS_ERR_STATE 2), by decide +kernel⟩,
   ⟨0, State.reset, by decide +kernel⟩,
   ⟨0, 140800,
     st (fun (d : Dev) => (((onBus (d.setTxCode 9 txBUSOFF)).put pPBUS PBUS.STATUS_ERR_STATE 2).put pPBUS PBUS.STATUS_RECOVERING 1).put pPBUS PBUS.ERR_STAT_BUSOFF_RCV 127), by decide +kernel⟩⟩

theorem hyps_ReceivedFramesReachOneHalf :
    (∃ (typ : Fin 8) (ident : BitVec 29) (seq : BitVec 8) (data : List (BitVec 8)) (crc : BitVec 17) (sof : Nat) (t : Nat) (s : State),
      s.dev.busHears = true ∧ s.dev.bus.cur = none ∧ typ.val < 3 ∧ (typ.val = 0 → ident.toNat % 64 < 0x34 ∨
      ident.toNat % 64 = 0x3F) ∧ (let f : BusFrame := ⟨typ.val, ident.toNat, seq.toNat, data.take 64, sof⟩;
      (let good := crc.toNat = headerCrc f s.dev.drate; good ∧ good ∧ s.dev.addressed f = true ∧ s.dev.rxMatch f = none))) ∧
    (∃ (typ : Fin 8) (ident : BitVec 29) (seq : BitVec 8) (data : List (BitVec 8)) (crc : BitVec 17) (sof : Nat) (t : Nat) (s : State),
      s.dev.busHears = true ∧ s.dev.bus.cur = none ∧ typ.val < 3 ∧ (typ.val = 0 → ident.toNat % 64 < 0x34 ∨
      ident.toNat % 64 = 0x3F) ∧ (let f : BusFrame := ⟨typ.val, ident.toNat, seq.toNat, data.take 64, sof⟩;
      (let good := crc.toNat = headerCrc f s.dev.drate; (¬good)))) ∧
    (∃ (typ : Fin 8) (ident : BitVec 29) (seq : BitVec 8) (data : List (BitVec 8)) (crc : BitVec 17) (sof : Nat) (t : Nat) (s : State),
      s.dev.busHears = true ∧ s.dev.bus.cur = none ∧ typ.val < 3 ∧ (typ.val = 0 → ident.toNat % 64 < 0x34 ∨
      ident.toNat % 64 = 0x3F) ∧ (let f : BusFrame := ⟨typ.val, ident.toNat, seq.toNat, data.take 64, sof⟩;
      (let good := crc.toNat = headerCrc f s.dev.drate; good ∧ good ∧ s.dev.addressed f = false))) ∧
    (∃ (k : Fin 48) (t : Nat) (n : Nat) (x : Tx) (bs : List Byte) (w : RxWrite) (s : State), s.dev.tag k = some x ∧
      x.data = some bs ∧ s.dev.handshakeDue k x = true ∧ x.progress + 1 = x.units.length ∧ rxPlace (k / 2) x.addr = some n ∧
      s.dev.bus.rxWrites.find? (fun y => decide (y.buf = n)) = some w ∧ n < 64 ∧ w.left ≤ 1) ∧
    (∃ (k : Fin 48) (t : Nat) (n : Nat) (x : Tx) (bs : List Byte) (w : RxWrite) (s : State), s.dev.tag k = some x ∧
      x.data = some bs ∧ s.dev.handshakeDue k x = true ∧ x.progress + 1 = x.units.length ∧ rxPlace (k / 2) x.addr = some n ∧
      s.dev.bus.rxWrites.find? (fun y => decide (y.buf = n)) = some w ∧ n < 64 ∧ 1 < w.left) ∧
    (∃ (n : Fin 64) (t : Nat) (s : State), (s.dev.rxCode n).testBit 2 = true ∧ (s.dev.rxCode n).testBit 0 = false ∧
      (let mp := s.dev.flagAt pBUF PBUS_BUF.RX_CFG_TO_MP n; mp = false)) :=
  ⟨⟨0, 0x12, 7, [5, 6], BitVec.ofNat 17 (headerCrc ⟨0, 0x12, 7, [5, 6], 100⟩ Dev.reset.drate), 100, 200000,
     st onBus, by decide +kernel⟩,
   ⟨1, 0x12, 7, [], 0, 100, 200000, st onBus, by decide +kernel⟩,
   ⟨1, 0x12, 7, [], BitVec.ofNat 17 (headerCrc ⟨1, 0x12, 7, [], 100⟩ Dev.reset.drate), 100, 200000,
     st onBus, by decide +kernel⟩,
   ⟨44, 5, 0, ⟨some (List.replicate 4 0), 0x100B2000, 4, 0, 0, 0, 0, false, none, [], some 0⟩, List.replicate 4 0, ⟨0, 1,
     ⟨0, 0x12, 7, [], 100⟩⟩,
     st (fun (d : Dev) => { (d.setArb 11 ⟨some 44, 0, 4, 0, List.replicate 24 0, [], none⟩).setTag 44 (some ⟨some (List.replicate 4 0), 0x100B2000, 4, 0, 0, 0, 0, false, none, [], some 0⟩) with bus := { d.bus with rxWrites := [⟨0, 1, ⟨0, 0x12, 7, [], 100⟩⟩] } }), by decide +kernel⟩,
   ⟨44, 5, 0, ⟨some (List.replicate 4 0), 0x100B2000, 4, 0, 0, 0, 0, false, none, [], some 0⟩, List.replicate 4 0, ⟨0, 2,
     ⟨0, 0x12, 7, [], 100⟩⟩,
     st (fun (d : Dev) => { (d.setArb 11 ⟨some 44, 0, 4, 0, List.replicate 24 0, [], none⟩).setTag 44 (some ⟨some (List.replicate 4 0), 0x100B2000, 4, 0, 0, 0, 0, false, none, [], some 0⟩) with bus := { d.bus with rxWrites := [⟨0, 2, ⟨0, 0x12, 7, [], 100⟩⟩] } }), by decide +kernel⟩,
   ⟨0, 5, st (fun (d : Dev) => (d.put pBUF PBUS_BUF.RX_CFG_TO_MP 0).setRxCode 0 4), by decide +kernel⟩⟩

theorem hyps_NetworkTimeFollowsTheMaster :
    (∃ (ident : BitVec 29) (seq : BitVec 8) (data : List (BitVec 8)) (crc : BitVec 17) (sof : Nat) (t : Nat) (s : State),
      s.dev.busHears = true ∧ s.dev.bus.cur = none ∧ s.dev.bus.nt.masterAt = none ∧ s.dev.bus.nt.valid = true ∧
      (data.take 64).length = 8 ∧ (let f : BusFrame := ⟨3, ident.toNat, seq.toNat, data.take 64, sof⟩;
      (let good := crc.toNat = headerCrc f s.dev.drate;
      (let r := ((dataWord f 0).toNat * 400000000 + (dataWord f 4).toNat) * 32;
      (let e : Int := (r : Int) + s.dev.get pTIME PBUS_TIME.PROP_DLY_TAPS - s.dev.bus.nt.tapsI sof;
      (let thr := s.dev.get pTIME PBUS_TIME.STEP_THR_TAPS;
      (let ok := (dataWord f 4).toNat < 400000000 ∧ r % (s.dev.cycle * 32) = 0 ∧ seq.toNat = r / (s.dev.cycle * 32) % 64;
      good ∧ ok ∧ e.natAbs ≤ thr))))))) ∧
    (∃ (ident : BitVec 29) (seq : BitVec 8) (data : List (BitVec 8)) (crc : BitVec 17) (sof : Nat) (t : Nat) (s : State),
      s.dev.busHears = true ∧ s.dev.bus.cur = none ∧ s.dev.bus.nt.masterAt = none ∧ s.dev.bus.nt.valid = true ∧
      (data.take 64).length = 8 ∧ (let f : BusFrame := ⟨3, ident.toNat, seq.toNat, data.take 64, sof⟩;
      (let good := crc.toNat = headerCrc f s.dev.drate;
      (let r := ((dataWord f 0).toNat * 400000000 + (dataWord f 4).toNat) * 32;
      (let e : Int := (r : Int) + s.dev.get pTIME PBUS_TIME.PROP_DLY_TAPS - s.dev.bus.nt.tapsI sof;
      (let thr := s.dev.get pTIME PBUS_TIME.STEP_THR_TAPS;
      (let ok := (dataWord f 4).toNat < 400000000 ∧ r % (s.dev.cycle * 32) = 0 ∧ seq.toNat = r / (s.dev.cycle * 32) % 64;
      good ∧ ok ∧ thr < e.natAbs))))))) ∧
    (∃ (ident : BitVec 29) (seq : BitVec 8) (data : List (BitVec 8)) (crc : BitVec 17) (sof : Nat) (t : Nat) (s : State),
      s.dev.busHears = true ∧ s.dev.bus.cur = none ∧ s.dev.bus.nt.masterAt = none ∧ s.dev.bus.nt.valid = true ∧
      (data.take 64).length = 8 ∧ (let f : BusFrame := ⟨3, ident.toNat, seq.toNat, data.take 64, sof⟩;
      (let good := crc.toNat = headerCrc f s.dev.drate;
      (let r := ((dataWord f 0).toNat * 400000000 + (dataWord f 4).toNat) * 32;
      (let e : Int := (r : Int) + s.dev.get pTIME PBUS_TIME.PROP_DLY_TAPS - s.dev.bus.nt.tapsI sof;
      (let thr := s.dev.get pTIME PBUS_TIME.STEP_THR_TAPS;
      (let ok := (dataWord f 4).toNat < 400000000 ∧ r % (s.dev.cycle * 32) = 0 ∧ seq.toNat = r / (s.dev.cycle * 32) % 64;
      (¬good)))))))) ∧
    (∃ (t : Nat) (s : State), s.dev.bus.nt.masterAt = none ∧ s.dev.bus.nt.locked = false ∧
      max 1 (s.dev.get pTIME PBUS_TIME.NT_CFG_LOCK_N) ≤ s.dev.bus.nt.good) ∧
    (∃ (t : Nat) (s : State), s.dev.bus.nt.masterAt = none ∧ s.dev.bus.nt.locked = true ∧
      s.dev.get pTIME PBUS_TIME.NT_CFG_MISS_N ≤ s.dev.bus.nt.missed) ∧
    (∃ (t : Nat) (a : Int) (b : Int) (c : Int) (s : State), s.dev.bus.nt.rejects = [a, b, c] ∧ (∀ x ∈ [a, b, c], ∀ y ∈ [a,
      b, c], x - y ≤ (s.dev.get pTIME PBUS_TIME.LOCK_ERR_TAPS : Int))) ∧
    (∃ (t : Nat) (s : State), s.dev.bus.nt.masterAt = none) ∧
    (∃ (t : Nat) (s : State), s.dev.bus.nt.masterAt.isSome = true) ∧
    (∃ (idle : Bool) (lost : Bool) (t : Nat) (s : State), s.dev.ntCross 0 t = true ∧ (let n := s.dev.bus.nt;
      n.setPend = false ∧ n.masterAt = none)) ∧
    (∃ (idle : Bool) (lost : Bool) (t : Nat) (s : State), s.dev.ntCross 0 t = true ∧ (let n := s.dev.bus.nt;
      n.masterAt.isSome = true ∧ n.setPend = true)) ∧
    (∃ (idle : Bool) (lost : Bool) (t : Nat) (s : State), s.dev.ntCross 0 t = false) ∧
    (∃ (t : Nat) (s : State), s.dev.schedRefusal = none) :=
  ⟨⟨0, 0, List.replicate 8 0, BitVec.ofNat 17 (headerCrc ⟨3, 0, 0, List.replicate 8 0, 0⟩ Dev.reset.drate), 0, 10,
     st (fun (d : Dev) => onBus (ntm (fun n => { n with valid := true, rate := 5, good := 7 }) d)), by decide +kernel⟩,
   ⟨0, 0, List.replicate 8 0, BitVec.ofNat 17 (headerCrc ⟨3, 0, 0, List.replicate 8 0, 1000000⟩ Dev.reset.drate), 1000000,
     1000110,
     st (fun (d : Dev) => onBus (ntm (fun n => { n with valid := true, rate := 5, good := 7 }) d)), by decide +kernel⟩,
   ⟨0, 0, List.replicate 8 0, 1, 0, 10,
     st (fun (d : Dev) => onBus (ntm (fun n => { n with valid := true, rate := 5, good := 7 }) d)), by decide +kernel⟩,
   ⟨0, st (ntm (fun n => { n with good := 255 })), by decide +kernel⟩,
   ⟨0, st (ntm (fun n => { n with locked := true, missed := 255, valid := true })), by decide +kernel⟩,
   ⟨9, 5, 5, 5, st (ntm (fun n => { n with rejects := [5, 5, 5], valid := true })), by decide +kernel⟩,
   ⟨9, State.reset, by decide +kernel⟩,
   ⟨9, st (ntm (fun n => { n with masterAt := some 3, valid := true })), by decide +kernel⟩,
   ⟨true, false, 819200000,
     st (fun (d : Dev) => bs (fun b => { b with nt := { b.nt with valid := true }, latch := some ⟨[], [(25, 1)], 0⟩ }) d), by decide +kernel⟩,
   ⟨true, false, 819200000,
     st (fun (d : Dev) => onBus (bs (fun b => { b with nt := { b.nt with valid := true, masterAt := some 0, setPend := true } }) d)), by decide +kernel⟩,
   ⟨true, false, 5, State.reset, by decide +kernel⟩,
   ⟨9, st (fun (d : Dev) => d.setReg (PBUS_SCHED.COL_START_TICKS.addr pSCHED 0) 300000), by decide +kernel⟩⟩

theorem hyps_LinksCarryFramesWithCredit :
    (∃ (up : Bool) (chars : Nat) (t : Nat) (s : State), (s.dev.port up).alive = false ∧ (s.dev.port up).link ≠ 3 ∧
      256 ≤ chars) ∧
    (∃ (up : Bool) (chars : Nat) (t : Nat) (s : State), ((s.dev.port up).link = 2 ∨ (s.dev.port up).link = 3 ∨ chars < 256)) ∧
    (∃ (up : Bool) (chars : Nat) (t : Nat) (s : State), (s.dev.port up).alive = true ∧ (s.dev.port up).link = 1 ∧
      256 ≤ chars) ∧
    (∃ (up : Bool) (ka : Nat) (t : Nat) (s : State), (s.dev.port up).alive = true ∧ (s.dev.port up).lastRx + 1280000 ≤ t ∧
      ka + 1280000 ≤ t) ∧
    (∃ (up : Bool) (ka : Nat) (t : Nat) (s : State), ((s.dev.port up).alive = false ∨ t < (s.dev.port up).lastRx + 1280000 ∨
      t < ka + 1280000)) ∧
    (∃ (up : Bool) (t : Nat) (s : State), (s.dev.port up).link = 2 ∧ (s.dev.port up).lastTx + 128000 ≤ t) ∧
    (∃ (up : Bool) (q : Fin 64) (t : Nat) (s : State), (let x := s.dev.port up;
      x.unacked.findIdx? (fun u => decide (u.seq = q.val)) = none)) ∧
    (∃ (up : Bool) (q : Fin 64) (t : Nat) (s : State), (s.dev.port up).link = 2) ∧
    (∃ (up : Bool) (q : Fin 64) (t : Nat) (s : State), (s.dev.port up).link = 2 ∧ (let x := s.dev.port up;
      (let f := if up then CHAIN.RETX_UP else CHAIN.RETX_DN; x.unacked.findIdx? (fun u => decide (u.seq = q.val)) = none))) ∧
    (∃ (up : Bool) (f : Machine.ChainFrame) (eof : Bool) (bad : List Nat) (t : Nat) (s : State), (s.dev.port up).link = 2 ∧
      (let x := s.dev.port up; (let named := f.typ = 5 → 1 ≤ bitsGet f.w1 31 24 ∧ bitsGet f.w1 31 24 ≤ 6;
      (let good := bitsGet f.w2 15 0 = f.crc ∧ eof = true ∧ f.payload.length = f.payloadLen ∧ f.payloadLen ≤ 64 ∧ f.lseq = x.rxSeq ∧ x.rxBufs.length < 8;
      (let errs := if up then CHAIN.HDR_ERR_UP else CHAIN.HDR_ERR_DN; named ∧ named ∧ good))))) ∧
    (∃ (up : Bool) (f : Machine.ChainFrame) (eof : Bool) (bad : List Nat) (t : Nat) (s : State), (s.dev.port up).link = 2 ∧
      (let x := s.dev.port up; (let named := f.typ = 5 → 1 ≤ bitsGet f.w1 31 24 ∧ bitsGet f.w1 31 24 ≤ 6;
      (let good := bitsGet f.w2 15 0 = f.crc ∧ eof = true ∧ f.payload.length = f.payloadLen ∧ f.payloadLen ≤ 64 ∧ f.lseq = x.rxSeq ∧ x.rxBufs.length < 8;
      (let errs := if up then CHAIN.HDR_ERR_UP else CHAIN.HDR_ERR_DN; named ∧ named ∧ ¬good))))) ∧
    (∃ (up : Bool) (f : Machine.ChainFrame) (eof : Bool) (bad : List Nat) (t : Nat) (s : State), (s.dev.port up).link = 2 ∧
      (let x := s.dev.port up; (let named := f.typ = 5 → 1 ≤ bitsGet f.w1 31 24 ∧ bitsGet f.w1 31 24 ≤ 6;
      (let good := bitsGet f.w2 15 0 = f.crc ∧ eof = true ∧ f.payload.length = f.payloadLen ∧ f.payloadLen ≤ 64 ∧ f.lseq = x.rxSeq ∧ x.rxBufs.length < 8;
      (let errs := if up then CHAIN.HDR_ERR_UP else CHAIN.HDR_ERR_DN; (¬named ∧ good ∧ f.bcast = false ∧ up = true ∧
      s.dev.addressed' = true ∧ f.dest = s.dev.ownSrc ∧ s.dev.boot.inReset = none ∧ x.rxBufs.contains f = false)))))) ∧
    (∃ (up : Bool) (t : Nat) (s : State), (s.dev.port up).link = 2 ∧ (let x := s.dev.port up;
      (let held := (s.dev.port (!up)).rxBufs.filter (fun g => s.dev.passes (!up) g); x.credit = 0))) ∧
    (∃ (t : Nat) (f : Machine.ChainFrame) (s : State), s.dev.chain.dn.link ≠ 2 ∧ s.dev.addressed' = true ∧
      s.dev.chain.overflow = false ∧ firstOf (s.dev.chain.up.rxBufs.filter (fun g => s.dev.passes true g)) = some f ∧
      f.request = true) ∧
    (∃ (close : Bool) (t : Nat) (s : State), (let was := s.dev.flag pCHAIN CHAIN.CTRL_CLOSE_DN; close = false ∧ was = true)) ∧
    (∃ (close : Bool) (t : Nat) (s : State), (let was := s.dev.flag pCHAIN CHAIN.CTRL_CLOSE_DN; close = was)) ∧
    (∃ (f : Machine.ChainFrame) (t : Nat) (s : State), f.typ = 0xB ∧ s.dev.addressed' = true ∧ f.dest = s.dev.ownSrc ∧
      s.dev.chain.queue.length < 32) ∧
    (∃ (f : Machine.ChainFrame) (t : Nat) (s : State), f.typ = 0xB ∧ s.dev.addressed' = true ∧ f.dest = s.dev.ownSrc ∧
      32 ≤ s.dev.chain.queue.length) ∧
    (∃ (t : Nat) (s : State), (let d := (s.dev.begin t).sdAllDue t;
      (let due := d.irqOr = true ∧ d.flag pSYS SYS.IRQ_ROUTE_HOST = true ∧ (s.dev.chain.irqOr = false ∨ ∀ a, s.dev.chain.irqSent = some a → a + 1280000 ≤ t);
      (¬due)))) ∧
    (∃ (t : Nat) (s : State), (let d := (s.dev.begin t).sdAllDue t;
      (let due := d.irqOr = true ∧ d.flag pSYS SYS.IRQ_ROUTE_HOST = true ∧ (s.dev.chain.irqOr = false ∨ ∀ a, s.dev.chain.irqSent = some a → a + 1280000 ≤ t);
      due))) :=
  ⟨⟨true, 256, 5, State.reset, by decide +kernel⟩,
   ⟨true, 255, 5, State.reset, by decide +kernel⟩,
   ⟨false, 256, 5,
     st (prt false (fun x => { x with link := 1, credit := 7, unacked := [⟨0, fr 1 0x10000000 1 [], 0⟩] })), by decide +kernel⟩,
   ⟨true, 5, 1280005, st (prt true (fun x => { x with link := 2 })), by decide +kernel⟩,
   ⟨true, 5, 1280004, st (prt true (fun x => { x with link := 2 })), by decide +kernel⟩,
   ⟨true, 128000, st (prt true (fun x => { x with link := 2 })), by decide +kernel⟩,
   ⟨false, 5, 0,
     st (prt false (fun x => { x with link := 2, unacked := [⟨3, fr 1 0x10000000 1 [], 0⟩, ⟨4, fr 1 0x10000000 1 [], 0⟩] })), by decide +kernel⟩,
   ⟨true, 3, 0,
     st (prt true (fun x => { x with link := 2, unacked := [⟨3, fr 1 0x10000000 1 [], 0⟩, ⟨4, fr 1 0x10000000 1 [], 0⟩] })), by decide +kernel⟩,
   ⟨false, 9, 1,
     st (prt false (fun x => { x with link := 2, unacked := [⟨3, fr 1 0x10000000 1 [], 0⟩, ⟨4, fr 1 0x10000000 1 [], 14⟩] })), by decide +kernel⟩,
   ⟨true, fr 1 0x10000000 1 [], true, [], 0, st (prt true (fun x => { x with link := 2 })), by decide +kernel⟩,
   ⟨true, fr 1 0x10000000 1 [], true, [], 0, st (prt true (fun x => { x with link := 2, rxSeq := 1 })), by decide +kernel⟩,
   ⟨true, fr 5 0x07000000 0 [], true, [], 0,
     st (fun (d : Dev) => addr (prt true (fun x => { x with link := 2 }) d)), by decide +kernel⟩,
   ⟨true, 5, st (prt true (fun x => { x with link := 2 })), by decide +kernel⟩,
   ⟨5, ⟨0x10400000, 0, 0, []⟩,
     st (fun (d : Dev) => addr (prt true (fun x => { x with rxBufs := [⟨0x10400000, 0, 0, []⟩] }) d)), by decide +kernel⟩,
   ⟨false, 5, st (fun (d : Dev) => d.put pCHAIN CHAIN.CTRL_CLOSE_DN 1), by decide +kernel⟩,
   ⟨false, 5, State.reset, by decide +kernel⟩,
   ⟨fr 11 0 0 [], 5, st addr, by decide +kernel⟩,
   ⟨fr 11 0 0 [], 5,
     st (fun (d : Dev) => addr (chn (fun c => { c with queue := List.replicate 32 (fr 1 0 1 []) }) d)), by decide +kernel⟩,
   ⟨5, State.reset, by decide +kernel⟩,
   ⟨5,
     st (fun (d : Dev) => ((d.put pSYS SYS.IRQ_ROUTE_HOST 1).setReg 0x14 0xFFFFFFFF).put pSYS SYS.IRQ_RAW_REFUSED 1), by decide +kernel⟩⟩

theorem hyps_RequestsAndEnumerationOfTheChain :
    (∃ (f : Machine.ChainFrame) (arrived : Nat) (ready : Nat) (t : Nat) (felt : Option Nat) (fromUp : Bool) (s : State) (c : Instr),
      s.dev.addressed' = true ∧ f.dest = s.dev.ownSrc ∧ t ≤ arrived + f.limit ∧ ready ≤ arrived + f.limit ∧
      s.dev.boot.inReset = none ∧ bitsGet f.w0 7 0 ≠ s.dev.epoch ∧ (c = .read f arrived ready felt t ∧ f.typ = 1 ∨
      c = .write f arrived ready felt t ∧ f.typ = 2 ∨ f.typ = 5 ∧ f.bcast = false ∧
      (c = .chainReset f fromUp arrived ready t ∧ bitsGet f.w1 31 24 = 1 ∨ c = .engineReset f fromUp arrived ready t ∧
      bitsGet f.w1 31 24 = 2 ∨ c = .arm f fromUp arrived ready t ∧ bitsGet f.w1 31 24 = 3 ∨
      c = .clearRetry f fromUp arrived ready t ∧ bitsGet f.w1 31 24 = 4 ∨ c = .debugHalt f fromUp arrived ready t ∧
      bitsGet f.w1 31 24 = 5 ∨ c = .debugResume f fromUp arrived ready t ∧ bitsGet f.w1 31 24 = 6))) ∧
    (∃ (f : Machine.ChainFrame) (arrived : Nat) (ready : Nat) (t : Nat) (s : State), f.typ = 1 ∧ s.dev.addressed' = true ∧
      f.dest = s.dev.ownSrc ∧ t ≤ arrived + f.limit ∧ ready ≤ arrived + f.limit ∧ s.dev.boot.inReset = none ∧
      bitsGet f.w0 7 0 = s.dev.epoch ∧ 0x100000 ≤ f.w1.toNat) ∧
    (∃ (f : Machine.ChainFrame) (arrived : Nat) (ready : Nat) (t : Nat) (s : State), f.typ = 2 ∧ s.dev.addressed' = true ∧
      f.dest = s.dev.ownSrc ∧ t ≤ arrived + f.limit ∧ ready ≤ arrived + f.limit ∧ s.dev.boot.inReset = none ∧
      bitsGet f.w0 7 0 = s.dev.epoch ∧ f.payload.length = f.len ∧ 0x20000000 ≤ f.w1.toNat ∧ f.w1.toNat < 0x20400000 ∧
      s.dev.accessStatus true f.w1.toNat f.len = 0) ∧
    (∃ (f : Machine.ChainFrame) (arrived : Nat) (ready : Nat) (t : Nat) (s : State), f.typ = 2 ∧ s.dev.addressed' = true ∧
      f.dest = s.dev.ownSrc ∧ t ≤ arrived + f.limit ∧ ready ≤ arrived + f.limit ∧ s.dev.boot.inReset = none ∧
      bitsGet f.w0 7 0 = s.dev.epoch ∧ f.payload.length = f.len ∧ 0x20000000 ≤ f.w1.toNat ∧ f.w1.toNat < 0x20400000 ∧
      s.dev.accessStatus true f.w1.toNat f.len ≠ 0) ∧
    (∃ (f : Machine.ChainFrame) (arrived : Nat) (t : Nat) (s : State), f.request = true ∧ arrived + f.limit < t) ∧
    (∃ (f : Machine.ChainFrame) (fromUp : Bool) (arrived : Nat) (ready : Nat) (t : Nat) (s : State), f.typ = 5 ∧
      f.bcast = false ∧ s.dev.addressed' = true ∧ f.dest = s.dev.ownSrc ∧ t ≤ arrived + f.limit ∧
      ready ≤ arrived + f.limit ∧ s.dev.boot.inReset = none ∧ bitsGet f.w0 7 0 = s.dev.epoch ∧ bitsGet f.w1 31 24 = 1) ∧
    (∃ (f : Machine.ChainFrame) (fromUp : Bool) (arrived : Nat) (ready : Nat) (t : Nat) (s : State), f.typ = 5 ∧
      f.bcast = false ∧ s.dev.addressed' = true ∧ f.dest = s.dev.ownSrc ∧ t ≤ arrived + f.limit ∧
      ready ≤ arrived + f.limit ∧ s.dev.boot.inReset = none ∧ bitsGet f.w0 7 0 = s.dev.epoch ∧ bitsGet f.w1 31 24 = 2 ∧
      bitsGet f.w1 23 0 % 16 ≠ 15) ∧
    (∃ (f : Machine.ChainFrame) (fromUp : Bool) (arrived : Nat) (ready : Nat) (t : Nat) (s : State), f.typ = 5 ∧
      f.bcast = false ∧ s.dev.addressed' = true ∧ f.dest = s.dev.ownSrc ∧ t ≤ arrived + f.limit ∧
      ready ≤ arrived + f.limit ∧ s.dev.boot.inReset = none ∧ bitsGet f.w0 7 0 = s.dev.epoch ∧ bitsGet f.w1 31 24 = 2 ∧
      bitsGet f.w1 23 0 % 16 = 15) ∧
    (∃ (f : Machine.ChainFrame) (fromUp : Bool) (arrived : Nat) (ready : Nat) (t : Nat) (s : State), f.typ = 5 ∧
      f.bcast = false ∧ s.dev.addressed' = true ∧ f.dest = s.dev.ownSrc ∧ t ≤ arrived + f.limit ∧
      ready ≤ arrived + f.limit ∧ s.dev.boot.inReset = none ∧ bitsGet f.w0 7 0 = s.dev.epoch ∧ bitsGet f.w1 31 24 = 3) ∧
    (∃ (f : Machine.ChainFrame) (fromUp : Bool) (arrived : Nat) (ready : Nat) (t : Nat) (s : State), f.typ = 5 ∧
      f.bcast = false ∧ s.dev.addressed' = true ∧ f.dest = s.dev.ownSrc ∧ t ≤ arrived + f.limit ∧
      ready ≤ arrived + f.limit ∧ s.dev.boot.inReset = none ∧ bitsGet f.w0 7 0 = s.dev.epoch ∧ bitsGet f.w1 31 24 = 4 ∧
      (s.dev.boot.muslin = false ∨ s.dev.flag pBOOT BOOT.STATUS_DL_GOOD = false)) ∧
    (∃ (f : Machine.ChainFrame) (fromUp : Bool) (arrived : Nat) (ready : Nat) (t : Nat) (s : State), f.typ = 5 ∧
      f.bcast = false ∧ s.dev.addressed' = true ∧ f.dest = s.dev.ownSrc ∧ t ≤ arrived + f.limit ∧
      ready ≤ arrived + f.limit ∧ s.dev.boot.inReset = none ∧ bitsGet f.w0 7 0 = s.dev.epoch ∧ bitsGet f.w1 31 24 = 4 ∧
      s.dev.boot.muslin = true ∧ s.dev.flag pBOOT BOOT.STATUS_DL_GOOD = true ∧
      (∀ x ∈ (imgSections ((s.dev.begin t).download s.mem)).getD [], x.typ ≠ 2 ∧ x.typ ≠ 4)) ∧
    (∃ (f : Machine.ChainFrame) (fromUp : Bool) (arrived : Nat) (ready : Nat) (t : Nat) (s : State), f.typ = 5 ∧
      f.bcast = false ∧ s.dev.addressed' = true ∧ f.dest = s.dev.ownSrc ∧ t ≤ arrived + f.limit ∧
      ready ≤ arrived + f.limit ∧ s.dev.boot.inReset = none ∧ bitsGet f.w0 7 0 = s.dev.epoch ∧ bitsGet f.w1 31 24 = 5 ∧
      s.dev.flag pSYS SYS.DBG_CTRL_DBG_EN = false) ∧
    (∃ (f : Machine.ChainFrame) (fromUp : Bool) (arrived : Nat) (ready : Nat) (t : Nat) (s : State), f.typ = 5 ∧
      f.bcast = false ∧ s.dev.addressed' = true ∧ f.dest = s.dev.ownSrc ∧ t ≤ arrived + f.limit ∧
      ready ≤ arrived + f.limit ∧ s.dev.boot.inReset = none ∧ bitsGet f.w0 7 0 = s.dev.epoch ∧ bitsGet f.w1 31 24 = 5 ∧
      s.dev.flag pSYS SYS.DBG_CTRL_DBG_EN = true ∧ s.dev.pw.halted = false) ∧
    (∃ (f : Machine.ChainFrame) (fromUp : Bool) (arrived : Nat) (ready : Nat) (t : Nat) (s : State), f.typ = 5 ∧
      f.bcast = false ∧ s.dev.addressed' = true ∧ f.dest = s.dev.ownSrc ∧ t ≤ arrived + f.limit ∧
      ready ≤ arrived + f.limit ∧ s.dev.boot.inReset = none ∧ bitsGet f.w0 7 0 = s.dev.epoch ∧ bitsGet f.w1 31 24 = 6 ∧
      s.dev.pw.halted = false) ∧
    (∃ (f : Machine.ChainFrame) (fromUp : Bool) (arrived : Nat) (ready : Nat) (t : Nat) (s : State), f.typ = 5 ∧
      f.bcast = false ∧ s.dev.addressed' = true ∧ f.dest = s.dev.ownSrc ∧ t ≤ arrived + f.limit ∧
      ready ≤ arrived + f.limit ∧ s.dev.boot.inReset = none ∧ bitsGet f.w0 7 0 = s.dev.epoch ∧ bitsGet f.w1 31 24 = 6 ∧
      s.dev.pw.halted = true) ∧
    (∃ (f : Machine.ChainFrame) (fromUp : Bool) (arrived : Nat) (ready : Nat) (t : Nat) (s : State), f.typ = 5 ∧
      f.bcast = true ∧ s.dev.addressed' = true ∧ bitsGet f.w1 31 24 = 3) ∧
    (∃ (f : Machine.ChainFrame) (fromUp : Bool) (arrived : Nat) (ready : Nat) (t : Nat) (s : State), f.typ = 5 ∧
      f.bcast = true ∧ s.dev.addressed' = true ∧ bitsGet f.w1 31 24 = 5) ∧
    (∃ (f : Machine.ChainFrame) (t : Nat) (s : State), (s.dev.spiOn = false ∨ bitsGet f.w2 15 0 ≠ f.crc)) ∧
    (∃ (f : Machine.ChainFrame) (t : Nat) (s : State), s.dev.spiOn = true ∧ bitsGet f.w2 15 0 = f.crc ∧
      s.dev.boot.inReset = none ∧ f.typ = 1 ∧ 0x100000 ≤ f.w1.toNat) ∧
    (∃ (w : Word) (t : Nat) (s : State), bitsGet w 31 24 = 3) ∧
    (∃ (w : Word) (t : Nat) (s : State), bitsGet w 31 24 ≠ 3) ∧
    (∃ (f : Machine.ChainFrame) (t : Nat) (s : State), f.typ = 7 ∧ (let p := bitsGet f.w1 6 0; (let e := bitsGet f.w1 15 8;
      p < 64))) ∧
    (∃ (f : Machine.ChainFrame) (t : Nat) (s : State), f.typ = 7 ∧ (let p := bitsGet f.w1 6 0; (let e := bitsGet f.w1 15 8;
      64 ≤ p))) ∧
    (∃ (f : Machine.ChainFrame) (t : Nat) (s : State), f.typ = 8 ∧ s.dev.addressed' = true) ∧
    (∃ (f : Machine.ChainFrame) (t : Nat) (s : State), f.typ = 8 ∧ s.dev.addressed' = false) ∧
    (∃ (f : Machine.ChainFrame) (t : Nat) (s : State), f.typ = 9 ∧ s.dev.addressed' = true) ∧
    (∃ (t : Nat) (s : State), s.dev.addressed' = true ∧ s.dev.chain.dn.link = 2) ∧
    (∃ (t : Nat) (s : State), (s.dev.addressed' = false ∨ s.dev.chain.dn.link ≠ 2)) :=
  ⟨⟨⟨0x10000001, 0x10000000, 0x02000000, []⟩, 0, 1280000, 1280000, none, true, st addr, .read ⟨0x10000001, 0x10000000,
     0x02000000, []⟩ 0 1280000 none 1280000, by decide +kernel⟩,
   ⟨fr 1 0x10000000 2 [], 0, 1280000, 1280000, { st addr with mem := [(0x10000001, 7)] }, by decide +kernel⟩,
   ⟨fr 2 0x20000000 1 [5], 0, 0, 0, st addr, by decide +kernel⟩,
   ⟨fr 2 0x203FFFFC 2 [5, 6], 0, 0, 0, st addr, by decide +kernel⟩,
   ⟨fr 1 0 1 [], 0, 1280001, st (prt true (fun x => { x with rxBufs := [fr 1 0 1 []] })), by decide +kernel⟩,
   ⟨fr 5 0x01000000 0 [], true, 0, 1280000, 1280000, st addr, by decide +kernel⟩,
   ⟨fr 5 0x02000003 0 [], true, 0, 0, 0, st addr, by decide +kernel⟩,
   ⟨fr 5 0x0200000F 0 [], false, 0, 0, 0, st addr, by decide +kernel⟩,
   ⟨fr 5 0x03000000 0 [], true, 0, 1280000, 1280000, st addr, by decide +kernel⟩,
   ⟨fr 5 0x04000000 0 [], true, 0, 0, 0, st addr, by decide +kernel⟩,
   ⟨fr 5 0x04000000 0 [], true, 0, 0, 0,
     st (fun (d : Dev) => (bt (fun b => { b with muslin := true }) (addr d)).put pBOOT BOOT.STATUS_DL_GOOD 1), by decide +kernel⟩,
   ⟨fr 5 0x05000000 0 [], true, 0, 1280000, 1280000, st addr, by decide +kernel⟩,
   ⟨fr 5 0x05000000 0 [], true, 0, 0, 0, st (fun (d : Dev) => (addr d).put pSYS SYS.DBG_CTRL_DBG_EN 1), by decide +kernel⟩,
   ⟨fr 5 0x06000000 0 [], true, 0, 1280000, 1280000, st addr, by decide +kernel⟩,
   ⟨fr 5 0x06000000 0 [], true, 0, 0, 0,
     st (fun (d : Dev) => eg 0 (fun e => { e with st := .halted, stHeld := .run }) (pwr (fun p => { p with halted := true }) (addr d))), by decide +kernel⟩,
   ⟨⟨0x50008000, 0x03000003, 0, []⟩, true, 0, 0, 0, st addr, by decide +kernel⟩,
   ⟨⟨0x50008000, 0x05000000, 0, []⟩, true, 0, 0, 0,
     st (fun (d : Dev) => (addr d).put pSYS SYS.DBG_CTRL_DBG_EN 1), by decide +kernel⟩,
   ⟨fr 1 0 1 [], 0, State.reset, by decide +kernel⟩,
   ⟨fr 1 0x20000000 2 [], 0, st (fun (d : Dev) => d.put pSYS SYS.BENCH_SPI_ON 1), by decide +kernel⟩,
   ⟨0x03000001, 0, State.reset, by decide +kernel⟩,
   ⟨0x05000001, 0, State.reset, by decide +kernel⟩,
   ⟨fr 7 0x0500 0 [], 0, State.reset, by decide +kernel⟩,
   ⟨fr 7 0x0540 0 [], 0, State.reset, by decide +kernel⟩,
   ⟨fr 8 0x0509 0 [], 0, st addr, by decide +kernel⟩,
   ⟨fr 8 0x0509 0 [], 0, State.reset, by decide +kernel⟩,
   ⟨fr 9 0x0509 0 [], 0, st addr, by decide +kernel⟩,
   ⟨0, st (fun (d : Dev) => addr (prt false (fun x => { x with link := 2 }) d)), by decide +kernel⟩,
   ⟨0, State.reset, by decide +kernel⟩⟩

theorem hyps_PllBypassAndClockOutputs :
    (∃ (t : Nat) (s : State), s.dev.flag pCLK CLK.CTRL_PLL_EN = false) ∧
    (∃ (t : Nat) (s : State), s.dev.flag pCLK CLK.CTRL_PLL_EN = true) ∧
    (∃ (count : BitVec 16) (t : Nat) (s : State), s.dev.boot.pll.st = 1 ∧ s.dev.boot.pll.failedAt = none ∧
      (let hit := countWithin count.toNat (s.dev.get pCLK CLK.BAND_TOL_COUNTS); hit = true)) ∧
    (∃ (count : BitVec 16) (t : Nat) (s : State), s.dev.boot.pll.st = 1 ∧ s.dev.boot.pll.failedAt = none ∧
      (let hit := countWithin count.toNat (s.dev.get pCLK CLK.BAND_TOL_COUNTS); hit = false ∧
      s.dev.nextBand (s.dev.boot.pll.band + 1) = none)) ∧
    (∃ (t : Nat) (a : Nat) (s : State), s.dev.flag pCLK CLK.CTRL_PLL_EN = true ∧ s.dev.boot.pll.st = 1 ∧
      s.dev.boot.pll.failedAt = some a ∧ a + 128000000 ≤ t) ∧
    (∃ (count : BitVec 16) (t : Nat) (s : State), (let p := s.dev.boot.pll;
      (let near := countWithin count.toNat (s.dev.get pCLK CLK.LOCK_CFG_LOCK_TOL);
      (let far := !countWithin count.toNat (s.dev.get pCLK CLK.LOCK_CFG_UNLOCK_TOL); (p.st = 2 ∨ p.st = 3) ∧ p.st = 2 ∧
      p.st = 2 ∧ p.opened = false)))) ∧
    (∃ (count : BitVec 16) (t : Nat) (s : State), (let p := s.dev.boot.pll;
      (let near := countWithin count.toNat (s.dev.get pCLK CLK.LOCK_CFG_LOCK_TOL);
      (let far := !countWithin count.toNat (s.dev.get pCLK CLK.LOCK_CFG_UNLOCK_TOL); (p.st = 2 ∨ p.st = 3) ∧ p.st = 2 ∧
      p.st = 2 ∧ p.opened = true ∧ near = true ∧ p.good + 1 < s.dev.get pCLK CLK.LOCK_CFG_LOCK_N)))) ∧
    (∃ (count : BitVec 16) (t : Nat) (s : State), (let p := s.dev.boot.pll;
      (let near := countWithin count.toNat (s.dev.get pCLK CLK.LOCK_CFG_LOCK_TOL);
      (let far := !countWithin count.toNat (s.dev.get pCLK CLK.LOCK_CFG_UNLOCK_TOL); (p.st = 2 ∨ p.st = 3) ∧ p.st = 2 ∧
      p.st = 2 ∧ p.opened = true ∧ near = false)))) ∧
    (∃ (count : BitVec 16) (t : Nat) (s : State), (let p := s.dev.boot.pll;
      (let near := countWithin count.toNat (s.dev.get pCLK CLK.LOCK_CFG_LOCK_TOL);
      (let far := !countWithin count.toNat (s.dev.get pCLK CLK.LOCK_CFG_UNLOCK_TOL); (p.st = 2 ∨ p.st = 3) ∧ p.st = 2 ∧
      p.st = 2 ∧ p.opened = true ∧ near = true ∧ s.dev.get pCLK CLK.LOCK_CFG_LOCK_N ≤ p.good + 1)))) ∧
    (∃ (count : BitVec 16) (t : Nat) (s : State), (let p := s.dev.boot.pll;
      (let near := countWithin count.toNat (s.dev.get pCLK CLK.LOCK_CFG_LOCK_TOL);
      (let far := !countWithin count.toNat (s.dev.get pCLK CLK.LOCK_CFG_UNLOCK_TOL); (p.st = 2 ∨ p.st = 3) ∧ p.st = 3 ∧
      far = true)))) ∧
    (∃ (count : BitVec 16) (t : Nat) (s : State), (let p := s.dev.boot.pll;
      (let near := countWithin count.toNat (s.dev.get pCLK CLK.LOCK_CFG_LOCK_TOL);
      (let far := !countWithin count.toNat (s.dev.get pCLK CLK.LOCK_CFG_UNLOCK_TOL); (p.st = 2 ∨ p.st = 3) ∧ p.st = 3 ∧
      far = false)))) ∧
    (∃ (count : BitVec 16) (t : Nat) (s : State), (let p := s.dev.boot.pll;
      (let near := countWithin count.toNat (s.dev.get pCLK CLK.LOCK_CFG_LOCK_TOL);
      (let far := !countWithin count.toNat (s.dev.get pCLK CLK.LOCK_CFG_UNLOCK_TOL); p.st ≠ 2 ∧ p.st ≠ 3)))) ∧
    (∃ (t : Nat) (s : State), (s.dev.boot.pll.st = 2 ∨ s.dev.boot.pll.st = 3) ∧ (s.dev.nextBand 0).isSome = true) ∧
    (∃ (t : Nat) (s : State), (s.dev.boot.pll.st = 2 ∨ s.dev.boot.pll.st = 3) ∧ s.dev.boot.bypass = false ∧
      s.dev.boot.bypassDue = none) ∧
    (∃ (t : Nat) (s : State), s.dev.boot.refOk = true ∧ s.dev.boot.bypass = true) ∧
    (∃ (t : Nat) (s : State), s.dev.boot.refOk = true ∧ s.dev.boot.bypass = false ∧ s.dev.boot.bypassDue = none) ∧
    (∃ (counts : List (BitVec 16)) (t : Nat) (s : State), s.dev.boot.refOk = false ∧ refGood counts = true) ∧
    (∃ (counts : List (BitVec 16)) (t : Nat) (s : State), s.dev.boot.refOk = false ∧ refGood counts = false) ∧
    (∃ (act : Bool) (t : Nat) (s : State), s.dev.boot.bypassDue = some act ∧ act = true ∧
      s.dev.flag pCLK CLK.CLK_CFG_BYPASS_ACTION = false ∧ s.seq.st.runs = true) ∧
    (∃ (act : Bool) (t : Nat) (s : State), s.dev.boot.bypassDue = some act ∧ act = true ∧
      s.dev.flag pCLK CLK.CLK_CFG_BYPASS_ACTION = false ∧ s.seq.st.runs = false) ∧
    (∃ (act : Bool) (t : Nat) (s : State), s.dev.boot.bypassDue = some act ∧ (act = false ∨
      s.dev.flag pCLK CLK.CLK_CFG_BYPASS_ACTION = true)) ∧
    (∃ (t : Nat) (a : Nat) (s : State), s.dev.boot.bypass = true ∧ s.dev.boot.pll.st = 3 ∧
      s.dev.boot.pll.lockedAt = some a ∧ a + max 1 (s.dev.get pCLK CLK.CLK_CFG_RETURN_MS) * 12800000 ≤ t) ∧
    (∃ (k : Fin 8) (t : Nat) (s : State), s.dev.bit pCLK CLK.TB_EN_EN k = false) ∧
    (∃ (k : Fin 8) (t : Nat) (s : State), s.dev.bit pCLK CLK.TB_EN_EN k = true) ∧
    (∃ (k : Fin 8) (t : Nat) (s : State), s.dev.bit pCLK CLK.TB_EN_EN k = true ∧ s.dev.tbHigh k t = none) :=
  ⟨⟨5, State.reset, by decide +kernel⟩,
   ⟨5, st (fun (d : Dev) => d.put pCLK CLK.CTRL_PLL_EN 1), by decide +kernel⟩,
   ⟨16384, 5,
     st (fun (d : Dev) => pl (fun p => { p with st := 1 }) (d.each (fun k d => if k = 3 then d else d.putAt pCLK CLK.BAND_VALID k 0) (List.range 16) |>.putAt pCLK CLK.BAND_VALID 3 1)), by decide +kernel⟩,
   ⟨0, 5,
     st (fun (d : Dev) => pl (fun p => { p with st := 1, band := 3 }) (d.each (fun k d => if k = 3 then d else d.putAt pCLK CLK.BAND_VALID k 0) (List.range 16) |>.putAt pCLK CLK.BAND_VALID 3 1)), by decide +kernel⟩,
   ⟨128000000, 0,
     st (fun (d : Dev) => pl (fun p => { p with st := 1, failedAt := some 0 }) ((d.each (fun k d => if k = 3 then d else d.putAt pCLK CLK.BAND_VALID k 0) (List.range 16) |>.putAt pCLK CLK.BAND_VALID 3 1).put pCLK CLK.CTRL_PLL_EN 1)), by decide +kernel⟩,
   ⟨16384, 5, st (pl (fun p => { p with st := 2 })), by decide +kernel⟩,
   ⟨16384, 5, st (pl (fun p => { p with st := 2, opened := true })), by decide +kernel⟩,
   ⟨0, 5, st (pl (fun p => { p with st := 2, opened := true })), by decide +kernel⟩,
   ⟨16384, 5, st (pl (fun p => { p with st := 2, opened := true, good := 300 })), by decide +kernel⟩,
   ⟨0, 5,
     st (fun (d : Dev) => pl (fun p => { p with st := 3 }) (d.each (fun k d => if k = 3 then d else d.putAt pCLK CLK.BAND_VALID k 0) (List.range 16) |>.putAt pCLK CLK.BAND_VALID 3 1)), by decide +kernel⟩,
   ⟨16384, 5,
     st (fun (d : Dev) => pl (fun p => { p with st := 3 }) (d.each (fun k d => if k = 3 then d else d.putAt pCLK CLK.BAND_VALID k 0) (List.range 16) |>.putAt pCLK CLK.BAND_VALID 3 1)), by decide +kernel⟩,
   ⟨0, 5, State.reset, by decide +kernel⟩,
   ⟨5,
     st (fun (d : Dev) => pl (fun p => { p with st := 2 }) (d.each (fun k d => if k = 3 then d else d.putAt pCLK CLK.BAND_VALID k 0) (List.range 16) |>.putAt pCLK CLK.BAND_VALID 3 1)), by decide +kernel⟩,
   ⟨5, st (bt (fun b => { b with bypass := false, pll := { b.pll with st := 3 } })), by decide +kernel⟩,
   ⟨5, st (bt (fun b => { b with refOk := true })), by decide +kernel⟩,
   ⟨5, st (bt (fun b => { b with refOk := true, bypass := false })), by decide +kernel⟩,
   ⟨List.replicate 16 2048, 5,
     st (fun (d : Dev) => (d.each (fun k d => if k = 3 then d else d.putAt pCLK CLK.BAND_VALID k 0) (List.range 16) |>.putAt pCLK CLK.BAND_VALID 3 1).put pCLK CLK.CTRL_PLL_EN 1), by decide +kernel⟩,
   ⟨2048 :: List.replicate 15 2048 ++ [1945], 5, State.reset, by decide +kernel⟩,
   ⟨true, 5,
     st (fun (d : Dev) => bt (fun b => { b with bypass := false, bypassDue := some true }) (runs (d.put pCLK CLK.CLK_CFG_BYPASS_ACTION 0))), by decide +kernel⟩,
   ⟨true, 5,
     st (fun (d : Dev) => bt (fun b => { b with bypass := false, bypassDue := some true }) (d.put pCLK CLK.CLK_CFG_BYPASS_ACTION 0)), by decide +kernel⟩,
   ⟨false, 5,
     st (fun (d : Dev) => bt (fun b => { b with bypass := false, bypassDue := some false }) (runs d)), by decide +kernel⟩,
   ⟨1000000000000000, 0, st (fun (d : Dev) => pl (fun p => { p with st := 3, lockedAt := some 0 }) d), by decide +kernel⟩,
   ⟨7, 33, State.reset, by decide +kernel⟩,
   ⟨0, 100000, st (fun (d : Dev) => d.setReg (CLK.TB_EN_EN.addr pCLK 0) 1), by decide +kernel⟩,
   ⟨0, 100000, st (fun (d : Dev) => d.setReg (CLK.TB_EN_EN.addr pCLK 0) 1), by decide +kernel⟩⟩

theorem hyps_CoreResetsBootAndImages :
    (∃ (since : Nat) (t : Nat) (s : State), since + 25600 ≤ t) ∧
    (∃ (k : Fin 4) (since : Nat) (t : Nat) (s : State) (c : Instr), t < since + 25600 ∧ (c = .por since t ∨
      c = .bor k since t)) ∧
    (∃ (k : Fin 4) (since : Nat) (t : Nat) (s : State), since + 25600 ≤ t ∧ s.dev.boot.inReset = none) ∧
    (∃ (low : Nat) (t : Nat) (s : State), s.dev.boot.inReset = none ∧ low < 12800) ∧
    (∃ (low : Nat) (t : Nat) (s : State), s.dev.boot.inReset = none ∧ 128000 ≤ low) ∧
    (∃ (low : Nat) (t : Nat) (s : State), s.dev.boot.inReset = none ∧ 12800 ≤ low ∧ low < 128000) ∧
    (∃ (k : Fin 5) (t : Nat) (s : State), s.dev.boot.low.testBit k = true) ∧
    (∃ (t : Nat) (s : State), s.dev.boot.inReset = some .pin ∧ s.dev.boot.returnAt = none) ∧
    (∃ (bootSrc : Bool) (bench : Bool) (t : Nat) (s : State), (let cut := s.dev.flag pBOOT BOOT.ATTEMPTS_IN_ATTEMPT;
      (let n := if cut then min 3 (s.dev.get pBOOT BOOT.ATTEMPTS_COUNT + 1) else s.dev.get pBOOT BOOT.ATTEMPTS_COUNT;
      s.dev.releaseDue t = false))) ∧
    (∃ (bootSrc : Bool) (bench : Bool) (t : Nat) (s : State), (let cut := s.dev.flag pBOOT BOOT.ATTEMPTS_IN_ATTEMPT;
      (let n := if cut then min 3 (s.dev.get pBOOT BOOT.ATTEMPTS_COUNT + 1) else s.dev.get pBOOT BOOT.ATTEMPTS_COUNT;
      s.dev.releaseDue t = true ∧ n = 3))) ∧
    (∃ (bootSrc : Bool) (bench : Bool) (t : Nat) (s : State), (let cut := s.dev.flag pBOOT BOOT.ATTEMPTS_IN_ATTEMPT;
      (let n := if cut then min 3 (s.dev.get pBOOT BOOT.ATTEMPTS_COUNT + 1) else s.dev.get pBOOT BOOT.ATTEMPTS_COUNT;
      s.dev.releaseDue t = true ∧ n ≠ 3 ∧ bootSrc = true))) ∧
    (∃ (bootSrc : Bool) (bench : Bool) (t : Nat) (s : State), (let cut := s.dev.flag pBOOT BOOT.ATTEMPTS_IN_ATTEMPT;
      (let n := if cut then min 3 (s.dev.get pBOOT BOOT.ATTEMPTS_COUNT + 1) else s.dev.get pBOOT BOOT.ATTEMPTS_COUNT;
      s.dev.releaseDue t = true ∧ n ≠ 3 ∧ bootSrc = false ∧ s.dev.boot.slotA = [] ∧ s.dev.boot.slotB = []))) ∧
    (∃ (t : Nat) (s : State), s.dev.wdogRuns = true ∧ 102400000 ≤ s.dev.wdogUsed t) ∧
    (∃ (t : Nat) (s : State), s.dev.wdogRuns = true ∧ 128000000 ≤ s.dev.wdogUsed t) ∧
    (∃ (port : Fin 24) (t : Nat) (s : State), port.val = 0x0F ∧ s.dev.boot.muslin = false ∧
      s.dev.flag pBOOT BOOT.STATUS_RUN_READY = false) ∧
    (∃ (port : Fin 24) (t : Nat) (s : State), (port.val ≠ 0x0F ∨ s.dev.boot.muslin = true ∨
      s.dev.flag pBOOT BOOT.STATUS_RUN_READY = true)) ∧
    (∃ (t : Nat) (s : State), s.dev.flag pBOOT BOOT.STATUS_RUN_READY = false ∧ s.dev.boot.muslin = false ∧
      s.dev.boot.inReset = none) ∧
    (∃ (t : Nat) (s : State), (s.dev.flag pBOOT BOOT.STATUS_RUN_READY = true ∨ s.dev.boot.muslin = true)) ∧
    (∃ (t : Nat) (a : Nat) (s : State), s.dev.boot.dlWait = some a ∧ a + 384000000000 ≤ t ∧ s.dev.boot.inReset = none) ∧
    (∃ (t : Nat) (v : Nat) (s : State), s.dev.boot.burn = some v) ∧
    (∃ (t : Nat) (s : State), s.dev.flag pBOOT BOOT.STATUS_DL_BUSY = true) ∧
    (∃ (t : Nat) (s : State), s.dev.flag pBOOT BOOT.STATUS_DL_BUSY = false) ∧
    (∃ (t : Nat) (s : State), s.dev.boot.dlCheck = some 0 ∧ s.dev.boot.dlWait.isSome = true ∧
      (∀ x ∈ (imgSections ((s.dev.begin t).download s.mem)).getD [], x.typ ≠ 2 ∧ x.typ ≠ 4)) ∧
    (∃ (t : Nat) (r : Nat) (s : State), s.dev.boot.dlCheck = some r ∧ (s.dev.boot.dlWait = none ∨ r ≠ 0 ∧
      s.dev.flag pBOOT BOOT.STATUS_DL_GOOD = false) ∧ r = 0) ∧
    (∃ (t : Nat) (r : Nat) (s : State), s.dev.boot.dlCheck = some r ∧ (s.dev.boot.dlWait = none ∨ r ≠ 0 ∧
      s.dev.flag pBOOT BOOT.STATUS_DL_GOOD = false) ∧ r ≠ 0) ∧
    (∃ (t : Nat) (s : State), s.dev.flag pBOOT BOOT.STATUS_DL_GOOD = true ∧ s.dev.flag pBOOT BOOT.STATUS_DL_BUSY = false) ∧
    (∃ (t : Nat) (s : State), (s.dev.flag pBOOT BOOT.STATUS_DL_GOOD = false ∨ s.dev.flag pBOOT BOOT.STATUS_DL_BUSY = true)) ∧
    (∃ (ok : Bool) (t : Nat) (k : Nat) (s : State), s.dev.boot.dlProg = some k ∧ ok = true) ∧
    (∃ (ok : Bool) (t : Nat) (k : Nat) (s : State), s.dev.boot.dlProg = some k ∧ ok = false) :=
  ⟨⟨0, 25600, State.reset, by decide +kernel⟩,
   ⟨0, 0, 25599, State.reset, .por 0 25599, by decide +kernel⟩,
   ⟨3, 0, 25600, State.reset, by decide +kernel⟩,
   ⟨12799, 5, State.reset, by decide +kernel⟩,
   ⟨128000, 5, { st runs with mem := [(0x10000000, 5), (0x20000000, 7)] }, by decide +kernel⟩,
   ⟨12800, 5, State.reset, by decide +kernel⟩,
   ⟨4, 5, st (bt (fun b => { b with low := 16 })), by decide +kernel⟩,
   ⟨5, st (bt (fun b => { b with inReset := some .pin, returnAt := none })), by decide +kernel⟩,
   ⟨true, false, 0, st (bt (fun b => { b with romDue := false })), by decide +kernel⟩,
   ⟨true, false, 0, st (fun (d : Dev) => d.put pBOOT BOOT.ATTEMPTS_COUNT 3), by decide +kernel⟩,
   ⟨true, false, 1280000, st (bt (fun b => { b with inReset := some .wdog, resetAt := 0 })), by decide +kernel⟩,
   ⟨false, false, 0, State.reset, by decide +kernel⟩,
   ⟨102400000, st (bt (fun b => { b with firmware := true })), by decide +kernel⟩,
   ⟨128000000, st (bt (fun b => { b with firmware := true })), by decide +kernel⟩,
   ⟨15, 5, State.reset, by decide +kernel⟩,
   ⟨14, 5, State.reset, by decide +kernel⟩,
   ⟨5, State.reset, by decide +kernel⟩,
   ⟨5, st (fun (d : Dev) => d.put pBOOT BOOT.STATUS_RUN_READY 1), by decide +kernel⟩,
   ⟨384000000000, 0, st (bt (fun b => { b with dlWait := some 0 })), by decide +kernel⟩,
   ⟨5, 9, st (bt (fun b => { b with burn := some 9 })), by decide +kernel⟩,
   ⟨5, st (fun (d : Dev) => d.put pBOOT BOOT.STATUS_DL_BUSY 1), by decide +kernel⟩,
   ⟨5, State.reset, by decide +kernel⟩,
   ⟨5, st (bt (fun b => { b with dlCheck := some 0, dlWait := some 0 })), by decide +kernel⟩,
   ⟨5, 0, st (bt (fun b => { b with dlCheck := some 0 })), by decide +kernel⟩,
   ⟨5, 3, st (bt (fun b => { b with dlCheck := some 3 })), by decide +kernel⟩,
   ⟨5, st (fun (d : Dev) => d.put pBOOT BOOT.STATUS_DL_GOOD 1), by decide +kernel⟩,
   ⟨5, State.reset, by decide +kernel⟩,
   ⟨true, 5, 1, st (bt (fun b => { b with dlProg := some 1 })), by decide +kernel⟩,
   ⟨false, 5, 0, st (bt (fun b => { b with dlProg := some 0 })), by decide +kernel⟩⟩

theorem hyps_IdleGauzeAndWake :
    (∃ (t : Nat) (s : State), s.dev.boot.idle = false ∧ s.dev.boot.gauze = false ∧ s.seq.st.runs = false) ∧
    (∃ (t : Nat) (s : State), s.dev.boot.idle = false ∧ s.dev.boot.gauze = false ∧ s.seq.st.runs = true) ∧
    (∃ (t : Nat) (s : State), (s.dev.boot.idle = true ∨ s.dev.boot.gauze = true)) ∧
    (∃ (t : Nat) (s : State), s.dev.boot.idle = false) ∧
    (∃ (t : Nat) (s : State), s.dev.boot.idle = true) ∧
    (∃ (t : Nat) (s : State), (let st := s.dev.get pPWR PWR.STATUS_STATE; s.seq.st.runs = false ∧ st < 2)) ∧
    (∃ (t : Nat) (s : State), (let st := s.dev.get pPWR PWR.STATUS_STATE; (s.seq.st.runs = true ∨ 2 ≤ st) ∧
      s.seq.st.runs = true)) ∧
    (∃ (t : Nat) (s : State), (let st := s.dev.get pPWR PWR.STATUS_STATE; (s.seq.st.runs = true ∨ 2 ≤ st) ∧
      s.seq.st.runs = false ∧ (st = 2 ∨ st = 4))) ∧
    (∃ (t : Nat) (s : State), (let st := s.dev.get pPWR PWR.STATUS_STATE; (s.seq.st.runs = true ∨ 2 ≤ st) ∧
      s.seq.st.runs = false ∧ st = 3)) ∧
    (∃ (t : Nat) (s : State), s.dev.get pPWR PWR.STATUS_STATE = 2) ∧
    (∃ (t : Nat) (s : State) (c : Instr) (cause : Nat), s.dev.boot.gauze = true ∧ s.dev.boot.wake = none ∧
      s.dev.get pPWR PWR.STATUS_STATE = 3 ∧ (c = .wake t ∧ cause = 1 ∨ (∃ since, c = .wakeN since t ∧
      since + 12800000 ≤ t) ∧ cause = 2 ∧ s.dev.bit pPWR PWR.GAUZE_CFG_WAKE_EN 0 = true ∨ c = .wakeTimer t ∧ cause = 3 ∧
      s.dev.bit pPWR PWR.GAUZE_CFG_WAKE_EN 1 = true ∧ s.dev.get pPWR PWR.WAKE_S_SECONDS ≠ 0 ∧
      s.dev.lifeS s.dev.boot.gauzeAt + s.dev.get pPWR PWR.WAKE_S_SECONDS ≤ s.dev.lifeS t)) ∧
    (∃ (t : Nat) (s : State), s.dev.boot.gauze = true ∧ s.dev.boot.wake = none ∧ s.dev.get pPWR PWR.STATUS_STATE = 2) ∧
    (∃ (since : Nat) (t : Nat) (s : State) (c : Instr), (s.dev.boot.wake.isSome = true ∨
      s.dev.get pPWR PWR.STATUS_STATE ≠ 2 ∧ s.dev.get pPWR PWR.STATUS_STATE ≠ 3) ∧ (c = .wake t ∨ c = .wakeN since t ∨
      c = .wakeTimer t)) ∧
    (∃ (t : Nat) (s : State), s.dev.boot.gauze = true ∧ s.dev.get pPWR PWR.STATUS_STATE = 4 ∧ s.dev.boot.wake.isSome = true) :=
  ⟨⟨5, State.reset, by decide +kernel⟩,
   ⟨5, st runs, by decide +kernel⟩,
   ⟨5, st (bt (fun b => { b with idle := true })), by decide +kernel⟩,
   ⟨5, State.reset, by decide +kernel⟩,
   ⟨5, st (bt (fun b => { b with idle := true })), by decide +kernel⟩,
   ⟨5, State.reset, by decide +kernel⟩,
   ⟨5, st runs, by decide +kernel⟩,
   ⟨5, st (fun (d : Dev) => d.put pPWR PWR.STATUS_STATE 2), by decide +kernel⟩,
   ⟨5, st (fun (d : Dev) => d.put pPWR PWR.STATUS_STATE 3), by decide +kernel⟩,
   ⟨5, { st (fun (d : Dev) => d.put pPWR PWR.STATUS_STATE 2) with mem := [(0x10000000, 5)] }, by decide +kernel⟩,
   ⟨5, st (fun (d : Dev) => bt (fun b => { b with gauze := true }) (d.put pPWR PWR.STATUS_STATE 3)), .wake 5, 1,
     ⟨by decide +kernel, by decide +kernel, by decide +kernel, .inl ⟨rfl, rfl⟩⟩⟩,
   ⟨5, st (fun (d : Dev) => bt (fun b => { b with gauze := true }) (d.put pPWR PWR.STATUS_STATE 2)), by decide +kernel⟩,
   ⟨0, 5, st (bt (fun b => { b with wake := some 1 })), .wake 5, by decide +kernel⟩,
   ⟨5,
     st (fun (d : Dev) => bt (fun b => { b with gauze := true, wake := some 1 }) (d.put pPWR PWR.STATUS_STATE 4)), by decide +kernel⟩⟩

end Sys2Proof.Tests
end

section
/-!
SUPPORT. What a command leaves alone, stated once for every operation: a frame names the parts of the device that may
change and the registers that may change. Frames compose, so each operation needs one of its own only.
-/
namespace Sys2Proof.Machine

/-! ## Frames -/

/-- Device e is d but for what `erase` forgets and for the registers that `P` picks. -/
structure Dev.Frame (erase : Dev → Dev) (P : Nat → Bool) (d e : Dev) : Prop where
  rest : erase e = erase d
  reg : ∀ a, P a = false → e.reg a = d.reg a

namespace Dev.Frame

variable {E E' : Dev → Dev} {P P' : Nat → Bool} {d e f : Dev}

theorem refl (E : Dev → Dev) (P : Nat → Bool) (d : Dev) : Dev.Frame E P d d := ⟨rfl, fun _ _ => rfl⟩

theorem trans (h : Dev.Frame E P d e) (h' : Dev.Frame E P e f) : Dev.Frame E P d f :=
  ⟨h'.rest.trans h.rest, fun a ha => (h'.reg a ha).trans (h.reg a ha)⟩

/-- A frame may forget more parts and pick more registers. -/
theorem mono (h : Dev.Frame E P d e) (hE : ∀ x, E' (E x) = E' x) (hP : ∀ a, P' a = false → P a = false) :
    Dev.Frame E' P' d e :=
  ⟨by rw [← hE e, h.rest, hE d], fun a ha => h.reg a (hP a ha)⟩

/-- What reads the parts that are kept reads the same. -/
theorem field (h : Dev.Frame E P d e) {α : Type} (g : Dev → α) (hg : ∀ x, g (E x) = g x) : g e = g d := by
  rw [← hg e, h.rest, hg d]

theorem getAt (h : Dev.Frame E P d e) {p : Nat} {x : FieldSpec} {i : Nat} (hx : P (x.addr p i) = false) :
    e.getAt p x i = d.getAt p x i := by simp [Dev.getAt, h.reg _ hx]

theorem ite {c : Prop} [Decidable c] {e₁ e₂ : Dev} (h₁ : c → Dev.Frame E P d e₁) (h₂ : ¬c → Dev.Frame E P d e₂) :
    Dev.Frame E P d (if c then e₁ else e₂) := by
  split
  · exact h₁ ‹_›
  · exact h₂ ‹_›

theorem foldl {α : Type} {g : Dev → α → Dev} {l : List α} (h : ∀ a ∈ l, ∀ x, Dev.Frame E P x (g x a)) (d : Dev) :
    Dev.Frame E P d (l.foldl g d) := by
  induction l generalizing d with
  | nil => exact refl _ _ _
  | cons a l ih =>
    exact (h a List.mem_cons_self d).trans (ih (fun b hb => h b (List.mem_cons_of_mem _ hb)) _)

/-- A frame of each step is one of their sequence. -/
theorem each {α : Type} {g : α → Dev → Dev} {l : List α} (h : ∀ a ∈ l, ∀ x, Dev.Frame E P x (g a x)) (d : Dev) :
    Dev.Frame E P d (d.each g l) := foldl h d

end Dev.Frame

/-- The device without its registers. -/
def Dev.sansRegs (d : Dev) : Dev := { d with regs := [] }

/-- A put of a field changes that word alone. -/
theorem putAt_frame {P : Nat → Bool} {p : Nat} {f : FieldSpec} {i : Nat} (v : Nat) (d : Dev)
    (h : P (f.addr p i) = true) : Dev.Frame Dev.sansRegs P d (d.putAt p f i v) :=
  ⟨rfl, fun a ha => reg_putAt_ne d v (fun e => by simp [e, h] at ha)⟩

theorem setReg_frame {P : Nat → Bool} {a : Nat} (w : Word) (d : Dev) (h : P a = true) :
    Dev.Frame Dev.sansRegs P d (d.setReg a w) :=
  ⟨rfl, fun b hb => reg_setReg_ne d w (fun e => by simp [e, h] at hb)⟩

/-- The registers of a list of addresses. -/
def regsIn (l : List Nat) (a : Nat) : Bool := decide (a ∈ l)

/-! ## Whole words -/

theorem bitsPut_whole (w : Word) (v : Nat) : bitsPut w 31 0 v = BitVec.ofNat 32 v := by
  apply BitVec.eq_of_getLsbD_eq
  intro i hi
  rw [bitsPut_getLsbD w v i (by decide), BitVec.getLsbD_ofNat]
  simp [hi, Nat.le_of_lt_succ hi]

/-- A field that fills its word reads, as a word, what was put. -/
theorem reg_putAt_whole (d : Dev) {p : Nat} {f : FieldSpec} {i : Nat} (w : Word) (h : f.hi = 31 ∧ f.lo = 0) :
    (d.putAt p f i w.toNat).reg (f.addr p i) = w := by
  simp [Dev.putAt, h.1, h.2, bitsPut_whole]

/-! ## Commands of the register target that change registers and latches only -/

/-- The device without its registers and its latched sets. -/
def Dev.sansLatches (d : Dev) : Dev := { d with regs := [], latches := [] }

/-- A command of the register target whose effect changes registers of a list and latched sets leaves units, memory and
every other register alone. -/
theorem land_regRound_frame {t : Nat} {e : Dev} {s : State} {l : List Nat}
    (h : Dev.Frame Dev.sansLatches (regsIn l) (s.dev.begin t) e) :
    s.regsBut l (s.land t e.regRound) ∧ (s.land t e.regRound).dev.units = s.dev.units ∧
      s.memSame (s.land t e.regRound) := by
  refine ⟨fun a ha ha' => ?_, ?_, land_memSame ?_ ?_⟩
  · rw [land_reg, regRound_reg _ ha', h.reg a (by simpa [regsIn] using ha), begin_reg]
  · have hu := h.field Dev.units (fun _ => rfl)
    simpa [Dev.units] using hu
  · rw [regRound_wr]; exact h.field Dev.wr (fun _ => rfl)
  · rw [regRound_wipe]; exact h.field Dev.wipe (fun _ => rfl)

end Sys2Proof.Machine
end

section
/-! Commits and snapshots (R49 to R51, R54, R65, R100, R102, R428). -/
namespace Sys2Proof.Machine

/-! ## What a commit does -/

theorem latch_frame (p : Nat) (l : List Nat) (d : Dev) : Dev.Frame Dev.sansLatches (regsIn l) d (d.latch p) :=
  ⟨rfl, fun _ _ => rfl⟩

theorem Dev.Frame.ofRegs {E : Dev → Dev} {P : Nat → Bool} {d e : Dev} (h : Dev.Frame Dev.sansRegs P d e)
    (hE : ∀ x, E (Dev.sansRegs x) = E x := by exact fun _ => rfl) : Dev.Frame E P d e :=
  h.mono hE (fun _ ha => ha)

/-- A commit that passes its check latches the page's shadows and reports COMMIT_PENDING, on the page's STATUS word. -/
theorem commitPage_latches (p t : Nat) (pend refused : FieldSpec) (s : State)
    (hp : pend.fits = true ∧ pend.hi = pend.lo ∧ pend.off = 0x00C) :
    ∃ s', runReg t (fun _ d => d.commitPage p none pend refused) s = .next s' ∧ s'.dev.get p pend = 1 ∧
      s'.dev.latches = s.dev.latches.filter (fun l => decide (l.page ≠ p)) ++ [⟨p, shadowWords p s.dev⟩] ∧
      s.regsBut [p * 0x1000 + 0x00C] s' ∧ s'.dev.units = s.dev.units ∧ s.memSame s' := by
  obtain ⟨hfit, hbit, hoff⟩ := hp
  have haddr : pend.addr p 0 = p * 0x1000 + 0x00C := by simp [FieldSpec.addr, hoff]
  have hframe : Dev.Frame Dev.sansLatches (regsIn [p * 0x1000 + 0x00C]) (s.dev.begin t)
      ((s.dev.begin t).commitPage p none pend refused) :=
    (latch_frame p _ _).trans (putAt_frame _ _ (by simp [regsIn, haddr])).ofRegs
  refine ⟨_, runReg_next _ _ _, ?_, ?_, land_regRound_frame hframe⟩
  · rw [Dev.get_eq, land_getAt, regRound_getAt _ (by omega)]
    simp [Dev.commitPage, getAt_putAt_same _ _ _ _ _ hfit, hbit]
  · rw [land_latches, regRound_latches]
    rfl

/-- A refused commit reports the first failure and latches nothing. -/
theorem commitPage_refuses (p t c o : Nat) (pend : FieldSpec) (s : State) (hc : c < 2 ^ 4) (ho : o < 2 ^ 12) :
    ∃ s', runReg t (fun _ d => d.commitPage p (some (c, o)) pend GFM.IRQ_RAW_COMMIT_REFUSED) s = .next s' ∧
      s'.dev.get p GFM.IRQ_RAW_COMMIT_REFUSED = 1 ∧ s'.dev.get p GFM.FAULT_CODE_CAUSE = c ∧
      s'.dev.get p GFM.FAULT_CODE_OFFSET = o ∧ s'.dev.latches = s.dev.latches ∧
      s.regsBut [p * 0x1000 + 0x010, p * 0x1000 + 0x024] s' ∧ s'.dev.units = s.dev.units ∧ s.memSame s' := by
  have hraw : GFM.IRQ_RAW_COMMIT_REFUSED.addr p 0 = p * 0x1000 + 0x010 := by
    simp [FieldSpec.addr, GFM.IRQ_RAW_COMMIT_REFUSED]
  have hcause : GFM.FAULT_CODE_CAUSE.addr p 0 = p * 0x1000 + 0x024 := by simp [FieldSpec.addr, GFM.FAULT_CODE_CAUSE]
  have hoffset : GFM.FAULT_CODE_OFFSET.addr p 0 = p * 0x1000 + 0x024 := by
    simp [FieldSpec.addr, GFM.FAULT_CODE_OFFSET]
  have hframe : Dev.Frame Dev.sansRegs (regsIn [p * 0x1000 + 0x010, p * 0x1000 + 0x024]) (s.dev.begin t)
      ((s.dev.begin t).commitPage p (some (c, o)) pend GFM.IRQ_RAW_COMMIT_REFUSED) :=
    (putAt_frame _ _ (by simp [regsIn, hraw])).trans
      ((putAt_frame _ _ (by simp [regsIn, hcause])).trans (putAt_frame _ _ (by simp [regsIn, hoffset])))
  refine ⟨_, runReg_next _ _ _, ?_, ?_, ?_, ?_, land_regRound_frame hframe.ofRegs⟩
  · rw [Dev.get_eq, land_getAt, regRound_getAt _ (by omega)]
    simp only [Dev.commitPage, Dev.put_eq, Dev.raise_eq]
    rw [getAt_putAt_word _ _ (by omega), getAt_putAt_word _ _ (by omega), getAt_putAt_same _ _ _ _ _ (by decide)]
    rfl
  · rw [Dev.get_eq, land_getAt, regRound_getAt _ (by omega)]
    simp only [Dev.commitPage, Dev.put_eq, Dev.raise_eq]
    rw [getAt_putAt_apart _ _ (by decide) (by decide), getAt_putAt_same _ _ _ _ _ (by decide)]
    exact Nat.mod_eq_of_lt hc
  · rw [Dev.get_eq, land_getAt, regRound_getAt _ (by omega)]
    simp only [Dev.commitPage, Dev.put_eq, Dev.raise_eq]
    rw [getAt_putAt_same _ _ _ _ _ (by decide)]
    exact Nat.mod_eq_of_lt ho
  · rw [land_latches, regRound_latches]
    exact hframe.field Dev.latches (fun _ => rfl)

/-! ## What a check can name: FAULT_CODE has four bits for a cause and twelve for an offset -/

/-- A check's cause fits its field. -/
def causeFits (r : Option Nat) : Prop := ∀ c ∈ r, c < 2 ^ 4

theorem causeFits_none : causeFits none := fun _ h => by cases h

theorem causeFits_some {c : Nat} (h : c < 2 ^ 4) : causeFits (some c) := fun _ h' => by cases h'; exact h

theorem causeFits_ite {b : Prop} [Decidable b] {x y : Option Nat} (hx : causeFits x) (hy : causeFits y) :
    causeFits (if b then x else y) := by
  split
  · exact hx
  · exact hy

theorem causeFits_orElse {a b : Option Nat} (ha : causeFits a) (hb : causeFits b) : causeFits (orElse a b) := by
  cases a with
  | none => exact hb
  | some c => exact ha

theorem causeFits_rangeF (lo hi w : Word) : causeFits (rangeF lo hi w) :=
  causeFits_ite (causeFits_some (by decide)) (causeFits_ite causeFits_none (causeFits_some (by decide)))

theorem causeFits_rangeN (lo hi v : Nat) : causeFits (rangeN lo hi v) :=
  causeFits_ite causeFits_none (causeFits_some (by decide))

theorem causeFits_atLeast4Ts (period : Nat) (w : Word) : causeFits (atLeast4Ts period w) :=
  causeFits_ite causeFits_none (causeFits_some (by decide))

theorem causeFits_gfmExtra (word : Nat → Word) (period f o : Nat) : causeFits (gfmExtra word period f o) := by
  unfold gfmExtra
  split
  · exact causeFits_atLeast4Ts _ _
  · exact causeFits_atLeast4Ts _ _
  · exact causeFits_atLeast4Ts _ _
  · exact causeFits_atLeast4Ts _ _
  · exact causeFits_ite causeFits_none (causeFits_some (by decide))
  · exact causeFits_ite causeFits_none (causeFits_some (by decide))
  · exact causeFits_none

/-- The first failure is one of the checks. -/
theorem firstFail_mem {cs : List (Nat × Option Nat)} {c o : Nat} (h : firstFail cs = some (c, o)) :
    (o, some c) ∈ cs := by
  induction cs with
  | nil => cases h
  | cons x cs ih =>
    obtain ⟨o', r⟩ := x
    cases r with
    | none => exact List.mem_cons_of_mem _ (ih h)
    | some c' =>
      simp only [firstFail, Option.some.injEq, Prod.mk.injEq] at h
      simp [h.1, h.2]

/-- The checks of a page name offsets of the page and causes that fit. -/
def checksFit (cs : List (Nat × Option Nat)) : Prop := ∀ x ∈ cs, x.1 < 2 ^ 12 ∧ causeFits x.2

theorem checksFit_append {a b : List (Nat × Option Nat)} (ha : checksFit a) (hb : checksFit b) : checksFit (a ++ b) :=
  fun x hx => (List.mem_append.mp hx).elim (ha x) (hb x)

theorem checksFit_cons {o : Nat} {r : Option Nat} {cs : List (Nat × Option Nat)} (ho : o < 2 ^ 12) (hr : causeFits r)
    (h : checksFit cs) : checksFit ((o, r) :: cs) := by
  intro x hx
  rcases List.mem_cons.mp hx with rfl | hx
  · exact ⟨ho, hr⟩
  · exact h x hx

theorem checksFit_map {α : Type} {l : List α} {o : α → Nat} {r : α → Option Nat} (ho : ∀ a ∈ l, o a < 2 ^ 12)
    (hr : ∀ a, causeFits (r a)) : checksFit (l.map (fun a => (o a, r a))) := by
  intro x hx
  obtain ⟨a, ha, rfl⟩ := List.mem_map.mp hx
  exact ⟨ho a ha, hr a⟩

theorem checksFit_nil : checksFit [] := fun _ h => by cases h

theorem firstFail_fits {cs : List (Nat × Option Nat)} {c o : Nat} (hcs : checksFit cs)
    (h : firstFail cs = some (c, o)) : c < 2 ^ 4 ∧ o < 2 ^ 12 :=
  ⟨(hcs _ (firstFail_mem h)).2 c rfl, (hcs _ (firstFail_mem h)).1⟩

theorem gfmRefusal_fits {d : Dev} {c o : Nat} (h : d.gfmRefusal = some (c, o)) : c < 2 ^ 4 ∧ o < 2 ^ 12 :=
  firstFail_fits
    (checksFit_map (by decide) (fun _ => causeFits_orElse (causeFits_rangeF _ _ _) (causeFits_gfmExtra _ _ _ _))) h

theorem prfRefusal_fits {d : Dev} {c o : Nat} (h : d.prfRefusal = some (c, o)) : c < 2 ^ 4 ∧ o < 2 ^ 12 := by
  have hF := causeFits_rangeF
  refine firstFail_fits ?_ h
  refine checksFit_append (checksFit_append (checksFit_append (checksFit_append ?_ ?_) ?_) ?_) ?_
  · exact checksFit_cons (by decide) (hF _ _ _) (checksFit_cons (by decide) (hF _ _ _)
      (checksFit_cons (by decide) (hF _ _ _) (checksFit_cons (by decide) (hF _ _ _) checksFit_nil)))
  · exact checksFit_map (by decide) (fun _ => hF _ _ _)
  · exact checksFit_map (by decide) (fun _ => hF _ _ _)
  · exact checksFit_map (by decide) (fun _ => hF _ _ _)
  · exact checksFit_cons (by decide) (hF _ _ _) (checksFit_cons (by decide) (hF _ _ _)
      (checksFit_cons (by decide) (causeFits_rangeN _ _ _) checksFit_nil))

theorem curveChecks_fit {base : Nat} (h : base + 64 ≤ 2 ^ 12) (pts : List CurvePoint) :
    checksFit (curveChecks base pts) :=
  checksFit_map (fun k hk => by have := List.mem_range.mp hk; omega)
    (fun _ => causeFits_ite (causeFits_ite causeFits_none (causeFits_some (by decide)))
      (causeFits_ite causeFits_none (causeFits_some (by decide))))

theorem frtRefusal_fits {d : Dev} {c o : Nat} (h : d.frtRefusal = some (c, o)) : c < 2 ^ 4 ∧ o < 2 ^ 12 := by
  have hF := causeFits_rangeF
  have hN := causeFits_rangeN
  have h10 : causeFits (some 10) := causeFits_some (by decide)
  refine firstFail_fits ?_ h
  refine checksFit_append (checksFit_append ?_ (curveChecks_fit (by decide) _)) (curveChecks_fit (by decide) _)
  refine checksFit_cons (by decide) (hF _ _ _) (checksFit_cons (by decide) (hF _ _ _)
    (checksFit_cons (by decide) (hF _ _ _) (checksFit_cons (by decide) (hF _ _ _) ?_)))
  refine checksFit_cons (by decide) (causeFits_orElse (hF _ _ _) (causeFits_atLeast4Ts _ _))
    (checksFit_cons (by decide) (hF _ _ _) ?_)
  refine checksFit_cons (by decide) (causeFits_orElse (hF _ _ _) (causeFits_ite h10 causeFits_none))
    (checksFit_cons (by decide) (hF _ _ _)
      (checksFit_cons (by decide) (causeFits_orElse (hF _ _ _) (causeFits_ite h10 causeFits_none)) ?_))
  exact checksFit_cons (by decide) (causeFits_orElse (hN _ _ _) (hN _ _ _))
    (checksFit_cons (by decide) (causeFits_orElse (hN _ _ _) (hN _ _ _))
      (checksFit_cons (by decide) (hF _ _ _) checksFit_nil))

/-! ## The three commits that report, and TRANSIT's -/

/-- A command's answer depends on its effect on this state only. -/
theorem runReg_congr {t : Nat} {f g : List Host.Cell → Dev → Dev} {s : State}
    (h : f s.mem (s.dev.begin t) = g s.mem (s.dev.begin t)) : runReg t f s = runReg t g s := by
  rw [runReg_next, runReg_next, h]

theorem gfmRefusal_begin (t : Nat) (d : Dev) : (d.begin t).gfmRefusal = d.gfmRefusal := by
  simp [Dev.gfmRefusal, Dev.shadowAt]

theorem prfRefusal_begin (t : Nat) (d : Dev) : (d.begin t).prfRefusal = d.prfRefusal := by
  simp [Dev.prfRefusal, Dev.shadowAt]

theorem trRefusal_begin (t : Nat) (d : Dev) : (d.begin t).trRefusal = d.trRefusal := by
  simp [Dev.trRefusal, Dev.shadowAt]

theorem frtRefusal_begin (t : Nat) (d : Dev) : (d.begin t).frtRefusal = d.frtRefusal := by
  simp only [Dev.frtRefusal, Dev.shadowAt, begin_reg, begin_triad]
  rfl

theorem exec_gfmCommit (t : Nat) (s : State) : exec (.gfmCommit t) s =
    runReg t (fun _ d => d.commitPage pGFM s.dev.gfmRefusal GFM.STATUS_COMMIT_PENDING GFM.IRQ_RAW_COMMIT_REFUSED) s :=
  runReg_congr (f := fun _ d => d.gfmCommit) (by rw [Dev.gfmCommit, gfmRefusal_begin])

theorem exec_profileCommit (t : Nat) (s : State) : exec (.profileCommit t) s =
    runReg t (fun _ d => d.commitPage pPROFILE s.dev.prfRefusal PROFILE.STATUS_COMMIT_PENDING
      PROFILE.IRQ_RAW_COMMIT_REFUSED) s :=
  runReg_congr (f := fun _ d => d.prfCommit) (by rw [Dev.prfCommit, prfRefusal_begin])

theorem exec_frtCommit (t : Nat) (s : State) : exec (.frtCommit t) s =
    runReg t (fun _ d => d.commitPage pFRT s.dev.frtRefusal FRT.STATUS_COMMIT_PENDING FRT.IRQ_RAW_COMMIT_REFUSED) s :=
  runReg_congr (f := fun _ d => d.frtCommit) (by rw [Dev.frtCommit, frtRefusal_begin])

theorem exec_transitCommit (t : Nat) (s : State) : exec (.transitCommit t) s =
    runReg t (fun _ d => if s.dev.trRefusal.isSome then d else d.latch pTRANSIT) s :=
  runReg_congr (f := fun _ d => d.trCommit) (by rw [Dev.trCommit, trRefusal_begin])

/-- A TRANSIT commit latches the page's shadows where its check passes, and does nothing else (log entry 20). -/
theorem transitCommit_latches (t : Nat) (s : State) :
    ∃ s', exec (.transitCommit t) s = .next s' ∧
      s'.dev.latches =
        (if s.dev.trRefusal = none then
          s.dev.latches.filter (fun l => decide (l.page ≠ pTRANSIT)) ++ [⟨pTRANSIT, shadowWords pTRANSIT s.dev⟩]
         else s.dev.latches) ∧
      s.regsBut [] s' ∧ s'.dev.units = s.dev.units ∧ s.memSame s' := by
  rw [exec_transitCommit]
  cases s.dev.trRefusal with
  | none => exact ⟨_, runReg_next _ _ _, by rw [land_latches, regRound_latches]; rfl, land_regRound_frame (latch_frame _ _ _)⟩
  | some r =>
    exact ⟨_, runReg_next _ _ _, by rw [land_latches, regRound_latches]; rfl, land_regRound_frame (.refl _ _ _)⟩

/-! ## The snapshot -/

/-- The eleven words of the GFM page that a snapshot fills (R54). -/
def snapWords : List Nat := (List.range 11).map (fun k => pGFM * 0x1000 + 0x0C0 + 4 * k)

theorem gfmSnap_frame (m : List Host.Cell) (d : Dev) : Dev.Frame Dev.sansRegs (regsIn snapWords) d (d.gfmSnap m) := by
  simp only [Dev.gfmSnap, Dev.put_eq]
  iterate 11 refine Dev.Frame.trans ?_ (putAt_frame _ _ (by decide))
  exact .refl _ _ _

/-- A word that the register target has just completed reads as in the effect of the command, but for a LOCK word. -/
theorem land_regRound_wordAt {t p i : Nat} {f : FieldSpec} {e : Dev} {s : State} (h : f.addr p i % 0x1000 ≠ 0x1C) :
    (s.land t e.regRound).dev.wordAt p f i = e.reg (f.addr p i) := by
  rw [Dev.wordAt, land_reg, regRound_reg _ h]

/-- The address of word k of the active voted record (R105). -/
def votedWord (m : List Host.Cell) (k : Nat) : Nat :=
  (if (memByte m 0x100F0300).toNat % 2 = 1 then 0x100F0280 else 0x100F0200) + 4 * k

/-- What a snapshot puts where (R54). -/
theorem gfmSnap_words (m : List Host.Cell) (t : Nat) (d : Dev) :
    let e := (d.begin t).gfmSnap m
    let w (k : Nat) : Word := (d.begin t).word m (votedWord m k)
    e.reg (GFM.OBS_P.addr pGFM 0) = d.triad.ckpt.pf ∧ e.reg (GFM.OBS_Q.addr pGFM 0) = d.triad.ckpt.qf ∧
      e.reg (GFM.OBS_V.addr pGFM 0) = d.triad.ckpt.vStar ∧ e.reg (GFM.OBS_W.addr pGFM 0) = w 3 ∧
      e.getAt pGFM GFM.OBS_LIMIT 0 = (w 14).toNat % 1024 ∧ e.reg (GFM.OBS_ILIM.addr pGFM 0) = w 13 ∧
      e.reg (GFM.SAMPLE_NO.addr pGFM 0) = w 1 ∧ e.reg (GFM.SET_P.addr pGFM 0) = w 16 ∧
      e.reg (GFM.SET_Q.addr pGFM 0) = w 17 ∧ e.reg (GFM.SET_W.addr pGFM 0) = w 18 ∧
      e.reg (GFM.SET_V.addr pGFM 0) = w 19 := by
  simp only [Dev.gfmSnap, Dev.put_eq, begin_byte, ← votedWord.eq_1]
  generalize hw : (fun k => (d.begin t).word m (votedWord m k)) = w
  have hw' (k : Nat) : (d.begin t).word m (votedWord m k) = w k := congrFun hw k
  simp (disch := decide) only [hw', begin_triad, reg_putAt_ne, reg_putAt_whole, getAt_putAt_word, getAt_putAt_same,
    and_self, true_and, and_true]
  rfl

/-- A snapshot copies the checkpoint and the active voted record into the eleven words, and does nothing else. -/
theorem gfmSnap_copies (t : Nat) (s : State) :
    ∃ s', exec (.gfmSnap t) s = .next s' ∧
      (let a := if (memByte s.mem 0x100F0300).toNat % 2 = 1 then 0x100F0280 else 0x100F0200
       let w (k : Nat) : Word := (s.dev.begin t).word s.mem (a + 4 * k)
       s'.dev.wordAt pGFM GFM.OBS_P 0 = s.dev.triad.ckpt.pf ∧ s'.dev.wordAt pGFM GFM.OBS_Q 0 = s.dev.triad.ckpt.qf ∧
       s'.dev.wordAt pGFM GFM.OBS_V 0 = s.dev.triad.ckpt.vStar ∧ s'.dev.wordAt pGFM GFM.OBS_W 0 = w 3 ∧
       s'.dev.get pGFM GFM.OBS_LIMIT = (w 14).toNat % 1024 ∧ s'.dev.wordAt pGFM GFM.OBS_ILIM 0 = w 13 ∧
       s'.dev.wordAt pGFM GFM.SAMPLE_NO 0 = w 1 ∧ s'.dev.wordAt pGFM GFM.SET_P 0 = w 16 ∧
       s'.dev.wordAt pGFM GFM.SET_Q 0 = w 17 ∧ s'.dev.wordAt pGFM GFM.SET_W 0 = w 18 ∧
       s'.dev.wordAt pGFM GFM.SET_V 0 = w 19) ∧
      s.regsBut snapWords s' ∧ s'.dev.units = s.dev.units ∧ s.memSame s' := by
  refine ⟨_, runReg_next t (fun m d => d.gfmSnap m) s, ?_, land_regRound_frame (gfmSnap_frame _ _).ofRegs⟩
  have hwords := gfmSnap_words s.mem t s.dev
  simp (disch := decide) only [land_regRound_wordAt, Dev.get_eq, land_getAt, regRound_getAt]
  exact hwords

/-- Settles O7: a commit is its page's check and then a latch or a report; a snapshot is eleven puts. -/
theorem commitsLatchWholeSetsAndSnapshotsCopy : Obligations.CommitsLatchWholeSetsAndSnapshotsCopy := by
  unfold Obligations.CommitsLatchWholeSetsAndSnapshotsCopy
  refine ⟨⟨?_, ?_, transitCommit_latches⟩, gfmSnap_copies⟩
  · intro c p t pend refusal s hmem hpass
    simp only [List.mem_cons, Prod.mk.injEq, List.not_mem_nil, or_false] at hmem
    rcases hmem with ⟨rfl, rfl, rfl, rfl⟩ | ⟨rfl, rfl, rfl, rfl⟩ | ⟨rfl, rfl, rfl, rfl⟩
    · rw [exec_gfmCommit, hpass]
      exact commitPage_latches _ _ _ _ _ (by decide)
    · rw [exec_profileCommit, hpass]
      exact commitPage_latches _ _ _ _ _ (by decide)
    · rw [exec_frtCommit, hpass]
      exact commitPage_latches _ _ _ _ _ (by decide)
  · intro c p t cause off refusal s hmem hfail
    simp only [List.mem_cons, Prod.mk.injEq, List.not_mem_nil, or_false] at hmem
    rcases hmem with ⟨rfl, rfl, rfl⟩ | ⟨rfl, rfl, rfl⟩ | ⟨rfl, rfl, rfl⟩
    · obtain ⟨hc, ho⟩ := gfmRefusal_fits hfail
      rw [exec_gfmCommit, hfail]
      exact commitPage_refuses _ _ _ _ _ _ hc ho
    · obtain ⟨hc, ho⟩ := prfRefusal_fits hfail
      rw [exec_profileCommit, hfail]
      exact commitPage_refuses _ _ _ _ _ _ hc ho
    · obtain ⟨hc, ho⟩ := frtRefusal_fits hfail
      rw [exec_frtCommit, hfail]
      exact commitPage_refuses _ _ _ _ _ _ hc ho

end Sys2Proof.Machine
end

section
/-!
SUPPORT. The power stage under what holds its legs (R183, R191, R219, R492): what settling may change, and that a leg
which is held, or dark already, is dark once the legs have settled.
-/
namespace Sys2Proof.Machine

/-! ## Pages -/

/-- The registers of the pages that `Q` picks. -/
def onPages (Q : Nat → Bool) (a : Nat) : Bool := Q (a / 0x1000)

theorem addr_page {p : Nat} {f : FieldSpec} {i : Nat} (h : f.off + i * f.stride < 0x1000) : f.addr p i / 0x1000 = p := by
  simp only [FieldSpec.addr]
  omega

theorem putAt_page_frame {Q : Nat → Bool} {p : Nat} {f : FieldSpec} {i : Nat} (v : Nat) (d : Dev) (hp : Q p = true)
    (hf : f.off + i * f.stride < 0x1000) : Dev.Frame Dev.sansRegs (onPages Q) d (d.putAt p f i v) :=
  putAt_frame v d (by rw [onPages, addr_page hf, hp])

/-! ## What settling may change -/

/-- The pages on which trips and settling report: SYS, the legs', the groups'. -/
def powerPage (p : Nat) : Bool := decide (p = pSYS) || (decide (pLEG 0 ≤ p) && decide (p < pPWMTB))

theorem powerPage_iff (p : Nat) : powerPage p = true ↔ p = 0 ∨ (0x40 ≤ p ∧ p < 0x74) := by
  simp only [powerPage, Bool.or_eq_true, Bool.and_eq_true, decide_eq_true_eq]
  rfl

theorem powerPage_leg {n : Nat} (h : n < 48) : powerPage (pLEG n) = true := by
  rw [powerPage_iff, pLEG]; omega

theorem powerPage_grp {g : Nat} (h : g < 4) : powerPage (pGRP g) = true := by
  rw [powerPage_iff, pGRP]; omega

/-- The device without registers and device latch. -/
def Dev.sansDevLatch (d : Dev) : Dev := { d with regs := [], pw := { d.pw with dev := .reset } }

/-- The device without registers, legs, groups and device latch. -/
def Dev.sansPower (d : Dev) : Dev :=
  { d with regs := [], pw := { d.pw with legs := PowerStage.reset.legs, groups := PowerStage.reset.groups, dev := .reset } }

/-- A frame of what settling may change. -/
abbrev Dev.PowerFrame (d e : Dev) : Prop := Dev.Frame Dev.sansPower (onPages powerPage) d e

theorem setLeg_frame (n : Nat) (x : Leg) (d : Dev) : d.PowerFrame (d.setLeg n x) := ⟨rfl, fun _ _ => rfl⟩

theorem setGrp_frame (g : Nat) (x : Group) (d : Dev) : d.PowerFrame (d.setGrp g x) := ⟨rfl, fun _ _ => rfl⟩

/-! ## Dark legs -/

/-- A leg whose high side does not conduct and that is not released. -/
def Leg.dark (l : Leg) : Prop := l.hs = false ∧ l.live = false

section
variable (c : LegCfg) (high : Bool) (t : Nat) (l : Leg)

@[simp] theorem Leg.offBy_hs : (l.offBy c high t).hs = l.hs := by unfold Leg.offBy; split <;> rfl
@[simp] theorem Leg.offBy_live : (l.offBy c high t).live = l.live := by unfold Leg.offBy; split <;> rfl
@[simp] theorem Leg.offBy_engOff : (l.offBy c high t).engOff = l.engOff := by unfold Leg.offBy; split <;> rfl
@[simp] theorem Leg.offHs_hs : (l.offHs c t).hs = false := by unfold Leg.offHs; split <;> simp_all
@[simp] theorem Leg.offHs_live : (l.offHs c t).live = l.live := by unfold Leg.offHs; split <;> simp
@[simp] theorem Leg.offHs_engOff : (l.offHs c t).engOff = l.engOff := by unfold Leg.offHs; split <;> simp
@[simp] theorem Leg.offLs_hs : (l.offLs c t).hs = l.hs := by unfold Leg.offLs; split <;> simp
@[simp] theorem Leg.offLs_live : (l.offLs c t).live = l.live := by unfold Leg.offLs; split <;> simp
@[simp] theorem Leg.offLs_engOff : (l.offLs c t).engOff = l.engOff := by unfold Leg.offLs; split <;> simp
@[simp] theorem Leg.bothOff_hs : (l.bothOff c t).hs = false := by simp [Leg.bothOff]
@[simp] theorem Leg.bothOff_live : (l.bothOff c t).live = l.live := by simp [Leg.bothOff]
@[simp] theorem Leg.bothOff_engOff : (l.bothOff c t).engOff = l.engOff := by simp [Leg.bothOff]

@[simp] theorem Leg.schedule_hs : (l.schedule high t).hs = l.hs := by unfold Leg.schedule; grind
@[simp] theorem Leg.schedule_live : (l.schedule high t).live = l.live := by unfold Leg.schedule; grind
@[simp] theorem Leg.schedule_engOff : (l.schedule high t).engOff = l.engOff := by unfold Leg.schedule; grind

end

/-- Code 5 of LSTATE is the debug halt's (R495). -/
theorem legHeld_halted {n : Nat} {d : Dev} (h : d.legHeld n = some 5) : d.pw.halted = true := by
  unfold Dev.legHeld at h
  split_ifs at h
  all_goals simp_all

/-- What settling does to a leg. Where it does nothing, the timebase is halted or nothing holds the leg; else the leg comes
out dark, held off by the same engine as before. -/
theorem settleLeg_cases (t n : Nat) (d : Dev) :
    (d.settleLeg t n = d ∧ (d.pw.halted = true ∨ d.legHeld n = none)) ∨
      ∃ x : Leg, d.settleLeg t n = d.setLeg n x ∧ x.dark ∧ x.engOff = (d.leg n).engOff := by
  unfold Dev.settleLeg
  cases h : d.legHeld n with
  | none =>
    by_cases hidle : (d.leg n).live = true ∨ (d.leg n).freeSince.isSome = true
    · refine .inl ⟨?_, .inr rfl⟩
      rcases hidle with hl | hl <;> simp [hl]
    · obtain ⟨hl, hf⟩ := not_or.mp hidle
      refine .inr ⟨{ (d.leg n).bothOff (d.legCfg n) (d.nextTick t) with freeSince := some t }, ?_, ?_, ?_⟩
      · simp only [hl, hf, if_false, Bool.false_eq_true]
      · exact ⟨by simp, by simpa using hl⟩
      · simp
  | some c =>
    split
    · next h5 => cases h5; exact .inl ⟨rfl, .inl (legHeld_halted h)⟩
    · dsimp only
      split
      · split
        · exact .inl ⟨rfl, .inl ‹_›⟩
        · refine .inr ⟨_, rfl, ⟨?_, ?_⟩, ?_⟩
          · simp only [Leg.schedule_hs]; split <;> simp
          · simp only [Leg.schedule_live]; split <;> rfl
          · simp only [Leg.schedule_engOff]; split <;> simp
      · exact .inr ⟨_, rfl, ⟨by simp, rfl⟩, by simp⟩
    · next h0 => cases h0

theorem settleLeg_frame (t n : Nat) (d : Dev) : d.PowerFrame (d.settleLeg t n) := by
  obtain ⟨h, -⟩ | ⟨x, h, -⟩ := settleLeg_cases t n d
  · rw [h]; exact .refl _ _ _
  · rw [h]; exact setLeg_frame _ _ _

theorem joinSpread_frame (t g n : Nat) (d : Dev) : d.PowerFrame (d.joinSpread t g n) := by
  unfold Dev.joinSpread
  exact .ite (fun _ => .refl _ _ _) (fun _ => .ite (fun _ => .refl _ _ _) (fun _ => setLeg_frame _ _ _))

theorem respread_frame (t g : Nat) (d : Dev) : d.PowerFrame (d.respread t g) :=
  .ite (fun _ => .refl _ _ _)
    (fun _ => (setGrp_frame _ _ _).trans (.each (fun k _ x => joinSpread_frame t g k x) _))

theorem settleGroup_frame (t : Nat) {g : Nat} (hg : g < 4) (d : Dev) : d.PowerFrame (d.settleGroup t g) :=
  .ite (fun _ => (respread_frame t g d).trans (putAt_page_frame _ _ (powerPage_grp hg) (by decide)).ofRegs)
    (fun _ => respread_frame t g d)

theorem settleLegs_frame (t : Nat) (d : Dev) : d.PowerFrame (d.settleLegs t) :=
  (Dev.Frame.each (fun n _ x => settleLeg_frame t n x) d).trans
    (.each (fun _ hg x => settleGroup_frame t (List.mem_range.mp hg) x) _)

theorem markHeld_frame (cause : Nat) {legs : List Nat} (h : ∀ n ∈ legs, n < 48) (d : Dev) :
    Dev.Frame Dev.sansRegs (onPages powerPage) d (d.markHeld cause legs) :=
  .each (fun n hn x => .ite (fun _ => .refl _ _ _)
    (fun _ => (putAt_page_frame _ x (powerPage_leg (h n hn)) (by decide)).trans
      (putAt_page_frame _ _ (powerPage_leg (h n hn)) (by decide)))) d

theorem devTrip_frame (cause g : Nat) (srcs : List TripSrc) (t : Nat) (d : Dev) :
    Dev.Frame Dev.sansDevLatch (onPages powerPage) d (d.devTrip cause g srcs t) := by
  have hput (f : FieldSpec) (v : Nat) (x : Dev) (hf : f.off + 0 * f.stride < 0x1000) :
      Dev.Frame Dev.sansDevLatch (onPages powerPage) x (x.putAt pSYS f 0 v) :=
    (putAt_page_frame v x rfl hf).ofRegs
  refine .ite (fun _ => ⟨rfl, fun _ _ => rfl⟩) (fun _ => ?_)
  refine Dev.Frame.trans ?_ (markHeld_frame _ (fun n hn => List.mem_range.mp (List.mem_filter.mp hn).1) _).ofRegs
  refine Dev.Frame.trans ?_ (hput _ _ _ (by decide))
  refine Dev.Frame.trans ?_ (hput _ _ _ (by decide))
  refine Dev.Frame.trans ?_ (hput _ _ _ (by decide))
  refine Dev.Frame.trans ?_ (hput _ _ _ (by decide))
  exact ⟨rfl, fun _ _ => rfl⟩

theorem phaseLoss_frame (t : Nat) (d : Dev) :
    Dev.Frame Dev.sansDevLatch (onPages powerPage) d (d.phaseLoss t) := by
  unfold Dev.phaseLoss
  refine .ite (fun _ => .ite (fun _ => ⟨rfl, fun _ _ => rfl⟩) (fun _ => .refl _ _ _)) (fun _ => ?_)
  cases hg : d.lostPhase with
  | none => exact .refl _ _ _
  | some g =>
    have hg4 : g < 4 := by
      unfold Dev.lostPhase at hg
      split at hg
      · exact List.mem_range.mp (List.mem_of_find?_eq_some hg)
      · cases hg
    exact (putAt_page_frame _ _ (powerPage_grp hg4) (by decide)).ofRegs.trans (devTrip_frame _ _ _ _ _)

theorem settle_frame (t : Nat) (d : Dev) : d.PowerFrame (d.settle t) := by
  have h : d.PowerFrame ((d.settleLegs t).phaseLoss t) :=
    (settleLegs_frame t d).trans ((phaseLoss_frame t _).mono (fun _ => rfl) (fun _ ha => ha))
  exact .ite (fun _ => h.trans (settleLegs_frame t _)) (fun _ => h)

theorem allLegsOff_frame (t : Nat) (d : Dev) : d.PowerFrame (d.allLegsOff t) :=
  .foldl (fun _ _ _ => .ite (fun _ => .refl _ _ _) (fun _ => setLeg_frame _ _ _)) d


/-! ## What holds a leg -/

/-- The registers that decide whether a leg is held: those of the power pages, VOTE_CFG and the leg lists. -/
def holdReg (a : Nat) : Bool := onPages powerPage a || decide (a % 0x1000 ∈ [0x040, 0x050, 0x054])

/-- What decides whether leg n is held reads alike in d and e, but that the sequencer hold may have begun (R495). -/
structure Dev.HoldsAlike (n : Nat) (d e : Dev) : Prop where
  trips : e.pw.trips = d.pw.trips
  groups : e.pw.groups = d.pw.groups
  dev : e.pw.dev = d.pw.dev
  engOff : (e.leg n).engOff = (d.leg n).engOff
  safe : e.safe = d.safe
  boot : e.boot = d.boot
  running : e.running = d.running
  fourWire : e.fourWire = d.fourWire
  halted : e.pw.halted = d.pw.halted
  seqHold : d.pw.seqHold = true → e.pw.seqHold = true
  reg : ∀ a, holdReg a = true → e.reg a = d.reg a

namespace Dev.HoldsAlike

variable {n : Nat} {d e f : Dev}

theorem refl (n : Nat) (d : Dev) : d.HoldsAlike n d := ⟨rfl, rfl, rfl, rfl, rfl, rfl, rfl, rfl, rfl, id, fun _ _ => rfl⟩

theorem getAt (h : d.HoldsAlike n e) {p : Nat} {x : FieldSpec} (hx : holdReg (x.addr p 0) = true) :
    e.getAt p x 0 = d.getAt p x 0 := by simp [Dev.getAt, h.reg _ hx]

theorem getAt_power (h : d.HoldsAlike n e) {p : Nat} {x : FieldSpec} (hp : powerPage p = true)
    (hx : x.off + 0 * x.stride < 0x1000) : e.getAt p x 0 = d.getAt p x 0 :=
  h.getAt (by simp [holdReg, onPages, addr_page hx, hp])

theorem groupOf (h : d.HoldsAlike n e) (k : Nat) : e.groupOf k = d.groupOf k := by
  have hin : ∀ g ∈ List.range 4, e.inGroup g k = d.inGroup g k := fun g hg => by
    have hp := powerPage_grp (List.mem_range.mp hg)
    simp [Dev.inGroup, h.getAt_power hp (x := GRP.ASSIGN0_LEGS) (by decide),
      h.getAt_power hp (x := GRP.ASSIGN1_LEGS) (by decide)]
  exact List.find?_congr hin

theorem legTripped (h : d.HoldsAlike n e) (k : Nat) : e.legTripped k = d.legTripped k := by
  simp [Dev.legTripped, Dev.tripOf, Dev.grp, h.trips, h.dev, h.groups, h.groupOf]

theorem allForced (h : d.HoldsAlike n e) : e.allForced = d.allForced := by
  simp [Dev.allForced, Dev.permit, Dev.clkHeld, h.safe, h.boot, h.running]

theorem engLegs (h : d.HoldsAlike n e) (k : Nat) : e.engLegs k = d.engLegs k := by
  have hlist (x : FieldSpec) (hx : x.off = 0x050 ∨ x.off = 0x054) :
      e.getAt (pENG k) x 0 = d.getAt (pENG k) x 0 := by
    refine h.getAt ?_
    simp only [holdReg, FieldSpec.addr, Bool.or_eq_true, decide_eq_true_eq, List.mem_cons]
    omega
  simp only [Dev.engLegs, Dev.get_eq, apply_ite (fun x => e.getAt (pENG k) x 0), hlist CE.LEG_LIST0_SLOTS (.inl rfl),
    hlist CE.LEG_LIST1_SLOTS (.inr rfl), apply_ite (fun x => d.getAt (pENG k) x 0)]

theorem engHeld (h : d.HoldsAlike n e) : e.engHeld n = d.engHeld n := by
  simp [Dev.engHeld, h.engOff, h.engLegs, h.getAt (p := pVOTER) (x := VOTER.VOTE_CFG_SPARE_EN) (by decide),
    h.getAt (p := pVOTER) (x := VOTER.VOTE_CFG_SPARE) (by decide)]

theorem seqHeld (h : d.HoldsAlike n e) (hs : d.seqHeld n = true) : e.seqHeld n = true := by
  simp only [Dev.seqHeld, Bool.and_eq_true, h.groupOf, h.fourWire] at hs ⊢
  exact ⟨h.seqHold hs.1, hs.2⟩

/-- A held leg stays held. -/
theorem legHeld (h : d.HoldsAlike n e) (hn : n < 48) (hd : (d.legHeld n).isSome = true) : (e.legHeld n).isSome = true := by
  have hen := h.getAt_power (powerPage_leg hn) (x := LEG.CTRL_EN) (by decide)
  have hforce := h.getAt_power (powerPage_leg hn) (x := LEG.CTRL_FORCE) (by decide)
  have hseq := h.seqHeld
  simp only [Dev.legHeld, Dev.flag_eq, Dev.get_eq, h.legTripped, h.allForced, h.engHeld, h.halted, hen, hforce] at hd ⊢
  grind

end Dev.HoldsAlike

theorem setLeg_holdsAlike {n m : Nat} {x : Leg} {d : Dev} (hx : x.engOff = (d.leg m).engOff) :
    d.HoldsAlike n (d.setLeg m x) := by
  refine { Dev.HoldsAlike.refl n d with engOff := ?_ }
  by_cases hnm : n = m
  · subst hnm
    by_cases hn : n < 48
    · rw [leg_setLeg_same x d hn, hx]
    · simp [Dev.leg, Dev.setLeg, Array.getD, hn]
  · rw [leg_setLeg_ne x d hnm]

/-! ## Settling darkens what is held -/

/-- Leg n is dark, or held outside a debug halt, which settling turns into dark. -/
def Dev.heldOrDark (n : Nat) (d : Dev) : Prop :=
  d.pw.halted = false ∧ ((d.leg n).dark ∨ (d.legHeld n).isSome = true)

theorem Dev.HoldsAlike.heldOrDark {n : Nat} {d e : Dev} (h : d.HoldsAlike n e) (hn : n < 48)
    (hdark : (d.leg n).dark → (e.leg n).dark) (hd : d.heldOrDark n) : e.heldOrDark n :=
  ⟨h.halted.trans hd.1, hd.2.imp hdark (h.legHeld hn)⟩

/-- A dark leg set on any place leaves a dark leg dark. -/
theorem setLeg_dark {n m : Nat} {x : Leg} {d : Dev} (hx : n = m → (d.leg n).dark → x.dark) (hd : (d.leg n).dark) :
    ((d.setLeg m x).leg n).dark := by
  by_cases hnm : n = m
  · subst hnm
    by_cases hn : n < 48
    · rw [leg_setLeg_same x d hn]; exact hx rfl hd
    · simpa [Dev.leg, Dev.setLeg, Array.getD, hn] using hd
  · rw [leg_setLeg_ne x d hnm]; exact hd

/-- A fold reaches Q at the element that brings it about, if it keeps I before and Q after. -/
theorem foldl_reaches {α : Type} {g : Dev → α → Dev} {I Q : Dev → Prop} {a : α} {l : List α} (ha : a ∈ l)
    (keepI : ∀ b x, I x → I (g x b)) (reach : ∀ x, I x → Q (g x a)) (keepQ : ∀ b x, Q x → Q (g x b)) {d : Dev}
    (hd : I d) : Q (l.foldl g d) := by
  induction l generalizing d with
  | nil => cases ha
  | cons b l ih =>
    rcases List.mem_cons.mp ha with rfl | ha
    · exact List.foldlRecOn l g (reach d hd) (fun x hx b _ => keepQ b x hx)
    · exact ih ha (keepI b d hd)

section
variable {n : Nat} (t : Nat)

theorem settleLeg_keeps_dark (m : Nat) {d : Dev} (hd : (d.leg n).dark) : ((d.settleLeg t m).leg n).dark := by
  obtain ⟨h, -⟩ | ⟨x, h, hx, -⟩ := settleLeg_cases t m d
  · rw [h]; exact hd
  · rw [h]; exact setLeg_dark (fun _ _ => hx) hd

theorem settleLeg_keeps_heldOrDark (hn : n < 48) (m : Nat) {d : Dev} (hd : d.heldOrDark n) :
    (d.settleLeg t m).heldOrDark n := by
  obtain ⟨h, -⟩ | ⟨x, h, hx, he⟩ := settleLeg_cases t m d
  · rw [h]; exact hd
  · rw [h]; exact (setLeg_holdsAlike he).heldOrDark hn (setLeg_dark (fun _ _ => hx)) hd

/-- Settling a leg that is held or dark leaves it dark. -/
theorem settleLeg_darkens (hn : n < 48) {d : Dev} (hd : d.heldOrDark n) : ((d.settleLeg t n).leg n).dark := by
  obtain ⟨hhalt, hd⟩ := hd
  obtain ⟨h, hwhy⟩ | ⟨x, h, hx, -⟩ := settleLeg_cases t n d
  · rw [h]
    rcases hwhy with hh | hnone
    · simp [hhalt] at hh
    · simpa [hnone] using hd
  · rw [h, leg_setLeg_same x d hn]; exact hx

theorem joinSpread_keeps_dark (g m : Nat) {d : Dev} (hd : (d.leg n).dark) : ((d.joinSpread t g m).leg n).dark := by
  unfold Dev.joinSpread
  dsimp only
  split
  · exact hd
  · split
    · exact hd
    · exact setLeg_dark (fun hnm hl => by subst hnm; exact hl) hd

theorem settleGroup_keeps_dark (g : Nat) {d : Dev} (hd : (d.leg n).dark) : ((d.settleGroup t g).leg n).dark := by
  have hr : ((d.respread t g).leg n).dark := by
    unfold Dev.respread
    dsimp only
    split
    · exact hd
    · exact List.foldlRecOn (motive := fun x : Dev => (x.leg n).dark) _ _ hd
        (fun x hx m _ => joinSpread_keeps_dark t g m hx)
  unfold Dev.settleGroup
  dsimp only
  split
  · exact hr
  · exact hr

theorem settleGroups_keep_dark {d : Dev} (hd : (d.leg n).dark) :
    ((d.each (fun g d => d.settleGroup t g) (List.range 4)).leg n).dark :=
  List.foldlRecOn (motive := fun x : Dev => (x.leg n).dark) _ _ hd (fun _ hx g _ => settleGroup_keeps_dark t g hx)

theorem settleLegs_keeps_dark {d : Dev} (hd : (d.leg n).dark) : ((d.settleLegs t).leg n).dark :=
  settleGroups_keep_dark t
    (List.foldlRecOn (motive := fun x : Dev => (x.leg n).dark) _ _ hd (fun _ hx m _ => settleLeg_keeps_dark t m hx))

theorem settleLegs_darkens (hn : n < 48) {d : Dev} (hd : d.heldOrDark n) : ((d.settleLegs t).leg n).dark :=
  settleGroups_keep_dark t
    (foldl_reaches (I := fun x => x.heldOrDark n) (Q := fun x => (x.leg n).dark) (List.mem_range.mpr hn)
      (fun m _ hx => settleLeg_keeps_heldOrDark t hn m hx) (fun _ hx => settleLeg_darkens t hn hx)
      (fun m _ hx => settleLeg_keeps_dark t m hx) hd)

theorem phaseLoss_leg (d : Dev) : (d.phaseLoss t).leg n = d.leg n :=
  (phaseLoss_frame t d).field (fun x => x.leg n) (fun _ => rfl)

/-- Once everything has settled, a leg that was held or dark is dark. -/
theorem settle_darkens (hn : n < 48) {d : Dev} (hd : d.heldOrDark n) : ((d.settle t).leg n).dark := by
  have h : (((d.settleLegs t).phaseLoss t).leg n).dark := by
    rw [phaseLoss_leg]; exact settleLegs_darkens t hn hd
  unfold Dev.settle
  dsimp only
  split
  · exact settleLegs_keeps_dark t h
  · exact h

/-- Leg m goes off unless something holds it already: one step of the turn-off of all legs. -/
def Dev.legOff (t m : Nat) (d : Dev) : Dev :=
  if (d.legHeld m).isSome then d
  else d.setLeg m { (d.leg m).bothOff (d.legCfg m) (d.nextTick t) with live := false, heldBy := 2, freeSince := none }

theorem allLegsOff_eq (d : Dev) : d.allLegsOff t = (List.range 48).foldl (fun d m => d.legOff t m) d := rfl

theorem legOff_keeps_heldOrDark (hn : n < 48) (m : Nat) {d : Dev} (hd : d.heldOrDark n) :
    (d.legOff t m).heldOrDark n := by
  unfold Dev.legOff
  split
  · exact hd
  · exact (setLeg_holdsAlike (by simp)).heldOrDark hn (setLeg_dark (fun _ _ => ⟨by simp, rfl⟩)) hd

/-- Outside a debug halt, after all legs that nothing holds went off every leg is held or dark (R44, R93). -/
theorem allLegsOff_heldOrDark (hn : n < 48) {d : Dev} (hd : d.pw.halted = false) : (d.allLegsOff t).heldOrDark n := by
  rw [allLegsOff_eq]
  refine foldl_reaches (I := fun x : Dev => x.pw.halted = false) (Q := fun x => x.heldOrDark n) (List.mem_range.mpr hn)
    (fun m x hx => ?_) (fun x hx => ?_) (fun m _ hx => legOff_keeps_heldOrDark t hn m hx) hd
  · unfold Dev.legOff
    split
    · exact hx
    · exact hx
  · unfold Dev.legOff
    split
    · next hheld => exact ⟨hx, .inr hheld⟩
    · exact ⟨hx, .inl (by rw [leg_setLeg_same _ _ hn]; exact ⟨by simp, rfl⟩)⟩

end

end Sys2Proof.Machine
end

section
/-!
SUPPORT. The positions and the engines' roles (R108 to R118, R126): what granting and vacating may change.
-/
namespace Sys2Proof.Machine

/-- The registers that show roles and positions: those of the engines and the voter but VOTE_CFG and the leg lists. -/
def roleReg (a : Nat) : Bool :=
  onPages (fun p => decide (pENG 0 ≤ p) && decide (p ≤ pVOTER)) a && !decide (a % 0x1000 ∈ [0x040, 0x050, 0x054])

/-- The device without registers, engines and positions. -/
def Dev.sansRoles (d : Dev) : Dev := { d with regs := [], eng := engReset, triad := { d.triad with pos := Triad.reset.pos } }

/-- A frame of what a change of roles and positions may change. -/
abbrev Dev.RoleFrame (d e : Dev) : Prop := Dev.Frame Dev.sansRoles roleReg d e

theorem roleReg_iff (a : Nat) : roleReg a = true ↔
    (0x20 ≤ a / 0x1000 ∧ a / 0x1000 ≤ 0x2F) ∧ a % 0x1000 ∉ [0x040, 0x050, 0x054] := by
  simp only [roleReg, onPages, Bool.and_eq_true, decide_eq_true_eq, Bool.not_eq_true', decide_eq_false_iff_not]
  rfl

theorem roleReg_addr {p : Nat} {f : FieldSpec} {i : Nat} (hp : 0x20 ≤ p ∧ p ≤ 0x2F)
    (hf : f.off + i * f.stride < 0x1000) (ho : f.off + i * f.stride ∉ [0x040, 0x050, 0x054]) :
    roleReg (f.addr p i) = true := by
  have hm : f.addr p i % 0x1000 = f.off + i * f.stride := by simp only [FieldSpec.addr]; omega
  rw [roleReg_iff, addr_page hf, hm]
  exact ⟨hp, ho⟩

theorem putAt_voter_frame {f : FieldSpec} {i : Nat} (v : Nat) (d : Dev) (hf : f.off + i * f.stride < 0x1000)
    (ho : f.off + i * f.stride ∉ [0x040, 0x050, 0x054]) : d.RoleFrame (d.putAt pVOTER f i v) :=
  (putAt_frame v d (roleReg_addr (by decide) hf ho)).ofRegs

theorem setPos_frame {k : Nat} (hk : k < 3) (x : Position) (d : Dev) : d.RoleFrame (d.setPos k x) := by
  have hput (f : FieldSpec) (v : Nat) (e : Dev) (hf : f.off = 0x044 ∧ f.stride = 4) :
      e.RoleFrame (e.putAt pVOTER f k v) :=
    putAt_voter_frame v e (by rw [hf.1, hf.2]; omega)
      (by simp only [hf.1, hf.2, List.mem_cons, List.not_mem_nil, or_false]; omega)
  refine Dev.Frame.trans ?_ (hput _ _ _ (by decide))
  refine Dev.Frame.trans ?_ (hput _ _ _ (by decide))
  refine Dev.Frame.trans ?_ (hput _ _ _ (by decide))
  exact ⟨rfl, fun _ _ => rfl⟩

theorem setRole_frame {n : Nat} (hn : n < 16) (r : Role) (d : Dev) : d.RoleFrame (d.setRole n r) := by
  have hhealth (v : Nat) (e : Dev) : e.RoleFrame (e.putAt pVOTER VOTER.HEALTH_ROLE n v) := by
    refine putAt_voter_frame v e ?_ ?_
    · simp only [VOTER.HEALTH_ROLE]; omega
    · simp only [VOTER.HEALTH_ROLE, List.mem_cons, List.not_mem_nil, or_false]; omega
  have hstate (v : Nat) (e : Dev) : e.RoleFrame (e.putAt (pENG n) TE.STATUS_STATE 0 v) :=
    (putAt_frame v e (roleReg_addr (by rw [pENG]; omega) (by decide) (by decide))).ofRegs
  refine .ite (fun _ => .refl _ _ _) (fun _ => ?_)
  refine Dev.Frame.trans ?_ (hstate _ _)
  refine Dev.Frame.trans ?_ (hhealth _ _)
  exact ⟨rfl, fun _ _ => rfl⟩

theorem voterFault_frame (cause pos eng word : Nat) (d : Dev) : d.RoleFrame (d.voterFault cause pos eng word) := by
  refine Dev.Frame.trans ?_ (putAt_voter_frame _ _ (by decide) (by decide))
  refine Dev.Frame.trans ?_ (putAt_voter_frame _ _ (by decide) (by decide))
  refine Dev.Frame.trans ?_ (putAt_voter_frame _ _ (by decide) (by decide))
  exact putAt_voter_frame _ _ (by decide) (by decide)

theorem vacate_frame {k : Nat} (hk : k < 3) (d : Dev) : d.RoleFrame (d.vacate k) :=
  .ite (fun _ => .refl _ _ _) (fun _ => (setPos_frame hk _ _).trans (setRole_frame (d.pos k).holder.isLt _ _))

theorem candidate_lt {k n : Nat} {start : Bool} {d : Dev} (hk : k < 3) (h : d.candidate k start = some n) : n < 16 := by
  have hspare : d.spare < 16 := bitsGet_lt _ _ _
  unfold Dev.candidate at h
  split_ifs at h
  · cases h; omega
  · cases h; exact hspare

theorem grant_frame {k : Nat} (hk : k < 3) (start : Option LawState) (d : Dev) : d.RoleFrame (d.grant k start) := by
  unfold Dev.grant
  refine .ite (fun _ => .refl _ _ _) (fun _ => ?_)
  cases hn : d.candidate k start.isSome with
  | none => exact (putAt_voter_frame _ _ (by decide) (by decide)).trans (voterFault_frame _ _ _ _ _)
  | some n =>
    cases start with
    | none => exact (setPos_frame hk _ _).trans (setRole_frame (candidate_lt hk hn) _ _)
    | some l => exact (setPos_frame hk _ _).trans (setRole_frame (candidate_lt hk hn) _ _)

/-- A change of roles leaves what holds a leg. -/
theorem Dev.Frame.holdsAlike {d e : Dev} (h : d.RoleFrame e) (n : Nat) : d.HoldsAlike n e where
  trips := h.field (fun x => x.pw.trips) (fun _ => rfl)
  groups := h.field (fun x => x.pw.groups) (fun _ => rfl)
  dev := h.field (fun x => x.pw.dev) (fun _ => rfl)
  engOff := h.field (fun x => (x.leg n).engOff) (fun _ => rfl)
  safe := h.field Dev.safe (fun _ => rfl)
  boot := h.field Dev.boot (fun _ => rfl)
  running := h.field Dev.running (fun _ => rfl)
  fourWire := h.field Dev.fourWire (fun _ => rfl)
  halted := h.field (fun x => x.pw.halted) (fun _ => rfl)
  seqHold := fun hs => (h.field (fun x => x.pw.seqHold) (fun _ => rfl)).trans hs
  reg := fun a ha => h.reg a (by
    rw [Bool.eq_false_iff, Ne, roleReg_iff]
    simp only [holdReg, onPages, Bool.or_eq_true, decide_eq_true_eq, powerPage_iff] at ha
    rintro ⟨hpage, hoff⟩
    rcases ha with hpower | hcfg
    · omega
    · exact hoff hcfg)

end Sys2Proof.Machine
end

section
/-!
SUPPORT. An outcome that takes effect (R60): the stages of `Dev.adopt`, what each may change, and what the registers of the
law's own pages show afterwards.
-/
namespace Sys2Proof.Machine

/-! ## The stages -/

/-- The outcome is in force; on leaving IDLE the RWL settings of GFM are taken, and the breaker commands wait for the vote
while the law runs on (R27, R52, R104). -/
def Dev.outcomeTaken (l : LawState) (d : Dev) : Dev :=
  let ran := d.running && l.seq.st.runs
  let live := if d.triad.law.seq.st = .idle && l.seq.st != .idle then d.gfmRegs else d.triad.live
  { d with triad := { d.triad with law := l.quiet, live := live, brkCmd := if ran then d.triad.brkCmd else l.seq.brk } }

/-- The outcome is in force and shown (R54, R99, R100, R102). -/
def Dev.outcomeShown (l : LawState) (d : Dev) : Dev := ((d.outcomeTaken l).showLaw l).showOut l.out

/-- The breaker pins follow, and the trigger wire passes between acquisition and the sequencer (R79, R104, R300). -/
def Dev.outcomeWired (t : Nat) (l : LawState) (was : Bool) (d : Dev) : Dev :=
  let d := (d.brkSync t).wireHandover was
  let d := if l.out.wireDrive then { d with acq := { d.acq with wireDrive := some t } } else d
  if l.seq.st.runs || l.seq.st = .idle then { d with triad := { d.triad with wireEdge := none } } else d

/-- A law start grants the positions (R118). -/
def Dev.outcomeGranted (l : LawState) (d : Dev) : Dev :=
  if l.out.started then
    d.each (fun k d => d.grant k (some { l with out := { SampleOut.none with flags := l.out.flags } })) (List.range 3)
  else d

/-- The legs go off where the outcome asks for it (R44, R93). -/
def Dev.outcomeLegs (t : Nat) (l : LawState) (d : Dev) : Dev :=
  if l.out.legsOff && !d.pw.seqHold then d.allLegsOff t else d

/-- While the law does not run no position is held, and the sequencer hold stands (R118, R492). -/
def Dev.outcomeStopped (l : LawState) (d : Dev) : Dev :=
  if l.seq.st.runs then d
  else { d.each (fun k d => d.vacate k) (List.range 3) with pw := { d.pw with seqHold := true } }

/-- While the law does not run no voter's hold stands (R115). -/
def Dev.outcomeUnheld (l : LawState) (d : Dev) : Dev :=
  if l.seq.st.runs then d else { d with triad := { d.triad with hold := false, holdCnt := 0, holdShut := none } }

/-- The outcome before the legs settle. -/
def Dev.outcomeActs (t : Nat) (l : LawState) (d : Dev) : Dev :=
  (((((d.outcomeShown l).outcomeWired t l d.wireBlocked).outcomeGranted l).outcomeLegs t l).outcomeStopped l).outcomeUnheld l

theorem adopt_eq (t : Nat) (l : LawState) (d : Dev) : d.adopt t l = (d.outcomeActs t l).settle t := (rfl)

/-! ## The registers that show an outcome -/

/-- The pages of the forming law. -/
def lawOwnPage (p : Nat) : Bool := decide (pGFM ≤ p) && decide (p ≤ pFRT)

theorem showLaw_frame (l : LawState) (d : Dev) : Dev.Frame Dev.sansRegs (onPages lawOwnPage) d (d.showLaw l) := by
  simp only [Dev.showLaw, Dev.put_eq, Dev.putFlag_eq]
  iterate 19 refine Dev.Frame.trans ?_ (putAt_frame _ _ (by decide))
  exact .refl _ _ _

/-- TRANSIT.STATUS shows the state of the outcome. -/
theorem showLaw_state (l : LawState) (d : Dev) :
    (d.showLaw l).getAt pTRANSIT TRANSIT.STATUS_STATE 0 = l.seq.st.code := by
  simp (disch := decide) only [Dev.showLaw, Dev.put_eq, Dev.putFlag_eq, getAt_putAt_apart, getAt_putAt_word,
    getAt_putAt_same]
  cases l.seq.st <;> rfl

theorem showLaw_cmdPending (l : LawState) (d : Dev) :
    (d.showLaw l).getAt pTRANSIT TRANSIT.STATUS_CMD_PENDING 0 = d.getAt pTRANSIT TRANSIT.STATUS_CMD_PENDING 0 := by
  simp (disch := decide) only [Dev.showLaw, Dev.put_eq, Dev.putFlag_eq, getAt_putAt_apart, getAt_putAt_word]

theorem raiseMask_frame (P : Nat → Bool) {p : Nat} (m : Nat) (d : Dev) (h : P (p * 0x1000 + 0x010) = true) :
    Dev.Frame Dev.sansRegs P d (d.raiseMask p m) :=
  .ite (fun _ => .refl _ _ _) (fun _ => setReg_frame _ _ h)

/-- An event of the mask is set, and one that was set stays. -/
theorem raiseMask_getLsbD (p m a : Nat) {k : Nat} (hk : k < 32) (d : Dev) :
    ((d.raiseMask p m).reg a).getLsbD k =
      ((d.reg a).getLsbD k || (decide (a = p * 0x1000 + 0x010) && m.testBit k)) := by
  unfold Dev.raiseMask
  split
  · next hm => simp [hm]
  · by_cases ha : a = p * 0x1000 + 0x010
    · rw [ha, reg_setReg_same, BitVec.getLsbD_or, BitVec.getLsbD_ofNat]
      simp only [hk, decide_true, Bool.true_and]
    · simp [reg_setReg_ne _ _ ha, ha]

/-- What an outcome reported to a page of the law. -/
def SampleOut.irq (o : SampleOut) (p : Nat) : Nat :=
  if p = pGFM then o.gfmIrq else if p = pPROFILE then o.prfIrq else if p = pTRANSIT then o.trIrq
  else if p = pFRT then o.frtIrq else 0

/-- The four IRQ_RAW words are raised before the fault codes are written. -/
def Dev.showEvents (o : SampleOut) (d : Dev) : Dev :=
  (((d.raiseMask pGFM o.gfmIrq).raiseMask pPROFILE o.prfIrq).raiseMask pTRANSIT o.trIrq).raiseMask pFRT o.frtIrq

theorem showEvents_event {o : SampleOut} {p k : Nat} (hk : k < 32) (h : (o.irq p).testBit k = true) (d : Dev) :
    ((d.showEvents o).reg (p * 0x1000 + 0x010)).getLsbD k = true := by
  simp only [Dev.showEvents, raiseMask_getLsbD _ _ _ hk, Bool.or_eq_true, Bool.and_eq_true, decide_eq_true_eq]
  unfold SampleOut.irq at h
  split_ifs at h with h1 h2 h3 h4
  · simp [h1, h]
  · simp [h2, h]
  · simp [h3, h]
  · simp [h4, h]
  · simp at h

/-- The fault codes of GFM and TRANSIT. -/
def faultReg (a : Nat) : Bool := regsIn [pGFM * 0x1000 + 0x024, pTRANSIT * 0x1000 + 0x024] a

/-- What showing the reports changes beyond the events: the fault codes. -/
theorem showOut_frame (o : SampleOut) (d : Dev) : Dev.Frame Dev.sansRegs faultReg (d.showEvents o) (d.showOut o) := by
  unfold Dev.showOut
  dsimp only
  have hput (p : Nat) (f g : FieldSpec) (v w : Nat) (e : Dev) (hf : faultReg (f.addr p 0) = true)
      (hg : faultReg (g.addr p 0) = true) : Dev.Frame Dev.sansRegs faultReg e ((e.put p f v).put p g w) :=
    (putAt_frame _ _ hf).trans (putAt_frame _ _ hg)
  cases o.gfmFault with
  | none =>
    cases o.trFault with
    | none => exact .refl _ _ _
    | some x => exact hput _ _ _ _ _ _ (by decide) (by decide)
  | some y =>
    cases o.trFault with
    | none => exact hput _ _ _ _ _ _ (by decide) (by decide)
    | some x =>
      exact (hput _ _ _ _ _ _ (by decide) (by decide)).trans (hput _ _ _ _ _ _ (by decide) (by decide))

/-- TRANSIT.FAULT_CODE takes the cause and the state it came from. -/
theorem showOut_fault {o : SampleOut} {c x : Nat} (h : o.trFault = some (c, x)) (hc : c < 2 ^ 8) (hx : x < 2 ^ 4) (d : Dev) :
    (d.showOut o).getAt pTRANSIT TRANSIT.FAULT_CODE_CAUSE 0 = c ∧
      (d.showOut o).getAt pTRANSIT TRANSIT.FAULT_CODE_STATE_FROM 0 = x := by
  simp (disch := decide) only [Dev.showOut, h, Dev.put_eq, getAt_putAt_apart, getAt_putAt_same]
  exact ⟨Nat.mod_eq_of_lt hc, Nat.mod_eq_of_lt hx⟩

/-- A field of one bit reads 1 where the bit is set. -/
theorem getAt_of_bit {d : Dev} {p i : Nat} {f : FieldSpec} (hf : f.hi = f.lo)
    (h : (d.reg (f.addr p i)).getLsbD f.lo = true) : d.getAt p f i = 1 := by
  have hb : (d.getAt p f i).testBit 0 = true := by
    rw [Dev.getAt, bitsGet_testBit]; simp [hf, h]
  have hlt : d.getAt p f i < 2 := by
    have := bitsGet_lt (d.reg (f.addr p i)) f.hi f.lo
    simpa [Dev.getAt, hf] using this
  rcases Nat.lt_succ_iff_lt_or_eq.mp hlt with h0 | h1
  · simp [Nat.lt_one_iff.mp h0] at hb
  · exact h1

/-! ## What an outcome changes -/

theorem lawPage_iff (p : Nat) : lawPage p = true ↔
    ((p = 0 ∨ (0x20 ≤ p ∧ p ≤ 0x2F)) ∨ (0x40 ≤ p ∧ p ≤ 0x74)) ∨ (0x80 ≤ p ∧ p ≤ 0x83) := by
  simp only [lawPage, Bool.or_eq_true, Bool.and_eq_true, decide_eq_true_eq]
  rfl

theorem lawOwnPage_iff (p : Nat) : lawOwnPage p = true ↔ 0x80 ≤ p ∧ p ≤ 0x83 := by
  simp only [lawOwnPage, Bool.and_eq_true, decide_eq_true_eq]
  rfl

/-- A frame that picks registers of the law's pages may pick all of them. -/
theorem lawPage_of {P : Nat → Bool} (h : ∀ a, P a = true → lawPage (a / 0x1000) = true) (a : Nat)
    (ha : onPages lawPage a = false) : P a = false := by
  rw [Bool.eq_false_iff] at ha ⊢
  exact fun hp => ha (h a hp)

/-- The registers of roles, trips and settling: those of the law's pages that are not its own. -/
def actReg (a : Nat) : Bool := roleReg a || onPages powerPage a

theorem actReg_own {a : Nat} (h : onPages lawOwnPage a = true) : actReg a = false := by
  rw [onPages, lawOwnPage_iff] at h
  rw [Bool.eq_false_iff]
  simp only [actReg, Ne, Bool.or_eq_true, roleReg_iff, onPages, powerPage_iff]
  omega

theorem actReg_lawPage (a : Nat) (h : actReg a = true) : lawPage (a / 0x1000) = true := by
  simp only [actReg, Bool.or_eq_true, roleReg_iff, onPages, powerPage_iff] at h
  rw [lawPage_iff]
  omega

/-- The device without what an outcome in force acts on. -/
def Dev.sansActs (d : Dev) : Dev :=
  { d with
    regs := [], eng := engReset, pw := .reset, acq := { d.acq with wireDrive := none },
    triad := { d.triad with pos := Triad.reset.pos, wireEdge := none, hold := false, holdCnt := 0, holdShut := none } }

/-- The device without what an outcome that takes effect may change. -/
def Dev.sansOutcome (d : Dev) : Dev :=
  { d.sansActs with triad := { d.sansActs.triad with law := .reset, live := .reset, brkCmd := 0 } }

/-- The device without breaker pairs, wire drive and wire edge. -/
def Dev.sansWire (d : Dev) : Dev :=
  { d with pw := { d.pw with brk := PowerStage.reset.brk }, acq := { d.acq with wireDrive := none },
           triad := { d.triad with wireEdge := none } }

theorem outcomeWired_frame (t : Nat) (l : LawState) (was : Bool) (d : Dev) :
    Dev.Frame Dev.sansWire (fun _ => false) d (d.outcomeWired t l was) := by
  have hpair (k : Nat) (y : BrkPair) (x : Dev) : Dev.Frame Dev.sansWire (fun _ => false) x (x.setPair k y) :=
    ⟨rfl, fun _ _ => setPair_reg _ _ _ _⟩
  have hbrk : Dev.Frame Dev.sansWire (fun _ => false) d (d.brkSync t) :=
    .each (fun _ _ _ => .ite (fun _ => .refl _ _ _) (fun _ => hpair _ _ _)) d
  have hover (x : Dev) : Dev.Frame Dev.sansWire (fun _ => false) x (x.wireHandover was) :=
    .ite (fun _ => ⟨rfl, fun _ _ => rfl⟩) (fun _ => .refl _ _ _)
  have hdrive (x : Dev) : Dev.Frame Dev.sansWire (fun _ => false) x
      (if l.out.wireDrive then { x with acq := { x.acq with wireDrive := some t } } else x) :=
    .ite (fun _ => ⟨rfl, fun _ _ => rfl⟩) (fun _ => .refl _ _ _)
  have hedge (x : Dev) : Dev.Frame Dev.sansWire (fun _ => false) x
      (if l.seq.st.runs || l.seq.st = .idle then { x with triad := { x.triad with wireEdge := none } } else x) :=
    .ite (fun _ => ⟨rfl, fun _ _ => rfl⟩) (fun _ => .refl _ _ _)
  unfold Dev.outcomeWired
  exact hbrk.trans ((hover _).trans ((hdrive _).trans (hedge _)))

theorem outcomeGranted_frame (l : LawState) (d : Dev) : d.RoleFrame (d.outcomeGranted l) :=
  .ite (fun _ => .each (fun _ hk x => grant_frame (List.mem_range.mp hk) _ x) _) (fun _ => .refl _ _ _)

theorem outcomeLegs_frame (t : Nat) (l : LawState) (d : Dev) : d.PowerFrame (d.outcomeLegs t l) :=
  .ite (fun _ => allLegsOff_frame t d) (fun _ => .refl _ _ _)

theorem vacates_frame (d : Dev) : d.RoleFrame (d.each (fun k d => d.vacate k) (List.range 3)) :=
  .each (fun _ hk x => vacate_frame (List.mem_range.mp hk) x) d

/-- A frame of what an outcome in force acts on. -/
abbrev Dev.ActFrame (d e : Dev) : Prop := Dev.Frame Dev.sansActs actReg d e

theorem Dev.Frame.actOfRole {d e : Dev} (h : d.RoleFrame e) : d.ActFrame e :=
  h.mono (fun _ => rfl) (fun a ha => by simp only [actReg, Bool.or_eq_false_iff] at ha; exact ha.1)

theorem Dev.Frame.actOfPower {d e : Dev} (h : d.PowerFrame e) : d.ActFrame e :=
  h.mono (fun _ => rfl) (fun a ha => by simp only [actReg, Bool.or_eq_false_iff] at ha; exact ha.2)

theorem setPower_frame (x : PowerStage) (d : Dev) : d.ActFrame { d with pw := x } := ⟨rfl, fun _ _ => rfl⟩

theorem outcomeStopped_frame (l : LawState) (d : Dev) : d.ActFrame (d.outcomeStopped l) :=
  .ite (fun _ => .refl _ _ _) (fun _ => (vacates_frame d).actOfRole.trans (setPower_frame _ _))

theorem outcomeUnheld_frame (l : LawState) (d : Dev) : d.ActFrame (d.outcomeUnheld l) :=
  .ite (fun _ => .refl _ _ _) (fun _ => ⟨rfl, fun _ _ => rfl⟩)

/-- Once shown, an outcome acts on roles, power stage and wire, and touches no register of the law's own pages. -/
theorem adopt_acts (t : Nat) (l : LawState) (d : Dev) : (d.outcomeShown l).ActFrame (d.adopt t l) := by
  have hwired : (d.outcomeShown l).ActFrame ((d.outcomeShown l).outcomeWired t l d.wireBlocked) :=
    (outcomeWired_frame t l _ _).mono (fun _ => rfl) (fun _ _ => rfl)
  rw [adopt_eq, Dev.outcomeActs]
  exact hwired.trans ((outcomeGranted_frame l _).actOfRole.trans ((outcomeLegs_frame t l _).actOfPower.trans
    ((outcomeStopped_frame l _).trans ((outcomeUnheld_frame l _).trans (settle_frame t _).actOfPower))))

/-- Showing an outcome writes registers of the law's own pages only. -/
theorem show_frame (l : LawState) (d : Dev) :
    Dev.Frame Dev.sansRegs (onPages lawOwnPage) d ((d.showLaw l).showOut l.out) := by
  have hevent (p m : Nat) (x : Dev) (hp : onPages lawOwnPage (p * 0x1000 + 0x010) = true) :
      Dev.Frame Dev.sansRegs (onPages lawOwnPage) x (x.raiseMask p m) := raiseMask_frame _ m x hp
  have hevents (x : Dev) : Dev.Frame Dev.sansRegs (onPages lawOwnPage) x (x.showEvents l.out) :=
    (hevent _ _ _ (by decide)).trans ((hevent _ _ _ (by decide)).trans
      ((hevent _ _ _ (by decide)).trans (hevent _ _ _ (by decide))))
  refine (showLaw_frame l d).trans ((hevents _).trans ((showOut_frame l.out _).mono (fun _ => rfl) (fun a ha => ?_)))
  rw [Bool.eq_false_iff] at ha ⊢
  intro hf
  simp only [faultReg, regsIn, decide_eq_true_eq, List.mem_cons, List.not_mem_nil, or_false] at hf
  rcases hf with rfl | rfl
  · exact ha (by decide)
  · exact ha (by decide)

theorem outcomeShown_frame (l : LawState) (d : Dev) :
    Dev.Frame Dev.sansRegs (onPages lawOwnPage) (d.outcomeTaken l) (d.outcomeShown l) := show_frame l _

/-- What an outcome that takes effect leaves alone. -/
theorem adopt_frame (t : Nat) (l : LawState) (d : Dev) :
    Dev.Frame Dev.sansOutcome (onPages lawPage) d (d.adopt t l) := by
  have htaken : Dev.Frame Dev.sansOutcome (onPages lawPage) d (d.outcomeTaken l) := ⟨rfl, fun _ _ => rfl⟩
  have hown (a : Nat) (ha : onPages lawOwnPage a = true) : lawPage (a / 0x1000) = true := by
    rw [onPages, lawOwnPage_iff] at ha
    rw [lawPage_iff]
    omega
  exact htaken.trans (((outcomeShown_frame l d).mono (fun _ => rfl) (lawPage_of hown)).trans
    ((adopt_acts t l d).mono (fun _ => rfl) (lawPage_of actReg_lawPage)))

/-! ## What an outcome in force reads as -/

/-- The outcome adopted is in force, without what it reported. -/
@[simp] theorem adopt_law (t : Nat) (l : LawState) (d : Dev) : (d.adopt t l).triad.law = l.quiet :=
  ((adopt_acts t l d).field (fun x => x.triad.law) (fun _ => rfl)).trans
    ((outcomeShown_frame l d).field (fun x => x.triad.law) (fun _ => rfl))

/-- A register of the law's own pages reads as the outcome showed it. -/
theorem adopt_getAt_own {p : Nat} {f : FieldSpec} {i : Nat} (t : Nat) (l : LawState) (d : Dev)
    (h : onPages lawOwnPage (f.addr p i) = true) : (d.adopt t l).getAt p f i = (d.outcomeShown l).getAt p f i :=
  (adopt_acts t l d).getAt (actReg_own h)

/-- What showing an outcome's reports leaves: every word but the events and the fault codes. -/
theorem showOut_getAt {p : Nat} {f : FieldSpec} {i : Nat} (o : SampleOut) (d : Dev) (h : f.addr p i % 0x1000 ≠ 0x010)
    (h' : faultReg (f.addr p i) = false) : (d.showOut o).getAt p f i = d.getAt p f i := by
  have hevent (q m : Nat) (x : Dev) : (x.raiseMask q m).getAt p f i = x.getAt p f i :=
    (raiseMask_frame (fun a => decide (a % 0x1000 = 0x010)) (p := q) m x (by simp)).getAt (by simpa using h)
  rw [(showOut_frame o d).getAt h', Dev.showEvents, hevent, hevent, hevent, hevent]

theorem adopt_state (t : Nat) (l : LawState) (d : Dev) :
    (d.adopt t l).getAt pTRANSIT TRANSIT.STATUS_STATE 0 = l.seq.st.code := by
  rw [adopt_getAt_own t l d (by decide), Dev.outcomeShown, showOut_getAt _ _ (by decide) (by decide), showLaw_state]

theorem adopt_cmdPending (t : Nat) (l : LawState) (d : Dev) :
    (d.adopt t l).getAt pTRANSIT TRANSIT.STATUS_CMD_PENDING 0 = d.getAt pTRANSIT TRANSIT.STATUS_CMD_PENDING 0 := by
  rw [adopt_getAt_own t l d (by decide), Dev.outcomeShown, showOut_getAt _ _ (by decide) (by decide),
    showLaw_cmdPending]
  rfl

/-- An event that the outcome reported stands in IRQ_RAW. -/
theorem adopt_event {p : Nat} {f : FieldSpec} (t : Nat) {l : LawState} (d : Dev) (hp : lawOwnPage p = true)
    (hf : f.off = 0x010 ∧ f.hi = f.lo ∧ f.lo < 32) (h : (l.out.irq p).testBit f.lo = true) :
    (d.adopt t l).getAt p f 0 = 1 := by
  obtain ⟨hoff, hbit, hlo⟩ := hf
  have haddr : f.addr p 0 = p * 0x1000 + 0x010 := by simp [FieldSpec.addr, hoff]
  have hpage : onPages lawOwnPage (f.addr p 0) = true := by rw [onPages, addr_page (by omega), hp]
  have hfault : faultReg (f.addr p 0) = false := by
    simp only [faultReg, regsIn, decide_eq_false_iff_not, List.mem_cons, List.not_mem_nil, or_false, haddr, pGFM, pTRANSIT]
    omega
  rw [adopt_getAt_own t l d hpage, Dev.outcomeShown, (showOut_frame _ _).getAt hfault]
  refine getAt_of_bit hbit ?_
  rw [haddr]
  exact showEvents_event hlo h _

/-- A cause that the outcome reported stands in TRANSIT.FAULT_CODE with the state it came from. -/
theorem adopt_fault (t : Nat) {l : LawState} (d : Dev) {c : Nat} {x : TrState} (h : l.out.trFault = some (c, x.code))
    (hc : c < 2 ^ 8) : (d.adopt t l).getAt pTRANSIT TRANSIT.FAULT_CODE_CAUSE 0 = c ∧
      (d.adopt t l).getAt pTRANSIT TRANSIT.FAULT_CODE_STATE_FROM 0 = x.code := by
  rw [adopt_getAt_own t l d (by decide), adopt_getAt_own t l d (by decide)]
  exact showOut_fault h hc (by cases x <;> decide) _

/-! ## An outcome in which the law does not run -/

/-- Where the sequencer hold begins on the power stage as it was, a leg that is held or dark stays so. -/
theorem Dev.HoldsAlike.beginHold {n : Nat} {d e : Dev} (h : d.HoldsAlike n e) (hn : n < 48) (hd : d.heldOrDark n) :
    Dev.heldOrDark n { e with pw := { d.pw with seqHold := true } } := by
  have hhold : d.HoldsAlike n { e with pw := { d.pw with seqHold := true } } :=
    ⟨rfl, rfl, rfl, rfl, h.safe, h.boot, h.running, h.fourWire, rfl, fun _ => rfl, h.reg⟩
  exact hhold.heldOrDark hn id hd

section
variable (t : Nat) {l : LawState} (d : Dev) (hstop : l.seq.st.runs = false)
include hstop

/-- The sequencer hold stands (R492). -/
theorem adopt_seqHold : (d.adopt t l).pw.seqHold = true := by
  rw [adopt_eq, (settle_frame t _).field (fun x => x.pw.seqHold) (fun _ => rfl)]
  simp [Dev.outcomeActs, Dev.outcomeUnheld, Dev.outcomeStopped, hstop]

/-- The shutdown of R115 is over. -/
theorem adopt_holdShut : (d.adopt t l).triad.holdShut = none := by
  rw [adopt_eq, (settle_frame t _).field (fun x => x.triad.holdShut) (fun _ => rfl)]
  simp [Dev.outcomeActs, Dev.outcomeUnheld, hstop]

/-- Where positions are vacated and the sequencer hold begins, a leg that is held or dark stays so. -/
theorem outcomeStopped_heldOrDark {n : Nat} (hn : n < 48) {d : Dev} (hd : d.heldOrDark n) :
    (d.outcomeStopped l).heldOrDark n := by
  rw [Dev.outcomeStopped, if_neg (by simp [hstop])]
  exact ((vacates_frame d).holdsAlike n).beginHold hn hd

theorem outcomeUnheld_heldOrDark {n : Nat} (hn : n < 48) {d : Dev} (hd : d.heldOrDark n) :
    (d.outcomeUnheld l).heldOrDark n := by
  have hsame : d.HoldsAlike n { d with triad := { d.triad with hold := false, holdCnt := 0, holdShut := none } } :=
    ⟨rfl, rfl, rfl, rfl, rfl, rfl, rfl, rfl, rfl, id, fun _ _ => rfl⟩
  rw [Dev.outcomeUnheld, if_neg (by simp [hstop])]
  exact hsame.heldOrDark hn id hd

/-- An outcome that puts the legs off leaves every leg dark, unless the timebase is halted or the sequencer hold stood. -/
theorem adopt_dark (hlegs : l.out.legsOff = true) (hhold : d.pw.seqHold = false) (hhalt : d.pw.halted = false) {n : Nat}
    (hn : n < 48) : ((d.adopt t l).leg n).dark := by
  have hsame {α : Type} (g : Dev → α) (h₁ : ∀ x, g (Dev.sansRegs x) = g x) (h₂ : ∀ x, g (Dev.sansWire x) = g x)
      (h₃ : ∀ x, g (Dev.sansRoles x) = g x) :
      g (((d.outcomeShown l).outcomeWired t l d.wireBlocked).outcomeGranted l) = g (d.outcomeTaken l) :=
    ((outcomeGranted_frame l _).field g h₃).trans
      (((outcomeWired_frame t l _ _).field g h₂).trans ((outcomeShown_frame l d).field g h₁))
  have hhold' := (hsame (fun x => x.pw.seqHold) (fun _ => rfl) (fun _ => rfl) (fun _ => rfl)).trans hhold
  have hhalt' := (hsame (fun x => x.pw.halted) (fun _ => rfl) (fun _ => rfl) (fun _ => rfl)).trans hhalt
  rw [adopt_eq]
  refine settle_darkens t hn (outcomeUnheld_heldOrDark hstop hn (outcomeStopped_heldOrDark hstop hn ?_))
  rw [Dev.outcomeLegs, if_pos (by simp [hlegs, hhold'])]
  exact allLegsOff_heldOrDark t hn hhalt'

end

end Sys2Proof.Machine
end

section
/-!
SUPPORT. Transitions of the sequencer outside the tick: what a shutdown and an entry into IDLE make of the law state, and what
an event of the law leaves alone.
-/
namespace Sys2Proof.Machine

/-! ## Event masks -/

theorem setBit_testBit (m b k : Nat) : (setBit m b).testBit k = (m.testBit k || decide (b = k)) := by
  simp [setBit, Nat.testBit_or, Nat.testBit_two_pow]

theorem irq_gfm (o : SampleOut) : o.irq pGFM = o.gfmIrq := rfl
theorem irq_profile (o : SampleOut) : o.irq pPROFILE = o.prfIrq := rfl
theorem irq_transit (o : SampleOut) : o.irq pTRANSIT = o.trIrq := rfl

/-! ## Shutdown and IDLE on the law state (R44, R74, R101) -/

/-- The controlled shutdown from a state in which the law runs; cause 0x11 alone is no ABORT. -/
theorem LawState.shutdown_eq {l : LawState} (i : LawIn) {c : Nat} (hrun : l.seq.st.runs = true) (hst : l.seq.st ≠ .stopping)
    (hc : c ≠ 0x11) : l.shutdown i c =
      { l with
        seq := { l.seq with st := .stopping, since := i.t, dwell := 0, cycleOk := false, syncOk := false, shutCause := c,
                            mission := .none, pendStop := none },
        far := .off, farRing := [],
        out := { l.out with trFault := some (c, l.seq.st.code), cause := c, trIrq := setBit (setBit l.out.trIrq 2) 0,
                            gfmIrq := if c = 0x10 then setBit l.out.gfmIrq 7 else l.out.gfmIrq } } := by
  by_cases h10 : c = 0x10 <;>
    simp [LawState.shutdown, LawState.trCause, LawState.trEvent, LawState.gfmEvent, LawState.goto, TrState.feHold, hrun, hst,
      hc, h10]

/-- An entry into IDLE from another state. -/
theorem LawState.toIdle_seq {l : LawState} (i : LawIn) (cause : Option Nat) (hst : l.seq.st ≠ .idle) :
    (l.toIdle i cause).seq =
      { l.seq with st := .idle, since := i.t, dwell := 0, cycleOk := false, syncOk := false,
                   brk := if i.tr.stopOpen && l.seq.outClosed then clearBit l.seq.brk i.tr.outBrk else l.seq.brk,
                   mission := .none, brkWait := none, pendStop := none } := by
  have hbne : (l.seq.st != .idle) = true := by simpa using hst
  cases cause with
  | none => simp [LawState.toIdle, LawState.goto, LawState.trEvent, hst, hbne]
  | some c =>
    by_cases h11 : c = 0x11 <;>
      simp [LawState.toIdle, LawState.goto, LawState.trCause, LawState.trEvent, hst, hbne, h11]


/-- Entering IDLE puts the legs off where the law ran. -/
theorem LawState.toIdle_legsOff (l : LawState) (i : LawIn) (cause : Option Nat) (hrun : l.seq.st.runs = true) :
    (l.toIdle i cause).out.legsOff = true := by
  cases cause with
  | none => simp [LawState.toIdle, hrun]
  | some c =>
    by_cases h11 : c = 0x11 <;> simp [LawState.toIdle, LawState.trCause, LawState.trEvent, hrun, h11]

theorem LawState.toIdle_fault (l : LawState) (i : LawIn) (c : Nat) :
    (l.toIdle i (some c)).out.trFault = some (c, l.seq.st.code) := by
  by_cases h11 : c = 0x11 <;> by_cases hst : l.seq.st = .idle <;>
    simp [LawState.toIdle, LawState.goto, LawState.trCause, LawState.trEvent, h11, hst]

/-! ## An event of the law -/

section
variable (m : List Host.Cell) (t : Nat) (f : LawIn → LawState → LawState) (d : Dev)

/-- Every holder takes the transition on its own state. -/
def Dev.holdersTake (i : LawIn) (f : LawIn → LawState → LawState) (d : Dev) : Dev :=
  d.each (fun k d =>
    let x := d.pos k
    if x.st = .counted || x.st = .suspended then d.setPos k { x with law := (f i x.law.quiet).quiet } else d)
    (List.range 3)

theorem holdersTake_frame (i : LawIn) : d.RoleFrame (d.holdersTake i f) :=
  .each (fun _ hk _ => .ite (fun _ => setPos_frame (List.mem_range.mp hk) _ _) (fun _ => .refl _ _ _)) d

/-- An event is the holders' transition and then the outcome's. -/
theorem lawEvent_eq : d.lawEvent m t f =
    (d.holdersTake (d.lawIn m t) f).adopt t (f (d.lawIn m t) d.triad.law.quiet) := by
  have hsplit : d.lawEvent m t f = (d.holdersTake (d.lawIn m t) f).adopt t
      (f (d.lawIn m t) (d.holdersTake (d.lawIn m t) f).triad.law.quiet) := by
    simp only [Dev.lawEvent, Dev.holdersTake]
  rw [hsplit, (holdersTake_frame f d (d.lawIn m t)).field (fun x => x.triad.law) (fun _ => rfl)]

/-- What an event of the law leaves alone. -/
theorem lawEvent_frame : Dev.Frame Dev.sansOutcome (onPages lawPage) d (d.lawEvent m t f) := by
  rw [lawEvent_eq]
  exact ((holdersTake_frame f d _).actOfRole.mono (fun _ => rfl) (lawPage_of actReg_lawPage)).trans (adopt_frame _ _ _)

end

/-! ## Events as commands -/

/-- What a command of the law leaves alone: its effect changes no other unit, no register off its pages, no memory. -/
theorem land_lawOnly {t : Nat} {e : Dev} {s : State}
    (h : Dev.Frame Dev.sansOutcome (onPages lawPage) (s.dev.begin t) e) : s.lawOnly (s.land t e) := by
  have hacq : e.acq = { s.dev.acq with wireDrive := e.acq.wireDrive } := by
    have hrest : { e.acq with wireDrive := none } = { s.dev.acq with wireDrive := none } :=
      h.field (fun x => { x.acq with wireDrive := none }) (fun _ => rfl)
    exact congrArg (fun x : Acq => { x with wireDrive := e.acq.wireDrive }) hrest
  exact ⟨⟨h.field Dev.mp (fun _ => rfl), h.field Dev.sense (fun _ => rfl), h.field Dev.felt (fun _ => rfl),
    h.field Dev.prec (fun _ => rfl), h.field Dev.safe (fun _ => rfl), h.field Dev.bus (fun _ => rfl),
    h.field Dev.chain (fun _ => rfl), h.field Dev.boot (fun _ => rfl), h.field Dev.latches (fun _ => rfl), hacq⟩,
    fun a ha => h.reg a ha,
    land_memSame (h.field Dev.wr (fun _ => rfl)) (h.field Dev.wipe (fun _ => rfl))⟩

/-- The state after an event of the law at t. -/
def State.afterEvent (t : Nat) (f : LawIn → LawState → LawState) (s : State) : State :=
  s.land t ((s.dev.begin t).lawEvent s.mem t f)

/-- The outcome that an event of the law makes of the one in force. -/
def State.eventLaw (t : Nat) (f : LawIn → LawState → LawState) (s : State) : LawState :=
  f (s.lawIn t) s.dev.triad.law.quiet

/-- The device on which the outcome of an event takes effect. -/
def State.eventDev (t : Nat) (f : LawIn → LawState → LawState) (s : State) : Dev :=
  (s.dev.begin t).holdersTake (s.lawIn t) f

section
variable (t : Nat) (f : LawIn → LawState → LawState) (s : State)

theorem afterEvent_eq : s.afterEvent t f = s.land t ((s.eventDev t f).adopt t (s.eventLaw t f)) :=
  congrArg (s.land t) (lawEvent_eq s.mem t f (s.dev.begin t))

theorem afterEvent_lawOnly : s.lawOnly (s.afterEvent t f) := land_lawOnly (lawEvent_frame _ _ _ _)

@[simp] theorem afterEvent_law : (s.afterEvent t f).dev.triad.law = (s.eventLaw t f).quiet := by
  rw [afterEvent_eq, land_triad, adopt_law]

theorem afterEvent_inState : (s.afterEvent t f).inState (s.eventLaw t f).seq.st := by
  refine ⟨by rw [State.seq, afterEvent_law]; rfl, ?_⟩
  rw [Dev.get_eq, afterEvent_eq, land_getAt, adopt_state]

theorem afterEvent_event {p : Nat} {x : FieldSpec} (hp : lawOwnPage p = true)
    (hx : x.off = 0x010 ∧ x.hi = x.lo ∧ x.lo < 32) (h : ((s.eventLaw t f).out.irq p).testBit x.lo = true) :
    (s.afterEvent t f).dev.flag p x = true := by
  rw [Dev.flag_eq, afterEvent_eq, land_getAt, adopt_event t _ hp hx h]
  rfl

theorem afterEvent_fault {c : Nat} {x : TrState} (h : (s.eventLaw t f).out.trFault = some (c, x.code)) (hc : c < 2 ^ 8) :
    (s.afterEvent t f).dev.get pTRANSIT TRANSIT.FAULT_CODE_CAUSE = c ∧
      (s.afterEvent t f).dev.get pTRANSIT TRANSIT.FAULT_CODE_STATE_FROM = x.code := by
  rw [Dev.get_eq, Dev.get_eq, afterEvent_eq, land_getAt, land_getAt]
  exact adopt_fault t _ h hc

end

/-- A command whose effect is an event of the law. -/
theorem run_lawEvent (t : Nat) (f : LawIn → LawState → LawState) (s : State) :
    run t (fun m d => d.lawEvent m t f) s = .next (s.afterEvent t f) := (rfl)

/-- An event that starts the controlled shutdown from the sequencer and the channels as they stand (R44, R101). -/
theorem afterEvent_shutsDown {t cause : Nat} {f : LawIn → LawState → LawState} {s : State} {l : LawState}
    (hf : s.eventLaw t f = l.shutdown (s.lawIn t) cause) (hseq : l.seq = s.seq)
    (hch : (l.chP, l.chQ, l.chW, l.chV) =
      (s.dev.triad.law.chP, s.dev.triad.law.chQ, s.dev.triad.law.chW, s.dev.triad.law.chV))
    (hrun : s.seq.st.runs = true) (hst : s.seq.st ≠ .stopping) (hc : cause ≠ 0x11) (hc8 : cause < 2 ^ 8) :
    s.shutsDown t cause (s.afterEvent t f) := by
  rw [LawState.shutdown_eq _ (by rw [hseq]; exact hrun) (by rw [hseq]; exact hst) hc, hseq] at hf
  have hin := afterEvent_inState t f s
  have hlaw := afterEvent_law t f s
  obtain ⟨hcause, hfrom⟩ := afterEvent_fault t f s (by rw [hf]) hc8
  have habort := afterEvent_event t f s (p := pTRANSIT) (x := TRANSIT.IRQ_RAW_ABORT) (by decide) (by decide) (by
    rw [hf, irq_transit]; simp [setBit_testBit, TRANSIT.IRQ_RAW_ABORT])
  have hchange := afterEvent_event t f s (p := pTRANSIT) (x := TRANSIT.IRQ_RAW_STATE_CHANGE) (by decide) (by decide) (by
    rw [hf, irq_transit, setBit_testBit]; simp [TRANSIT.IRQ_RAW_STATE_CHANGE])
  rw [hf] at hin hlaw
  have hs : (s.afterEvent t f).seq = { s.seq with
      st := .stopping, since := t, dwell := 0, cycleOk := false, syncOk := false, shutCause := cause, mission := .none,
      pendStop := none } := by
    rw [State.seq, hlaw]; rfl
  refine ⟨hin, ?_, ?_, ?_, ?_, hcause, hfrom, habort, hchange, ?_, ?_, afterEvent_lawOnly t f s⟩
  · rw [hs]
  · rw [hs]
  · rw [hs]
  · rw [hs]
  · rw [hlaw]; exact hch
  · rw [hs]

/-- GFM reports a shutdown with cause 0x10 as HOLD_EXPIRED (R44, R45). -/
theorem afterEvent_holdExpired {t : Nat} {f : LawIn → LawState → LawState} {s : State} {l : LawState}
    (hf : s.eventLaw t f = l.shutdown (s.lawIn t) 0x10) (hrun : l.seq.st.runs = true) (hst : l.seq.st ≠ .stopping) :
    (s.afterEvent t f).dev.flag pGFM GFM.IRQ_RAW_HOLD_EXPIRED = true := by
  rw [LawState.shutdown_eq _ hrun hst (by decide)] at hf
  refine afterEvent_event t f s (by decide) (by decide) ?_
  rw [hf, irq_gfm]
  simp [setBit_testBit, GFM.IRQ_RAW_HOLD_EXPIRED]

/-- An event that enters IDLE from another state (R74). -/
theorem afterEvent_idles {t : Nat} {f : LawIn → LawState → LawState} {s : State} {cause : Option Nat}
    (hf : s.eventLaw t f = s.dev.triad.law.quiet.toIdle (s.lawIn t) cause) (hst : s.seq.st ≠ .idle) :
    s.idles t (s.afterEvent t f) := by
  have hseq := LawState.toIdle_seq (l := s.dev.triad.law.quiet) (s.lawIn t) cause hst
  have hs : (s.afterEvent t f).seq = (s.dev.triad.law.quiet.toIdle (s.lawIn t) cause).seq := by
    rw [State.seq, afterEvent_law, hf]; rfl
  have hin := afterEvent_inState t f s
  have hidle : (s.eventLaw t f).seq.st = .idle := by rw [hf, hseq]
  have hstop : (s.eventLaw t f).seq.st.runs = false := by rw [hidle]; rfl
  rw [hidle] at hin
  rw [hseq] at hs
  refine ⟨hin, ?_, ?_, ?_, ?_, ?_, ?_, fun hrun hhold hhalt n hn => ?_, ?_, afterEvent_lawOnly t f s⟩
  · rw [hs]; rfl
  · rw [hs]
  · rw [hs]
  · rw [hs]
  · rw [afterEvent_law, hf]; rfl
  · rw [hs]
    simp only [← Bool.and_eq_true]
    rfl
  · have hsame {α : Type} (g : Dev → α) (h₁ : ∀ x, g (Dev.sansRoles x) = g x) : g (s.eventDev t f) = g (s.dev.begin t) :=
      (holdersTake_frame f _ _).field g h₁
    rw [afterEvent_eq]
    exact adopt_dark t _ hstop (by rw [hf]; exact LawState.toIdle_legsOff _ _ _ hrun)
      ((hsame (fun x => x.pw.seqHold) (fun _ => rfl)).trans hhold)
      ((hsame (fun x => x.pw.halted) (fun _ => rfl)).trans hhalt) hn
  · rw [afterEvent_eq]
    exact adopt_seqHold t _ hstop

/-! ## Following errors (R69) -/

/-- The timers that stand at FE_CYC are reported. -/
def LawState.feReported (p v : Bool) (l : LawState) : LawState :=
  let l := if p then l.prfEvent 3 else l
  if v then l.prfEvent 4 else l

theorem feReported_eq (p v : Bool) (l : LawState) :
    l.feReported p v = { l with out := { l.out with prfIrq := (l.feReported p v).out.prfIrq } } := by
  cases p <;> cases v <;> rfl

theorem feReported_irq (p v : Bool) (l : LawState) :
    (p = true → (l.feReported p v).out.prfIrq.testBit 3 = true) ∧
      (v = true → (l.feReported p v).out.prfIrq.testBit 4 = true) := by
  cases p <;> cases v <;> simp [LawState.feReported, LawState.prfEvent, setBit_testBit]

/-- The event of a following error outside the states in which the timers hold. -/
theorem LawState.evFe_eq {i : LawIn} {l : LawState} {p v : Bool} (hrun : l.seq.st.runs = true)
    (hhold : l.seq.st.feHold = false) (hp : p = (i.prf.fePEn && decide (i.prf.feCyc ≤ l.feP)))
    (hv : v = (i.prf.feVEn && decide (i.prf.feCyc ≤ l.feV))) (hpv : (p || v) = true) :
    l.evFe i = if i.prf.feAction then (l.feReported p v).shutdown i 0x0F else l.feReported p v := by
  unfold LawState.evFe
  simp only [← hp, ← hv, hrun, hhold, hpv, Bool.not_false, Bool.and_self, if_true]
  rfl

/-- A following error reports its timers, and shuts down where FE_ACTION says so. -/
theorem feExpired_reports {t : Nat} {p v : Bool} {s : State} (hrun : s.seq.st.runs = true)
    (hhold : s.seq.st.feHold = false)
    (hf : s.eventLaw t (fun i l => l.evFe i) =
      if s.dev.actFlag pPROFILE PROFILE.PRF_CFG_FE_ACTION = true then
        (s.dev.triad.law.quiet.feReported p v).shutdown (s.lawIn t) 0x0F
      else s.dev.triad.law.quiet.feReported p v) :
    (p = true → (s.afterEvent t (fun i l => l.evFe i)).dev.flag pPROFILE PROFILE.IRQ_RAW_FE_P_EXPIRED = true) ∧
      (v = true → (s.afterEvent t (fun i l => l.evFe i)).dev.flag pPROFILE PROFILE.IRQ_RAW_FE_V_EXPIRED = true) ∧
      (if s.dev.actFlag pPROFILE PROFILE.PRF_CFG_FE_ACTION = true then
        s.shutsDown t 0x0F (s.afterEvent t (fun i l => l.evFe i))
       else (s.afterEvent t (fun i l => l.evFe i)).seq = s.seq ∧ s.lawOnly (s.afterEvent t (fun i l => l.evFe i))) := by
  obtain ⟨hirqP, hirqV⟩ := feReported_irq p v s.dev.triad.law.quiet
  have heq := feReported_eq p v s.dev.triad.law.quiet
  have hseq : (s.dev.triad.law.quiet.feReported p v).seq = s.seq := by rw [heq]; rfl
  have hst : s.seq.st ≠ .stopping := fun h => by simp [h, TrState.feHold] at hhold
  have hirq : (s.eventLaw t (fun i l => l.evFe i)).out.irq pPROFILE = (s.dev.triad.law.quiet.feReported p v).out.prfIrq := by
    rw [irq_profile, hf]
    split
    · rw [LawState.shutdown_eq _ (by rw [hseq]; exact hrun) (by rw [hseq]; exact hst) (by decide)]
    · rfl
  refine ⟨fun h => ?_, fun h => ?_, ?_⟩
  · exact afterEvent_event t _ s (by decide) (by decide) (by rw [hirq]; exact hirqP h)
  · exact afterEvent_event t _ s (by decide) (by decide) (by rw [hirq]; exact hirqV h)
  · split
    · next hact =>
      rw [if_pos hact] at hf
      exact afterEvent_shutsDown hf hseq (by rw [heq]; rfl) hrun hst (by decide) (by decide)
    · next hact =>
      rw [if_neg hact] at hf
      exact ⟨by rw [State.seq, afterEvent_law, hf]; exact hseq, afterEvent_lawOnly _ _ _⟩

/-! ## The end of the ramp -/

/-- A command whose effect on this state is an event of the law. -/
theorem run_of_lawEvent {t : Nat} {g : List Host.Cell → Dev → Dev} {f : LawIn → LawState → LawState} {s : State}
    (h : g s.mem (s.dev.begin t) = (s.dev.begin t).lawEvent s.mem t f) : run t g s = .next (s.afterEvent t f) := by
  rw [run_next, h]
  rfl

/-! ## The commands -/

/-- Settles O12: the events of R44, R45 and R69 are one shutdown each, and the ramp's end is one entry into IDLE. -/
theorem controlledShutdownStartsAndEnds : Obligations.ControlledShutdownStartsAndEnds := by
  unfold Obligations.ControlledShutdownStartsAndEnds
  refine ⟨?_, ?_, ?_, ?_, ?_⟩
  · intro t s hrun hst hheld
    have hf : s.eventLaw t (fun i l => l.evHoldExpired i) = s.dev.triad.law.quiet.shutdown (s.lawIn t) 0x10 := by
      obtain ⟨k, hk, hlt⟩ := hheld
      refine if_pos (List.any_eq_true.mpr ⟨k, List.mem_range.mpr hk, ?_⟩)
      exact decide_eq_true hlt
    exact ⟨_, run_lawEvent t _ s, afterEvent_shutsDown hf rfl rfl hrun hst (by decide) (by decide),
      afterEvent_holdExpired hf hrun hst⟩
  · intro t s hrun hst hnonFinite
    have hf : s.eventLaw t (fun i l => l.evNonFinite i) = s.dev.triad.law.quiet.shutdown (s.lawIn t) 0x10 :=
      if_pos hnonFinite
    exact ⟨_, run_lawEvent t _ s, afterEvent_shutsDown hf rfl rfl hrun hst (by decide) (by decide),
      afterEvent_holdExpired hf hrun hst⟩
  · intro t p v s hrun hhold hp hv hpv
    exact ⟨_, run_lawEvent t _ s, feExpired_reports hrun hhold (LawState.evFe_eq hrun hhold hp hv hpv)⟩
  · intro t s hshut hst hramp
    have hrun : exec (.shutdownRampEnd t) s = .next (s.afterEvent t (fun i l => l.trRampEnd i)) :=
      run_of_lawEvent (g := fun m d => d.rampEnd m t) (by simp only [Dev.rampEnd, begin_triad, hshut])
    have hf : s.eventLaw t (fun i l => l.trRampEnd i) = s.dev.triad.law.quiet.toIdle (s.lawIn t) none :=
      if_pos (Bool.and_eq_true_iff.mpr ⟨decide_eq_true hst, decide_eq_true hramp⟩)
    exact ⟨_, hrun, afterEvent_idles hf (by rw [hst]; decide)⟩
  · intro t a s hshut hst hramp
    have hrun : exec (.shutdownRampEnd t) s = .next (s.afterEvent t (fun i l => l.toIdle i (some 0x10))) :=
      run_of_lawEvent (g := fun m d => d.rampEnd m t) (by simp only [Dev.rampEnd, begin_triad, hshut, hramp, if_true])
    have hstop : (s.eventLaw t (fun i l => l.toIdle i (some 0x10))).seq.st.runs = false := by
      rw [State.eventLaw, LawState.toIdle_seq (l := s.dev.triad.law.quiet) _ _ hst]; rfl
    refine ⟨_, hrun, afterEvent_idles (cause := some 0x10) rfl hst, ?_, ?_⟩
    · rw [afterEvent_eq]
      exact adopt_holdShut t _ hstop
    · exact (afterEvent_fault t (fun i l => l.toIdle i (some 0x10)) s (LawState.toIdle_fault s.dev.triad.law.quiet _ _) (by decide)).1

end Sys2Proof.Machine
end

section
/-!
SUPPORT. The triad tick (R61): what the tick begins, what the samples of the holders change, and which bytes they stage.
-/
namespace Sys2Proof.Machine

/-! ## Staged bytes -/

/-- Every byte staged lies where `R` says. -/
def Dev.stagesIn (R : Nat → Prop) (d : Dev) : Prop := ∀ c ∈ d.wr, R c.1

theorem stage_stagesIn {R : Nat → Prop} {d : Dev} {cs : List Host.Cell} (hd : d.stagesIn R)
    (hcs : ∀ c ∈ cs, inMemory c.1 = true → R c.1) : (d.stage cs).stagesIn R := by
  intro c hc
  rcases List.mem_append.mp hc with hc | hc
  · exact hd c hc
  · exact hcs c (List.mem_filter.mp hc).1 (List.mem_filter.mp hc).2

theorem cellsAt_mem {a : Nat} {bs : List Byte} {c : Host.Cell} (h : c ∈ cellsAt a bs) : a ≤ c.1 ∧ c.1 < a + bs.length := by
  induction bs generalizing a with
  | nil => cases h
  | cons b bs ih =>
    rw [List.length_cons]
    rcases List.mem_cons.mp h with rfl | h
    · exact ⟨Nat.le_refl _, by simp⟩
    · obtain ⟨h₁, h₂⟩ := ih h
      omega

theorem length_wordBytes (ws : List Word) : (ws.flatMap wordBytes).length = 4 * ws.length := by
  simp [List.length_flatMap, wordBytes, Nat.mul_comm]

theorem pokeWords_stagesIn {R : Nat → Prop} {d : Dev} {a : Nat} {ws : List Word} (hd : d.stagesIn R)
    (h : ∀ b, a ≤ b → b < a + 4 * ws.length → inMemory b = true → R b) : (d.pokeWords a ws).stagesIn R := by
  refine stage_stagesIn hd (fun c hc => ?_)
  obtain ⟨h₁, h₂⟩ := cellsAt_mem hc
  rw [length_wordBytes] at h₂
  exact h c.1 h₁ h₂

/-- A byte that no staged cell names, in a command that wipes nothing, reads as before. -/
theorem land_memByte {t : Nat} {d : Dev} {s : State} {R : Nat → Prop} (hwipe : d.wipe = []) (hd : d.stagesIn R) {a : Nat}
    (ha : ¬R a) : memByte (s.land t d).mem a = memByte s.mem a := by
  rw [land_mem, hwipe, memWipe_nil]
  exact memByte_apply_ne _ _ (fun c hc hca => ha (hca ▸ hd c (List.mem_filter.mp hc).1))

theorem each_stagesIn {α : Type} {R : Nat → Prop} {f : α → Dev → Dev} {l : List α} {d : Dev} (hd : d.stagesIn R)
    (h : ∀ a ∈ l, ∀ x : Dev, x.stagesIn R → (f a x).stagesIn R) : (d.each f l).stagesIn R :=
  List.foldlRecOn l _ hd (fun x hx a ha => h a ha x hx)

/-! ## The tick before any member runs -/

/-- The device without what joining, withdrawing and applying sets may change. -/
def Dev.sansSets (d : Dev) : Dev :=
  { d with regs := [], latches := [], eng := engReset, triad := { d.triad with pos := Triad.reset.pos, paramSet := 0 } }

/-- A frame of what the sets and the positions of a tick may change, registers aside. -/
abbrev Dev.SetsFrame (d e : Dev) : Prop := Dev.Frame Dev.sansSets (fun _ => true) d e

theorem putAt_sets (p : Nat) (f : FieldSpec) (i v : Nat) (d : Dev) : d.SetsFrame (d.putAt p f i v) :=
  ⟨rfl, fun _ h => by cases h⟩

theorem Dev.Frame.setsOfRole {d e : Dev} (h : d.RoleFrame e) : d.SetsFrame e := h.mono (fun _ => rfl) (fun _ ha => by cases ha)

theorem applyWords_sets (p : Nat) (ws : List (Nat × Word)) (d : Dev) : d.SetsFrame (d.applyWords p ws) := by
  induction ws generalizing d with
  | nil => exact .refl _ _ _
  | cons x ws ih =>
    have hset : d.SetsFrame (d.setReg (p * 0x1000 + x.1 + 0x800) x.2) := ⟨rfl, fun _ h => by cases h⟩
    exact hset.trans (ih _)

theorem applyLatch_sets (p : Nat) (d : Dev) : d.SetsFrame (d.applyLatch p) := by
  unfold Dev.applyLatch
  cases d.latches.find? (fun l => decide (l.page = p)) with
  | none => exact .refl _ _ _
  | some l =>
    have hdrop : d.SetsFrame { d with latches := d.latches.filter (fun l => decide (l.page ≠ p)) } :=
      ⟨rfl, fun _ h => by cases h⟩
    exact hdrop.trans (applyWords_sets _ _ _)

theorem applyPage_sets (p : Nat) {report : Dev → Dev} (h : ∀ x : Dev, x.SetsFrame (report x)) (d : Dev) :
    d.SetsFrame (d.applyPage p report) := by
  have hcount (x : Dev) : x.SetsFrame { x with triad := { x.triad with paramSet := (x.triad.paramSet + 1) % 65536 } } :=
    ⟨rfl, fun _ h => by cases h⟩
  exact .ite (fun _ => (applyLatch_sets p d).trans ((h _).trans (hcount _))) (fun _ => .refl _ _ _)

theorem applySets_sets (d : Dev) : d.SetsFrame d.applySets := by
  have hreport (p : Nat) (f g : FieldSpec) (x : Dev) : x.SetsFrame ((x.put p f 0).raise p g) :=
    (putAt_sets _ _ _ _ _).trans (putAt_sets _ _ _ _ _)
  exact (applyPage_sets _ (hreport _ _ _) _).trans ((applyPage_sets _ (hreport _ _ _) _).trans
    ((applyPage_sets _ (fun x => .refl _ _ x) _).trans (applyPage_sets _ (hreport _ _ _) _)))

theorem withdraw_sets {k : Nat} (hk : k < 3) (d : Dev) : d.SetsFrame (d.withdraw k) :=
  (vacate_frame hk d).setsOfRole.trans ((putAt_sets _ _ _ _ _).trans ((putAt_sets _ _ _ _ _).trans
    ((voterFault_frame _ _ _ _ _).setsOfRole.trans (putAt_sets _ _ _ _ _))))

theorem joinOrWithdraw_sets {k : Nat} (hk : k < 3) (d : Dev) : d.SetsFrame (d.joinOrWithdraw k) :=
  .ite (fun _ => .ite (fun _ => (setPos_frame hk _ _).setsOfRole) (fun _ => withdraw_sets hk d)) (fun _ => .refl _ _ _)

/-- The tick is recorded and its sample is open (R46). -/
def Dev.tickCounted (t : Nat) (d : Dev) : Dev :=
  { d with triad := { d.triad with
    sampleNo := if d.triad.tickAt.isNone then 0 else d.triad.sampleNo + 1, tickAt := some t, sampleOpen := true } }

theorem groupRegs_sets (d : Dev) : d.SetsFrame d.groupRegs :=
  (setReg_frame (P := fun _ => true) _ d rfl).ofRegs

theorem tickBegin_frame (t : Nat) (d : Dev) : (d.tickCounted t).SetsFrame (d.tickBegin t) := by
  have hjoin (x : Dev) : x.SetsFrame (x.each (fun k d => d.joinOrWithdraw k) (List.range 3)) :=
    .each (fun _ hk y => joinOrWithdraw_sets (List.mem_range.mp hk) y) x
  have hlocked (x : Dev) (b : Bool) : x.SetsFrame (x.putFlag pTRANSIT TRANSIT.STATUS_TIME_LOCKED b) :=
    putAt_sets _ _ _ _ _
  exact (groupRegs_sets _).trans ((applySets_sets _).trans ((hlocked _ _).trans (hjoin _)))

/-! ## The samples of the holders -/

/-- The registers of engines, voter, trips and settling. -/
def holderReg (a : Nat) : Bool := onPages (fun p => decide (0x20 ≤ p) && decide (p ≤ 0x2F)) a || actReg a

/-- The device without what the holders' samples, and the legs' turn-off at their end, may change. -/
def Dev.sansHolders (d : Dev) : Dev := { d.sansActs with wr := [], free := 0 }

/-- A frame of what the holders' samples may change. -/
abbrev Dev.HolderFrame (d e : Dev) : Prop := Dev.Frame Dev.sansHolders holderReg d e

theorem Dev.Frame.holderOfAct {d e : Dev} (h : d.ActFrame e) : d.HolderFrame e :=
  h.mono (fun _ => rfl) (fun _ ha => (Bool.or_eq_false_iff.mp ha).2)

theorem holderReg_own {a : Nat} (h : onPages lawOwnPage a = true) : holderReg a = false := by
  refine Bool.or_eq_false_iff.mpr ⟨?_, actReg_own h⟩
  rw [onPages, lawOwnPage_iff] at h
  simp only [onPages, Bool.and_eq_false_iff, decide_eq_false_iff_not]
  omega

theorem stage_frame (cs : List Host.Cell) (d : Dev) : d.HolderFrame (d.stage cs) := ⟨rfl, fun _ _ => rfl⟩

theorem setEngine_frame (n : Nat) (e : Engine) (d : Dev) : d.HolderFrame (d.setEngine n e) := ⟨rfl, fun _ _ => rfl⟩

theorem drawWord_frame (d : Dev) : d.HolderFrame d.drawWord.2 := ⟨rfl, fun _ _ => rfl⟩

/-- A register of an engine's page is one of the holders'. -/
theorem holderReg_eng {n : Nat} (hn : n < 16) {f : FieldSpec} (hf : f.off + 0 * f.stride < 0x1000) :
    holderReg (f.addr (pENG n) 0) = true := by
  rw [holderReg, onPages, addr_page hf, pENG, Bool.or_eq_true, Bool.and_eq_true, decide_eq_true_eq, decide_eq_true_eq]
  exact .inl ⟨by omega, by omega⟩

theorem putAt_eng_frame {n : Nat} (hn : n < 16) {f : FieldSpec} (v : Nat) (d : Dev) (hf : f.off + 0 * f.stride < 0x1000) :
    d.HolderFrame (d.putAt (pENG n) f 0 v) :=
  (putAt_frame v d (holderReg_eng hn hf)).ofRegs

theorem fpFlags_frame {n : Nat} (hn : n < 16) (x : FFlags) (d : Dev) : d.HolderFrame (d.fpFlags n x) :=
  .ite (fun _ => .refl _ _ _)
    (fun _ => (setReg_frame _ d (holderReg_eng hn (by decide))).ofRegs.trans (putAt_eng_frame hn _ _ (by decide)))

theorem mboxFlip_frame {n : Nat} (hn : n < 16) (d : Dev) : d.HolderFrame (d.mboxFlip n) :=
  .ite (fun _ => (setEngine_frame _ _ _).trans ((putAt_eng_frame hn _ _ (by decide)).trans
      ((putAt_eng_frame hn _ _ (by decide)).trans (putAt_eng_frame hn _ _ (by decide)))))
    (fun _ => .refl _ _ _)

theorem descriptor_frame (n t : Nat) (flip : Bool) (d : Dev) : d.HolderFrame (d.descriptor n t flip).2 := by
  unfold Dev.descriptor
  by_cases h : n < 12
  · simp only [h, if_true]; exact .refl _ _ _
  · simp only [h, if_false]; exact (drawWord_frame _).trans (drawWord_frame _)

theorem startSample_frame (n t : Nat) (st : EngSt) (flip : Bool) (d : Dev) : d.HolderFrame (d.startSample n t st flip).2 :=
  (descriptor_frame n t flip d).trans ((stage_frame _ _).trans (setEngine_frame _ _ _))

theorem holderTick_frame (t k : Nat) (d : Dev) : d.HolderFrame (d.holderTick t k) :=
  .ite (fun _ => (mboxFlip_frame (d.pos k).holder.isLt d).trans (startSample_frame _ _ _ _ _)) (fun _ => .refl _ _ _)

theorem holderSample_frame (i : LawIn) (ups : List (Fin 3 × Fin 32 × Word)) (run : Bool) {k : Nat} (hk : k < 3) (d : Dev) :
    d.HolderFrame (d.holderSample i ups run k) :=
  .ite (fun _ => ((setPos_frame hk _ _).actOfRole.holderOfAct).trans ((fpFlags_frame (d.pos k).holder.isLt _ _).trans
      ((stage_frame _ _).trans (stage_frame _ _))))
    (fun _ => .refl _ _ _)

theorem holderSamples_frame (i : LawIn) (ups : List (Fin 3 × Fin 32 × Word)) (run : Bool) (t : Nat) (d : Dev) :
    d.HolderFrame (d.holderSamples i ups run t) :=
  (Dev.Frame.each (fun k _ x => holderTick_frame t k x) d).trans
    (.each (fun _ hk x => holderSample_frame i ups run (List.mem_range.mp hk) x) _)

theorem holdBegins_frame (t : Nat) (d : Dev) : d.ActFrame (d.holdBegins t) :=
  (allLegsOff_frame t d).actOfPower.trans ((setPower_frame _ _).trans (settle_frame t _).actOfPower)

/-! ## What the holders stage -/

/-- Where a tick writes: the member records and state blocks, and the engines' data memories. -/
def tickMem (a : Nat) : Prop := (0x100F0000 ≤ a ∧ a < 0x100F0A00) ∨ (0x38000000 ≤ a ∧ a < 0x380F0000)

theorem inMemory_iff (a : Nat) : inMemory a = true ↔
    ((((0x10000000 ≤ a ∧ a < 0x10100000) ∨ (0x20000000 ≤ a ∧ a < 0x20400000)) ∨
      ((0x30000000 ≤ a ∧ a < 0x300F0000) ∧ a % 0x10000 < 0x8000)) ∨
      ((0x38000000 ≤ a ∧ a < 0x380F0000) ∧ a % 0x10000 < 0x4000)) ∨
    (mpSram ≤ a ∧ a < mpSram + 0x80000) := by
  simp only [inMemory, inWindow, Bool.or_eq_true, Bool.and_eq_true, decide_eq_true_eq]

/-- No engine data memory stands from 0x380F0000 on (R426). -/
theorem dataMem_tickMem {n b : Nat} (hn : n < 16) (h : dataBase n ≤ b) (h' : b < dataBase n + 32) (hb : inMemory b = true) :
    tickMem b := by
  rw [inMemory_iff, mpSram] at hb
  rw [dataBase] at h h'
  exact .inr (by omega)

theorem fpFlags_wr (n : Nat) (x : FFlags) (d : Dev) : (d.fpFlags n x).wr = d.wr := by
  unfold Dev.fpFlags
  dsimp only
  split
  · rfl
  · rw [Dev.raise_eq, putAt_wr, setReg_wr]

theorem mboxFlip_wr (n : Nat) (d : Dev) : (d.mboxFlip n).wr = d.wr := by
  unfold Dev.mboxFlip
  dsimp only
  split
  · rfl
  · rfl

theorem descriptor_wr (n t : Nat) (flip : Bool) (d : Dev) : (d.descriptor n t flip).2.wr = d.wr := by
  unfold Dev.descriptor
  by_cases h : n < 12
  · simp only [h, if_true]
  · simp only [h, if_false]; rfl

theorem holderTick_stages (t k : Nat) {d : Dev} (hd : d.stagesIn tickMem) : (d.holderTick t k).stagesIn tickMem := by
  unfold Dev.holderTick
  dsimp only
  split
  · have hdesc : ((d.mboxFlip (d.pos k).holder).descriptor (d.pos k).holder t (d.engine (d.pos k).holder).mboxLatched).2.stagesIn
        tickMem := by
      rw [Dev.stagesIn, descriptor_wr, mboxFlip_wr]; exact hd
    exact pokeWords_stagesIn hdesc (fun b h h' hb => dataMem_tickMem (d.pos k).holder.isLt h h' hb)
  · exact hd

theorem holderSample_stages (i : LawIn) (ups : List (Fin 3 × Fin 32 × Word)) (run : Bool) {k : Nat} (hk : k < 3) {d : Dev}
    (hd : d.stagesIn tickMem) : (d.holderSample i ups run k).stagesIn tickMem := by
  unfold Dev.holderSample
  dsimp only
  split
  · have hwr (l : LawState) : ((d.setPos k { d.pos k with law := l }).fpFlags (d.pos k).holder l.out.flags).stagesIn tickMem := by
      rw [Dev.stagesIn, fpFlags_wr, setPos_wr]; exact hd
    refine stage_stagesIn (pokeWords_stagesIn (hwr _) (fun b h h' _ => ?_)) (fun c hc _ => ?_)
    · simp only [upsetWords, List.length_map, List.length_range] at h'
      exact .inl (by omega)
    · obtain ⟨j, hj, rfl⟩ := List.mem_map.mp hc
      have := List.mem_range.mp hj
      exact .inl (by omega)
  · exact hd

theorem holderSamples_stages (i : LawIn) (ups : List (Fin 3 × Fin 32 × Word)) (run : Bool) (t : Nat) {d : Dev}
    (hd : d.stagesIn tickMem) : (d.holderSamples i ups run t).stagesIn tickMem :=
  each_stagesIn (each_stagesIn hd (fun k _ _ hx => holderTick_stages t k hx))
    (fun _ hk _ hx => holderSample_stages i ups run (List.mem_range.mp hk) hx)

/-! ## One tick -/

/-- The device without what a tick may change, its number and its time aside. -/
def Dev.sansTick (d : Dev) : Dev :=
  { d.sansOutcome with
    latches := [], wr := [], free := 0, boot := .reset,
    triad := { d.sansOutcome.triad with paramSet := 0, cmd := none } }

/-- A frame of what a tick may change, registers aside. -/
abbrev Dev.TickFrame (d e : Dev) : Prop := Dev.Frame Dev.sansTick (fun _ => true) d e

theorem Dev.Frame.toTick {E : Dev → Dev} {P : Nat → Bool} {d e : Dev} (h : Dev.Frame E P d e)
    (hE : ∀ x, Dev.sansTick (E x) = Dev.sansTick x) : d.TickFrame e := h.mono hE (fun _ ha => by cases ha)

theorem tickUsed_frame (d : Dev) : d.TickFrame d.tickUsed := ⟨rfl, fun _ h => by cases h⟩

/-- The tick with its outcome in force, before the holders' samples: while the law runs the vote decides it (R61). -/
def Dev.tickOutcome (m : List Host.Cell) (t : Nat) (d : Dev) : Dev :=
  if d.running then d.tickUsed else d.tickUsed.adopt t (lawSample (d.lawIn m t) d.triad.law)

theorem tickOutcome_frame (m : List Host.Cell) (t : Nat) (d : Dev) : d.TickFrame (d.tickOutcome m t) :=
  .ite (fun _ => tickUsed_frame d)
    (fun _ => (tickUsed_frame d).trans ((adopt_frame t _ _).toTick (fun _ => rfl)))

theorem tickOutcome_wr (m : List Host.Cell) (t : Nat) (d : Dev) : (d.tickOutcome m t).wr = d.wr := by
  unfold Dev.tickOutcome
  split
  · rfl
  · exact (adopt_frame t _ _).field Dev.wr (fun _ => rfl)

theorem tickOutcome_cmd (m : List Host.Cell) (t : Nat) (d : Dev) : (d.tickOutcome m t).triad.cmd = none := by
  unfold Dev.tickOutcome
  split
  · rfl
  · exact (adopt_frame t _ _).field (fun x => x.triad.cmd) (fun _ => rfl)

theorem tickUsed_cmdPending (d : Dev) : d.tickUsed.getAt pTRANSIT TRANSIT.STATUS_CMD_PENDING 0 = 0 :=
  getAt_putAt_same _ _ _ _ _ (by decide)

theorem tickOutcome_cmdPending (m : List Host.Cell) (t : Nat) (d : Dev) :
    (d.tickOutcome m t).getAt pTRANSIT TRANSIT.STATUS_CMD_PENDING 0 = 0 := by
  unfold Dev.tickOutcome
  split
  · exact tickUsed_cmdPending d
  · rw [adopt_cmdPending, tickUsed_cmdPending]

/-- What the sets and the joining leave as it was: the law in force. -/
theorem tickBegin_law (t : Nat) (d : Dev) : (d.tickBegin t).triad.law = d.triad.law :=
  (tickBegin_frame t d).field (fun x => x.triad.law) (fun _ => rfl)

/-- The tick after its outcome: the holders' samples, which may end in the legs' turn-off. -/
def Dev.tickSamples (m : List Host.Cell) (t : Nat) (ups : List (Fin 3 × Fin 32 × Word)) (d : Dev) : Dev :=
  let e := (d.tickOutcome m t).holderSamples (d.lawIn m t) ups d.running t
  if d.running = true ∧ e.allStopped = true then e.holdBegins t else e

theorem tickSamples_running {m : List Host.Cell} {t : Nat} {ups : List (Fin 3 × Fin 32 × Word)} {d : Dev}
    (h : d.running = true) : d.tickSamples m t ups =
      (let e := d.tickUsed.holderSamples (d.lawIn m t) ups true t
       if e.allStopped then e.holdBegins t else e) := by
  simp only [Dev.tickSamples, Dev.tickOutcome, h, if_true, true_and]

theorem tickSamples_idle {m : List Host.Cell} {t : Nat} {ups : List (Fin 3 × Fin 32 × Word)} {d : Dev}
    (h : d.running = false) : d.tickSamples m t ups =
      (d.tickUsed.adopt t (lawSample (d.lawIn m t) d.triad.law)).holderSamples (d.lawIn m t) ups false t := by
  simp only [Dev.tickSamples, Dev.tickOutcome, h, Bool.false_eq_true, if_false, false_and]

section
variable (m : List Host.Cell) (t : Nat) (ups : List (Fin 3 × Fin 32 × Word)) {d : Dev}

theorem tickSamples_frame (d : Dev) : (d.tickOutcome m t).HolderFrame (d.tickSamples m t ups) := by
  have hsamples := holderSamples_frame (d.lawIn m t) ups d.running t (d.tickOutcome m t)
  exact .ite (fun _ => hsamples.trans (holdBegins_frame t _).holderOfAct) (fun _ => hsamples)

theorem tickSamples_stages (hd : d.stagesIn tickMem) : (d.tickSamples m t ups).stagesIn tickMem := by
  have hsamples : ((d.tickOutcome m t).holderSamples (d.lawIn m t) ups d.running t).stagesIn tickMem :=
    holderSamples_stages _ _ _ _ (by rw [Dev.stagesIn, tickOutcome_wr]; exact hd)
  unfold Dev.tickSamples
  dsimp only
  split
  · rw [Dev.stagesIn, (holdBegins_frame t _).field Dev.wr (fun _ => rfl)]
    exact hsamples
  · exact hsamples

theorem tickSamples_law (d : Dev) : (d.tickSamples m t ups).triad.law = (d.tickOutcome m t).triad.law :=
  (tickSamples_frame m t ups d).field (fun x => x.triad.law) (fun _ => rfl)

theorem tickSamples_law_idle (h : d.running = false) :
    (d.tickSamples m t ups).triad.law = (lawSample (d.lawIn m t) d.triad.law).quiet := by
  rw [tickSamples_law, Dev.tickOutcome, if_neg (by simp [h]), adopt_law]

theorem tickSamples_law_running (h : d.running = true) : (d.tickSamples m t ups).triad.law = d.triad.law := by
  rw [tickSamples_law, Dev.tickOutcome, if_pos h]
  rfl

/-- A tick that is due is its beginning, its outcome and its samples. -/
theorem triadTick_eq (hdue : d.triadDue t = true) : d.triadTick m t ups = (d.tickBegin t).tickSamples m t ups := by
  rw [Dev.triadTick, if_pos hdue]
  generalize d.tickBegin t = b
  cases h : b.running with
  | true => simp only [h, if_true, tickSamples_running h]
  | false => simp only [h, Bool.false_eq_true, if_false, tickSamples_idle h]

theorem triadTick_counted (hdue : d.triadDue t = true) : (d.tickCounted t).TickFrame (d.triadTick m t ups) := by
  have hsamples (b : Dev) : b.TickFrame (b.tickSamples m t ups) :=
    (tickOutcome_frame m t b).trans ((tickSamples_frame m t ups b).toTick (fun _ => rfl))
  rw [triadTick_eq m t ups hdue]
  exact ((tickBegin_frame t d).toTick (fun _ => rfl)).trans (hsamples _)

theorem tickBegin_stages (hd : d.stagesIn tickMem) : (d.tickBegin t).stagesIn tickMem := by
  rw [Dev.stagesIn, (tickBegin_frame t d).field Dev.wr (fun _ => rfl)]
  exact hd

/-- The latched command is forgotten and no longer pending (R73). -/
theorem tickSamples_cmd (d : Dev) : (d.tickSamples m t ups).triad.cmd = none ∧
    (d.tickSamples m t ups).getAt pTRANSIT TRANSIT.STATUS_CMD_PENDING 0 = 0 := by
  have hframe := tickSamples_frame m t ups d
  exact ⟨(hframe.field (fun x => x.triad.cmd) (fun _ => rfl)).trans (tickOutcome_cmd m t d),
    (hframe.getAt (holderReg_own (by decide))).trans (tickOutcome_cmdPending m t d)⟩

end

/-- Settles O9: a tick is its count, its sets, its outcome and the holders' samples, each with a frame of its own. -/
theorem triadTickRunsOneSample : Obligations.TriadTickRunsOneSample := by
  unfold Obligations.TriadTickRunsOneSample
  intro ups t s hdue
  have heq := triadTick_eq s.mem t ups hdue
  have hcount := triadTick_counted s.mem t ups hdue
  have hstages := tickSamples_stages s.mem t ups (tickBegin_stages t (d := s.dev.begin t) (fun c hc => by cases hc))
  obtain ⟨hcmd, hpending⟩ := tickSamples_cmd s.mem t ups ((s.dev.begin t).tickBegin t)
  rw [← heq] at hcmd hpending hstages
  refine ⟨_, run_next t (fun m d => d.triadTick m t ups) s, hcount.field (fun x => x.triad.sampleNo) (fun _ => rfl),
    hcount.field (fun x => x.triad.tickAt) (fun _ => rfl), hcount.field (fun x => x.triad.sampleOpen) (fun _ => rfl),
    hcmd, hpending, ⟨fun hrun => ?_, fun hrun => ?_⟩, fun a hrec hdata => ?_, rfl, hcount.field Dev.sense (fun _ => rfl),
    hcount.field Dev.bus (fun _ => rfl), hcount.field Dev.chain (fun _ => rfl), hcount.field Dev.safe (fun _ => rfl),
    hcount.field Dev.prec (fun _ => rfl)⟩
  · rw [land_triad, heq, tickSamples_law_idle _ _ _ hrun, tickBegin_law, begin_triad]
  · rw [land_triad, heq, tickSamples_law_running _ _ _ hrun, tickBegin_law, begin_triad]
  · refine land_memByte (hcount.field Dev.wipe (fun _ => rfl)) hstages ?_
    rw [tickMem]
    omega

end Sys2Proof.Machine
end

section
/-! The commands of the sequencer: latched at the register target (R73), obeyed at the next triad tick. -/
namespace Sys2Proof.Machine

/-- A write of CTRL.CMD latches its code and shows CMD_PENDING, and no word but TRANSIT.STATUS changes (R73). -/
theorem transitCmd_latches (t : Nat) {code : Nat} (hcode : code ≠ 0) (s : State) :
    ∃ s', runReg t (fun _ d => d.transitCmd code) s = .next s' ∧ s'.dev.triad = { s.dev.triad with cmd := some code } ∧
      s'.dev.get pTRANSIT TRANSIT.STATUS_CMD_PENDING = 1 ∧ s.regsBut [pTRANSIT * 0x1000 + 0x00C] s' ∧ s.memSame s' := by
  have hcmd : (s.dev.begin t).transitCmd code =
      ({ s.dev.begin t with triad := { s.dev.triad with cmd := some code } }).putAt pTRANSIT TRANSIT.STATUS_CMD_PENDING 0 1 :=
    if_neg hcode
  have haddr : TRANSIT.STATUS_CMD_PENDING.addr pTRANSIT 0 = pTRANSIT * 0x1000 + 0x00C := by decide
  refine ⟨_, runReg_next _ _ _, ?_, ?_, fun a ha hlock => ?_, land_memSame ?_ ?_⟩
  · rw [hcmd, land_triad, regRound_triad, putAt_triad]
  · rw [hcmd, Dev.get_eq, land_getAt, regRound_getAt _ (by decide), getAt_putAt_same _ _ _ _ _ (by decide)]
    rfl
  · rw [hcmd, land_reg, regRound_reg _ hlock, reg_putAt_ne _ _ (by rw [haddr]; simpa using ha)]
    rfl
  · rw [hcmd, regRound_wr, putAt_wr]
    rfl
  · rw [hcmd, regRound_wipe, putAt_wipe]
    rfl

/-- Settles O8: each of the seven commands is one write of CTRL.CMD. -/
theorem transitCommandsLatch : Obligations.TransitCommandsLatch := by
  unfold Obligations.TransitCommandsLatch
  intro t s c code hmem
  simp only [List.mem_cons, Prod.mk.injEq, List.not_mem_nil, or_false] at hmem
  rcases hmem with ⟨rfl, rfl⟩ | ⟨rfl, rfl⟩ | ⟨rfl, rfl⟩ | ⟨rfl, rfl⟩ | ⟨rfl, rfl⟩ | ⟨rfl, rfl⟩ | ⟨rfl, rfl⟩
  all_goals exact transitCmd_latches t (by decide) s

end Sys2Proof.Machine
end

section
/-!
SUPPORT. The sequencer's transitions on the law state (R74 to R85), and what the registers show after an event that makes one.
-/
namespace Sys2Proof.Machine

/-! ## Transitions on the law state -/

/-- A bit that is set stays set. -/
theorem setBit_keeps {m k : Nat} (b : Nat) (h : m.testBit k = true) : (setBit m b).testBit k = true := by
  rw [setBit_testBit, h, Bool.true_or]

/-- The event just raised stands. -/
theorem trEvent_testBit (l : LawState) (b : Nat) : (l.trEvent b).out.trIrq.testBit b = true := by
  simp [LawState.trEvent, setBit_testBit]

section
variable {l : LawState} (t : Nat) {st : TrState}

/-- Entering another state is its instant and the dwell at zero. -/
theorem LawState.goto_seq (h : l.seq.st ≠ st) :
    (l.goto t st).seq = { l.seq with st := st, since := t, dwell := 0, cycleOk := false, syncOk := false } := by
  rw [LawState.goto, if_neg h]
  rfl

@[simp] theorem LawState.goto_trFault (l : LawState) (st : TrState) : (l.goto t st).out.trFault = l.out.trFault := by
  unfold LawState.goto
  split <;> rfl

/-- Entering a state keeps the events raised before. -/
theorem LawState.goto_trEvents {k : Nat} (h : l.out.trIrq.testBit k = true) : (l.goto t st).out.trIrq.testBit k = true := by
  unfold LawState.goto
  split
  · exact h
  · exact setBit_keeps 0 h

end

/-- A law start that its checks and Buckram allow (R52, R76). -/
theorem LawState.startLaw_starts {i : LawIn} {theta omega vy : Word} {st : TrState} {l : LawState} (hcheck : i.refusal = none)
    (hpermit : i.permit = true) (hst : l.seq.st ≠ st) :
    (l.startLaw i theta omega vy st).seq.st = st ∧ (l.startLaw i theta omega vy st).seq.since = i.t ∧
      (l.startLaw i theta omega vy st).theta = theta ∧ (l.startLaw i theta omega vy st).omega = omega ∧
      (l.startLaw i theta omega vy st).chV = ⟨vy, 0, 0⟩ := by
  have hseq := LawState.goto_seq i.t hst
  simp only [LawState.startLaw, hcheck, hpermit, Bool.not_true, Bool.false_eq_true, if_false, hseq, and_self]

/-- A cause other than STOP's that leads to IDLE is reported with ABORT (R74, R101). -/
theorem LawState.toIdle_abort (l : LawState) (i : LawIn) {c : Nat} (hc : c ≠ 0x11) :
    (l.toIdle i (some c)).out.trIrq.testBit 2 = true := by
  simp only [LawState.toIdle, hc, if_false]
  exact LawState.goto_trEvents i.t (trEvent_testBit _ 2)

/-- An entry into IDLE keeps the events raised before. -/
theorem LawState.toIdle_trEvents {l : LawState} (i : LawIn) {c k : Nat} (hc : c ≠ 0x11) (h : l.out.trIrq.testBit k = true) :
    (l.toIdle i (some c)).out.trIrq.testBit k = true := by
  simp only [LawState.toIdle, hc, if_false]
  exact LawState.goto_trEvents i.t (setBit_keeps 2 h)

/-- A cleared bit is clear. -/
theorem clearBit_testBit (m b : Nat) : (clearBit m b).testBit b = false := by
  unfold clearBit
  split
  · next h =>
    have hsum := Nat.testBit_two_pow_add_eq (m - 2 ^ b) b
    rw [Nat.add_sub_cancel' (Nat.ge_two_pow_of_testBit h), h] at hsum
    simpa using hsum.symm
  · next h => simpa using h

/-- A bit is cleared once. -/
theorem clearBit_clearBit (m b : Nat) : clearBit (clearBit m b) b = clearBit m b := by
  rw [clearBit, if_neg (by simp [clearBit_testBit])]

/-! ## What an event leaves -/

section
variable {t : Nat} {f : LawIn → LawState → LawState} {s : State} {l : LawState}

/-- The sequencer after an event is that of the outcome it made. -/
theorem afterEvent_seq (hf : s.eventLaw t f = l) : (s.afterEvent t f).seq = l.seq := by
  rw [State.seq, afterEvent_law, hf]
  rfl

/-- Any part of the law but its reports is, after an event, that of the outcome it made. -/
theorem afterEvent_part {α : Type} (hf : s.eventLaw t f = l) (g : LawState → α) (hg : ∀ x : LawState, g x.quiet = g x) :
    g (s.afterEvent t f).dev.triad.law = g l := by
  rw [afterEvent_law, hf, hg]

theorem afterEvent_enters {x : TrState} (hf : s.eventLaw t f = l) (hst : l.seq.st = x) : (s.afterEvent t f).inState x := by
  rw [← hst, ← hf]
  exact afterEvent_inState t f s

/-- TRANSIT's events of an outcome stand in its IRQ_RAW. -/
theorem afterEvent_trEvent {x : FieldSpec} (hf : s.eventLaw t f = l) (hx : x.off = 0x010 ∧ x.hi = x.lo ∧ x.lo < 32)
    (h : l.out.trIrq.testBit x.lo = true) : (s.afterEvent t f).dev.flag pTRANSIT x = true :=
  afterEvent_event t f s (by decide) hx (by rw [irq_transit, hf]; exact h)

theorem afterEvent_frtEvent {x : FieldSpec} (hf : s.eventLaw t f = l) (hx : x.off = 0x010 ∧ x.hi = x.lo ∧ x.lo < 32)
    (h : l.out.frtIrq.testBit x.lo = true) : (s.afterEvent t f).dev.flag pFRT x = true :=
  afterEvent_event t f s (by decide) hx (by rw [hf]; exact h)

/-- TRANSIT.FAULT_CODE.CAUSE shows the cause of an outcome. -/
theorem afterEvent_cause {c : Nat} {x : TrState} (hf : s.eventLaw t f = l) (h : l.out.trFault = some (c, x.code))
    (hc : c < 2 ^ 8) : (s.afterEvent t f).dev.get pTRANSIT TRANSIT.FAULT_CODE_CAUSE = c :=
  (afterEvent_fault t f s (by rw [hf]; exact h) hc).1

/-- An entry into IDLE with a cause is reported with it. -/
theorem afterEvent_aborts {c : Nat} (hf : s.eventLaw t f = l.toIdle (s.lawIn t) (some c)) (hc : c ≠ 0x11) (hc8 : c < 2 ^ 8) :
    (s.afterEvent t f).dev.get pTRANSIT TRANSIT.FAULT_CODE_CAUSE = c ∧
      (s.afterEvent t f).dev.flag pTRANSIT TRANSIT.IRQ_RAW_ABORT = true :=
  ⟨afterEvent_cause hf (LawState.toIdle_fault l _ c) hc8,
    afterEvent_trEvent hf (by decide) (LawState.toIdle_abort l _ hc)⟩

theorem note_quiet (l : LawState) (fl : FFlags) : (l.note fl).quiet = l.quiet := rfl

/-- An event that starts the law. -/
theorem afterEvent_starts {theta omega vy : Word} {x : TrState}
    (hf : (s.eventLaw t f).quiet = (l.startLaw (s.lawIn t) theta omega vy x).quiet) (hcheck : (s.lawIn t).refusal = none)
    (hpermit : (s.lawIn t).permit = true) (hst : l.seq.st ≠ x) :
    (s.afterEvent t f).inState x ∧ (s.afterEvent t f).seq.since = t ∧
      (s.afterEvent t f).dev.triad.law.theta = theta ∧ (s.afterEvent t f).dev.triad.law.omega = omega ∧
      (s.afterEvent t f).dev.triad.law.chV = ⟨vy, 0, 0⟩ := by
  obtain ⟨hin, hsince, htheta, homega, hchV⟩ :=
    LawState.startLaw_starts (theta := theta) (omega := omega) (vy := vy) hcheck hpermit hst
  have hpart {α : Type} (g : LawState → α) (hg : ∀ y : LawState, g y.quiet = g y) :
      g (s.eventLaw t f) = g (l.startLaw (s.lawIn t) theta omega vy x) := by rw [← hg, hf, hg]
  refine ⟨afterEvent_enters rfl ((hpart (fun y => y.seq.st) (fun _ => rfl)).trans hin), ?_, ?_, ?_, ?_⟩
  · rw [afterEvent_seq rfl, hpart LawState.seq (fun _ => rfl), hsince]
    rfl
  · rw [afterEvent_part rfl LawState.theta (fun _ => rfl), hpart LawState.theta (fun _ => rfl), htheta]
  · rw [afterEvent_part rfl LawState.omega (fun _ => rfl), hpart LawState.omega (fun _ => rfl), homega]
  · rw [afterEvent_part rfl LawState.chV (fun _ => rfl), hpart LawState.chV (fun _ => rfl), hchV]

end

/-! ## The trigger wire -/

@[simp] theorem settle_acq (t : Nat) (d : Dev) : (d.settle t).acq = d.acq := (settle_frame t d).field Dev.acq (fun _ => rfl)

theorem outcomeUnheld_acq (l : LawState) (d : Dev) : (d.outcomeUnheld l).acq = d.acq := by
  unfold Dev.outcomeUnheld
  split <;> rfl

theorem outcomeStopped_acq (l : LawState) (d : Dev) : (d.outcomeStopped l).acq = d.acq := by
  unfold Dev.outcomeStopped
  split
  · rfl
  · dsimp only
    exact (vacates_frame d).field Dev.acq (fun _ => rfl)

theorem outcomeWired_drive {t : Nat} {l : LawState} (h : l.out.wireDrive = true) (was : Bool) (d : Dev) :
    (d.outcomeWired t l was).acq.wireDrive = some t := by
  simp only [Dev.outcomeWired, h, if_true]
  split <;> rfl

/-- An outcome that drives the wire drives it at its instant (R79). -/
theorem adopt_wireDrive {t : Nat} {l : LawState} (h : l.out.wireDrive = true) (d : Dev) :
    (d.adopt t l).acq.wireDrive = some t := by
  rw [adopt_eq, settle_acq, Dev.outcomeActs, outcomeUnheld_acq, outcomeStopped_acq,
    (outcomeLegs_frame t l _).field Dev.acq (fun _ => rfl), (outcomeGranted_frame l _).field Dev.acq (fun _ => rfl)]
  exact outcomeWired_drive h _ _

theorem afterEvent_wireDrive {t : Nat} {f : LawIn → LawState → LawState} {s : State}
    (h : (s.eventLaw t f).out.wireDrive = true) : (s.afterEvent t f).dev.acq.wireDrive = some t := by
  rw [afterEvent_eq, land_acq, adopt_wireDrive h]

end Sys2Proof.Machine
end

section
/-! The timed transitions of a start (R76 to R80, R83). -/
namespace Sys2Proof.Machine

section
variable {t : Nat} {s : State}

/-- DEAD_MS of dead bus closes the output contactor (R77). -/
theorem deadMsExpired_closes (hst : s.seq.st = .deadbus) (hdead : s.seq.busDead = true)
    (hms : s.seq.since + msTaps (s.dev.act pTRANSIT TRANSIT.DEAD_MS_MS) ≤ t) :
    ∃ s', exec (.deadMsExpired t) s = .next s' ∧ s'.inState .closeOut ∧
      s'.seq.brk = setBit s.seq.brk (s.dev.get pTRANSIT TRANSIT.TR_CFG_OUT_BRK) ∧ s'.seq.brkWait = some (true, t) ∧
      s'.seq.since = t ∧ s'.seq.mission = s.seq.mission ∧ s.lawOnly s' := by
  have hf : s.eventLaw t (fun i l => l.trDeadbus i) =
      (s.dev.triad.law.quiet.closeCmd (s.lawIn t) (s.lawIn t).tr.outBrk).goto t .closeOut :=
    (if_pos hst).trans ((if_neg (by rw [Bool.not_eq_true', Bool.not_eq_false]; exact hdead)).trans (if_pos hms))
  have hgoto := LawState.goto_seq (l := s.dev.triad.law.quiet.closeCmd (s.lawIn t) (s.lawIn t).tr.outBrk) t
    (st := .closeOut) (fun h => by cases hst.symm.trans h)
  have hseq := (afterEvent_seq hf).trans hgoto
  exact ⟨_, run_lawEvent t _ s, afterEvent_enters hf (congrArg SeqState.st hgoto), congrArg SeqState.brk hseq,
    congrArg SeqState.brkWait hseq, congrArg SeqState.since hseq, (congrArg SeqState.mission hseq :), afterEvent_lawOnly t _ s⟩

/-- A live bus ends the wait (R77). -/
theorem deadMsExpired_aborts (hst : s.seq.st = .deadbus) (hlive : s.seq.busDead = false) :
    ∃ s', exec (.deadMsExpired t) s = .next s' ∧ s.idles t s' ∧
      s'.dev.get pTRANSIT TRANSIT.FAULT_CODE_CAUSE = 0x03 ∧ s'.dev.flag pTRANSIT TRANSIT.IRQ_RAW_ABORT = true := by
  have hf : s.eventLaw t (fun i l => l.trDeadbus i) = s.dev.triad.law.quiet.toIdle (s.lawIn t) (some 0x03) :=
    (if_pos hst).trans (if_pos (by rw [Bool.not_eq_true']; exact hlive))
  exact ⟨_, run_lawEvent t _ s, afterEvent_idles hf (by rw [hst]; decide), afterEvent_aborts hf (by decide) (by decide)⟩

/-- An armed unit whose start angle is settled enters ENERGISE (R78). -/
theorem startInstant_starts {dt : Nat} (hst : s.seq.st = .armed)
    (hf : s.eventLaw t (fun i l => l.trStart i) =
      (s.dev.triad.law.quiet.startLaw (s.lawIn t) (startAngle (s.lawIn t) s.seq.theta0 dt) (s.lawIn t).prf.w.tgt
        (s.lawIn t).tr.bsV0 .energise).note (startTurn (s.lawIn t) dt).toInt.2)
    (hcheck : (s.lawIn t).refusal = none) (hpermit : (s.lawIn t).permit = true) :
    ∃ s', exec (.startInstant t) s = .next s' ∧ s'.inState .energise ∧ s'.seq.since = t ∧
      s'.dev.triad.law.omega = s.dev.actWord pPROFILE PROFILE.TGT_W ∧
      s'.dev.triad.law.theta = startAngle (s.lawIn t) s.seq.theta0 dt ∧
      s'.dev.triad.law.chV = ⟨s.dev.actWord pTRANSIT TRANSIT.BS_V0, 0, 0⟩ ∧ s.lawOnly s' := by
  obtain ⟨hin, hsince, htheta, homega, hchV⟩ := afterEvent_starts
    ((congrArg LawState.quiet hf).trans (note_quiet _ _)) hcheck hpermit (fun h => by cases hst.symm.trans h)
  exact ⟨_, run_lawEvent t _ s, hin, hsince, homega, htheta, hchV, afterEvent_lawOnly t _ s⟩

/-- An armed unit starts at T_START of network time (R78). -/
theorem trStart_netTime {i : LawIn} {l : LawState} (hst : l.seq.st = .armed) (hmission : l.seq.mission = .armStart)
    (hwait : l.seq.wait = .netTime) (hlocked : i.ntLocked = true) (hdue : l.seq.tStart ≤ i.ntTaps) :
    l.trStart i =
      (l.startLaw i (startAngle i l.seq.theta0 (i.ntTaps - l.seq.tStart)) i.prf.w.tgt i.tr.bsV0 .energise).note
        (startTurn i (i.ntTaps - l.seq.tStart)).toInt.2 := by
  simp only [LawState.trStart, hmission, hwait, hlocked, hdue, hst, if_true, Bool.not_true, Bool.false_eq_true, if_false]

/-- An armed unit that waits for the wire starts at its edge (R79). -/
theorem trStart_wire {i : LawIn} {l : LawState} {e : Nat} (hst : l.seq.st = .armed) (hmission : l.seq.mission = .armStart)
    (hwait : l.seq.wait = .wire) (hedge : i.wireEdge = some e) :
    l.trStart i = (l.startLaw i (startAngle i l.seq.theta0 (i.t - e)) i.prf.w.tgt i.tr.bsV0 .energise).note
      (startTurn i (i.t - e)).toInt.2 := by
  simp only [LawState.trStart, hmission, hwait, hedge, hst, if_true]

/-- A lead unit whose wire instant has come drives the wire once (R79). -/
theorem leadWireInstant_drives (hst : s.seq.st = .armed) (hmission : s.seq.mission = .armStart) (hwait : s.seq.wait = .wire)
    (hdriven : s.seq.wireDriven = false) (hlead : s.dev.flag pTRANSIT TRANSIT.TR_CFG_LEAD = true)
    (hdue : s.dev.triad.law.leadDue (s.lawIn t) = true) :
    ∃ s', exec (.leadWireInstant t) s = .next s' ∧ s'.seq = { s.seq with wireDriven := true } ∧
      s'.dev.acq.wireDrive = some t ∧ s.lawOnly s' := by
  have hf : s.eventLaw t (fun i l => l.trLeadWire i) = { s.dev.triad.law.quiet with
      seq := { s.seq with wireDriven := true }, out := { SampleOut.none with wireDrive := true } } := by
    refine (if_pos ?_).trans (if_pos hst)
    simp only [Bool.and_eq_true, decide_eq_true_eq, bne_iff_ne, Bool.not_eq_true']
    exact ⟨⟨⟨⟨⟨hmission, hwait⟩, hlead⟩, hdriven⟩, fun h => by cases hst.symm.trans h⟩, hdue⟩
  exact ⟨_, run_lawEvent t _ s, afterEvent_seq hf, afterEvent_wireDrive (by rw [hf]), afterEvent_lawOnly t _ s⟩

theorem farSettled_of {i : LawIn} {l : LawState} (hon : l.far.on = true) (h : l.far.since + msTaps 100 ≤ i.t) :
    l.farSettled i = true := Bool.and_eq_true_iff.mpr ⟨hon, decide_eq_true h⟩

/-- What an armed unit that attaches makes of its settled far side (R80, R83). -/
theorem trFarSettled_attach {i : LawIn} {l : LawState} (hst : l.seq.st = .armed) (hmission : l.seq.mission = .attach)
    (hfar : l.farSettled i = true) :
    l.trFarSettled i =
      if fLt l.far.mag i.tr.deadV then
        (if i.tr.deadClose then
          let l := l.startLaw i 0 i.prf.w.tgt l.far.mag .closeBrk
          if l.seq.st = .closeBrk then l.closeCmd i i.tr.outBrk else l
         else l.toIdle i (some 0x09))
      else l.startLaw i l.far.theta l.far.omega l.far.mag .sync := by
  simp only [LawState.trFarSettled, hfar, hst, hmission, if_true]

/-- ATTACH to a live far side starts the law in SYNC at its angle and frequency (R80). -/
theorem farSideSettled_syncs (hst : s.seq.st = .armed) (hmission : s.seq.mission = .attach)
    (hfar : s.dev.triad.law.farSettled (s.lawIn t) = true) (hcheck : (s.lawIn t).refusal = none)
    (hpermit : (s.lawIn t).permit = true)
    (hlive : fLt s.dev.triad.law.far.mag (s.dev.actWord pTRANSIT TRANSIT.DEAD_V) = false) :
    ∃ s', exec (.farSideSettled t) s = .next s' ∧ s'.inState .sync ∧ s'.seq.since = t ∧
      s'.dev.triad.law.theta = s.dev.triad.law.far.theta ∧ s'.dev.triad.law.omega = s.dev.triad.law.far.omega ∧
      s'.dev.triad.law.chV = ⟨s.dev.triad.law.far.mag, 0, 0⟩ ∧ s.lawOnly s' := by
  have hf : s.eventLaw t (fun i l => l.trFarSettled i) =
      s.dev.triad.law.quiet.startLaw (s.lawIn t) s.dev.triad.law.far.theta s.dev.triad.law.far.omega
        s.dev.triad.law.far.mag .sync :=
    (trFarSettled_attach (l := s.dev.triad.law.quiet) hst hmission hfar).trans (if_neg (by rw [Bool.not_eq_true]; exact hlive))
  obtain ⟨hin, hsince, htheta, homega, hchV⟩ := afterEvent_starts (congrArg LawState.quiet hf) hcheck hpermit
    (fun h => by cases hst.symm.trans h)
  exact ⟨_, run_lawEvent t _ s, hin, hsince, htheta, homega, hchV, afterEvent_lawOnly t _ s⟩

/-- ATTACH to a dead far side without DEAD_CLOSE ends in IDLE (R83). -/
theorem farSideSettled_aborts (hst : s.seq.st = .armed) (hmission : s.seq.mission = .attach)
    (hfar : s.dev.triad.law.farSettled (s.lawIn t) = true) (hclose : s.dev.flag pTRANSIT TRANSIT.TR_CFG_DEAD_CLOSE = false)
    (hdead : fLt s.dev.triad.law.far.mag (s.dev.actWord pTRANSIT TRANSIT.DEAD_V) = true) :
    ∃ s', exec (.farSideSettled t) s = .next s' ∧ s.idles t s' ∧
      s'.dev.get pTRANSIT TRANSIT.FAULT_CODE_CAUSE = 0x09 ∧ s'.dev.flag pTRANSIT TRANSIT.IRQ_RAW_ABORT = true := by
  have hf : s.eventLaw t (fun i l => l.trFarSettled i) = s.dev.triad.law.quiet.toIdle (s.lawIn t) (some 0x09) :=
    (trFarSettled_attach (l := s.dev.triad.law.quiet) hst hmission hfar).trans ((if_pos hdead).trans (if_neg (by rw [Bool.not_eq_true]; exact hclose)))
  exact ⟨_, run_lawEvent t _ s, afterEvent_idles hf (by rw [hst]; decide), afterEvent_aborts hf (by decide) (by decide)⟩

end

/-- Settles O10: each clause is one transition of the law state, and what its event leaves. -/
theorem sequencerStartTransitions : Obligations.SequencerStartTransitions := by
  unfold Obligations.SequencerStartTransitions
  refine ⟨?_, ?_, ?_, ?_, ?_, ?_, ?_⟩
  · intro t s hst hdead hms
    exact deadMsExpired_closes hst hdead hms
  · intro t s hst hlive
    exact deadMsExpired_aborts hst hlive
  · intro t s hst hmission hwait hlocked hdue hcheck hpermit
    exact startInstant_starts hst
      (trStart_netTime (l := s.dev.triad.law.quiet) hst hmission hwait hlocked hdue) hcheck hpermit
  · intro t e s hst hmission hwait hedge hcheck hpermit
    exact startInstant_starts hst (trStart_wire (l := s.dev.triad.law.quiet) hst hmission hwait hedge) hcheck hpermit
  · intro t s hst hmission hwait hdriven hlead hdue
    exact leadWireInstant_drives hst hmission hwait hdriven hlead hdue
  · intro t s hst hmission hon hms hcheck hpermit hlive
    exact farSideSettled_syncs hst hmission (farSettled_of hon hms) hcheck hpermit hlive
  · intro t s hst hmission hon hms hclose hdead
    exact farSideSettled_aborts hst hmission (farSettled_of hon hms) hclose hdead

end Sys2Proof.Machine
end

section
/-! Synchronised closing, its timeout, and a missing breaker feedback (R74, R77, R82, R83, R85). -/
namespace Sys2Proof.Machine

/-! ## What the transitions make of the law state -/

/-- Synchronising is given up without stopping the law: back to ISLAND with a cause (R83). -/
def LawState.backToIsland (t c : Nat) (l : LawState) : LawState :=
  let l := (l.trCause c).goto t .island
  { l with seq := { l.seq with mission := .none }, far := .off, farRing := [] }

/-- A breaker is commanded closed again, and no feedback is waited for (R85). -/
def LawState.reassert (b : Nat) (l : LawState) : LawState :=
  { l with seq := { l.seq with brk := setBit l.seq.brk b, brkWait := none } }

section
variable {i : LawIn} {l : LawState}

theorem trSyncTimeout_sync (hst : l.seq.st = .sync) (hms : l.seq.since + msTaps (1000 * i.tr.timeoutS) ≤ i.t) :
    l.trSyncTimeout i = if l.seq.mission = .reconnect then l.backToIsland i.t 0x08 else l.shutdown i 0x08 :=
  (if_pos hms).trans (if_pos hst)

/-- The reaction to a feedback that has not come within FB_MS, state by state (R74). -/
theorem trFbTimeout_due {c : Bool} {t0 : Nat} (hwait : l.seq.brkWait = some (c, t0)) (hms : t0 + msTaps i.tr.fbMs ≤ i.t) :
    (l.seq.st = .closeOut → l.trFbTimeout i = ((l.release i.tr.outBrk).trEvent 5).toIdle i (some 0x04)) ∧
      (l.seq.st = .closeBrk → l.trFbTimeout i =
        if l.seq.mission = .reconnect then ((l.release (l.missionBrk i)).trEvent 5).backToIsland i.t 0x04
        else ((l.release (l.missionBrk i)).trEvent 5).shutdown i 0x04) ∧
      (l.seq.st = .openPcc → l.trFbTimeout i =
        (((l.trCause 0x13).trEvent 5).goto i.t .grid).reassert i.tr.pccBrk) := by
  refine ⟨fun hst => ?_, fun hst => ?_, fun hst => ?_⟩
  · simp only [LawState.trFbTimeout, hwait, hms, hst, if_true]
  · simp only [LawState.trFbTimeout, hwait, hms, hst, if_true]
    rfl
  · simp only [LawState.trFbTimeout, hwait, hms, hst, if_true]
    rfl

/-- Back in ISLAND the sequencer is at rest, its breaker commands as they stand. -/
theorem LawState.backToIsland_seq (t c : Nat) (hst : l.seq.st ≠ .island) :
    (l.backToIsland t c).seq =
      { l.seq with st := .island, since := t, dwell := 0, cycleOk := false, syncOk := false, mission := .none } := by
  have hgoto := LawState.goto_seq (l := l.trCause c) t hst
  simp only [LawState.backToIsland, hgoto]
  rfl

theorem LawState.backToIsland_trFault (l : LawState) (t c : Nat) :
    (l.backToIsland t c).out.trFault = some (c, l.seq.st.code) := LawState.goto_trFault t (l.trCause c) .island

theorem LawState.backToIsland_trEvents {t c k : Nat} (h : l.out.trIrq.testBit k = true) :
    (l.backToIsland t c).out.trIrq.testBit k = true := LawState.goto_trEvents (l := l.trCause c) t h

end

section
variable {t : Nat} {s : State}

/-- The close conditions held for DWELL close the breaker of the synchronisation (R82). -/
theorem syncClose_closes (hst : s.seq.st = .sync) (hdwell : s.dev.act pTRANSIT TRANSIT.SYNC_CTL_DWELL ≤ s.seq.dwell)
    (hok : s.seq.syncOk = true) :
    ∃ s', exec (.syncClose t) s = .next s' ∧ s'.inState .closeBrk ∧ s'.seq.since = t ∧
      s'.seq.brk = setBit s.seq.brk (s.dev.triad.law.missionBrk (s.lawIn t)) ∧ s'.seq.brkWait = some (true, t) ∧
      s'.seq.mission = s.seq.mission ∧ s.lawOnly s' := by
  have hf : s.eventLaw t (fun i l => l.trSyncClose i) =
      (s.dev.triad.law.quiet.closeCmd (s.lawIn t) (s.dev.triad.law.missionBrk (s.lawIn t))).goto t .closeBrk :=
    if_pos (by
      simp only [Bool.and_eq_true, decide_eq_true_eq]
      exact ⟨⟨hst, hdwell⟩, hok⟩)
  have hgoto := LawState.goto_seq
    (l := s.dev.triad.law.quiet.closeCmd (s.lawIn t) (s.dev.triad.law.missionBrk (s.lawIn t))) t (st := .closeBrk)
    (fun h => by cases hst.symm.trans h)
  have hseq := (afterEvent_seq hf).trans hgoto
  exact ⟨_, run_lawEvent t _ s, afterEvent_enters hf (congrArg SeqState.st hgoto), congrArg SeqState.since hseq,
    congrArg SeqState.brk hseq, congrArg SeqState.brkWait hseq, (congrArg SeqState.mission hseq :), afterEvent_lawOnly t _ s⟩

/-- A reconnection that lasts TIMEOUT_S is given up (R83). -/
theorem syncTimeout_reconnect (hst : s.seq.st = .sync) (hmission : s.seq.mission = .reconnect)
    (hms : s.seq.since + msTaps (1000 * s.dev.act pTRANSIT TRANSIT.SYNC_CTL_TIMEOUT_S) ≤ t) :
    ∃ s', exec (.syncTimeout t) s = .next s' ∧ s'.inState .island ∧ s'.seq.since = t ∧ s'.seq.mission = .none ∧
      s'.dev.triad.law.far.on = false ∧ s'.seq.brk = s.seq.brk ∧
      s'.dev.get pTRANSIT TRANSIT.FAULT_CODE_CAUSE = 0x08 ∧ s.lawOnly s' := by
  have hf : s.eventLaw t (fun i l => l.trSyncTimeout i) = s.dev.triad.law.quiet.backToIsland t 0x08 :=
    (trSyncTimeout_sync (i := s.lawIn t) (l := s.dev.triad.law.quiet) hst hms).trans (if_pos hmission)
  have hisland := LawState.backToIsland_seq (l := s.dev.triad.law.quiet) t 0x08 (fun h => by cases hst.symm.trans h)
  have hseq := (afterEvent_seq hf).trans hisland
  exact ⟨_, run_lawEvent t _ s, afterEvent_enters hf (congrArg SeqState.st hisland), congrArg SeqState.since hseq,
    congrArg SeqState.mission hseq, afterEvent_part hf (fun l => l.far.on) (fun _ => rfl), (congrArg SeqState.brk hseq :),
    afterEvent_cause hf (LawState.backToIsland_trFault _ t 0x08) (by decide), afterEvent_lawOnly t _ s⟩

/-- An attachment that lasts TIMEOUT_S shuts down (R83). -/
theorem syncTimeout_attach (hst : s.seq.st = .sync) (hmission : s.seq.mission ≠ .reconnect)
    (hms : s.seq.since + msTaps (1000 * s.dev.act pTRANSIT TRANSIT.SYNC_CTL_TIMEOUT_S) ≤ t) :
    ∃ s', exec (.syncTimeout t) s = .next s' ∧ s.shutsDown t 0x08 s' ∧ s'.dev.triad.law.far.on = false := by
  have hf : s.eventLaw t (fun i l => l.trSyncTimeout i) = s.dev.triad.law.quiet.shutdown (s.lawIn t) 0x08 :=
    (trSyncTimeout_sync (i := s.lawIn t) (l := s.dev.triad.law.quiet) hst hms).trans (if_neg hmission)
  have hrun : s.seq.st.runs = true := by rw [hst]; rfl
  have hgo : s.seq.st ≠ .stopping := by rw [hst]; decide
  have hfar : (s.dev.triad.law.quiet.shutdown (s.lawIn t) 0x08).far.on = false := by
    rw [LawState.shutdown_eq (l := s.dev.triad.law.quiet) _ hrun hgo (by decide)]
    rfl
  exact ⟨_, run_lawEvent t _ s, afterEvent_shutsDown hf rfl rfl hrun hgo (by decide) (by decide),
    (afterEvent_part hf (fun l => l.far.on) (fun _ => rfl)).trans hfar⟩

/-- The output contactor's missing feedback ends a start (R77). -/
theorem brkFbTimeout_closeOut {c : Bool} {t0 : Nat} (hst : s.seq.st = .closeOut) (hwait : s.seq.brkWait = some (c, t0))
    (hms : t0 + msTaps (s.dev.act pTRANSIT TRANSIT.BRK_TIMES_FB_MS) ≤ t) :
    ∃ s', exec (.brkFbTimeout t) s = .next s' ∧ s'.inState .idle ∧ s'.seq.since = t ∧ s'.seq.brkWait = none ∧
      s'.seq.brk = clearBit s.seq.brk (s.dev.get pTRANSIT TRANSIT.TR_CFG_OUT_BRK) ∧ s'.seq.mission = .none ∧
      s'.dev.get pTRANSIT TRANSIT.FAULT_CODE_CAUSE = 0x04 ∧ s'.dev.flag pTRANSIT TRANSIT.IRQ_RAW_BRK_FAIL = true ∧
      s'.dev.flag pTRANSIT TRANSIT.IRQ_RAW_ABORT = true ∧ s.lawOnly s' := by
  have hf : s.eventLaw t (fun i l => l.trFbTimeout i) =
      ((s.dev.triad.law.quiet.release (s.lawIn t).tr.outBrk).trEvent 5).toIdle (s.lawIn t) (some 0x04) :=
    (trFbTimeout_due (i := s.lawIn t) (l := s.dev.triad.law.quiet) hwait hms).1 hst
  have hidle := LawState.toIdle_seq (l := (s.dev.triad.law.quiet.release (s.lawIn t).tr.outBrk).trEvent 5) (s.lawIn t)
    (some 0x04) (fun h => by cases hst.symm.trans h)
  have hseq := (afterEvent_seq hf).trans hidle
  obtain ⟨hcause, habort⟩ := afterEvent_aborts hf (by decide) (by decide)
  refine ⟨_, run_lawEvent t _ s, afterEvent_enters hf (congrArg SeqState.st hidle), congrArg SeqState.since hseq,
    congrArg SeqState.brkWait hseq, ?_, congrArg SeqState.mission hseq, hcause,
    afterEvent_trEvent hf (by decide) (LawState.toIdle_trEvents _ (by decide) (trEvent_testBit _ 5)), habort,
    afterEvent_lawOnly t _ s⟩
  refine (congrArg SeqState.brk hseq).trans (?_ : (if _ then clearBit (clearBit s.seq.brk _) _ else clearBit s.seq.brk _) = _)
  rw [clearBit_clearBit, ite_self]
  rfl

/-- The missing feedback of the point-of-connection breaker gives a reconnection up (R82, R83). -/
theorem brkFbTimeout_reconnect {c : Bool} {t0 : Nat} (hst : s.seq.st = .closeBrk) (hmission : s.seq.mission = .reconnect)
    (hwait : s.seq.brkWait = some (c, t0)) (hms : t0 + msTaps (s.dev.act pTRANSIT TRANSIT.BRK_TIMES_FB_MS) ≤ t) :
    ∃ s', exec (.brkFbTimeout t) s = .next s' ∧ s'.inState .island ∧ s'.seq.since = t ∧
      s'.seq.brkWait = none ∧ s'.seq.brk = clearBit s.seq.brk (s.dev.triad.law.missionBrk (s.lawIn t)) ∧
      s'.seq.mission = .none ∧ s'.dev.get pTRANSIT TRANSIT.FAULT_CODE_CAUSE = 0x04 ∧
      s'.dev.flag pTRANSIT TRANSIT.IRQ_RAW_BRK_FAIL = true ∧ s.lawOnly s' := by
  have hf : s.eventLaw t (fun i l => l.trFbTimeout i) =
      ((s.dev.triad.law.quiet.release (s.dev.triad.law.missionBrk (s.lawIn t))).trEvent 5).backToIsland t 0x04 :=
    ((trFbTimeout_due (i := s.lawIn t) (l := s.dev.triad.law.quiet) hwait hms).2.1 hst).trans (if_pos hmission)
  have hisland := LawState.backToIsland_seq
    (l := (s.dev.triad.law.quiet.release (s.dev.triad.law.missionBrk (s.lawIn t))).trEvent 5) t 0x04
    (fun h => by cases hst.symm.trans h)
  have hseq := (afterEvent_seq hf).trans hisland
  exact ⟨_, run_lawEvent t _ s, afterEvent_enters hf (congrArg SeqState.st hisland), congrArg SeqState.since hseq,
    congrArg SeqState.brkWait hseq, congrArg SeqState.brk hseq, congrArg SeqState.mission hseq,
    afterEvent_cause hf (LawState.backToIsland_trFault _ t 0x04) (by decide),
    afterEvent_trEvent hf (by decide) (LawState.backToIsland_trEvents (trEvent_testBit _ 5)), afterEvent_lawOnly t _ s⟩

/-- The missing feedback of the output contactor at the end of an attachment shuts down (R82, R83). -/
theorem brkFbTimeout_attach {c : Bool} {t0 : Nat} (hst : s.seq.st = .closeBrk) (hmission : s.seq.mission ≠ .reconnect)
    (hwait : s.seq.brkWait = some (c, t0)) (hms : t0 + msTaps (s.dev.act pTRANSIT TRANSIT.BRK_TIMES_FB_MS) ≤ t) :
    ∃ s', exec (.brkFbTimeout t) s = .next s' ∧ s'.inState .stopping ∧ s'.seq.since = t ∧
      s'.seq.brkWait = none ∧ s'.seq.brk = clearBit s.seq.brk (s.dev.triad.law.missionBrk (s.lawIn t)) ∧
      s'.seq.mission = .none ∧ s'.dev.get pTRANSIT TRANSIT.FAULT_CODE_CAUSE = 0x04 ∧
      s'.dev.flag pTRANSIT TRANSIT.IRQ_RAW_BRK_FAIL = true ∧ s.lawOnly s' := by
  have hf : s.eventLaw t (fun i l => l.trFbTimeout i) =
      ((s.dev.triad.law.quiet.release (s.dev.triad.law.missionBrk (s.lawIn t))).trEvent 5).shutdown (s.lawIn t) 0x04 :=
    ((trFbTimeout_due (i := s.lawIn t) (l := s.dev.triad.law.quiet) hwait hms).2.1 hst).trans (if_neg hmission)
  have hrun : s.seq.st.runs = true := by rw [hst]; rfl
  have hgo : s.seq.st ≠ .stopping := by rw [hst]; decide
  rw [LawState.shutdown_eq
    (l := (s.dev.triad.law.quiet.release (s.dev.triad.law.missionBrk (s.lawIn t))).trEvent 5) _ hrun hgo (by decide)] at hf
  have hseq := afterEvent_seq hf
  exact ⟨_, run_lawEvent t _ s, afterEvent_enters hf rfl, congrArg SeqState.since hseq,
    congrArg SeqState.brkWait hseq, congrArg SeqState.brk hseq, congrArg SeqState.mission hseq,
    afterEvent_cause hf rfl (by decide),
    afterEvent_trEvent hf (by decide) (setBit_keeps 0 (setBit_keeps 2 (trEvent_testBit _ 5))), afterEvent_lawOnly t _ s⟩

/-- The missing feedback of an opening leaves the breaker closed (R85). -/
theorem brkFbTimeout_openPcc {c : Bool} {t0 : Nat} (hst : s.seq.st = .openPcc) (hwait : s.seq.brkWait = some (c, t0))
    (hms : t0 + msTaps (s.dev.act pTRANSIT TRANSIT.BRK_TIMES_FB_MS) ≤ t) :
    ∃ s', exec (.brkFbTimeout t) s = .next s' ∧ s'.inState .grid ∧ s'.seq.since = t ∧ s'.seq.brkWait = none ∧
      s'.seq.brk = setBit s.seq.brk (s.dev.get pTRANSIT TRANSIT.TR_CFG_PCC_BRK) ∧
      s'.dev.get pTRANSIT TRANSIT.FAULT_CODE_CAUSE = 0x13 ∧ s'.dev.flag pTRANSIT TRANSIT.IRQ_RAW_BRK_FAIL = true ∧
      s.lawOnly s' := by
  have hf : s.eventLaw t (fun i l => l.trFbTimeout i) =
      (((s.dev.triad.law.quiet.trCause 0x13).trEvent 5).goto t .grid).reassert (s.lawIn t).tr.pccBrk :=
    (trFbTimeout_due (i := s.lawIn t) (l := s.dev.triad.law.quiet) hwait hms).2.2 hst
  have hgoto := LawState.goto_seq (l := (s.dev.triad.law.quiet.trCause 0x13).trEvent 5) t (st := .grid)
    (fun h => by cases hst.symm.trans h)
  have hgrid := congrArg (fun q : SeqState => { q with brk := setBit q.brk (s.lawIn t).tr.pccBrk, brkWait := none }) hgoto
  have hseq := (afterEvent_seq hf).trans hgrid
  exact ⟨_, run_lawEvent t _ s, afterEvent_enters hf (congrArg SeqState.st hgrid), congrArg SeqState.since hseq,
    congrArg SeqState.brkWait hseq, congrArg SeqState.brk hseq,
    afterEvent_cause hf (LawState.goto_trFault t _ .grid) (by decide),
    afterEvent_trEvent hf (by decide) (LawState.goto_trEvents t (trEvent_testBit _ 5)), afterEvent_lawOnly t _ s⟩

end

/-- Settles O11: each clause is one transition of the law state, and what its event leaves. -/
theorem sequencerBreakerTransitions : Obligations.SequencerBreakerTransitions := by
  unfold Obligations.SequencerBreakerTransitions
  refine ⟨?_, ?_, ?_, ?_, ?_, ?_⟩
  · intro t s hst hdwell hok
    exact syncClose_closes hst hdwell hok
  · intro t s hst hmission hms
    exact syncTimeout_reconnect hst hmission hms
  · intro t s hst hmission hms
    exact syncTimeout_attach hst hmission hms
  · intro t t0 c s hst hwait hms
    exact brkFbTimeout_closeOut hst hwait hms
  · intro t t0 c s hst hwait hms
    by_cases hmission : s.seq.mission = .reconnect
    · rw [if_pos hmission]
      exact brkFbTimeout_reconnect hst hmission hwait hms
    · rw [if_neg hmission]
      exact brkFbTimeout_attach hst hmission hwait hms
  · intro t t0 c s hst hwait hms
    exact brkFbTimeout_openPcc hst hwait hms

end Sys2Proof.Machine
end

section
/-! The decisions of ride-through (R90, R93, R94). -/
namespace Sys2Proof.Machine

/-! ## What the events make of the law state -/

/-- Entry by saturation is decided, and reported where it was not decided before (R90). -/
theorem evSat_decides {i : LawIn} {l : LawState} (hen : i.frt.rtEn = true) (hsat : i.frt.satEntry = true)
    (hclosed : l.seq.outClosed = true) (hst : l.seq.st.rtStates = true) (hrun : i.frt.satN ≤ l.rt.satRun) :
    (l.evSat i).seq = l.seq ∧ (l.evSat i).rt = { l.rt with pendEntry := true } ∧
      (l.rt.pendEntry = false → (l.evSat i).out.frtIrq.testBit 2 = true) := by
  unfold LawState.evSat
  simp only [hen, hsat, hclosed, hst, hrun, decide_true, Bool.and_true, Bool.true_and]
  cases hp : l.rt.pendEntry with
  | true => exact ⟨rfl, by simp [← hp], fun h => by cases h⟩
  | false => exact ⟨rfl, rfl, fun _ => by simp [LawState.frtEvent, setBit_testBit]⟩

theorem decideStop_decides {l : LawState} (atOnce : Bool) (c : Nat) (h : l.seq.pendStop = none) :
    l.decideStop atOnce c = { l with seq := { l.seq with pendStop := some (atOnce, c) } } := by
  simp only [LawState.decideStop, h]

/-- The trip of a ride-through that lasts beyond TMAX_MS, where no stop is decided yet (R93). -/
theorem evTmax_decides {i : LawIn} {l : LawState} (hen : i.frt.rtEn = true) (hst : l.seq.st = .rideThrough)
    (hms : msTaps i.frt.tmaxMs < l.rtElapsed i.t) (hstop : l.seq.pendStop = none) :
    l.evTmax i = { l.frtEvent 4 with seq := { l.seq with pendStop := some (!i.frt.tripStop, 0x0E) } } := by
  have hdue : (i.frt.rtEn && decide (l.seq.st = .rideThrough) && decide (msTaps i.frt.tmaxMs < l.rtElapsed i.t)) = true := by
    simp only [hen, hst, hms, decide_true, Bool.and_self]
  exact (if_pos hdue).trans (decideStop_decides (l := l.frtEvent 4) _ _ hstop)

@[simp] theorem goto_chW (t : Nat) (st : TrState) (l : LawState) : (l.goto t st).chW = l.chW := by
  unfold LawState.goto
  split <;> rfl

@[simp] theorem goto_omega (t : Nat) (st : TrState) (l : LawState) : (l.goto t st).omega = l.omega := by
  unfold LawState.goto
  split <;> rfl

/-- Channel P as RECOVER loads it: at rest at the value that continues p (R94). -/
def LawState.continuedP (i : LawIn) (l : LawState) : Chan :=
  ⟨((lawSequences i.gfm (l.signals i) l).p.sub (((FV.of l.chW.y).sub (.of l.omega)).div (.of i.gfm.mP))).w, 0, 0⟩

/-- RECOVER loads the power filters with p and q of the sample, and channel P (R94). -/
theorem rtLeave_recovers {i : LawIn} {l : LawState} (hst : l.seq.st = .rideThrough) :
    (l.rtLeave i).seq.st = .recover ∧ (l.rtLeave i).seq.since = i.t ∧
      (l.rtLeave i).pf = (lawSequences i.gfm (l.signals i) l).p.w ∧
      (l.rtLeave i).qf = (lawSequences i.gfm (l.signals i) l).q.w ∧ (l.rtLeave i).chP = l.continuedP i ∧
      (l.rtLeave i).rt.exitAt = some i.t ∧ (l.rtLeave i).rt.pendExit = false := by
  have hseq := LawState.goto_seq (l := l) (st := .recover) i.t (fun h => by cases hst.symm.trans h)
  refine ⟨congrArg SeqState.st hseq, congrArg SeqState.since hseq, rfl, rfl, ?_, rfl, rfl⟩
  simp only [LawState.rtLeave, LawState.continuedP, goto_chW, goto_omega]

/-- The exit is reported where it was not decided before. -/
def LawState.exitReported (l : LawState) : LawState := if l.rt.pendExit then l else l.frtEvent 3

theorem exitReported_eq (l : LawState) : l.exitReported = { l with out := l.exitReported.out } := by
  unfold LawState.exitReported
  split <;> rfl

/-- What the events reported touches neither the sample's powers nor channel P's continuation. -/
theorem powers_of_reports (i : LawIn) (o : SampleOut) (l : LawState) :
    lawSequences i.gfm (LawState.signals i { l with out := o }) { l with out := o } = lawSequences i.gfm (l.signals i) l ∧
      LawState.continuedP i { l with out := o } = l.continuedP i := ⟨rfl, rfl⟩

/-- The exit of ride-through after EXIT_N samples in its band (R94). -/
theorem evExit_recovers {i : LawIn} {l : LawState} (hst : l.seq.st = .rideThrough) (hrun : i.frt.exitN ≤ l.rt.exitRun) :
    (l.evExit i).seq.st = .recover ∧ (l.evExit i).seq.since = i.t ∧
      (l.evExit i).pf = (lawSequences i.gfm (l.signals i) l).p.w ∧
      (l.evExit i).qf = (lawSequences i.gfm (l.signals i) l).q.w ∧ (l.evExit i).chP = l.continuedP i ∧
      (l.evExit i).rt.exitAt = some i.t ∧ (l.evExit i).rt.pendExit = false := by
  have hexit : l.evExit i = LawState.rtLeave i { l with out := l.exitReported.out } := by
    rw [← exitReported_eq]
    exact if_pos (by simp only [hst, hrun, decide_true, Bool.and_self])
  obtain ⟨hpowers, hchP⟩ := powers_of_reports i l.exitReported.out l
  rw [hexit, ← hpowers, ← hchP]
  exact rtLeave_recovers hst

/-- Settles O13: each decision is one event of the law, and what it leaves. -/
theorem rideThroughDecisions : Obligations.RideThroughDecisions := by
  unfold Obligations.RideThroughDecisions
  refine ⟨?_, ?_, ?_⟩
  · intro t s hen hsat hclosed hst hrun
    obtain ⟨hseq, hrt, hevent⟩ := evSat_decides (i := s.lawIn t) (l := s.dev.triad.law.quiet) hen hsat hclosed hst hrun
    exact ⟨_, run_lawEvent t _ s, (afterEvent_part rfl LawState.rt (fun _ => rfl)).trans hrt,
      fun hp => afterEvent_frtEvent rfl (by decide) (hevent hp), (afterEvent_seq rfl).trans hseq, afterEvent_lawOnly t _ s⟩
  · intro t e s hen hst hentry hms hstop
    have hlast : msTaps (s.lawIn t).frt.tmaxMs < s.dev.triad.law.quiet.rtElapsed (s.lawIn t).t := by
      rw [LawState.rtElapsed, show s.dev.triad.law.quiet.rt.entryAt = some e from hentry]
      exact Nat.lt_sub_of_add_lt (by rw [Nat.add_comm]; exact hms)
    have hf : s.eventLaw t (fun i l => l.evTmax i) = _ := evTmax_decides hen hst hlast hstop
    exact ⟨_, run_lawEvent t _ s, afterEvent_seq hf,
      afterEvent_frtEvent hf (by decide) (by simp [LawState.frtEvent, setBit_testBit, FRT.IRQ_RAW_RT_TRIP]),
      afterEvent_lawOnly t _ s⟩
  · intro t s hst hrun
    obtain ⟨hin, hsince, hpf, hqf, hchP, hexit, hpend⟩ :=
      evExit_recovers (i := s.lawIn t) (l := s.dev.triad.law.quiet) hst hrun
    obtain ⟨hpowers, hcont⟩ := powers_of_reports (s.lawIn t) .none s.dev.triad.law
    refine ⟨_, run_lawEvent t _ s, afterEvent_enters rfl hin, (congrArg SeqState.since (afterEvent_seq rfl)).trans hsince,
      ⟨?_, ?_, ?_⟩, ?_, ?_, afterEvent_lawOnly t _ s⟩
    · exact (afterEvent_part rfl LawState.pf (fun _ => rfl)).trans (hpf.trans (congrArg (fun z => z.p.w) hpowers))
    · exact (afterEvent_part rfl LawState.qf (fun _ => rfl)).trans (hqf.trans (congrArg (fun z => z.q.w) hpowers))
    · exact (afterEvent_part rfl LawState.chP (fun _ => rfl)).trans (hchP.trans hcont)
    · exact (afterEvent_part rfl (fun l => l.rt.exitAt) (fun _ => rfl)).trans hexit
    · exact (afterEvent_part rfl (fun l => l.rt.pendExit) (fun _ => rfl)).trans hpend

end Sys2Proof.Machine
end

section
/-!
The voter step without a majority, against a holder whose sample wrote its state window: the commit of a complete sample, which
a triad position has too, lands those words in memory whatever the vote decides (R131, R135).
-/
namespace Sys2Proof.Machine

/-- A voter step is a command like any other: it runs and completes. -/
theorem exec_voterStep (done : List (Fin 3 × Nat)) (t : Nat) (s : State) :
    exec (.voterStep done t) s = .next (s.land t ((s.dev.begin t).voterStep s.mem t done)) := (rfl)

/-- The law runs, in ISLAND, and sample 0 is open. Engine 12 alone holds a position, the first; its sample has completed, and its
program has written the word at offset 0 of the state window, whose working half, at 0x380C3800, holds 1 (R127, R131). -/
def storedSample : State :=
  { State.reset with
    mem := [(0x380C3800, 1)],
    dev := { Dev.reset with
      eng := engReset.set 12 { engReset[12] with role := .counted, tickAt := some 0, doneAt := some 0, written := [0] },
      triad := { Triad.reset with
        law := { LawState.reset with seq := { SeqState.reset with st := .island } },
        pos := Triad.reset.pos.set 0 ⟨12, .counted, 2, 0, false, false, false, .reset⟩,
        sampleOpen := true, tickAt := some 0 } } }

/-- The triad commit deadline of that sample: DEADLINE of TE0 stands at 3,600 ticks (R155). -/
def storedDeadline : Nat := 115200

/-- One position is counted, so no two records agree (R106). -/
theorem storedSample_no_majority :
    (vote ((storedSample.dev.begin storedDeadline).ballots storedSample.mem storedDeadline
      ((storedSample.dev.begin storedDeadline).arrivals []))).agree = [] := by decide +kernel

/-- The committed half of the state window takes the word: its first byte was 0 and is 1. -/
theorem storedSample_commits :
    memByte storedSample.mem 0x380C3000 = 0 ∧
      memByte (storedSample.land storedDeadline
        ((storedSample.dev.begin storedDeadline).voterStep storedSample.mem storedDeadline [])).mem 0x380C3000 = 1 := by
  decide +kernel

/-- Refutes O15: without a majority memory is not as before where a holder's program has written its state window, since the
commit of its complete sample lands there (R131, R135). The counterexample is `storedSample` at its deadline. -/
theorem not_voteDecidesTheSample : ¬ Obligations.VoteDecidesTheSample := by
  unfold Obligations.VoteDecidesTheSample
  intro h
  obtain ⟨s', hstep, -, -, -, -, hlost⟩ := h [] storedDeadline 0 storedSample (by decide +kernel) (by decide +kernel)
    (by decide +kernel) (by decide +kernel) (by decide +kernel) (by decide +kernel) (by decide +kernel) (by decide +kernel)
  obtain ⟨-, -, -, -, ⟨hmem, -⟩, -⟩ := hlost (.inl storedSample_no_majority)
  obtain ⟨hbefore, hafter⟩ := storedSample_commits
  have hs' := Host.Outcome.next.inj ((exec_voterStep _ _ _).symm.trans hstep)
  have hsame := hmem 0x380C3000
  rw [← hs', hafter, hbefore] at hsame
  exact absurd hsame (by decide)

end Sys2Proof.Machine
end

section
/-! Positions that are vacated or marked outside the voter step (R108, R111, R117). -/
namespace Sys2Proof.Machine

/-! ## Positions under a change of roles -/

@[simp] theorem setRole_triad (n : Nat) (r : Role) (d : Dev) : (d.setRole n r).triad = d.triad := by
  unfold Dev.setRole
  dsimp only
  split
  · rfl
  · simp [Dev.showState]

@[simp] theorem begin_pos (t k : Nat) (d : Dev) : (d.begin t).pos k = d.pos k := (rfl)

@[simp] theorem land_pos (t k : Nat) (d : Dev) (s : State) : (s.land t d).dev.pos k = d.pos k := (rfl)

@[simp] theorem setRole_pos (n k : Nat) (r : Role) (d : Dev) : (d.setRole n r).pos k = d.pos k := by
  rw [Dev.pos, setRole_triad, Dev.pos]

/-- A position that its holder has left. -/
def Position.vacated (x : Position) : Position :=
  { x with holder := 15, st := .vacant, loaded := false, withheld := false, back := false, law := .reset }

theorem vacate_eq {k : Nat} {d : Dev} (h : (d.pos k).st ≠ .vacant) : d.vacate k =
    (d.setPos k (d.pos k).vacated).setRole (d.pos k).holder
      ((d.setPos k (d.pos k).vacated).idleRole (d.pos k).holder) := if_neg h

theorem vacate_pos_same {k : Nat} {d : Dev} (hk : k < 3) (h : (d.pos k).st ≠ .vacant) :
    (d.vacate k).pos k = (d.pos k).vacated := by
  rw [vacate_eq h, setRole_pos, pos_setPos_same _ _ hk]

theorem vacate_pos_ne {k j : Nat} (h : j ≠ k) (d : Dev) : (d.vacate k).pos j = d.pos j := by
  by_cases hv : (d.pos k).st = .vacant
  · rw [show d.vacate k = d from if_pos hv]
  · rw [vacate_eq hv, setRole_pos, pos_setPos_ne _ _ h]

/-- LEASE shows a vacant position (R125). -/
theorem setPos_shows_vacant {k : Nat} {x : Position} (h : x.st = .vacant) (d : Dev) :
    (d.setPos k x).getAt pVOTER VOTER.LEASE_POS_STATE k = 3 ∧ (d.setPos k x).getAt pVOTER VOTER.LEASE_HOLDER k = 15 := by
  simp (disch := decide) only [Dev.setPos, h, if_true, getAt_putAt_apart, getAt_putAt_same]
  exact ⟨rfl, rfl⟩

/-- A change of roles and positions leaves memory alone. -/
theorem land_role_memSame {t : Nat} {e : Dev} {s : State} (h : (s.dev.begin t).RoleFrame e) : s.memSame (s.land t e) :=
  land_memSame (h.field Dev.wr (fun _ => rfl)) (h.field Dev.wipe (fun _ => rfl))

/-- A change of roles and positions leaves the outcome in force. -/
theorem land_role_law {t : Nat} {e : Dev} {s : State} (h : (s.dev.begin t).RoleFrame e) :
    (s.land t e).dev.triad.law = s.dev.triad.law := h.field (fun x => x.triad.law) (fun _ => rfl)

/-! ## A lease that ran out (R108, R117) -/

theorem expire_vacates {k : Nat} {d : Dev} (hk : k < 3)
    (hst : (d.pos k).st = .suspended ∨ ((d.pos k).st = .counted ∧ (d.pos k).withheld = true))
    (hlease : (d.pos k).expiry ≤ d.triad.sampleNo) :
    d.expire k = (d.vacate k).setPos k { (d.pos k).vacated with back := (d.pos k).withheld } := by
  have hheld : (d.pos k).st ≠ .vacant := by rcases hst with h | ⟨h, -⟩ <;> simp [h]
  have hdue : (((d.pos k).st = .suspended || ((d.pos k).st = .counted && (d.pos k).withheld)) &&
      decide ((d.pos k).expiry ≤ d.triad.sampleNo)) = true := by simpa [hlease] using hst
  rw [← vacate_pos_same hk hheld]
  exact if_pos hdue

theorem leaseExpiry_vacates {k : Fin 3} (t : Nat) {s : State} (hclosed : s.dev.triad.sampleOpen = false)
    (hst : (s.dev.pos k).st = .suspended ∨ ((s.dev.pos k).st = .counted ∧ (s.dev.pos k).withheld = true))
    (hlease : (s.dev.pos k).expiry ≤ s.dev.triad.sampleNo) :
    ∃ s', exec (.leaseExpiry k t) s = .next s' ∧ (s'.dev.pos k).st = .vacant ∧ (s'.dev.pos k).holder = 15 ∧
      (∀ j < 3, j ≠ k.val → s'.dev.pos j = s.dev.pos j) ∧ s'.dev.triad.law = s.dev.triad.law ∧
      s'.dev.getAt pVOTER VOTER.LEASE_POS_STATE k = 3 ∧ s'.dev.getAt pVOTER VOTER.LEASE_HOLDER k = 15 ∧ s.memSame s' := by
  have hexec : exec (.leaseExpiry k t) s = .next (s.land t ((s.dev.begin t).expire k.val)) :=
    congrArg (fun d => Host.Outcome.next (s.land t d)) (if_neg (by simp [hclosed]))
  have hframe : (s.dev.begin t).RoleFrame (((s.dev.begin t).vacate k.val).setPos k.val
      { ((s.dev.begin t).pos k.val).vacated with back := ((s.dev.begin t).pos k.val).withheld }) :=
    (vacate_frame k.isLt _).trans (setPos_frame k.isLt _ _)
  rw [expire_vacates (d := s.dev.begin t) k.isLt hst hlease] at hexec
  refine ⟨_, hexec, ?_, ?_, fun j _ hjk => ?_, land_role_law hframe, ?_, ?_, land_role_memSame hframe⟩
  · rw [land_pos, pos_setPos_same _ _ k.isLt]
    rfl
  · rw [land_pos, pos_setPos_same _ _ k.isLt]
    rfl
  · rw [land_pos, pos_setPos_ne _ _ hjk, vacate_pos_ne hjk, begin_pos]
  · rw [land_getAt, (setPos_shows_vacant rfl _).1]
  · rw [land_getAt, (setPos_shows_vacant rfl _).2]

/-! ## A position that is marked (R111, R117) -/

/-- A command whose effect on this state is one position set. -/
theorem run_setPos {k : Fin 3} {x : Position} {t : Nat} {f : Dev → Dev} {s : State} {o : Host.Outcome State Fault Refusal}
    (ho : o = run t (fun _ d => f d) s) (h : f (s.dev.begin t) = (s.dev.begin t).setPos k.val x) :
    ∃ s', o = .next s' ∧ s'.dev.pos k = x ∧ (∀ j < 3, j ≠ k.val → s'.dev.pos j = s.dev.pos j) ∧
      s'.dev.triad.law = s.dev.triad.law ∧ s'.dev.others = s.dev.others ∧ s.memSame s' := by
  have hframe := setPos_frame k.isLt x (s.dev.begin t)
  refine ⟨s.land t ((s.dev.begin t).setPos k.val x), by rw [ho, run_next, h], ?_, fun j _ hjk => ?_,
    land_role_law hframe, ?_, land_role_memSame hframe⟩
  · rw [land_pos, pos_setPos_same _ _ k.isLt]
  · rw [land_pos, pos_setPos_ne _ _ hjk, begin_pos]
  · simp [Dev.others]

theorem spareLoadDone_marks {k : Fin 3} (t : Nat) {s : State} (hst : (s.dev.pos k).st = .loading) :
    ∃ s', exec (.spareLoadDone k t) s = .next s' ∧ s'.dev.pos k = { s.dev.pos k with loaded := true } ∧
      (∀ j < 3, j ≠ k.val → s'.dev.pos j = s.dev.pos j) ∧ s'.dev.triad.law = s.dev.triad.law ∧
      s'.dev.others = s.dev.others ∧ s.memSame s' :=
  run_setPos (f := fun d => if (d.pos k.val).st = .loading then d.setPos k.val { d.pos k.val with loaded := true } else d)
    rfl (if_pos hst)

theorem failback_withholds {k : Fin 3} (t : Nat) {s : State} (hdue : s.dev.failbackDue k = true) :
    ∃ s', exec (.failback k t) s = .next s' ∧ s'.dev.pos k = { s.dev.pos k with withheld := true } ∧
      (∀ j < 3, j ≠ k.val → s'.dev.pos j = s.dev.pos j) ∧ s'.dev.triad.law = s.dev.triad.law ∧
      s'.dev.others = s.dev.others ∧ s.memSame s' :=
  run_setPos (f := fun d => d.withhold k.val) rfl (if_pos hdue)

end Sys2Proof.Machine
end

section
/-! Self-tests (R111, R116). -/
namespace Sys2Proof.Machine

/-! ## The health registers (R126) -/

/-- Every register but the health registers of the VOTER page, which is page 0x2F. -/
def offHealth (a : Nat) : Bool := !(decide (0x2F080 ≤ a) && decide (a < 0x2F0C0))

theorem offHealth_iff (a : Nat) : offHealth a = false ↔ 0x2F080 ≤ a ∧ a < 0x2F0C0 := by
  simp only [offHealth, Bool.not_eq_false', Bool.and_eq_true, decide_eq_true_eq]

/-- A field of a health register. -/
abbrev FieldSpec.ofHealth (f : FieldSpec) : Prop := f.off = 0x080 ∧ f.stride = 4

theorem offHealth_addr {f : FieldSpec} (hf : f.ofHealth) {n : Nat} (hn : n < 15) : offHealth (f.addr pVOTER n) = false := by
  obtain ⟨hoff, hstride⟩ := hf
  rw [offHealth_iff, FieldSpec.addr, hoff, hstride, pVOTER]
  omega

/-- A frame of what a report beside the health registers may change. -/
abbrev Dev.ReportFrame (d e : Dev) : Prop := Dev.Frame Dev.sansRegs offHealth d e

theorem voterFault_report (cause pos eng word : Nat) (d : Dev) : d.ReportFrame (d.voterFault cause pos eng word) :=
  (putAt_frame _ _ (by decide)).trans ((putAt_frame _ _ (by decide)).trans
    ((putAt_frame _ _ (by decide)).trans (putAt_frame _ _ (by decide))))

theorem spareReady_report (d : Dev) : d.ReportFrame d.spareReady := putAt_frame _ _ (by decide)

theorem spareLegs_report (d : Dev) : d.ReportFrame d.spareLegs :=
  .ite (fun _ => (putAt_frame _ _ (by decide)).trans (voterFault_report _ _ _ _ _)) (fun _ => .refl _ _ _)

theorem showState_report {n : Nat} (hn : n < 15) (d : Dev) : d.ReportFrame (d.showState n) :=
  putAt_frame _ _ (by
    rw [← Bool.not_eq_false, offHealth_iff]
    simp only [FieldSpec.addr, TE.STATUS_STATE, pENG]
    omega)

/-- A role that is shown leaves the other fields of the health registers. -/
theorem setRole_health {n j : Nat} {f : FieldSpec} (hn : n < 15) (hj : j < 15) (hf : f.ofHealth)
    (hrole : VOTER.HEALTH_ROLE.apart f = true) (r : Role) (d : Dev) :
    (d.setRole n r).getAt pVOTER f j = d.getAt pVOTER f j := by
  unfold Dev.setRole
  dsimp only
  split
  · rfl
  · rw [(showState_report hn _).getAt (offHealth_addr hf hj), getAt_putAt_apart _ _ (by decide) hrole]
    rfl

/-! ## A pass that ends -/

/-- The health registers of an engine after a failed pass. -/
def Dev.failCounted (n part : Nat) (d : Dev) : Dev :=
  ((d.putAt pVOTER VOTER.HEALTH_LAST_FAIL n part).countAt pVOTER VOTER.HEALTH_FAIL_CNT n).putAt pVOTER VOTER.HEALTH_PASS_RUN n 0

theorem testFailed_report (n part : Nat) (d : Dev) : (d.failCounted n part).ReportFrame (d.testFailed n part) :=
  (putAt_frame _ _ (by decide)).trans (voterFault_report _ _ _ _ _)

theorem testFailed_regs (n part : Nat) (d : Dev) : Dev.Frame Dev.sansRegs (fun _ => true) d (d.testFailed n part) :=
  ((putAt_frame _ _ rfl).trans ((putAt_frame _ _ rfl).trans (putAt_frame _ _ rfl))).trans
    ((testFailed_report n _ d).mono (fun _ => rfl) (fun _ ha => by cases ha))

/-- A failed pass names its part, counts, and clears the run of passes (R116). -/
theorem testFailed_health {n part : Nat} (hn : n < 15) (hpart : part < 16) (d : Dev) :
    (d.testFailed n part).passRun n = 0 ∧ (d.testFailed n part).getAt pVOTER VOTER.HEALTH_LAST_FAIL n = part ∧
      (d.testFailed n part).getAt pVOTER VOTER.HEALTH_FAIL_CNT n =
        min 255 (d.getAt pVOTER VOTER.HEALTH_FAIL_CNT n + 1) := by
  have hreport := testFailed_report n part d
  rw [Dev.passRun, hreport.getAt (offHealth_addr (by decide) hn), hreport.getAt (offHealth_addr (by decide) hn),
    hreport.getAt (offHealth_addr (by decide) hn)]
  simp (disch := decide) only [Dev.failCounted, Dev.countAt_eq, getAt_putAt_apart, getAt_putAt_same]
  exact ⟨rfl, Nat.mod_eq_of_lt hpart, Nat.mod_eq_of_lt (Nat.lt_of_le_of_lt (Nat.min_le_left _ _) (by decide))⟩

theorem testFailed_raises (n part : Nat) (d : Dev) :
    (d.testFailed n part).getAt pVOTER VOTER.IRQ_RAW_SELFTEST_FAIL 0 = 1 := by
  simp (disch := decide) only [Dev.testFailed, Dev.voterFault, Dev.put_eq, Dev.raise_eq, getAt_putAt_word, getAt_putAt_same]
  rfl

theorem spareReady_keeps_raised (d : Dev) :
    d.spareReady.getAt pVOTER VOTER.IRQ_RAW_SELFTEST_FAIL 0 = d.getAt pVOTER VOTER.IRQ_RAW_SELFTEST_FAIL 0 :=
  getAt_putAt_word _ _ (by decide)

theorem spareLegs_keeps_raised (d : Dev) :
    d.spareLegs.getAt pVOTER VOTER.IRQ_RAW_SELFTEST_FAIL 0 = d.getAt pVOTER VOTER.IRQ_RAW_SELFTEST_FAIL 0 := by
  unfold Dev.spareLegs
  split
  · simp (disch := decide) only [Dev.voterFault, Dev.put_eq, Dev.raise_eq, getAt_putAt_word, getAt_putAt_apart]
  · rfl

/-! ## A pass of an engine that tests -/

/-- The engine that tests stands in its idle role, and shows it. -/
def Dev.testRoleShown (n : Nat) (d : Dev) : Dev :=
  let d := d.setRole n (d.idleRole n)
  (d.putAt pVOTER VOTER.HEALTH_ROLE n (d.engine n).role.code).showState n

/-- The pass is counted. -/
def Dev.testCounted (n : Nat) (fail : Option (Fin 4)) (d : Dev) : Dev :=
  match fail with
  | some part => d.testFailed n (part.val + 1)
  | none => d.countAt pVOTER VOTER.HEALTH_PASS_RUN n

/-- What a pass means to the spare (R114, R124). -/
def Dev.testEnded (n : Nat) (was : Role) (d : Dev) : Dev :=
  (if n < 12 && was != .coldSpare then d.spareLegs else d).spareReady

/-- An engine that tests holds no position and loads none. -/
theorem loadingPos_of_tests {n : Nat} {d : Dev} (h : d.tests n = true) : d.loadingPos n = none := by
  have hfree : d.inPosition n = false := by
    simp only [Dev.tests, Bool.and_eq_true, Bool.not_eq_true'] at h
    exact h.1
  refine List.find?_eq_none.mpr (fun k hk hload => ?_)
  have hin := List.any_eq_false.mp hfree k hk
  simp only [Bool.and_eq_true, Bool.or_eq_true, decide_eq_true_eq] at hload
  obtain ⟨hholder, hst⟩ := hload
  refine hin (Bool.and_eq_true_iff.mpr ⟨decide_eq_true hholder, decide_eq_true fun hvacant => ?_⟩)
  rw [hvacant] at hst
  simp at hst

theorem selftest_tests {n : Nat} {d : Dev} (fail : Option (Fin 4)) (hidle : d.boot.idle = false) (h : d.tests n = true) :
    d.selftest n fail = ((d.testRoleShown n).testCounted n fail).testEnded n (d.engine n).role := by
  unfold Dev.selftest
  rw [hidle, loadingPos_of_tests h, h, if_neg Bool.false_ne_true]
  cases fail with
  | none => rfl
  | some part => rfl

/-- Showing the idle role leaves the counts. -/
theorem testRoleShown_health {n : Nat} {f : FieldSpec} (hn : n < 15) (hf : f.ofHealth)
    (hrole : VOTER.HEALTH_ROLE.apart f = true) (d : Dev) :
    (d.testRoleShown n).getAt pVOTER f n = d.getAt pVOTER f n := by
  rw [Dev.testRoleShown, (showState_report hn _).getAt (offHealth_addr hf hn), getAt_putAt_apart _ _ (by decide) hrole,
    setRole_health hn hn hf hrole]

theorem testEnded_report (n : Nat) (was : Role) (d : Dev) : d.ReportFrame (d.testEnded n was) :=
  Dev.Frame.trans (.ite (fun _ => spareLegs_report d) (fun _ => .refl _ _ _)) (spareReady_report _)

theorem testEnded_keeps_raised (n : Nat) (was : Role) (d : Dev) :
    (d.testEnded n was).getAt pVOTER VOTER.IRQ_RAW_SELFTEST_FAIL 0 = d.getAt pVOTER VOTER.IRQ_RAW_SELFTEST_FAIL 0 := by
  rw [Dev.testEnded, spareReady_keeps_raised]
  split
  · exact spareLegs_keeps_raised d
  · rfl

/-- Counting a pass changes registers alone. -/
theorem testCounted_regs (n : Nat) (fail : Option (Fin 4)) (d : Dev) :
    Dev.Frame Dev.sansRegs (fun _ => true) d (d.testCounted n fail) := by
  cases fail with
  | none => exact putAt_frame _ _ rfl
  | some part => exact testFailed_regs n _ d

theorem testRoleShown_triad (n : Nat) (d : Dev) : (d.testRoleShown n).triad = d.triad := by
  simp [Dev.testRoleShown, Dev.showState]

theorem testRoleShown_role {n : Nat} (hn : n < 15) (d : Dev) : d.RoleFrame (d.testRoleShown n) := by
  have hn16 : n < 16 := by omega
  have hhealth (v : Nat) (e : Dev) : e.RoleFrame (e.putAt pVOTER VOTER.HEALTH_ROLE n v) := by
    refine putAt_voter_frame v e ?_ ?_
    · simp only [VOTER.HEALTH_ROLE]; omega
    · simp only [VOTER.HEALTH_ROLE, List.mem_cons, List.not_mem_nil, or_false]; omega
  have hstate (e : Dev) : e.RoleFrame (e.showState n) :=
    (putAt_frame _ e (roleReg_addr (by rw [pENG]; omega) (by decide) (by decide))).ofRegs
  exact (setRole_frame hn16 _ d).trans ((hhealth _ _).trans (hstate _))

/-- A pass of an engine that tests (R116). -/
theorem selftestPassDone_counts {n : Fin 15} (fail : Option (Fin 4)) (t : Nat) {s : State} (hidle : s.dev.boot.idle = false)
    (htests : s.dev.tests n = true) :
    ∃ s', exec (.selftestPassDone n fail t) s = .next s' ∧
      (fail = none → s'.dev.passRun n = min 65535 (s.dev.passRun n + 1)) ∧
      (∀ p, fail = some p → s'.dev.passRun n = 0 ∧ s'.dev.getAt pVOTER VOTER.HEALTH_LAST_FAIL n = p.val + 1 ∧
        s'.dev.getAt pVOTER VOTER.HEALTH_FAIL_CNT n = min 255 (s.dev.getAt pVOTER VOTER.HEALTH_FAIL_CNT n + 1) ∧
        s'.dev.flag pVOTER VOTER.IRQ_RAW_SELFTEST_FAIL = true) ∧ s'.dev.triad = s.dev.triad ∧ s.memSame s' := by
  let shown := (s.dev.begin t).testRoleShown n
  let ended := (shown.testCounted n fail).testEnded n ((s.dev.begin t).engine n).role
  have hexec : exec (.selftestPassDone n fail t) s = .next (s.land t ended) :=
    congrArg (fun d => Host.Outcome.next (s.land t d)) (selftest_tests (d := s.dev.begin t) fail hidle htests)
  have hshown : (s.dev.begin t).RoleFrame shown := testRoleShown_role n.isLt _
  have hended : Dev.Frame Dev.sansRegs (fun _ => true) shown ended :=
    (testCounted_regs n fail shown).trans ((testEnded_report _ _ _).mono (fun _ => rfl) (fun _ ha => by cases ha))
  have hhealth {f : FieldSpec} (hf : f.ofHealth) : ended.getAt pVOTER f n = (shown.testCounted n fail).getAt pVOTER f n :=
    (testEnded_report _ _ _).getAt (offHealth_addr hf n.isLt)
  refine ⟨_, hexec, ?_, ?_, ?_, land_memSame ?_ ?_⟩
  · rintro rfl
    have hbefore : shown.passRun n = s.dev.passRun n := testRoleShown_health n.isLt (by decide) (by decide) _
    have hafter : (shown.testCounted n none).passRun n = min 65535 (shown.passRun n + 1) % 65536 :=
      getAt_putAt_same _ _ _ _ _ (by decide)
    rw [Dev.passRun, land_getAt, hhealth (by decide), ← Dev.passRun, hafter, hbefore]
    exact Nat.mod_eq_of_lt (Nat.lt_of_le_of_lt (Nat.min_le_left _ _) (by decide))
  · rintro p rfl
    obtain ⟨hrun, hpart, hcnt⟩ := testFailed_health (part := p.val + 1) n.isLt (by omega) shown
    refine ⟨?_, ?_, ?_, ?_⟩
    · rw [Dev.passRun, land_getAt, hhealth (by decide)]
      exact hrun
    · rw [land_getAt, hhealth (by decide)]
      exact hpart
    · rw [land_getAt, hhealth (by decide)]
      exact hcnt.trans (by rw [testRoleShown_health n.isLt (by decide) (by decide), begin_getAt])
    · rw [Dev.flag_eq, land_getAt, testEnded_keeps_raised]
      exact decide_eq_true (testFailed_raises _ _ _)
  · rw [land_triad, hended.field Dev.triad (fun _ => rfl)]
    exact testRoleShown_triad _ _
  · exact (hended.field Dev.wr (fun _ => rfl)).trans (hshown.field Dev.wr (fun _ => rfl))
  · exact (hended.field Dev.wipe (fun _ => rfl)).trans (hshown.field Dev.wipe (fun _ => rfl))

/-! ## A pass that withdraws a grant (R111) -/

theorem loadingPos_some {n k : Nat} {d : Dev} (h : d.loadingPos n = some k) :
    k < 3 ∧ ((d.pos k).holder : Nat) = n ∧ (d.pos k).st ≠ .vacant := by
  have hload := List.find?_some h
  simp only [Bool.and_eq_true, Bool.or_eq_true, decide_eq_true_eq] at hload
  obtain ⟨hholder, hst⟩ := hload
  refine ⟨List.mem_range.mp (List.mem_of_find?_eq_some h), hholder, fun hvacant => ?_⟩
  rw [hvacant] at hst
  simp at hst

/-- A position set leaves the health registers. -/
theorem setPos_health {k n : Nat} {f : FieldSpec} (hk : k < 3) (hn : n < 15) (hf : f.ofHealth) (x : Position) (d : Dev) :
    (d.setPos k x).getAt pVOTER f n = d.getAt pVOTER f n := by
  have hput (g : FieldSpec) (v : Nat) (e : Dev) (hg : g.off = 0x044 ∧ g.stride = 4) :
      e.ReportFrame (e.putAt pVOTER g k v) := by
    refine putAt_frame v e ?_
    rw [← Bool.not_eq_false, offHealth_iff, FieldSpec.addr, hg.1, hg.2, pVOTER]
    omega
  unfold Dev.setPos
  dsimp only
  rw [(hput VOTER.LEASE_EXPIRY _ _ (by decide)).getAt (offHealth_addr hf hn),
    (hput VOTER.LEASE_POS_STATE _ _ (by decide)).getAt (offHealth_addr hf hn),
    (hput VOTER.LEASE_HOLDER _ _ (by decide)).getAt (offHealth_addr hf hn)]
  rfl

theorem vacate_health {k n : Nat} {f : FieldSpec} {d : Dev} (hk : k < 3) (hn : n < 15) (hf : f.ofHealth)
    (hrole : VOTER.HEALTH_ROLE.apart f = true) (hst : (d.pos k).st ≠ .vacant) (hholder : ((d.pos k).holder : Nat) < 15) :
    (d.vacate k).getAt pVOTER f n = d.getAt pVOTER f n := by
  rw [vacate_eq hst, setRole_health hholder hn hf hrole, setPos_health hk hn hf]

/-- The run of passes of a grant that is withdrawn is cleared. -/
def Dev.runCleared (k : Nat) (d : Dev) : Dev := (d.vacate k).putAt pVOTER VOTER.HEALTH_PASS_RUN (d.pos k).holder 0

theorem runCleared_regs (k : Nat) (d : Dev) : Dev.Frame Dev.sansRegs (fun _ => true) (d.vacate k) (d.runCleared k) :=
  putAt_frame _ _ rfl

theorem withdraw_report (k : Nat) (d : Dev) : (d.runCleared k).ReportFrame (d.withdraw k) :=
  (putAt_frame _ _ (by decide)).trans ((voterFault_report _ _ _ _ _).trans (spareReady_report _))

theorem withdraw_raises (k : Nat) (d : Dev) : (d.withdraw k).getAt pVOTER VOTER.IRQ_RAW_SELFTEST_FAIL 0 = 1 := by
  rw [Dev.withdraw, spareReady_keeps_raised]
  simp (disch := decide) only [Dev.voterFault, Dev.put_eq, Dev.raise_eq, getAt_putAt_word, getAt_putAt_same]
  rfl

theorem withdraw_pos (k j : Nat) (d : Dev) : (d.withdraw k).pos j = (d.vacate k).pos j :=
  ((withdraw_report k d).field (fun x => x.pos j) (fun _ => rfl)).trans
    ((runCleared_regs k d).field (fun x => x.pos j) (fun _ => rfl))

theorem selftest_withdraws {n k : Nat} {d : Dev} (p : Fin 4) (hidle : d.boot.idle = false) (hload : d.loadingPos n = some k) :
    d.selftest n (some p) = (d.testFailed n (p.val + 1)).withdraw k := by
  unfold Dev.selftest
  rw [hidle, hload, if_neg Bool.false_ne_true]

/-- What withdrawing a grant keeps of the device. -/
theorem withdraw_field {k : Nat} (hk : k < 3) (d : Dev) {α : Type} (g : Dev → α) (h₁ : ∀ x, g (Dev.sansRegs x) = g x)
    (h₂ : ∀ x, g (Dev.sansRoles x) = g x) : g (d.withdraw k) = g d :=
  ((withdraw_report k d).field g h₁).trans (((runCleared_regs k d).field g h₁).trans ((vacate_frame hk d).field g h₂))

/-- A grant that is withdrawn leaves its holder without a run of passes, and the other health registers as they were. -/
theorem withdraw_health {n k : Nat} {d : Dev} (hk : k < 3) (hn : n < 15) (hholder : ((d.pos k).holder : Nat) = n)
    (hst : (d.pos k).st ≠ .vacant) : (d.withdraw k).passRun n = 0 ∧
      (d.withdraw k).getAt pVOTER VOTER.HEALTH_LAST_FAIL n = d.getAt pVOTER VOTER.HEALTH_LAST_FAIL n := by
  have hreport := withdraw_report k d
  constructor
  · rw [Dev.passRun, hreport.getAt (offHealth_addr (by decide) hn), Dev.runCleared, hholder,
      getAt_putAt_same _ _ _ _ _ (by decide)]
    exact Nat.zero_mod _
  · rw [hreport.getAt (offHealth_addr (by decide) hn), Dev.runCleared, getAt_putAt_apart _ _ (by decide) (by decide),
      vacate_health hk hn (by decide) (by decide) hst (by omega)]

/-- A failed pass of an engine that loads a position (R111, R116). -/
theorem selftestPassDone_withdraws {n : Fin 15} (p : Fin 4) {k : Nat} (t : Nat) {s : State} (hidle : s.dev.boot.idle = false)
    (hload : s.dev.loadingPos n = some k) :
    ∃ s', exec (.selftestPassDone n (some p) t) s = .next s' ∧ (s'.dev.pos k).st = .vacant ∧ s'.dev.passRun n = 0 ∧
      s'.dev.getAt pVOTER VOTER.HEALTH_LAST_FAIL n = p.val + 1 ∧ s'.dev.flag pVOTER VOTER.IRQ_RAW_SELFTEST_FAIL = true ∧
      (∀ j < 3, j ≠ k → s'.dev.pos j = s.dev.pos j) ∧ s'.dev.triad.law = s.dev.triad.law ∧ s.memSame s' := by
  have hselftest := selftest_withdraws (d := s.dev.begin t) p hidle hload
  have hexec : exec (.selftestPassDone n (some p) t) s = .next (s.land t ((s.dev.begin t).selftest n (some p))) := rfl
  have hfailed := testFailed_regs n (p.val + 1) (s.dev.begin t)
  have hpart := (testFailed_health (part := p.val + 1) n.isLt (by omega) (s.dev.begin t)).2.1
  rw [hselftest] at hexec
  generalize (s.dev.begin t).testFailed n (p.val + 1) = failed at hexec hfailed hpart
  have hpos (j : Nat) : failed.pos j = s.dev.pos j := hfailed.field (fun x => x.pos j) (fun _ => rfl)
  obtain ⟨hk, hholder, hst⟩ := loadingPos_some hload
  rw [← hpos k] at hholder hst
  obtain ⟨hrun, hkept⟩ := withdraw_health hk n.isLt hholder hst
  have hsame {α : Type} (g : Dev → α) (h₁ : ∀ x, g (Dev.sansRegs x) = g x) (h₂ : ∀ x, g (Dev.sansRoles x) = g x) :
      g (failed.withdraw k) = g (s.dev.begin t) := (withdraw_field hk failed g h₁ h₂).trans (hfailed.field g h₁)
  refine ⟨_, hexec, ?_, ?_, ?_, ?_, fun j _ hjk => ?_, ?_, land_memSame ?_ ?_⟩
  · rw [land_pos, withdraw_pos, vacate_pos_same hk hst, Position.vacated]
  · rw [Dev.passRun, land_getAt, ← Dev.passRun, hrun]
  · rw [land_getAt, hkept, hpart]
  · rw [Dev.flag_eq, land_getAt, withdraw_raises]
    rfl
  · rw [land_pos, withdraw_pos, vacate_pos_ne hjk, hpos]
  · rw [land_triad]
    exact hsame (fun x => x.triad.law) (fun _ => rfl) (fun _ => rfl)
  · exact hsame Dev.wr (fun _ => rfl) (fun _ => rfl)
  · exact hsame Dev.wipe (fun _ => rfl) (fun _ => rfl)

end Sys2Proof.Machine
end

section
/-! The comparator test, the disagreement counts, and the shutdown after a lost vote (R115, R124). -/
namespace Sys2Proof.Machine

/-! ## The comparator test and the counts (R124) -/

theorem runReg_land (t : Nat) (f : List Host.Cell → Dev → Dev) (s : State) :
    runReg t f s = .next (s.land t (f s.mem (s.dev.begin t)).regRound) := (rfl)

/-- A put of a field of STATUS.TEST. -/
theorem testStatus_frame {f : FieldSpec} (hf : f.addr pVOTER 0 = VOTER.STATUS_TEST_BUSY.addr pVOTER 0) (v : Nat) (d : Dev) :
    Dev.Frame Dev.sansRegs (regsIn [VOTER.STATUS_TEST_BUSY.addr pVOTER 0]) d (d.putAt pVOTER f 0 v) :=
  putAt_frame v d (by rw [hf, regsIn, decide_eq_true_eq]; exact List.mem_singleton_self _)

/-- A register of STATUS.TEST aside, a test with triad x changes nothing of the registers and the other units. -/
theorem testStatus_others {x : Triad} {d e : Dev}
    (h : Dev.Frame Dev.sansRegs (regsIn [VOTER.STATUS_TEST_BUSY.addr pVOTER 0]) { d with triad := x } e) :
    e.triad = x ∧ e.others = d.others ∧ e.wr = d.wr ∧ e.wipe = d.wipe :=
  ⟨h.field Dev.triad (fun _ => rfl), h.field Dev.others (fun _ => rfl), h.field Dev.wr (fun _ => rfl),
    h.field Dev.wipe (fun _ => rfl)⟩

theorem voterTest_starts (t : Nat) {s : State} (hstop : s.seq.st.runs = false) :
    ∃ s', exec (.voterTest t) s = .next s' ∧ s'.dev.triad = { s.dev.triad with testBusy := true } ∧
      s'.dev.flag pVOTER VOTER.STATUS_TEST_BUSY = true ∧ s.regsBut [VOTER.STATUS_TEST_BUSY.addr pVOTER 0] s' ∧
      s'.dev.others = s.dev.others ∧ s.memSame s' := by
  let d : Dev := { s.dev.begin t with triad := { s.dev.triad with testBusy := true } }
  have hexec : exec (.voterTest t) s = .next (s.land t (d.putAt pVOTER VOTER.STATUS_TEST_BUSY 0 1).regRound) :=
    (runReg_land t (fun _ d => d.voterTest) s).trans
      (congrArg (fun d => Host.Outcome.next (s.land t (Dev.regRound d))) (if_neg (Bool.not_eq_true _ ▸ hstop)))
  have hframe := testStatus_frame rfl 1 d
  obtain ⟨htriad, hothers, hwr, hwipe⟩ := testStatus_others hframe
  refine ⟨_, hexec, ?_, ?_, fun a ha ha' => ?_, ?_, land_memSame ?_ ?_⟩
  · rw [land_triad, regRound_triad, htriad]
  · rw [Dev.flag_eq, land_getAt, regRound_getAt _ (by decide), getAt_putAt_same _ _ _ _ _ (by decide)]
    rfl
  · rw [land_reg, regRound_reg _ ha', hframe.reg a (by simpa [regsIn] using ha)]
    rfl
  · simpa [Dev.others] using hothers
  · rw [regRound_wr, hwr]
    rfl
  · rw [regRound_wipe, hwipe]
    rfl

theorem voterTestDone_ends (pass : Bool) (t : Nat) {s : State} (hbusy : s.dev.triad.testBusy = true) :
    ∃ s', exec (.voterTestDone pass t) s = .next s' ∧
      s'.dev.triad = { s.dev.triad with testBusy := false, testPass := pass } ∧
      s'.dev.flag pVOTER VOTER.STATUS_TEST_BUSY = false ∧ s'.dev.flag pVOTER VOTER.STATUS_TEST_PASS = pass ∧
      s.regsBut [VOTER.STATUS_TEST_BUSY.addr pVOTER 0] s' ∧ s'.dev.others = s.dev.others ∧ s.memSame s' := by
  let d : Dev := { s.dev.begin t with triad := { s.dev.triad with testBusy := false, testPass := pass } }
  have hexec : exec (.voterTestDone pass t) s =
      .next (s.land t ((d.putAt pVOTER VOTER.STATUS_TEST_BUSY 0 0).putAt pVOTER VOTER.STATUS_TEST_PASS 0 pass.toNat)) :=
    congrArg (fun d => Host.Outcome.next (s.land t d)) (if_pos hbusy)
  have hframe := (testStatus_frame rfl 0 d).trans (testStatus_frame (f := VOTER.STATUS_TEST_PASS) rfl pass.toNat _)
  obtain ⟨htriad, hothers, hwr, hwipe⟩ := testStatus_others hframe
  refine ⟨_, hexec, ?_, ?_, ?_, fun a ha _ => ?_, ?_, land_memSame hwr hwipe⟩
  · rw [land_triad, htriad]
  · rw [Dev.flag_eq, land_getAt, getAt_putAt_apart _ _ (by decide) (by decide), getAt_putAt_same _ _ _ _ _ (by decide)]
    rfl
  · rw [Dev.flag_eq, land_getAt, getAt_putAt_same _ _ _ _ _ (by decide)]
    cases pass <;> rfl
  · rw [land_reg, hframe.reg a (by simpa [regsIn] using ha)]
    rfl
  · simpa [Dev.others] using hothers

theorem voterClrCnt_clears (t : Nat) (s : State) :
    ∃ s', exec (.voterClrCnt t) s = .next s' ∧ s'.dev.get pVOTER VOTER.DISAGREE_POS0 = 0 ∧
      s'.dev.get pVOTER VOTER.DISAGREE_POS1 = 0 ∧ s'.dev.get pVOTER VOTER.DISAGREE_POS2 = 0 ∧
      s.regsBut [VOTER.DISAGREE_POS0.addr pVOTER 0] s' ∧ s'.dev.units = s.dev.units ∧ s.memSame s' := by
  have hput {f : FieldSpec} (hf : f.addr pVOTER 0 = VOTER.DISAGREE_POS0.addr pVOTER 0) (d : Dev) :
      Dev.Frame Dev.sansRegs (regsIn [VOTER.DISAGREE_POS0.addr pVOTER 0]) d (d.putAt pVOTER f 0 0) :=
    putAt_frame 0 d (by rw [hf, regsIn, decide_eq_true_eq]; exact List.mem_singleton_self _)
  have hframe : Dev.Frame Dev.sansRegs (regsIn [VOTER.DISAGREE_POS0.addr pVOTER 0]) (s.dev.begin t) (s.dev.begin t).voterClr :=
    (hput (f := VOTER.DISAGREE_POS0) rfl _).trans ((hput (f := VOTER.DISAGREE_POS1) rfl _).trans
      (hput (f := VOTER.DISAGREE_POS2) rfl _))
  refine ⟨_, runReg_land t (fun _ d => d.voterClr) s, ?_, ?_, ?_, land_regRound_frame hframe.ofRegs⟩
  all_goals
    rw [Dev.get_eq, land_getAt, regRound_getAt _ (by decide)]
    simp (disch := decide) only [Dev.voterClr, Dev.put_eq, getAt_putAt_apart, getAt_putAt_same]
    rfl

/-! ## An outcome while the law runs on -/

/-- The device without what an outcome changes while the law runs and does not start. -/
def Dev.sansRunning (d : Dev) : Dev :=
  { d with regs := [], pw := .reset, acq := { d.acq with wireDrive := none },
           triad := { d.triad with law := .reset, live := .reset, brkCmd := 0, wireEdge := none } }

/-- The registers of such an outcome: the law's own pages and those of the power stage. -/
def runningReg (a : Nat) : Bool := onPages lawOwnPage a || onPages powerPage a

/-- An outcome with which the law runs on leaves positions, roles and the voter's hold. -/
theorem adopt_running_frame (t : Nat) {l : LawState} (d : Dev) (hrun : l.seq.st.runs = true) (hstart : l.out.started = false) :
    Dev.Frame Dev.sansRunning runningReg d (d.adopt t l) := by
  have hown (a : Nat) (ha : runningReg a = false) : onPages lawOwnPage a = false := (Bool.or_eq_false_iff.mp ha).1
  have hpow (a : Nat) (ha : runningReg a = false) : onPages powerPage a = false := (Bool.or_eq_false_iff.mp ha).2
  have hshown : Dev.Frame Dev.sansRunning runningReg (d.outcomeTaken l) (d.outcomeShown l) :=
    (outcomeShown_frame l d).mono (fun _ => rfl) hown
  have hwired : Dev.Frame Dev.sansRunning runningReg (d.outcomeShown l) ((d.outcomeShown l).outcomeWired t l d.wireBlocked) :=
    (outcomeWired_frame t l _ _).mono (fun _ => rfl) (fun _ _ => rfl)
  have hpower {x y : Dev} (h : x.PowerFrame y) : Dev.Frame Dev.sansRunning runningReg x y := h.mono (fun _ => rfl) hpow
  have htaken : Dev.Frame Dev.sansRunning runningReg d (d.outcomeTaken l) := ⟨rfl, fun _ _ => rfl⟩
  have hacts : d.outcomeActs t l = ((d.outcomeShown l).outcomeWired t l d.wireBlocked).outcomeLegs t l := by
    rw [Dev.outcomeActs, Dev.outcomeUnheld, if_pos hrun, Dev.outcomeStopped, if_pos hrun, Dev.outcomeGranted,
      if_neg (by simp [hstart])]
  rw [adopt_eq, hacts]
  exact htaken.trans (hshown.trans (hwired.trans ((hpower (outcomeLegs_frame t l _)).trans (hpower (settle_frame t _)))))

/-! ## Events that stand -/

theorem showLaw_events (l : LawState) (d : Dev) :
    Dev.Frame Dev.sansRegs (fun a => decide (a % 0x1000 ≠ 0x010)) d (d.showLaw l) := by
  simp only [Dev.showLaw, Dev.put_eq, Dev.putFlag_eq]
  iterate 19 refine Dev.Frame.trans ?_ (putAt_frame _ _ (by decide))
  exact .refl _ _ _

theorem showEvents_keeps {o : SampleOut} {d : Dev} {a k : Nat} (hk : k < 32) (h : (d.reg a).getLsbD k = true) :
    ((d.showEvents o).reg a).getLsbD k = true := by
  simp only [Dev.showEvents, raiseMask_getLsbD _ _ _ hk, h, Bool.true_or]

/-- The bit of a field of one bit that reads 1 is set. -/
theorem bit_of_getAt {d : Dev} {p i : Nat} {f : FieldSpec} (hf : f.hi = f.lo) (h : d.getAt p f i = 1) :
    (d.reg (f.addr p i)).getLsbD f.lo = true := by
  have hb : (d.getAt p f i).testBit 0 = true := by rw [h]; rfl
  rw [Dev.getAt, bitsGet_testBit] at hb
  simpa [hf] using hb

/-- HOLD_EXPIRED that stands stays through an outcome. -/
theorem adopt_keeps_holdExpired (t : Nat) (l : LawState) {d : Dev} (h : d.getAt pGFM GFM.IRQ_RAW_HOLD_EXPIRED 0 = 1) :
    (d.adopt t l).getAt pGFM GFM.IRQ_RAW_HOLD_EXPIRED 0 = 1 := by
  rw [adopt_getAt_own t l d (by decide), Dev.outcomeShown, (showOut_frame _ _).getAt (by decide)]
  refine getAt_of_bit rfl (showEvents_keeps (by decide) (bit_of_getAt rfl ?_))
  rw [(showLaw_events l _).getAt (by decide)]
  exact h

/-! ## The shutdown of R115 -/

/-- The ninth sample without a majority is noted: its instant, the record held, the two events. -/
def Dev.holdNoted (m : List Host.Cell) (t : Nat) (d : Dev) : Dev :=
  let a := if d.triad.bufB then 0x100F0280 else 0x100F0200
  let d := { d with triad := { d.triad with holdShut := some t, heldRec := d.record m a } }
  (d.putAt pVOTER VOTER.IRQ_RAW_HOLD_SHUTDOWN 0 1).putAt pGFM GFM.IRQ_RAW_HOLD_EXPIRED 0 1

theorem holdShutdown_eq {m : List Host.Cell} {t : Nat} {d : Dev} (hhold : d.triad.hold = true) (hcnt : 9 ≤ d.triad.holdCnt)
    (hshut : d.triad.holdShut = none) (hrun : d.running = true) :
    d.holdShutdown m t =
      (d.holdNoted m t).adopt t (d.triad.law.quiet.shutdown ((d.holdNoted m t).lawIn m t) 0x10) :=
  if_pos (by simp [hhold, hcnt, hshut, hrun])

/-- The state with the record that the note holds. Neither `State.lawOnly` nor `State.shutsDown` looks at that record. -/
def State.recordHeld (t : Nat) (s : State) : State :=
  { s with dev := { s.dev with triad := { s.dev.triad with heldRec := ((s.dev.begin t).holdNoted s.mem t).triad.heldRec } } }

/-- Beside the record held, the note is the voter's hold and two events. -/
theorem holdNoted_frame (t : Nat) (s : State) :
    Dev.Frame Dev.sansOutcome (onPages lawPage) ((s.recordHeld t).dev.begin t) ((s.dev.begin t).holdNoted s.mem t) :=
  Dev.Frame.trans (e := { (s.recordHeld t).dev.begin t with triad := { (s.recordHeld t).dev.triad with holdShut := some t } })
    ⟨rfl, fun _ _ => rfl⟩
    ((putAt_page_frame 1 _ rfl (by decide)).ofRegs.trans (putAt_page_frame 1 _ rfl (by decide)).ofRegs)

theorem holdNoted_events (m : List Host.Cell) (t : Nat) (d : Dev) :
    (d.holdNoted m t).getAt pVOTER VOTER.IRQ_RAW_HOLD_SHUTDOWN 0 = 1 ∧
      (d.holdNoted m t).getAt pGFM GFM.IRQ_RAW_HOLD_EXPIRED 0 = 1 := by
  simp (disch := decide) only [Dev.holdNoted, getAt_putAt_word, getAt_putAt_same]
  exact ⟨rfl, rfl⟩

/-- An outcome that begins the controlled shutdown on any device of the state's frame (R44, R101). -/
theorem adopt_shutsDown {t cause : Nat} {i : LawIn} {s : State} {e : Dev} (hi : i.t = t)
    (he : Dev.Frame Dev.sansOutcome (onPages lawPage) (s.dev.begin t) e)
    (hrun : s.seq.st.runs = true) (hst : s.seq.st ≠ .stopping) (hc : cause ≠ 0x11) (hc8 : cause < 2 ^ 8) :
    s.shutsDown t cause (s.land t (e.adopt t (s.dev.triad.law.quiet.shutdown i cause))) := by
  have hshut := LawState.shutdown_eq (l := s.dev.triad.law.quiet) i hrun hst hc
  generalize s.dev.triad.law.quiet.shutdown i cause = l at hshut
  have hevent {f : FieldSpec} (hf : f.off = 0x010 ∧ f.hi = f.lo ∧ f.lo < 32)
      (h : (setBit (setBit 0 2) 0).testBit f.lo = true) :
      (s.land t (e.adopt t l)).dev.flag pTRANSIT f = true := by
    rw [Dev.flag_eq, land_getAt, adopt_event t e rfl hf (by rw [hshut]; exact h)]
    rfl
  obtain ⟨hcause, hfrom⟩ := adopt_fault t e (l := l) (x := s.seq.st) (by rw [hshut]; rfl) hc8
  have hseq : (s.land t (e.adopt t l)).seq = l.seq := by rw [State.seq, land_triad, adopt_law]; rfl
  refine ⟨⟨?_, ?_⟩, ?_, ?_, ?_, ?_, hcause, hfrom, hevent (by decide) (by decide), hevent (by decide) (by decide), ?_, ?_,
    land_lawOnly (he.trans (adopt_frame _ _ _))⟩
  · rw [hseq, hshut]
  · rw [Dev.get_eq, land_getAt, adopt_state, hshut]
  · rw [hseq, hshut, hi]
  · rw [hseq, hshut]
  · rw [hseq, hshut]
  · rw [hseq, hshut]
  · rw [land_triad, adopt_law, hshut]
    rfl
  · rw [hseq, hshut]
    rfl

/-- The controlled shutdown neither starts nor ends the law. -/
theorem LawState.shutdown_runs {l : LawState} (i : LawIn) {c : Nat} (hrun : l.seq.st.runs = true) (hc : c ≠ 0x11) :
    (l.shutdown i c).seq.st.runs = true ∧ (l.shutdown i c).out.started = l.out.started := by
  by_cases hst : l.seq.st = .stopping
  · rw [LawState.shutdown, if_pos (by simp [hst])]
    exact ⟨hrun, rfl⟩
  · rw [LawState.shutdown_eq i hrun hst hc]
    exact ⟨rfl, rfl⟩

theorem holdShutdown_shutsDown (t : Nat) {s : State} (hhold : s.dev.triad.hold = true) (hcnt : 9 ≤ s.dev.triad.holdCnt)
    (hshut : s.dev.triad.holdShut = none) (hrun : s.seq.st.runs = true) :
    ∃ s', exec (.holdShutdown t) s = .next s' ∧ s'.dev.triad.holdShut = some t ∧
      s'.dev.flag pVOTER VOTER.IRQ_RAW_HOLD_SHUTDOWN = true ∧ s'.dev.flag pGFM GFM.IRQ_RAW_HOLD_EXPIRED = true ∧
      (if s.seq.st = .stopping then s'.seq = s.seq ∧ s.lawOnly s' else s.shutsDown t 0x10 s') := by
  let e := (s.dev.begin t).holdNoted s.mem t
  let l := s.dev.triad.law.quiet.shutdown (e.lawIn s.mem t) 0x10
  have hexec : exec (.holdShutdown t) s = .next (s.land t (e.adopt t l)) :=
    congrArg (fun d => Host.Outcome.next (s.land t d)) (holdShutdown_eq (d := s.dev.begin t) hhold hcnt hshut hrun)
  have hnoted := holdNoted_frame t s
  obtain ⟨hshutdown, hexpired⟩ := holdNoted_events s.mem t (s.dev.begin t)
  obtain ⟨hruns, hstarted⟩ :=
    LawState.shutdown_runs (l := s.dev.triad.law.quiet) (e.lawIn s.mem t) (c := 0x10) hrun (by decide)
  have hadopt : Dev.Frame Dev.sansRunning runningReg e (e.adopt t l) := adopt_running_frame t e hruns hstarted
  refine ⟨_, hexec, ?_, ?_, ?_, ?_⟩
  · rw [land_triad, hadopt.field (fun x => x.triad.holdShut) (fun _ => rfl)]
    rfl
  · rw [Dev.flag_eq, land_getAt, hadopt.getAt (by decide), hshutdown]
    rfl
  · rw [Dev.flag_eq, land_getAt, adopt_keeps_holdExpired t l hexpired]
    rfl
  · split
    · next hst =>
      have hsame : l = s.dev.triad.law.quiet := if_pos (by rw [Bool.or_eq_true, decide_eq_true_eq]; exact .inr hst)
      refine ⟨?_, land_lawOnly (s := s.recordHeld t) (hnoted.trans (adopt_frame _ _ _))⟩
      rw [State.seq, land_triad, adopt_law, hsame]
      rfl
    · next hst => exact adopt_shutsDown (s := s.recordHeld t) rfl hnoted hrun hst (by decide) (by decide)

/-- Settles O16: each command is one act on positions, counts or the outcome in force, and the shutdown of R115 is an outcome
with which the law runs on. -/
theorem leasesLoadsAndTests : Obligations.LeasesLoadsAndTests :=
  ⟨fun _ t _ => leaseExpiry_vacates t, fun _ t _ => spareLoadDone_marks t,
    fun _ fail t _ => selftestPassDone_counts fail t, fun _ p _ t _ => selftestPassDone_withdraws p t,
    fun _ t _ => failback_withholds t, fun t _ => voterTest_starts t, fun pass t _ => voterTestDone_ends pass t,
    voterClrCnt_clears, fun t _ => holdShutdown_shutsDown t⟩

end Sys2Proof.Machine
end

section
/-! The two segment roles (R121 to R125). -/
namespace Sys2Proof.Machine

/-! ## A role and the registers that show it -/

/-- The field of ROLE_STATUS that shows a role's state. -/
def segStateField (pc : Bool) : FieldSpec := if pc then VOTER.ROLE_STATUS_PC_STATE else VOTER.ROLE_STATUS_TM_STATE

/-- The register that shows the address of a role's holder. -/
def segHolderField (pc : Bool) : FieldSpec := if pc then VOTER.PC_HOLDER_ADDR else VOTER.TM_HOLDER_ADDR

/-- The words of the VOTER page that show the segment roles. -/
def segRoleWords : List Nat :=
  [VOTER.ROLE_STATUS_TM_STATE.addr pVOTER 0, VOTER.TM_HOLDER_ADDR.addr pVOTER 0, VOTER.PC_HOLDER_ADDR.addr pVOTER 0,
    VOTER.IRQ_RAW_ROLE_CHANGE.addr pVOTER 0]

/-- The triad with a segment role replaced. -/
def Triad.withSegRole (pc : Bool) (x : SegRole) (r : Triad) : Triad :=
  if pc then { r with pcRole := x } else { r with tmRole := x }

/-- The unit holds the role, or relinquishes it. -/
def SegRole.holds (x : SegRole) : Bool := decide (x.st = 1) || decide (x.st = 3)

theorem SegRole.holds_iff (x : SegRole) : x.holds = true ↔ x.st ∈ [1, 3] := by simp [SegRole.holds]

/-- The device with a role in place and shown, before ROLE_CHANGE. -/
def Dev.segRoleShown (pc : Bool) (x : SegRole) (d : Dev) : Dev :=
  (({ d with triad := d.triad.withSegRole pc x }).putAt pVOTER (segStateField pc) 0 x.st).putAt pVOTER (segHolderField pc) 0
    x.holderAddr

theorem setSegRole_eq (pc : Bool) (x : SegRole) (d : Dev) : d.setSegRole pc x =
    if (d.segRole pc).holds != x.holds then (d.segRoleShown pc x).putAt pVOTER VOTER.IRQ_RAW_ROLE_CHANGE 0 1
    else d.segRoleShown pc x := by
  cases pc <;> rfl

/-- ROLE_CHANGE is one bit of IRQ_RAW. -/
theorem segRoleShown_frame (pc : Bool) (x : SegRole) (d : Dev) :
    Dev.Frame Dev.sansRegs (regsIn [VOTER.IRQ_RAW_ROLE_CHANGE.addr pVOTER 0]) (d.segRoleShown pc x) (d.setSegRole pc x) := by
  rw [setSegRole_eq]
  exact .ite (fun _ => putAt_frame _ _ (by decide)) (fun _ => .refl _ _ _)

/-- Setting a role changes the words that show the roles, and no other register. -/
theorem setSegRole_frame (pc : Bool) (x : SegRole) (d : Dev) :
    Dev.Frame Dev.sansRegs (regsIn segRoleWords) { d with triad := d.triad.withSegRole pc x } (d.setSegRole pc x) := by
  have hirq (a : Nat) (ha : regsIn segRoleWords a = false) : regsIn [VOTER.IRQ_RAW_ROLE_CHANGE.addr pVOTER 0] a = false := by
    simp only [regsIn, segRoleWords, decide_eq_false_iff_not, List.mem_cons, not_or] at ha ⊢
    exact ha.2.2.2
  exact (putAt_frame _ _ (by cases pc <;> decide)).trans ((putAt_frame _ _ (by cases pc <;> decide)).trans
    ((segRoleShown_frame pc x d).mono (fun _ => rfl) hirq))

theorem setSegRole_state (pc : Bool) (x : SegRole) (d : Dev) :
    (d.setSegRole pc x).getAt pVOTER (segStateField pc) 0 = x.st % 4 := by
  rw [(segRoleShown_frame pc x d).getAt (by cases pc <;> decide), Dev.segRoleShown,
    getAt_putAt_word _ _ (by cases pc <;> decide), getAt_putAt_same _ _ _ _ _ (by cases pc <;> decide)]
  cases pc <;> rfl

theorem setSegRole_holder (pc : Bool) (x : SegRole) (d : Dev) :
    (d.setSegRole pc x).getAt pVOTER (segHolderField pc) 0 = x.holderAddr % 2 ^ 20 := by
  rw [(segRoleShown_frame pc x d).getAt (by cases pc <;> decide), Dev.segRoleShown,
    getAt_putAt_same _ _ _ _ _ (by cases pc <;> decide)]
  cases pc <;> rfl

/-- Gaining or losing a role is ROLE_CHANGE (R124). -/
theorem setSegRole_change {pc : Bool} {x : SegRole} {d : Dev} (h : (d.segRole pc).holds ≠ x.holds) :
    (d.setSegRole pc x).getAt pVOTER VOTER.IRQ_RAW_ROLE_CHANGE 0 = 1 := by
  rw [setSegRole_eq, if_pos (bne_iff_ne.mpr h), getAt_putAt_same _ _ _ _ _ (by decide)]
  rfl

/-! ## Commands that set a role -/

/-- A command whose effect is one role set. -/
theorem land_roleBecomes (pc : Bool) (x : SegRole) (t : Nat) (s : State) :
    s.roleBecomes pc x (s.land t ((s.dev.begin t).setSegRole pc x)) := by
  have hframe := setSegRole_frame pc x (s.dev.begin t)
  refine ⟨?_, ?_, ?_, fun hchange => ?_, fun a ha _ => ?_, ?_, land_memSame ?_ ?_⟩
  · rw [land_triad, hframe.field Dev.triad (fun _ => rfl)]
    rfl
  · rw [Dev.get_eq, land_getAt]
    exact setSegRole_state pc x _
  · rw [Dev.get_eq, land_getAt]
    exact setSegRole_holder pc x _
  · rw [← SegRole.holds_iff, ← SegRole.holds_iff] at hchange
    rw [Dev.flag_eq, land_getAt, setSegRole_change]
    · rfl
    · rintro (heq : (s.dev.segRole pc).holds = x.holds)
      rcases hchange with ⟨h, h'⟩ | ⟨h, h'⟩
      · exact h' (heq ▸ h)
      · exact h (heq ▸ h')
  · exact hframe.reg a (decide_eq_false ha)
  · exact hframe.field Dev.others (fun _ => rfl)
  · exact hframe.field Dev.wr (fun _ => rfl)
  · exact hframe.field Dev.wipe (fun _ => rfl)

/-- A command whose effect on this state is one role set. -/
theorem run_roleBecomes {pc : Bool} {x : SegRole} {t : Nat} {f : Dev → Dev} {s : State}
    {o : Host.Outcome State Fault Refusal} (ho : o = run t (fun _ d => f d) s)
    (h : f (s.dev.begin t) = (s.dev.begin t).setSegRole pc x) : ∃ s', o = .next s' ∧ s.roleBecomes pc x s' :=
  ⟨_, ho.trans (run_next _ _ _), by rw [h]; exact land_roleBecomes pc x t s⟩

/-! ## When each command acts -/

@[simp] theorem begin_segRole (pc : Bool) (t : Nat) (d : Dev) : (d.begin t).segRole pc = d.segRole pc := (rfl)
@[simp] theorem begin_roleRank (pc : Bool) (t : Nat) (d : Dev) : (d.begin t).roleRank pc = d.roleRank pc := (rfl)
@[simp] theorem begin_roleEn (pc : Bool) (t : Nat) (d : Dev) : (d.begin t).roleEn pc = d.roleEn pc := (rfl)
@[simp] theorem begin_roleEligible (pc : Bool) (t : Nat) (d : Dev) : (d.begin t).roleEligible pc = d.roleEligible pc := (rfl)

/-- A role frame received is a command like any other. -/
theorem exec_roleFrameRx (pc : Bool) (addr : BitVec 20) (rank : Option (Fin 16)) (reclaim : Bool) (t : Nat) (s : State) :
    exec (.roleFrameRx pc addr rank reclaim t) s =
      run t (fun _ d => d.roleRx pc addr.toNat (rank.map (·.val)) reclaim) s := (rfl)

section
variable {pc : Bool} {d : Dev}

theorem roleClaim_claims (heligible : d.roleEligible pc = true) (hen : d.roleEn pc = true) (hrank : d.roleRank pc ≠ 15)
    (hst : (d.segRole pc).st = 0) (hsilent : 5 + d.roleRank pc ≤ (d.segRole pc).silent) :
    d.roleClaim pc = d.setSegRole pc { d.segRole pc with st := 2 } := by
  simp [Dev.roleClaim, heligible, hen, hrank, hst, hsilent]

theorem roleTx_holds (hst : (d.segRole pc).st ∈ [1, 2]) :
    d.roleTx pc =
      d.setSegRole pc ⟨1, 0, 4, 0, d.get pPBUS PBUS.OWN_ADDR_ADDR, some (d.roleRank pc)⟩ := by
  have hor : ((d.segRole pc).st = 1 || (d.segRole pc).st = 2) = true := by simpa using hst
  exact if_pos hor

theorem roleRx_yields (addr : Nat) (rank : Option Nat) :
    d.roleRx pc addr rank false =
      d.setSegRole pc { d.segRole pc with silent := 0, holderAddr := addr, holderRank := rank,
                                          st := if (d.segRole pc).st = 2 then 0 else (d.segRole pc).st } := by
  simp [Dev.roleRx]

theorem roleRx_relinquishes (addr : Nat) (rank : Option Nat) (hst : (d.segRole pc).st = 1) :
    d.roleRx pc addr rank true = d.setSegRole pc { d.segRole pc with st := 3 } := by
  simp [Dev.roleRx, hst]

theorem roleRx_ignores (addr : Nat) (rank : Option Nat) (hst : (d.segRole pc).st ≠ 1) : d.roleRx pc addr rank true = d := by
  simp [Dev.roleRx, hst]

theorem roleExpire_ends (hst : (d.segRole pc).st ∈ [1, 3]) (hlease : (d.segRole pc).lease = 0) :
    d.roleExpire pc = d.setSegRole pc { d.segRole pc with st := 0 } := by
  have hor : (d.segRole pc).st = 1 ∨ (d.segRole pc).st = 3 := by simpa using hst
  simp [Dev.roleExpire, hor, hlease]

theorem roleReclaim_restarts {h : Nat} (heligible : d.roleEligible pc = true) (hen : d.roleEn pc = true)
    (hrun : 64 ≤ (d.segRole pc).eligibleRun) (hst : (d.segRole pc).st = 0) (hholder : (d.segRole pc).holderRank = some h)
    (hlower : d.roleRank pc < h) : d.roleReclaim pc = d.setSegRole pc { d.segRole pc with eligibleRun := 0 } := by
  simp [Dev.roleReclaim, heligible, hen, hrun, hst, hholder, hlower]

end

/-- Settles O17: each command sets the role once, where its condition holds, and leaves the device alone elsewhere. -/
theorem segmentRolesChangeHands : Obligations.SegmentRolesChangeHands := by
  unfold Obligations.SegmentRolesChangeHands
  refine ⟨?_, ?_, ?_, ?_, ?_, ?_, ?_⟩
  · intro pc t s heligible hen hrank hst hsilent
    exact run_roleBecomes rfl (roleClaim_claims heligible hen hrank hst hsilent)
  · intro pc t s hst
    exact run_roleBecomes rfl (roleTx_holds hst)
  · intro pc addr rank t s
    exact run_roleBecomes (exec_roleFrameRx _ _ _ _ _ _) (roleRx_yields _ _)
  · intro pc addr rank t s hst
    exact run_roleBecomes (exec_roleFrameRx _ _ _ _ _ _) (roleRx_relinquishes _ _ hst)
  · intro pc addr rank t s hst
    refine ⟨s.land t (s.dev.begin t), ?_, rfl, fun _ => rfl, land_memSame rfl rfl⟩
    rw [exec_roleFrameRx, run_next, roleRx_ignores (d := s.dev.begin t) _ _ hst]
  · intro pc t s hst hlease
    exact run_roleBecomes rfl (roleExpire_ends hst hlease)
  · intro pc t h s heligible hen hrun hst hholder hlower
    exact run_roleBecomes rfl (roleReclaim_restarts heligible hen hrun hst hholder hlower)

end Sys2Proof.Machine
end

section
/-!
A Felt request outside the map, against an engine with AUTO_RESTART: its fault restarts it (R153, R154), and the restart loads
the state window of its data memory.
-/
namespace Sys2Proof.Machine

/-! ## What a restart stages -/

/-- A byte that staged cells name, all with one value, reads as that value. -/
theorem memByte_apply_of_all {m ws : List Host.Cell} {a : Nat} {v : Byte} (hall : ∀ c ∈ ws, c.1 = a → c.2 = v)
    (hsome : ∃ c ∈ ws, c.1 = a) : memByte (memApply m ws) a = v := by
  induction ws generalizing m with
  | nil => simp at hsome
  | cons c ws ih =>
    change memByte (memApply (storePut memDefault m c.1 c.2) ws) a = v
    by_cases hlater : ∃ c' ∈ ws, c'.1 = a
    · exact ih (fun c' hc' => hall c' (List.mem_cons_of_mem _ hc')) hlater
    · have hc : c.1 = a := by simpa [hlater] using hsome
      rw [memByte_apply_ne _ _ (fun c' hc' h => hlater ⟨c', hc', h⟩), ← hc, memByte_put_same]
      exact hall c List.mem_cons_self hc

/-- What a command has staged and lost. -/
def Dev.staged (d : Dev) : List Host.Cell × List Nat := (d.wr, d.wipe)

theorem engineLegsOff_staged (n t : Nat) (d : Dev) : (d.engineLegsOff n t).staged = d.staged :=
  ((settle_frame t _).field Dev.staged (fun _ => rfl)).trans
    ((Dev.Frame.each (fun l _ x => setLeg_frame l { x.leg l with engOff := some n } x) d).field Dev.staged (fun _ => rfl))

theorem putAt_staged (p : Nat) (f : FieldSpec) (i v : Nat) (d : Dev) : (d.putAt p f i v).staged = d.staged := (rfl)

theorem setEngine_staged (n : Nat) (e : Engine) (d : Dev) : (d.setEngine n e).staged = d.staged := (rfl)

theorem vendorOff_staged (n : Nat) (d : Dev) : (d.vendorOff n).staged = d.staged := by
  unfold Dev.vendorOff
  split
  · exact putAt_staged _ _ _ _ _
  · rfl

/-- A restart stages what its load of the state window stages (R153). -/
theorem restart_staged (m : List Host.Cell) (n t : Nat) (d : Dev) :
    (d.restart m n t).staged = ((d.cutSample n).loadWindow m n).staged := by
  unfold Dev.restart
  generalize (d.cutSample n).loadWindow m n = loaded
  split
  · simp only [engineLegsOff_staged, Dev.put_eq, putAt_staged, Dev.showState, vendorOff_staged, Dev.count_eq, setEngine_staged]
  · simp only [Dev.put_eq, putAt_staged, Dev.showState, vendorOff_staged, Dev.count_eq, setEngine_staged]

/-- The load of a user program's window stages the init section twice (R134). -/
theorem loadWindow_staged {m : List Host.Cell} {n : Nat} {d : Dev} (hn : n < 12)
    (huser : d.flag (pENG n) CE.ENG_CFG_VENDOR_PROG = false) :
    (d.loadWindow m n).staged =
      (let bs := (List.range 2048).map (fun j => d.byte m (progBase n + 0x7800 + j))
       (d.wr ++ (cellsAt (dataBase n + 0x3000) bs).filter (fun c => inMemory c.1) ++
          (cellsAt (dataBase n + 0x3800) bs).filter (fun c => inMemory c.1), d.wipe)) := by
  have huser' : (d.setEngine n { d.engine n with vendor := .init, vendorWork := .init }).flag (pENG n)
      CE.ENG_CFG_VENDOR_PROG = false := huser
  unfold Dev.loadWindow
  simp only [huser', hn, Bool.false_and, if_true]
  rfl

/-- A read by an engine at an address where nothing stands is the engine's fault 2 (R154). -/
theorem feltAsk_unmapped {m : List Host.Cell} {p addr len t : Nat} {d : Dev} (hp : p < 15) (hlen : len ≠ 0)
    (haddr : feltMapped addr = false) : d.feltAsk m p none addr len t = d.engFault m p 2 t := by
  simp [Dev.feltAsk, hp, hlen, haddr]

/-- The first report of an engine's fault (R154). -/
def Dev.faultNoted (n cause : Nat) (d : Dev) : Dev :=
  ((d.put (pENG n) TE.FAULT_CODE_CAUSE cause).put (pENG n) TE.FAULT_CODE_ADDR (d.engine n).pc).raise (pENG n)
    TE.IRQ_RAW_ENGINE_FAULT

/-- With AUTO_RESTART a fault restarts its engine (R153, R154). -/
theorem engFault_restarts {m : List Host.Cell} {n cause t : Nat} {d : Dev}
    (h : (d.faultNoted n cause).flag (pENG n) TE.ENG_CFG_AUTO_RESTART = true) :
    d.engFault m n cause t = (d.faultNoted n cause).restart m n t := if_pos h

theorem cellsAt_snd_mem {a : Nat} {bs : List Byte} {c : Host.Cell} (h : c ∈ cellsAt a bs) : c.2 ∈ bs := by
  induction bs generalizing a with
  | nil => cases h
  | cons b bs ih =>
    rcases List.mem_cons.mp h with rfl | h
    · exact List.mem_cons_self
    · exact List.mem_cons_of_mem _ (ih h)

/-! ## The counterexample -/

/-- A Felt request is a command like any other: it runs and completes. -/
theorem exec_feltRequest (p : Fin 24) (data : Option (List Byte)) (addr : BitVec 32) (len : Fin 65) (t : Nat) (s : State) :
    exec (.feltRequest p data addr len t) s =
      .next (s.land t ((s.dev.begin t).feltAsk s.mem p.val data addr.toNat len.val t)) := (rfl)

/-- Engine 0 is set up for a user program; AUTO_RESTART stands at its reset value, 1. The first byte of the committed half of
its state window, at 0x38003000, holds 1, and the init section of its program memory holds zeros (R127, R131). -/
def usedWindow : State :=
  { State.reset with mem := [(0x38003000, 1)], dev := Dev.reset.put (pENG 0) CE.ENG_CFG_VENDOR_PROG 0 }

/-- Engine 0 of `usedWindow` has met the fault 2 and cut its sample; nothing is staged yet. -/
def usedWindowCut : Dev := ((usedWindow.dev.begin 0).faultNoted 0 2).cutSample 0

theorem usedWindowCut_facts : usedWindowCut.wr = [] ∧ usedWindowCut.wipe = [] ∧
    usedWindowCut.flag (pENG 0) CE.ENG_CFG_VENDOR_PROG = false := by decide +kernel

/-- The init section of engine 0 holds zeros. -/
theorem usedWindow_init : (List.range 2048).map (fun j => usedWindowCut.byte usedWindow.mem (progBase 0 + 0x7800 + j)) =
    List.replicate 2048 0 := by
  refine List.eq_replicate_iff.mpr ⟨by simp, fun b hb => ?_⟩
  obtain ⟨j, hj, rfl⟩ := List.mem_map.mp hb
  have hne : ¬0x38003000 = progBase 0 + 0x7800 + j := by have := List.mem_range.mp hj; rw [progBase]; omega
  obtain ⟨hwr, -, -⟩ := usedWindowCut_facts
  simp only [Dev.byte, hwr, List.reverse_nil, List.find?_nil, usedWindow, memByte, storeGet, if_neg hne, memDefault]

/-- A read of four bytes by engine 0 at 0x100000, where no register page and no memory stands (R426), restarts the engine. -/
theorem usedWindow_restarts : (usedWindow.dev.begin 0).feltAsk usedWindow.mem 0 none 0x100000 4 0 =
    ((usedWindow.dev.begin 0).faultNoted 0 2).restart usedWindow.mem 0 0 := by
  rw [feltAsk_unmapped (by decide) (by decide) (by decide), engFault_restarts (by decide +kernel)]

/-- The restart loads the window's first byte from the init section. -/
theorem usedWindow_reloaded :
    memByte (usedWindow.land 0 ((usedWindow.dev.begin 0).feltAsk usedWindow.mem 0 none 0x100000 4 0)).mem 0x38003000 = 0 := by
  obtain ⟨hwr, hwipe, huser⟩ := usedWindowCut_facts
  have hstaged := (restart_staged usedWindow.mem 0 0 _).trans (loadWindow_staged (d := usedWindowCut) (by decide) huser)
  rw [hwr, hwipe, usedWindow_init, ← usedWindow_restarts, Dev.staged, Prod.mk.injEq] at hstaged
  obtain ⟨hcells, hkept⟩ := hstaged
  rw [land_mem, hkept, memWipe_nil, hcells]
  refine memByte_apply_of_all (fun c hc _ => ?_) ⟨(0x38003000, 0), ?_, rfl⟩
  · simp only [List.nil_append, List.mem_filter, List.mem_append] at hc
    rcases hc with ⟨⟨hc, -⟩ | ⟨hc, -⟩, -⟩
    · exact List.eq_of_mem_replicate (cellsAt_snd_mem hc)
    · exact List.eq_of_mem_replicate (cellsAt_snd_mem hc)
  · simp only [List.nil_append, List.mem_filter, List.mem_append]
    exact ⟨.inl ⟨List.mem_cons_self, by decide⟩, by decide⟩

/-- Refutes O38: its first clause keeps memory over every request, but a request outside the map is an engine's fault, and the
fault of an engine with AUTO_RESTART restarts it and loads its state window (R153, R154). The counterexample is `usedWindow`. -/
theorem not_feltIssuesGrantsAndTransfers : ¬ Obligations.FeltIssuesGrantsAndTransfers := by
  unfold Obligations.FeltIssuesGrantsAndTransfers
  rintro ⟨hrequest, -⟩
  obtain ⟨s', hstep, ⟨hmem, -⟩, -⟩ := hrequest 0 none 0x100000 4 0 usedWindow
  have hs' := Host.Outcome.next.inj ((exec_feltRequest _ _ _ _ _ _).symm.trans hstep)
  have hafter : memByte s'.mem 0x38003000 = 0 := hs' ▸ usedWindow_reloaded
  have hbefore : memByte usedWindow.mem 0x38003000 = 1 := by decide
  exact absurd (hbefore.symm.trans ((hmem 0x38003000).symm.trans hafter)) (by decide)

end Sys2Proof.Machine
end

section
/-!
SUPPORT. The operands of an engine instruction (R128, R136): what taking them makes of the engine's record, and that a fetched
instruction runs on the device with its program counter moved past it.
-/
namespace Sys2Proof.Machine

/-! ## The record of an engine -/

theorem setEngine_setEngine (n : Nat) (x y : Engine) (d : Dev) : (d.setEngine n x).setEngine n y = d.setEngine n y := by
  simp [Dev.setEngine]

theorem setEngine_self {n : Nat} (d : Dev) (h : n < 15) : d.setEngine n (d.engine n) = d := by
  have hself : d.eng.setIfInBounds n (d.engine n) = d.eng := by
    ext i hi
    by_cases hin : n = i
    · subst hin; simp [Dev.engine, Array.getD, h]
    · simp [hin]
  rw [Dev.setEngine, hself]

/-! ## Sources -/

/-- The reads that load register r and have arrived have entered it (R136). -/
def Engine.loaded (r : Fin 32) (e : Engine) : Engine :=
  { e with
    pend := e.pend.filter (fun x => !(x.loads r && x.bytes.isSome))
    regs := (e.pend.filter (fun x => x.loads r && x.bytes.isSome)).foldl (fun rs x => rs.set r (wordOf (x.bytes.getD []))) e.regs }

/-- The value of a source and the record after it is taken. -/
def Engine.src (x : Src) (e : Engine) : Word × Engine :=
  match x with
  | .lit w => (w, e)
  | .reg r => ((e.loaded r).regs[r], e.loaded r)

/-- The values of sources, in order, and the record after they are taken. -/
def Engine.srcs (xs : List Src) (e : Engine) : List Word × Engine :=
  xs.foldl (fun r x => (r.1 ++ [(r.2.src x).1], (r.2.src x).2)) ([], e)

/-- A read that loads a register enters that register when it is used. -/
theorem arrive_loads {m : List Host.Cell} {n : Nat} {r : Fin 32} {x : PendRead} (d : Dev) (hx : x.loads r = true)
    (hbytes : x.bytes.isSome = true) : d.arrive m n x =
      d.setEngine n { d.engine n with regs := (d.engine n).regs.set r (wordOf (x.bytes.getD [])) } := by
  obtain ⟨dest, len, order, bytes⟩ := x
  cases dest with
  | block a => simp [PendRead.loads] at hx
  | word q =>
    obtain rfl : q = r := by simpa [PendRead.loads] using hx
    cases bytes with
    | none => simp at hbytes
    | some bs => rfl

theorem arrives_load {m : List Host.Cell} {n : Nat} (hn : n < 15) {r : Fin 32} (xs : List PendRead)
    (hxs : ∀ x ∈ xs, (x.loads r && x.bytes.isSome) = true) (d : Dev) :
    d.each (fun x d => d.arrive m n x) xs = d.setEngine n { d.engine n with
      regs := xs.foldl (fun rs x => rs.set r (wordOf (x.bytes.getD []))) (d.engine n).regs } := by
  induction xs generalizing d with
  | nil => exact (setEngine_self d hn).symm
  | cons x xs ih =>
    obtain ⟨hloads, hsome⟩ := Bool.and_eq_true_iff.mp (hxs x List.mem_cons_self)
    have hrest := ih (fun y hy => hxs y (List.mem_cons_of_mem _ hy)) (d.arrive m n x)
    rw [arrive_loads d hloads hsome, engine_setEngine_same _ _ hn, setEngine_setEngine, ← arrive_loads d hloads hsome] at hrest
    exact hrest

theorem take_loads {m : List Host.Cell} {n : Nat} (hn : n < 15) (r : Fin 32) (d : Dev) :
    d.take m n (fun p => p.loads r) = d.setEngine n ((d.engine n).loaded r) := by
  unfold Dev.take
  rw [arrives_load hn _ (fun x hx => (List.mem_filter.mp hx).2), engine_setEngine_same _ _ hn, setEngine_setEngine]
  rfl

theorem src_eq {m : List Host.Cell} {n : Nat} (hn : n < 15) (x : Src) (d : Dev) :
    d.src m n x = (((d.engine n).src x).1, d.setEngine n ((d.engine n).src x).2) := by
  cases x with
  | lit w => exact congrArg (Prod.mk w) (setEngine_self d hn).symm
  | reg r => simp only [Dev.src, Engine.src, take_loads hn, engine_setEngine_same _ _ hn]

/-- Taking sources changes the engine's record alone, as `Engine.srcs` says. -/
theorem srcs_eq {m : List Host.Cell} {n : Nat} (hn : n < 15) (xs : List Src) (d : Dev) :
    d.srcs m n xs = (((d.engine n).srcs xs).1, d.setEngine n ((d.engine n).srcs xs).2) := by
  have hfold (ys : List Src) (vs : List Word) (e : Engine) :
      ys.foldl (fun r x => let v := r.2.src m n x; (r.1 ++ [v.1], v.2)) (vs, d.setEngine n e) =
        ((ys.foldl (fun r x => (r.1 ++ [(r.2.src x).1], (r.2.src x).2)) (vs, e)).1,
          d.setEngine n (ys.foldl (fun r x => (r.1 ++ [(r.2.src x).1], (r.2.src x).2)) (vs, e)).2) := by
    induction ys generalizing vs e with
    | nil => rfl
    | cons y ys ih =>
      have hy : (d.setEngine n e).src m n y = ((e.src y).1, d.setEngine n (e.src y).2) := by
        rw [src_eq hn, engine_setEngine_same _ _ hn, setEngine_setEngine]
      rw [List.foldl_cons, List.foldl_cons, hy]
      exact ih _ _
  have h := hfold xs [] (d.engine n)
  rwa [setEngine_self d hn] at h

/-! ## What taking sources leaves -/

/-- The record without its registers and outstanding reads. -/
def Engine.sansLoads (e : Engine) : Engine := { e with regs := Vector.replicate 32 0, pend := [] }

/-- Only registers that are sources, and the reads outstanding, differ. -/
structure Engine.Took (xs : List Src) (e e' : Engine) : Prop where
  rest : e'.sansLoads = e.sansLoads
  regs : ∀ q : Fin 32, Src.reg q ∉ xs → e'.regs[q] = e.regs[q]

theorem regs_set_ne {rs : Vector Word 32} {q r : Fin 32} (w : Word) (h : q ≠ r) : (rs.set r w)[q] = rs[q] :=
  Vector.getElem_set_ne _ _ (fun hqr => h (Fin.ext hqr.symm))

theorem foldl_set_ne {α : Type} {q r : Fin 32} (f : α → Word) (h : q ≠ r) (l : List α) (rs : Vector Word 32) :
    (l.foldl (fun rs x => rs.set r (f x)) rs)[q] = rs[q] := by
  induction l generalizing rs with
  | nil => rfl
  | cons x l ih => rw [List.foldl_cons, ih, regs_set_ne _ h]

theorem src_took (x : Src) (e : Engine) : e.Took [x] (e.src x).2 := by
  cases x with
  | lit w => exact ⟨rfl, fun _ _ => rfl⟩
  | reg r => exact ⟨rfl, fun q hq => foldl_set_ne _ (fun hqr => hq (by simp [hqr])) _ _⟩

theorem srcs_cons (x : Src) (xs : List Src) (e : Engine) :
    e.srcs (x :: xs) = ((e.src x).1 :: ((e.src x).2.srcs xs).1, ((e.src x).2.srcs xs).2) := by
  have hfold (ys : List Src) (v : Word) (vs : List Word) (e : Engine) :
      ys.foldl (fun r x => (r.1 ++ [(r.2.src x).1], (r.2.src x).2)) (v :: vs, e) =
        (v :: (ys.foldl (fun r x => (r.1 ++ [(r.2.src x).1], (r.2.src x).2)) (vs, e)).1,
          (ys.foldl (fun r x => (r.1 ++ [(r.2.src x).1], (r.2.src x).2)) (vs, e)).2) := by
    induction ys generalizing vs e with
    | nil => rfl
    | cons y ys ih => exact ih _ _
  exact hfold xs _ _ _

theorem srcs_took (xs : List Src) (e : Engine) : e.Took xs (e.srcs xs).2 := by
  induction xs generalizing e with
  | nil => exact ⟨rfl, fun _ _ => rfl⟩
  | cons x xs ih =>
    obtain ⟨hrest, hregs⟩ := ih (e.src x).2
    obtain ⟨hrest₁, hregs₁⟩ := src_took x e
    rw [srcs_cons]
    refine ⟨hrest.trans hrest₁, fun q hq => ?_⟩
    obtain ⟨hx, hxs⟩ := not_or.mp (fun h => hq (List.mem_cons.mpr h))
    exact (hregs q hxs).trans (hregs₁ q (by simpa using hx))

/-- Without a read outstanding sources are taken without a trace. -/
theorem src_of_no_pend (x : Src) {e : Engine} (h : e.pend = []) : (e.src x).2 = e := by
  cases x with
  | lit w => rfl
  | reg r =>
    obtain ⟨⟩ := e
    cases h
    rfl

theorem srcs_of_no_pend (xs : List Src) {e : Engine} (h : e.pend = []) : (e.srcs xs).2 = e := by
  induction xs with
  | nil => rfl
  | cons x xs ih => rw [srcs_cons, src_of_no_pend x h, ih]

/-! ## The instruction that is fetched -/

/-- The record with the program counter past an instruction of `words` words (R128). -/
def Engine.past (words : Nat) (e : Engine) : Engine := { e with pc := e.pc + 4 * words }

theorem vals_eq {n : Nat} (hn : n < 15) (xs : List Src) (s : State) :
    s.vals n xs = (((s.dev.engine n).past (srcWords xs)).srcs xs).1 := by
  have hnext : s.atNext n (srcWords xs) = (s.dev.begin 0).setEngine n ((s.dev.engine n).past (srcWords xs)) := rfl
  rw [State.vals, srcs_eq hn, hnext, engine_setEngine_same _ _ hn]

section
variable {n t : Nat} {xs : List Src} {m : List Host.Cell} {s : State} {f : Dev → Except InstrEnd Dev}

/-- A fetched instruction that completes has the effect it completes with, past itself. -/
theorem instr_completes {e : Dev} (h : s.fetches n xs)
    (hf : f ((s.dev.begin t).setEngine n ((s.dev.engine n).past (srcWords xs))) = .ok e) :
    (s.dev.begin t).instr m n xs f = e := by
  obtain ⟨hexecutes, haligned, hinside, hready⟩ := h
  have hexecutes' : (s.dev.begin t).executes n = true := hexecutes
  have hready' : (s.dev.begin t).srcAwaits n xs = false := hready
  have hinside' : ¬(0x7800 < ((s.dev.begin t).engine n).pc + 4 * srcWords xs ∨ ((s.dev.begin t).engine n).pc % 4 ≠ 0) :=
    not_or.mpr ⟨Nat.not_lt.mpr hinside, not_not.mpr haligned⟩
  have hf' : f ((s.dev.begin t).setEngine n { (s.dev.begin t).engine n with
      pc := ((s.dev.begin t).engine n).pc + 4 * srcWords xs }) = .ok e := hf
  simp only [Dev.instr, hexecutes', if_true, Bool.or_eq_true, decide_eq_true_eq, hinside', if_false, hready',
    Bool.false_eq_true, hf']

/-- A fetched instruction that stalls changes nothing. -/
theorem instr_stalls (h : s.fetches n xs)
    (hf : f ((s.dev.begin t).setEngine n ((s.dev.engine n).past (srcWords xs))) = .error .stall) :
    (s.dev.begin t).instr m n xs f = s.dev.begin t := by
  obtain ⟨hexecutes, haligned, hinside, hready⟩ := h
  have hexecutes' : (s.dev.begin t).executes n = true := hexecutes
  have hready' : (s.dev.begin t).srcAwaits n xs = false := hready
  have hinside' : ¬(0x7800 < ((s.dev.begin t).engine n).pc + 4 * srcWords xs ∨ ((s.dev.begin t).engine n).pc % 4 ≠ 0) :=
    not_or.mpr ⟨Nat.not_lt.mpr hinside, not_not.mpr haligned⟩
  have hf' : f ((s.dev.begin t).setEngine n { (s.dev.begin t).engine n with
      pc := ((s.dev.begin t).engine n).pc + 4 * srcWords xs }) = .error .stall := hf
  simp only [Dev.instr, hexecutes', if_true, Bool.or_eq_true, decide_eq_true_eq, hinside', if_false, hready',
    Bool.false_eq_true, hf']

/-- An instruction inside program code a source of which awaits a read changes nothing. -/
theorem instr_awaits (haligned : (s.dev.engine n).pc % 4 = 0) (hinside : (s.dev.engine n).pc + 4 * srcWords xs ≤ 0x7800)
    (hawaits : s.dev.srcAwaits n xs = true) : (s.dev.begin t).instr m n xs f = s.dev.begin t := by
  have hawaits' : (s.dev.begin t).srcAwaits n xs = true := hawaits
  have hinside' : ¬(0x7800 < ((s.dev.begin t).engine n).pc + 4 * srcWords xs ∨ ((s.dev.begin t).engine n).pc % 4 ≠ 0) :=
    not_or.mpr ⟨Nat.not_lt.mpr hinside, not_not.mpr haligned⟩
  simp only [Dev.instr, Bool.or_eq_true, decide_eq_true_eq, hinside', if_false, hawaits', if_true, ite_self]

end

/-! ## What an instruction of one engine may change -/

/-- The device without its registers, the bytes staged and the record of engine n. -/
def Dev.sansEngine (n : Nat) (d : Dev) : Dev := { d.setEngine n (.reset .legEngine .off) with regs := [], wr := [] }

/-- A frame of what an instruction of engine n may change. -/
abbrev Dev.EngineFrame (n : Nat) (d e : Dev) : Prop :=
  Dev.Frame (Dev.sansEngine n) (regsIn [TE.IRQ_RAW_FP_FLAG.addr (pENG n) 0, TE.FP_FLAGS_INVALID.addr (pENG n) 0]) d e

theorem setEngine_engineFrame (n : Nat) (x : Engine) (d : Dev) : d.EngineFrame n (d.setEngine n x) := by
  refine ⟨?_, fun _ _ => rfl⟩
  simp only [Dev.sansEngine, setEngine_setEngine]

theorem stage_engineFrame (n : Nat) (cs : List Host.Cell) (d : Dev) : d.EngineFrame n (d.stage cs) := ⟨rfl, fun _ _ => rfl⟩

theorem fpFlags_engineFrame (n : Nat) (x : FFlags) (d : Dev) : d.EngineFrame n (d.fpFlags n x) :=
  .ite (fun _ => .refl _ _ _) (fun _ => (setReg_frame _ d (by simp [regsIn])).ofRegs.trans
    (putAt_frame _ _ (by simp [regsIn])).ofRegs)

theorem Dev.Frame.engine_ne {n j : Nat} {d e : Dev} (h : d.EngineFrame n e) (hj : j ≠ n) : e.engine j = d.engine j :=
  h.field (fun x => x.engine j) (fun x => engine_setEngine_ne _ x hj)

/-- Landed, such a change is one of the engine only. -/
theorem land_engineOnly {n t : Nat} {e : Dev} {s : State} (h : (s.dev.begin t).EngineFrame n e) :
    s.engineOnly n (s.land t e) := by
  refine ⟨fun j hj => h.engine_ne hj, h.field Dev.triad (fun _ => rfl), h.field Dev.mp (fun _ => rfl),
    h.field Dev.pw (fun _ => rfl), h.field Dev.sense (fun _ => rfl), h.field Dev.felt (fun _ => rfl),
    h.field Dev.acq (fun _ => rfl), h.field Dev.prec (fun _ => rfl), h.field Dev.safe (fun _ => rfl),
    h.field Dev.bus (fun _ => rfl), h.field Dev.chain (fun _ => rfl), h.field Dev.boot (fun _ => rfl), rfl, fun a ha _ => ?_⟩
  rw [land_reg, h.reg a (by simpa [regsIn] using ha), begin_reg]

theorem Dev.Frame.engine_wipe {n : Nat} {d e : Dev} (h : d.EngineFrame n e) : e.wipe = d.wipe := h.field Dev.wipe (fun _ => rfl)

/-- A command that changes nothing on the device changes nothing in the state but its clock. -/
theorem land_begin_same (t t' : Nat) (s : State) :
    (s.land t (s.dev.begin t')).dev.units = s.dev.units ∧ s.regsSame (s.land t (s.dev.begin t')) ∧
      s.memSame (s.land t (s.dev.begin t')) := ⟨rfl, fun _ => rfl, land_memSame rfl rfl⟩

end Sys2Proof.Machine
end

section
/-! The values of operands, and the special values of the arithmetic (R128, R136, R139, R140). -/
namespace Sys2Proof.Machine

/-! ## Operands -/

theorem vals_lit (n : Fin 15) (w : Word) (s : State) : s.vals n [.lit w] = [w] := by rw [vals_eq n.isLt]; rfl

theorem vals_reg (n : Fin 15) (r : Fin 32) (s : State) :
    s.vals n [.reg r] = [(((s.dev.engine n).past 1).loaded r).regs[r]] := by rw [vals_eq n.isLt]; rfl

/-- A register that no read loads has its own word. -/
theorem vals_reg_settled (n : Fin 15) (r : Fin 32) {s : State} (h : ∀ p ∈ (s.dev.engine n).pend, p.loads r = false) :
    s.vals n [.reg r] = [(s.dev.engine n).regs[r]] := by
  have hnone : (s.dev.engine n).pend.filter (fun x => x.loads r && x.bytes.isSome) = [] :=
    List.filter_eq_nil_iff.mpr (fun x hx => by simp [h x hx])
  rw [vals_reg]
  simp only [Engine.loaded, Engine.past, hnone, List.foldl_nil]

/-- A register that one read loads has the word that has arrived. -/
theorem vals_reg_arrived (n : Fin 15) (r : Fin 32) {len order : Nat} {bs : List Byte} {s : State}
    (h : (s.dev.engine n).pend.filter (fun p => p.loads r) = [⟨.word r, len, order, some bs⟩]) :
    s.vals n [.reg r] = [wordOf bs] := by
  have hone : (s.dev.engine n).pend.filter (fun x => x.loads r && x.bytes.isSome) = [⟨.word r, len, order, some bs⟩] := by
    rw [List.filter_congr (fun x _ => Bool.and_comm (x.loads r) _), ← List.filter_filter, h]; rfl
  rw [vals_reg]
  simp only [Engine.loaded, Engine.past, hone, List.foldl_cons, List.foldl_nil, Option.getD_some]
  exact congrArg (fun w => [w]) (Vector.getElem_set_self _)

/-! ## NaN, zero, infinity -/

theorem fDecode_nan {a : Word} (h : isNaN a = true) : fDecode a = .nan := by
  simp only [isNaN, Bool.and_eq_true, decide_eq_true_eq] at h
  rw [fDecode, if_pos h.1, if_neg h.2]

/-- Two operands one of which is a NaN (R139 item 4). -/
theorem nan_of_two {a b : Word} (h : isNaN a = true ∨ isNaN b = true) :
    faddW a b = .of 0x7FC00000 ∧ fsubW a b = .of 0x7FC00000 ∧ fmulW a b = .of 0x7FC00000 ∧
      fdivW a b = .of 0x7FC00000 ∧ fminW a b = 0x7FC00000 ∧ fmaxW a b = 0x7FC00000 ∧ fcmpW a b = .unordered := by
  have hor : (isNaN a || isNaN b) = true := Bool.or_eq_true_iff.mpr h
  have horder : fminW a b = 0x7FC00000 ∧ fmaxW a b = 0x7FC00000 ∧ fcmpW a b = .unordered := by
    rw [fminW, fmaxW, fcmpW, if_pos hor, if_pos hor, if_pos hor]
    exact ⟨rfl, rfl, rfl⟩
  rw [faddW, fsubW, fmulW, fdivW]
  rcases h with ha | hb
  · rw [fDecode_nan ha]
    cases fDecode b <;> exact ⟨rfl, rfl, rfl, rfl, horder⟩
  · rw [fDecode_nan hb]
    cases fDecode a <;> exact ⟨rfl, rfl, rfl, rfl, horder⟩

/-- Three operands one of which is a NaN (R139 items 4 and 8). -/
theorem nan_of_three {a b c : Word} (h : isNaN a = true ∨ isNaN b = true ∨ isNaN c = true) :
    ffmaW a b c = .of 0x7FC00000 ∧ fminW (fmaxW a b) c = 0x7FC00000 := by
  have hnan : isNaN 0x7FC00000 = true := by decide
  by_cases hc : isNaN c = true
  · refine ⟨?_, (nan_of_two (.inr hc)).2.2.2.2.1⟩
    rw [ffmaW, fDecode_nan hc]
    cases fMulNum (fDecode a) (fDecode b) <;> rfl
  · have hab : isNaN a = true ∨ isNaN b = true := by tauto
    obtain ⟨-, -, -, -, -, hmax, -⟩ := nan_of_two hab
    refine ⟨?_, by rw [hmax]; exact (nan_of_two (.inl hnan)).2.2.2.2.1⟩
    have hmul : fMulNum (fDecode a) (fDecode b) = some .nan := by
      rcases hab with ha | hb
      · rw [fDecode_nan ha]; rfl
      · rw [fDecode_nan hb]; cases fDecode a <;> rfl
    rw [ffmaW, hmul]
    cases fDecode c <;> rfl

/-- One operand that is a NaN (R139 items 4 and 6). -/
theorem nan_of_one {a : Word} (h : isNaN a = true) : fsqrtW a = .of 0x7FC00000 ∧ fabsW a = 0x7FC00000 ∧
    fnegW a = 0x7FC00000 ∧ (fToIntW a).1 = 0 ∧ (fToIntW a).2 = FFlags.onlyCvtSat := by
  rw [fsqrtW, fabsW, fnegW, fToIntW, fDecode_nan h, if_pos h, if_pos h]
  exact ⟨rfl, rfl, rfl, rfl, rfl⟩

theorem fDecode_normal {a : Word} (h0 : 0 < fExp a) (h255 : fExp a < 255) :
    fDecode a = .fin (fSign a) (2 ^ 23 + fFrac a) ((fExp a : Int) - 150) := by
  rw [fDecode, if_neg (by omega), if_neg (by omega)]

/-- A normal number over a zero (R139 item 5). -/
theorem fdivW_zero {a b : Word} (h0 : 0 < fExp a) (h255 : fExp a < 255) (hb : b = 0 ∨ b = 0x80000000) :
    fdivW a b = ⟨fInf (fSign a != fSign b), FFlags.onlyDivZero⟩ := by
  have hzero : fDecode b = .fin (fSign b) 0 0 := by rcases hb with rfl | rfl <;> rfl
  have hman : ¬2 ^ 23 + fFrac a = 0 := by omega
  rw [fdivW, fDecode_normal h0 h255, hzero]
  simp only [if_true, hman, if_false]

/-- Settles O22: operands are what `Engine.srcs` takes, and a NaN or a zero decides each operation by its decoding. -/
theorem operandsNaNsZerosAndInfinities : Obligations.OperandsNaNsZerosAndInfinities := by
  unfold Obligations.OperandsNaNsZerosAndInfinities
  exact ⟨vals_lit, fun n r _ h => vals_reg_settled n r h, fun n r _ _ _ _ h => vals_reg_arrived n r h, fun _ _ => nan_of_two,
    fun _ _ _ => nan_of_three, fun _ => nan_of_one, by decide +kernel, fun _ _ => fdivW_zero, by decide +kernel⟩

end Sys2Proof.Machine
end

section
/-! Instructions that compute registers (R128, R136, R139, R140). -/
namespace Sys2Proof.Machine

/-! ## Flags and registers -/

theorem FFlags.bits_lt (x : FFlags) : x.bits < 2 ^ 5 := by
  obtain ⟨a, b, c, d, e⟩ := x
  revert a b c d e
  decide

/-- FP_FLAGS holds the flags raised besides the old ones (R139 item 8). -/
theorem fpFlags_bits (n : Nat) (x : FFlags) (d : Dev) :
    bitsGet ((d.fpFlags n x).reg (TE.FP_FLAGS_INVALID.addr (pENG n) 0)) 4 0 =
      (bitsGet (d.reg (TE.FP_FLAGS_INVALID.addr (pENG n) 0)) 4 0 ||| x.bits) := by
  have hword : TE.FP_FLAGS_INVALID.addr (pENG n) 0 ≠ TE.IRQ_RAW_FP_FLAG.addr (pENG n) 0 := by
    simp only [FieldSpec.addr, TE.FP_FLAGS_INVALID, TE.IRQ_RAW_FP_FLAG]; omega
  have hnew : (bitsGet (d.reg (TE.FP_FLAGS_INVALID.addr (pENG n) 0)) 4 0 ||| x.bits) < 2 ^ 5 :=
    Nat.or_lt_two_pow (bitsGet_lt _ 4 0) x.bits_lt
  unfold Dev.fpFlags
  dsimp only [Dev.wordAt]
  split
  · next hsame => exact hsame.symm
  · rw [Dev.raise_eq, reg_putAt_ne _ _ hword, reg_setReg_same, bitsGet, BitVec.toNat_ofNat]
    omega

theorem fpFlags_regs (n : Nat) (x : FFlags) (d : Dev) : Dev.Frame Dev.sansRegs (fun _ => true) d (d.fpFlags n x) :=
  .ite (fun _ => .refl _ _ _) (fun _ => (setReg_frame _ d rfl).trans (putAt_frame _ _ rfl))

theorem fpFlags_engine (n j : Nat) (x : FFlags) (d : Dev) : (d.fpFlags n x).engine j = d.engine j :=
  (fpFlags_regs n x d).field (fun e => e.engine j) (fun _ => rfl)

theorem fpFlags_staged (n : Nat) (x : FFlags) (d : Dev) : (d.fpFlags n x).staged = d.staged :=
  (fpFlags_regs n x d).field Dev.staged (fun _ => rfl)

/-- The record with register r written: a read that would load it is never used (R136). -/
def Engine.wrote (r : Fin 32) (w : Word) (e : Engine) : Engine :=
  { e with regs := e.regs.set r w, pend := e.pend.filter (fun p => !p.loads r) }

theorem setG_eq (n : Nat) (r : Fin 32) (w : Word) (d : Dev) : d.setG n r w = d.setEngine n ((d.engine n).wrote r w) := (rfl)

theorem setG_setEngine {n : Nat} (hn : n < 15) (r : Fin 32) (w : Word) (x : Engine) (d : Dev) :
    (d.setEngine n x).setG n r w = d.setEngine n (x.wrote r w) := by
  rw [setG_eq, engine_setEngine_same _ _ hn, setEngine_setEngine]

theorem wrote_same (r : Fin 32) (w : Word) (e : Engine) : (e.wrote r w).regs[r] = w := Vector.getElem_set_self _

theorem wrote_ne {q r : Fin 32} (w : Word) (e : Engine) (h : q ≠ r) : (e.wrote r w).regs[q] = e.regs[q] := regs_set_ne w h

/-! ## One computing instruction -/

/-- The effect of a computing instruction: a new record of its engine, and flags. -/
def Dev.computed (n : Nat) (x : Engine) (fl : FFlags) (d : Dev) : Dev := (d.setEngine n x).fpFlags n fl

section
variable (n : Fin 15) (x : Engine) (fl : FFlags) (s : State)

theorem computed_engine : (s.land 0 ((s.dev.begin 0).computed n x fl)).dev.engine n = x :=
  (fpFlags_engine n n fl _).trans (engine_setEngine_same x _ n.isLt)

theorem computed_flags :
    bitsGet ((s.land 0 ((s.dev.begin 0).computed n x fl)).dev.reg (TE.FP_FLAGS_INVALID.addr (pENG n) 0)) 4 0 =
      (bitsGet (s.dev.reg (TE.FP_FLAGS_INVALID.addr (pENG n) 0)) 4 0 ||| fl.bits) := fpFlags_bits n fl _

theorem computed_engineOnly : s.engineOnly n (s.land 0 ((s.dev.begin 0).computed n x fl)) :=
  land_engineOnly ((setEngine_engineFrame n x _).trans (fpFlags_engineFrame n fl _))

theorem computed_memSame : s.memSame (s.land 0 ((s.dev.begin 0).computed n x fl)) := by
  obtain ⟨hwr, hwipe⟩ := Prod.mk.inj (fpFlags_staged n fl ((s.dev.begin 0).setEngine n x))
  exact land_memSame hwr hwipe

end

/-- Between s and t an instruction of engine n with these sources has computed r into register rd, and nothing else. -/
structure State.computes (n : Fin 15) (rd : Fin 32) (xs : List Src) (r : FV) (s t : State) : Prop where
  value : (t.dev.engine n).regs[rd] = r.w
  flags : bitsGet (t.dev.reg (TE.FP_FLAGS_INVALID.addr (pENG n) 0)) 4 0 =
    (bitsGet (s.dev.reg (TE.FP_FLAGS_INVALID.addr (pENG n) 0)) 4 0 ||| r.fl.bits)
  pc : (t.dev.engine n).pc = (s.dev.engine n).pc + 4 * srcWords xs
  regs : ∀ q, q ≠ rd → Src.reg q ∉ xs → (t.dev.engine n).regs[q] = (s.dev.engine n).regs[q]
  only : s.engineOnly n t
  mem : s.memSame t

theorem Engine.Took.pc {xs : List Src} {e e' : Engine} (h : e.Took xs e') : e'.pc = e.pc := by
  simpa [Engine.sansLoads] using congrArg Engine.pc h.rest

/-- Every computing instruction writes the value of its operation to its register, and its flags. -/
theorem compute_computes {n : Fin 15} {xs : List Src} {s : State} (rd : Fin 32) (f : List Word → FV) (h : s.fetches n xs) :
    s.computes n rd xs (f (s.vals n xs)) (s.land 0 ((s.dev.begin 0).compute s.mem n rd xs f)) := by
  have heffect : (s.dev.begin 0).compute s.mem n rd xs f = (s.dev.begin 0).computed n
      ((((s.dev.engine n).past (srcWords xs)).srcs xs).2.wrote rd (f (s.vals n xs)).w) (f (s.vals n xs)).fl := by
    refine instr_completes h ?_
    rw [srcs_eq n.isLt, engine_setEngine_same _ _ n.isLt, ← vals_eq n.isLt, setEngine_setEngine]
    dsimp only
    rw [setG_setEngine n.isLt]
    rfl
  have htook := srcs_took xs ((s.dev.engine n).past (srcWords xs))
  rw [heffect]
  refine ⟨?_, computed_flags _ _ _ _, ?_, fun q hq hxs => ?_, computed_engineOnly _ _ _ _, computed_memSame _ _ _ _⟩
  · rw [computed_engine, wrote_same]
  · rw [computed_engine]; exact htook.pc
  · rw [computed_engine, wrote_ne _ _ hq]; exact htook.regs q hxs

section
variable {n : Fin 15} {rd : Fin 32} {s : State}

theorem unop_computes {a : Src} (f : Word → FV) (h : s.fetches n [a]) :
    ∃ s', runNow (fun m d => d.unop m n rd a f) s = .next s' ∧ s.computes n rd [a] (f ((s.vals n [a]).getD 0 0)) s' :=
  ⟨_, run_next _ _ _, compute_computes rd (fun v => f (v.getD 0 0)) h⟩

theorem binop_computes {a b : Src} (f : Word → Word → FV) (h : s.fetches n [a, b]) :
    ∃ s', runNow (fun m d => d.binop m n rd a b f) s = .next s' ∧
      s.computes n rd [a, b] (f ((s.vals n [a, b]).getD 0 0) ((s.vals n [a, b]).getD 1 0)) s' :=
  ⟨_, run_next _ _ _, compute_computes rd (fun v => f (v.getD 0 0) (v.getD 1 0)) h⟩

theorem triop_computes {a b c : Src} (f : Word → Word → Word → FV) (h : s.fetches n [a, b, c]) :
    ∃ s', runNow (fun m d => d.triop m n rd a b c f) s = .next s' ∧ s.computes n rd [a, b, c]
      (f ((s.vals n [a, b, c]).getD 0 0) ((s.vals n [a, b, c]).getD 1 0) ((s.vals n [a, b, c]).getD 2 0)) s' :=
  ⟨_, run_next _ _ _, compute_computes rd (fun v => f (v.getD 0 0) (v.getD 1 0) (v.getD 2 0)) h⟩

end

/-! ## SINCOS -/

theorem exec_sincos (n : Fin 15) (rs rc : Fin 32) (a : Src) (s : State) :
    exec (.sincos n rs rc a) s = .next (s.land 0 ((s.dev.begin 0).instr s.mem n [a] (fun d =>
      .ok ((((d.src s.mem n a).2.setG n rs (fsin (d.src s.mem n a).1).w).setG n rc (fcos (d.src s.mem n a).1).w).fpFlags n
        ((fsin (d.src s.mem n a).1).fl.union (fcos (d.src s.mem n a).1).fl))))) := (rfl)

theorem vals_one {n : Nat} (hn : n < 15) (a : Src) (s : State) :
    s.vals n [a] = [(((s.dev.engine n).past (srcWords [a])).src a).1] := vals_eq hn [a] s

/-- SINCOS writes the cosine, then where its destinations differ the sine (R140). -/
theorem sincos_computes {n : Fin 15} {a : Src} {s : State} (rs rc : Fin 32) (h : s.fetches n [a]) :
    ∃ s', exec (.sincos n rs rc a) s = .next s' ∧
      (s'.dev.engine n).regs[rc] = (fcos ((s.vals n [a]).getD 0 0)).w ∧
      (rs ≠ rc → (s'.dev.engine n).regs[rs] = (fsin ((s.vals n [a]).getD 0 0)).w) ∧
      bitsGet (s'.dev.reg (TE.FP_FLAGS_INVALID.addr (pENG n) 0)) 4 0 =
        (bitsGet (s.dev.reg (TE.FP_FLAGS_INVALID.addr (pENG n) 0)) 4 0 |||
          ((fsin ((s.vals n [a]).getD 0 0)).fl.union (fcos ((s.vals n [a]).getD 0 0)).fl).bits) ∧
      (∀ r, r ≠ rs → r ≠ rc → a ≠ .reg r → (s'.dev.engine n).regs[r] = (s.dev.engine n).regs[r]) ∧
      (s'.dev.engine n).pc = (s.dev.engine n).pc + 4 * srcWords [a] ∧ s.engineOnly n s' ∧ s.memSame s' := by
  have htook := src_took a ((s.dev.engine n).past (srcWords [a]))
  rw [exec_sincos, vals_one n.isLt, List.getD_cons_zero]
  generalize hv : ((s.dev.engine n).past (srcWords [a])).src a = v at htook
  have heffect := instr_completes (t := 0) (m := s.mem) (f := fun d =>
      .ok ((((d.src s.mem n a).2.setG n rs (fsin (d.src s.mem n a).1).w).setG n rc (fcos (d.src s.mem n a).1).w).fpFlags n
        ((fsin (d.src s.mem n a).1).fl.union (fcos (d.src s.mem n a).1).fl)))
      (e := (s.dev.begin 0).computed n ((v.2.wrote rs (fsin v.1).w).wrote rc (fcos v.1).w) ((fsin v.1).fl.union (fcos v.1).fl)) h
    (by rw [src_eq n.isLt, engine_setEngine_same _ _ n.isLt, hv, setEngine_setEngine, setG_setEngine n.isLt,
          setG_setEngine n.isLt]; rfl)
  rw [heffect]
  refine ⟨_, rfl, ?_, fun hne => ?_, computed_flags _ _ _ _, fun r hrs hrc ha => ?_, ?_, computed_engineOnly _ _ _ _,
    computed_memSame _ _ _ _⟩
  · rw [computed_engine, wrote_same]
  · rw [computed_engine, wrote_ne _ _ hne, wrote_same]
  · rw [computed_engine, wrote_ne _ _ hrc, wrote_ne _ _ hrs]
    exact htook.regs r (by simpa using Ne.symm ha)
  · rw [computed_engine]; exact htook.pc

/-! ## The instructions -/

/-- An instruction a source of which awaits a read changes nothing (R136). -/
theorem awaiting_stalls {n : Fin 15} {xs : List Src} {s : State} {c : Instr}
    {f : Dev → Except InstrEnd Dev} (hexec : exec c s = .next (s.land 0 ((s.dev.begin 0).instr s.mem n xs f)))
    (haligned : (s.dev.engine n).pc % 4 = 0) (hinside : (s.dev.engine n).pc + 4 * srcWords xs ≤ 0x7800)
    (hawaits : s.dev.srcAwaits n xs = true) : ∃ s', exec c s = .next s' ∧
      s'.dev.units = s.dev.units ∧ s.regsSame s' ∧ s.memSame s' := by
  refine ⟨_, hexec, ?_⟩
  rw [instr_awaits haligned hinside hawaits]
  exact land_begin_same _ _ _

/-- Settles O21: each computing instruction is `Dev.compute` of its operation, of which `compute_computes` says what it does. -/
theorem computingInstructionsWriteOneRegister : Obligations.ComputingInstructionsWriteOneRegister := by
  unfold Obligations.ComputingInstructionsWriteOneRegister
  refine ⟨fun n rd a b s c f hc h => ?_, fun n rd a toInt s c f hc h => ?_, fun n rd a b x s c f hc h => ?_,
    fun n rs rc a s h => sincos_computes rs rc h, fun n rd a b x s c xs hc haligned hinside hawaits => ?_⟩
  · have hexec : exec c s = runNow (fun m d => d.binop m n rd a b f) s := by
      simp only [List.mem_cons, List.not_mem_nil, or_false, Prod.mk.injEq] at hc
      rcases hc with ⟨rfl, rfl⟩ | ⟨rfl, rfl⟩ | ⟨rfl, rfl⟩ | ⟨rfl, rfl⟩ | ⟨rfl, rfl⟩ | ⟨rfl, rfl⟩ | ⟨rfl, rfl⟩ | ⟨rfl, rfl⟩ |
        ⟨rfl, rfl⟩ | ⟨rfl, rfl⟩ | ⟨rfl, rfl⟩ | ⟨rfl, rfl⟩ | ⟨rfl, rfl⟩ | ⟨rfl, rfl⟩ | ⟨rfl, rfl⟩ | ⟨rfl, rfl⟩ | ⟨rfl, rfl⟩ |
        ⟨rfl, rfl⟩
      all_goals rfl
    obtain ⟨s', hnext, hvalue, hflags, hpc, hregs, honly, hmem⟩ := binop_computes f h
    exact ⟨s', hexec.trans hnext, ⟨hvalue, hflags⟩, hpc, fun r hr ha hb => hregs r hr (by simp [Ne.symm ha, Ne.symm hb]),
      honly, hmem⟩
  · have hexec : exec c s = runNow (fun m d => d.unop m n rd a f) s := by
      simp only [List.mem_cons, List.not_mem_nil, or_false, Prod.mk.injEq] at hc
      rcases hc with ⟨rfl, rfl⟩ | ⟨rfl, rfl⟩ | ⟨rfl, rfl⟩ | ⟨rfl, rfl⟩
      all_goals rfl
    obtain ⟨s', hnext, hvalue, hflags, hpc, hregs, honly, hmem⟩ := unop_computes f h
    exact ⟨s', hexec.trans hnext, ⟨hvalue, hflags⟩, hpc, fun r hr ha => hregs r hr (by simp [Ne.symm ha]), honly, hmem⟩
  · have hexec : exec c s = runNow (fun m d => d.triop m n rd a b x f) s := by
      simp only [List.mem_cons, List.not_mem_nil, or_false, Prod.mk.injEq] at hc
      rcases hc with ⟨rfl, rfl⟩ | ⟨rfl, rfl⟩ | ⟨rfl, rfl⟩
      all_goals rfl
    obtain ⟨s', hnext, hvalue, hflags, hpc, hregs, honly, hmem⟩ := triop_computes f h
    exact ⟨s', hexec.trans hnext, ⟨hvalue, hflags⟩, hpc,
      fun r hr ha hb hx => hregs r hr (by simp [Ne.symm ha, Ne.symm hb, Ne.symm hx]), honly, hmem⟩
  · simp only [List.mem_cons, List.not_mem_nil, or_false, Prod.mk.injEq] at hc
    rcases hc with ⟨rfl, rfl⟩ | ⟨rfl, rfl⟩ | ⟨rfl, rfl⟩ | ⟨rfl, rfl⟩ | ⟨rfl, rfl⟩ | ⟨rfl, rfl⟩ | ⟨rfl, rfl⟩
    all_goals exact awaiting_stalls rfl haligned hinside hawaits

end Sys2Proof.Machine
end

section
/-!
SUPPORT. The bytes a command has staged: what they read as inside the command and after it, and the data memory of an engine
(R127, R131).
-/
namespace Sys2Proof.Machine

/-! ## Staged bytes -/

theorem stage_cons (c : Host.Cell) (cs : List Host.Cell) (d : Dev) : d.stage (c :: cs) = (d.stage [c]).stage cs := by
  simp only [Dev.stage, List.append_assoc, ← List.filter_append, List.singleton_append]

theorem pokes_cons (a : Nat) (b : Byte) (bs : List Byte) (d : Dev) : d.pokes a (b :: bs) = (d.poke a b).pokes (a + 1) bs :=
  stage_cons _ _ _

theorem byte_poke {a : Nat} (m : List Host.Cell) (b : Byte) (c : Nat) (d : Dev) (ha : inMemory a = true) :
    (d.poke a b).byte m c = if c = a then b else d.byte m c := by
  by_cases hca : c = a
  · subst hca; simp [Dev.poke, Dev.stage, Dev.byte, ha]
  · simp [Dev.poke, Dev.stage, Dev.byte, ha, hca, Ne.symm hca]

theorem byte_pokes {a : Nat} (m : List Host.Cell) (bs : List Byte) (c : Nat) (d : Dev)
    (ha : ∀ b, a ≤ b → b < a + bs.length → inMemory b = true) :
    (d.pokes a bs).byte m c = if a ≤ c ∧ c < a + bs.length then bs.getD (c - a) 0 else d.byte m c := by
  induction bs generalizing a d with
  | nil => simp [Dev.pokes, Dev.stage, cellsAt, Nat.not_lt.mpr]
  | cons b bs ih =>
    have hlen : (b :: bs).length = bs.length + 1 := rfl
    rw [pokes_cons, ih _ (fun x h₁ h₂ => ha x (by omega) (by omega)), byte_poke m b c d (ha a (Nat.le_refl a) (by omega)), hlen]
    by_cases hca : c = a
    · subst hca; simp
    · by_cases hin : a + 1 ≤ c ∧ c < a + 1 + bs.length
      · have hsub : c - a = c - (a + 1) + 1 := by omega
        rw [if_pos hin, if_pos (by omega), hsub, List.getD_cons_succ]
      · rw [if_neg hin, if_neg hca, if_neg (by omega)]

/-- After a command that wipes nothing a byte reads as it did inside the command. -/
theorem land_byte {t a : Nat} {e : Dev} {s : State} (hwipe : e.wipe = []) (ha : inMemory a = true) :
    memByte (s.land t e).mem a = e.byte s.mem a := by
  have happly (m : List Host.Cell) (ws : List Host.Cell) : memByte (memApply m (ws.filter (fun c => inMemory c.1))) a =
      match ws.reverse.find? (fun c => decide (c.1 = a)) with | some c => c.2 | none => memByte m a := by
    induction ws using List.reverseRecOn with
    | nil => rfl
    | append_singleton ws c ih =>
      rw [List.reverse_append, List.reverse_singleton, List.singleton_append, List.filter_append]
      by_cases hc : c.1 = a
      · simp [memApply, List.foldl_append, hc, ha]
      · rw [List.find?_cons_of_neg (by simpa using hc), ← ih]
        by_cases hin : inMemory c.1 = true
        · rw [List.filter_singleton, hin]
          simp only [memApply, List.foldl_append, cond_true, List.foldl_cons, List.foldl_nil]
          exact memByte_put_ne _ _ (Ne.symm hc)
        · simp [hin]
  rw [land_mem, hwipe, memWipe_nil, happly]
  rfl

/-! ## Words -/

theorem wordBytes_getD {w : Word} {j : Nat} (h : j < 4) : (wordBytes w).getD j 0 = w.extractLsb' (8 * j) 8 := by
  obtain rfl | rfl | rfl | rfl : j = 0 ∨ j = 1 ∨ j = 2 ∨ j = 3 := by omega
  all_goals rfl

/-- The bytes of a word of memory are the bytes of memory. -/
theorem wordBytes_word (m : List Host.Cell) (a : Nat) (d : Dev) {j : Nat} (h : j < 4) :
    (wordBytes (d.word m a)).getD j 0 = d.byte m (a + j) := by
  rw [wordBytes_getD h]
  have h₀ := (d.byte m a).isLt
  have h₁ := (d.byte m (a + 1)).isLt
  have h₂ := (d.byte m (a + 2)).isLt
  have h₃ := (d.byte m (a + 3)).isLt
  apply BitVec.eq_of_toNat_eq
  rw [BitVec.extractLsb'_toNat, Dev.word, BitVec.toNat_ofNat, Nat.shiftRight_eq_div_pow]
  obtain rfl | rfl | rfl | rfl : j = 0 ∨ j = 1 ∨ j = 2 ∨ j = 3 := by omega
  all_goals simp only [Nat.mul_zero, Nat.mul_one, Nat.reduceMul, Nat.reducePow, Nat.add_zero]; omega

/-! ## Data memory (R127, R131) -/

theorem dataBase_inMemory {n a : Nat} (hn : n < 15) (ha : a < 0x4000) : inMemory (dataBase n + a) = true := by
  rw [inMemory_iff, dataBase]; omega

/-- The word of the state window that holds engine address a. -/
def windowWord (a : Nat) : Nat := (a - 0x3000) / 4 * 4

theorem dataAddr_eq (n a : Nat) (d : Dev) : d.dataAddr n a =
    if 0x3000 ≤ a ∧ windowWord a ∈ (d.engine n).written then dataBase n + a + 0x800 else dataBase n + a :=
  if_congr (by simp [windowWord]) rfl rfl

theorem dataAddr_lt {a : Nat} (n : Nat) (d : Dev) (ha : a < 0x3800) :
    dataBase n ≤ d.dataAddr n a ∧ d.dataAddr n a < dataBase n + 0x4000 := by
  rw [dataAddr_eq]; split <;> omega

theorem dataAddr_inj {a c n : Nat} {d : Dev} (ha : a < 0x3800) (hc : c < 0x3800) :
    d.dataAddr n c = d.dataAddr n a ↔ c = a := by
  refine ⟨fun h => ?_, fun h => by rw [h]⟩
  rw [dataAddr_eq, dataAddr_eq] at h
  split at h <;> split at h <;> omega

theorem pokeWords_one (a : Nat) (w : Word) (d : Dev) : d.pokeWords a [w] = d.pokes a (wordBytes w) := by
  simp [Dev.pokeWords]

/-- A word of the state window is written for the first time in the sample. -/
def Dev.opensWord (n a : Nat) (d : Dev) : Prop := 0x3000 ≤ a ∧ windowWord a ∉ (d.engine n).written

/-- The committed value of the word stands in the working half, and the word counts as written. -/
def Dev.wordOpened (m : List Host.Cell) (n a : Nat) (d : Dev) : Dev :=
  (d.setEngine n { d.engine n with written := (d.engine n).written ++ [windowWord a] }).pokeWords
    (dataBase n + 0x3800 + windowWord a) [d.word m (dataBase n + 0x3000 + windowWord a)]

theorem dataPoke_of_opens {m : List Host.Cell} {n a : Nat} (b : Byte) {d : Dev} (h : d.opensWord n a) :
    d.dataPoke m n a b = (d.wordOpened m n a).poke (dataBase n + a + 0x800) b := by
  obtain ⟨hwindow, hfresh⟩ := h
  have hcond : (decide (0x3000 ≤ a) && !(d.engine n).written.contains ((a - 0x3000) / 4 * 4)) = true := by
    simpa [windowWord] using ⟨hwindow, hfresh⟩
  rw [Dev.dataPoke, if_pos hcond]
  rfl

theorem dataPoke_of_open {m : List Host.Cell} {n a : Nat} (b : Byte) {d : Dev} (h : ¬d.opensWord n a) :
    d.dataPoke m n a b = d.poke (d.dataAddr n a) b := by
  have hcond : ¬(decide (0x3000 ≤ a) && !(d.engine n).written.contains ((a - 0x3000) / 4 * 4)) = true := by
    simpa [Dev.opensWord, windowWord] using h
  rw [Dev.dataPoke, if_neg hcond]

theorem wordOpened_written {m : List Host.Cell} {n : Nat} (hn : n < 15) (a : Nat) (d : Dev) :
    (d.wordOpened m n a).engine n = { d.engine n with written := (d.engine n).written ++ [windowWord a] } :=
  engine_setEngine_same _ d hn

/-- Opening a word leaves every byte of data memory as the engine sees it. -/
theorem wordOpened_dataByte {m : List Host.Cell} {n a c : Nat} {d : Dev} (hn : n < 15) (ha : a < 0x3800) (hc : c < 0x3800)
    (h : d.opensWord n a) : (d.wordOpened m n a).dataByte m n c = d.dataByte m n c := by
  obtain ⟨hwindow, hfresh⟩ := h
  have hword : windowWord a ≤ 0x7FC := by unfold windowWord; omega
  have hbyte (x : Nat) : (d.wordOpened m n a).byte m x =
      if dataBase n + 0x3800 + windowWord a ≤ x ∧ x < dataBase n + 0x3800 + windowWord a + 4 then
        d.byte m (dataBase n + 0x3000 + windowWord a + (x - (dataBase n + 0x3800 + windowWord a))) else d.byte m x := by
    rw [Dev.wordOpened, pokeWords_one, byte_pokes]
    · refine if_ctx_congr Iff.rfl (fun hx => wordBytes_word m _ d ?_) (fun _ => rfl)
      have hlen : (wordBytes (d.word m (dataBase n + 0x3000 + windowWord a))).length = 4 := rfl
      omega
    · intro b h₁ h₂
      have hlen : (wordBytes (d.word m (dataBase n + 0x3000 + windowWord a))).length = 4 := rfl
      obtain ⟨y, rfl⟩ := Nat.exists_eq_add_of_le (Nat.le_trans (Nat.le_add_right _ _) (Nat.le_trans (Nat.le_add_right _ _) h₁))
      exact dataBase_inMemory hn (by omega)
  have haddr : (d.wordOpened m n a).dataAddr n c =
      if 0x3000 ≤ c ∧ windowWord c = windowWord a then dataBase n + c + 0x800 else d.dataAddr n c := by
    rw [dataAddr_eq, dataAddr_eq, wordOpened_written hn]
    by_cases hsame : windowWord c = windowWord a
    · by_cases hin : 0x3000 ≤ c <;> simp [hsame, hin]
    · simp [hsame]
  rw [Dev.dataByte, Dev.dataByte, haddr]
  by_cases hsame : 0x3000 ≤ c ∧ windowWord c = windowWord a
  · obtain ⟨hin, hsame⟩ := hsame
    have hold : d.dataAddr n c = dataBase n + c := by rw [dataAddr_eq, if_neg (by rw [hsame]; exact fun h => hfresh h.2)]
    rw [if_pos ⟨hin, hsame⟩, hold, hbyte]
    unfold windowWord at hsame ⊢
    rw [if_pos (by omega)]
    congr 1
    omega
  · rw [if_neg hsame, hbyte, if_neg]
    have hlt := dataAddr_lt n d hc
    rw [dataAddr_eq] at hlt ⊢
    unfold windowWord at hsame hlt ⊢
    split <;> omega

/-- A byte written to data memory reads as written, every other byte as before (R127, R131). -/
theorem dataPoke_dataByte {m : List Host.Cell} {n a c : Nat} (b : Byte) {d : Dev} (hn : n < 15) (ha : a < 0x3800)
    (hc : c < 0x3800) : (d.dataPoke m n a b).dataByte m n c = if c = a then b else d.dataByte m n c := by
  have hpoke (x : Dev) : (x.poke (x.dataAddr n a) b).dataByte m n c = if c = a then b else x.dataByte m n c := by
    have hlt := dataAddr_lt n x ha
    have hin : inMemory (x.dataAddr n a) = true := by
      obtain ⟨y, hy⟩ := Nat.exists_eq_add_of_le hlt.1
      rw [hy]; exact dataBase_inMemory hn (by omega)
    exact (byte_poke m b _ x hin).trans (if_congr (dataAddr_inj ha hc) rfl rfl)
  by_cases hopens : d.opensWord n a
  · have haddr : (d.wordOpened m n a).dataAddr n a = dataBase n + a + 0x800 := by
      rw [dataAddr_eq, wordOpened_written hn, if_pos ⟨hopens.1, List.mem_append_right _ (List.mem_singleton_self _)⟩]
    rw [dataPoke_of_opens b hopens, ← haddr, hpoke, wordOpened_dataByte hn ha hc hopens]
  · rw [dataPoke_of_open b hopens, hpoke]

/-- Consecutive bytes written to data memory read as written, every other byte as before. -/
theorem dataPokes_dataByte {m : List Host.Cell} {n a c : Nat} {bs : List Byte} {d : Dev} (hn : n < 15)
    (ha : a + bs.length ≤ 0x3800) (hc : c < 0x3800) : (d.dataPokes m n a bs).dataByte m n c =
      if a ≤ c ∧ c < a + bs.length then bs.getD (c - a) 0 else d.dataByte m n c := by
  induction bs generalizing a d with
  | nil => simp [Dev.dataPokes, Nat.not_lt.mpr]
  | cons b bs ih =>
    rw [List.length_cons] at ha ⊢
    rw [Dev.dataPokes, ih (by omega), dataPoke_dataByte b hn (by omega) hc]
    by_cases hca : c = a
    · subst hca; simp
    · by_cases hin : a + 1 ≤ c ∧ c < a + 1 + bs.length
      · have hsub : c - a = c - (a + 1) + 1 := by omega
        rw [if_pos hin, if_pos (by omega), hsub, List.getD_cons_succ]
      · rw [if_neg hin, if_neg hca, if_neg (by omega)]

/-! ## What a write to data memory leaves -/

/-- A write of engine n to its data memory: in its record it changes only which words are written, and it stages in the
window of the engine alone. -/
structure Dev.DataFrame (n : Nat) (d e : Dev) : Prop where
  frame : d.EngineFrame n e
  engine : ∃ ws, e.engine n = { d.engine n with written := ws }
  stages : d.stagesIn (fun a => dataBase n ≤ a ∧ a < dataBase n + 0x4000) →
    e.stagesIn (fun a => dataBase n ≤ a ∧ a < dataBase n + 0x4000)

theorem Dev.DataFrame.trans {n : Nat} {d e f : Dev} (h : d.DataFrame n e) (h' : e.DataFrame n f) : d.DataFrame n f := by
  obtain ⟨ws, hws⟩ := h.engine
  obtain ⟨ws', hws'⟩ := h'.engine
  exact ⟨h.frame.trans h'.frame, ⟨ws', by rw [hws', hws]⟩, fun hd => h'.stages (h.stages hd)⟩

theorem poke_dataFrame {n a : Nat} (b : Byte) (d : Dev) (ha : dataBase n ≤ a ∧ a < dataBase n + 0x4000) :
    d.DataFrame n (d.poke a b) := by
  refine ⟨stage_engineFrame n _ d, ⟨(d.engine n).written, rfl⟩, fun hd => stage_stagesIn hd (fun c hc _ => ?_)⟩
  rw [List.mem_singleton.mp hc]
  exact ha

theorem wordOpened_dataFrame {m : List Host.Cell} {n a : Nat} (hn : n < 15) (ha : a < 0x3800) (d : Dev) :
    d.DataFrame n (d.wordOpened m n a) := by
  refine ⟨(setEngine_engineFrame n _ d).trans (stage_engineFrame n _ _), ⟨_, wordOpened_written hn a d⟩,
    fun hd => pokeWords_stagesIn hd (fun b h₁ h₂ _ => ?_)⟩
  have hlen : [d.word m (dataBase n + 0x3000 + windowWord a)].length = 1 := rfl
  unfold windowWord at *
  constructor <;> omega

theorem dataPoke_dataFrame (m : List Host.Cell) {n a : Nat} (b : Byte) (d : Dev) (hn : n < 15) (ha : a < 0x3800) :
    d.DataFrame n (d.dataPoke m n a b) := by
  by_cases hopens : d.opensWord n a
  · obtain ⟨hwindow, -⟩ := id hopens
    rw [dataPoke_of_opens b hopens]
    exact (wordOpened_dataFrame hn ha d).trans (poke_dataFrame b _ ⟨by omega, by omega⟩)
  · rw [dataPoke_of_open b hopens]
    exact poke_dataFrame b d (dataAddr_lt n d ha)

theorem dataPokes_dataFrame (m : List Host.Cell) {n a : Nat} (bs : List Byte) (d : Dev) (hn : n < 15)
    (ha : a + bs.length ≤ 0x3800) : d.DataFrame n (d.dataPokes m n a bs) := by
  induction bs generalizing a d with
  | nil => exact ⟨.refl _ _ _, ⟨(d.engine n).written, rfl⟩, id⟩
  | cons b bs ih =>
    rw [List.length_cons] at ha
    exact (dataPoke_dataFrame m b d hn (by omega)).trans (ih _ (by omega))

end Sys2Proof.Machine
end

section
/-! The instructions that read and write memory, Canvas and legs (R127, R131, R136, R176, R255, R256). -/
namespace Sys2Proof.Machine

/-! ## Operands without a read outstanding -/

theorem take_of_no_pend {m : List Host.Cell} {n : Nat} {d : Dev} (p : PendRead → Bool) (hn : n < 15)
    (h : (d.engine n).pend = []) : d.take m n p = d := by
  have hpend : { d.engine n with pend := [] } = d.engine n := by rw [← h]
  simp only [Dev.take, h, List.filter_nil, hpend, setEngine_self d hn]
  rfl

theorem awaits_of_no_pend {n : Nat} {d : Dev} (p : PendRead → Bool) (h : (d.engine n).pend = []) : d.awaits n p = false := by
  simp [Dev.awaits, h]

section
variable {n : Nat} {s : State} (words : Nat)

theorem atNext_eq : s.atNext n words = (s.dev.begin 0).setEngine n ((s.dev.engine n).past words) := (rfl)

theorem atNext_engine (hn : n < 15) : (s.atNext n words).engine n = (s.dev.engine n).past words :=
  engine_setEngine_same _ _ hn

theorem atNext_pend (hn : n < 15) (hp : (s.dev.engine n).pend = []) : ((s.atNext n words).engine n).pend = [] := by
  rw [atNext_engine words hn]; exact hp

theorem atNext_src (hn : n < 15) (hp : (s.dev.engine n).pend = []) (x : Src) :
    (s.atNext n words).src s.mem n x = ((((s.dev.engine n).past words).src x).1, s.atNext n words) := by
  have hpast : ((s.dev.engine n).past words).pend = [] := hp
  rw [src_eq hn, atNext_engine words hn, src_of_no_pend x hpast, atNext_eq, setEngine_setEngine]

end

theorem vals_two {n : Nat} {s : State} (hn : n < 15) (hp : (s.dev.engine n).pend = []) (x y : Src) :
    s.vals n [x, y] = [(((s.dev.engine n).past (srcWords [x, y])).src x).1, (((s.dev.engine n).past (srcWords [x, y])).src y).1] := by
  have hpast : ((s.dev.engine n).past (srcWords [x, y])).pend = [] := hp
  rw [vals_eq hn, srcs_cons, srcs_cons, src_of_no_pend x hpast]
  rfl

/-- Command c is an instruction of engine n with these sources that answers r on the device with its program counter past it. -/
def State.answers (n : Nat) (xs : List Src) (c : Instr) (r : Except InstrEnd Dev) (s : State) : Prop :=
  ∃ f, exec c s = .next (s.land 0 ((s.dev.begin 0).instr s.mem n xs f)) ∧ f (s.atNext n (srcWords xs)) = r

section
variable {n : Nat} {xs : List Src} {c : Instr} {s : State}

theorem answers_done {e : Dev} (h : s.fetches n xs) (hc : s.answers n xs c (.ok e)) : exec c s = .next (s.land 0 e) := by
  obtain ⟨f, hexec, hf⟩ := hc
  rw [hexec, instr_completes h hf]

theorem answers_stall (h : s.fetches n xs) (hc : s.answers n xs c (.error .stall)) :
    ∃ s', exec c s = .next s' ∧ s'.dev.units = s.dev.units ∧ s.regsSame s' ∧ s.memSame s' := by
  obtain ⟨f, hexec, hf⟩ := hc
  refine ⟨_, hexec, ?_⟩
  rw [instr_stalls h hf]
  exact land_begin_same _ _ _

end

/-- The engine's bytes of data memory on the device past an instruction. -/
theorem atNext_dataByte {n : Nat} {s : State} (hn : n < 15) (words a : Nat) :
    (s.atNext n words).dataByte s.mem n a = (s.dev.begin 0).dataByte s.mem n a := by
  rw [Dev.dataByte, Dev.dataByte, dataAddr_eq, dataAddr_eq, atNext_engine _ hn]
  rfl

/-! ## LD and ST -/

section
variable {n : Fin 15} {s : State}

theorem ld_data_answers {x : Src} (rd : Fin 32) (hp : (s.dev.engine n).pend = [])
    (ha : ((s.vals n [x]).getD 0 0).toNat + 4 ≤ 0x3800) : s.answers n [x] (.ld n false rd x)
      (.ok ((s.atNext n (srcWords [x])).setG n rd (wordOf ((List.range 4).map (fun j =>
        (s.dev.begin 0).dataByte s.mem n (((s.vals n [x]).getD 0 0).toNat + j)))))) := by
  refine ⟨_, rfl, ?_⟩
  rw [vals_one n.isLt, List.getD_cons_zero] at ha ⊢
  rw [atNext_src _ n.isLt hp]
  have hin : inData (((s.dev.engine n).past (srcWords [x])).src x).1.toNat 4 = true := by simpa [inData] using ha
  simp only [Bool.false_eq_true, if_false, hin, if_true, awaits_of_no_pend _ (atNext_pend _ n.isLt hp),
    take_of_no_pend _ n.isLt (atNext_pend _ n.isLt hp), atNext_dataByte n.isLt]

theorem ld_prog_answers {x : Src} (rd : Fin 32) (hp : (s.dev.engine n).pend = [])
    (ha : ((s.vals n [x]).getD 0 0).toNat + 4 ≤ 0x8000) : s.answers n [x] (.ld n true rd x)
      (.ok ((s.atNext n (srcWords [x])).setG n rd
        ((s.dev.begin 0).word s.mem (progBase n + ((s.vals n [x]).getD 0 0).toNat)))) := by
  refine ⟨_, rfl, ?_⟩
  rw [vals_one n.isLt, List.getD_cons_zero] at ha ⊢
  rw [atNext_src _ n.isLt hp]
  simp only [if_true, ha]
  rfl

theorem st_answers {x y : Src} (hp : (s.dev.engine n).pend = []) (hdesc : 0x20 ≤ ((s.vals n [x, y]).getD 0 0).toNat)
    (ha : ((s.vals n [x, y]).getD 0 0).toNat + 4 ≤ 0x3800) : s.answers n [x, y] (.st n false x y)
      (.ok ((s.atNext n (srcWords [x, y])).dataPokes s.mem n ((s.vals n [x, y]).getD 0 0).toNat
        (wordBytes ((s.vals n [x, y]).getD 1 0)))) := by
  refine ⟨_, rfl, ?_⟩
  simp only [vals_two n.isLt hp, List.getD_cons_zero, List.getD_cons_succ] at hdesc ha ⊢
  rw [atNext_src _ n.isLt hp, atNext_src _ n.isLt hp]
  have hin : inData (((s.dev.engine n).past (srcWords [x, y])).src x).1.toNat 4 = true := by simpa [inData] using ha
  simp only [Bool.false_eq_true, if_false, hin, Bool.not_true, Nat.not_lt.mpr hdesc,
    awaits_of_no_pend _ (atNext_pend _ n.isLt hp), take_of_no_pend _ n.isLt (atNext_pend _ n.isLt hp)]

/-- What a load leaves: its register, the program counter past it, nothing else. -/
theorem land_loads (words : Nat) (rd : Fin 32) (w : Word) :
    let s' := s.land 0 ((s.atNext n words).setG n rd w)
    (s'.dev.engine n).regs[rd] = w ∧ (∀ r, r ≠ rd → (s'.dev.engine n).regs[r] = (s.dev.engine n).regs[r]) ∧
      (s'.dev.engine n).pc = (s.dev.engine n).pc + 4 * words ∧ s.engineOnly n s' ∧ s.memSame s' := by
  have hengine : (s.land 0 ((s.atNext n words).setG n rd w)).dev.engine n = ((s.dev.engine n).past words).wrote rd w := by
    rw [atNext_eq, setG_setEngine n.isLt]
    exact engine_setEngine_same _ _ n.isLt
  dsimp only
  rw [hengine]
  refine ⟨wrote_same _ _ _, fun r hr => wrote_ne _ _ hr, rfl, ?_, land_memSame rfl rfl⟩
  rw [atNext_eq, setG_setEngine n.isLt]
  exact land_engineOnly (setEngine_engineFrame _ _ _)

/-- What bytes written to data memory leave, once the command has landed. -/
theorem land_dataPokes {a : Nat} {bs : List Byte} (words : Nat) (ha : a + bs.length ≤ 0x3800) :
    let s' := s.land 0 ((s.atNext n words).dataPokes s.mem n a bs)
    (∀ c < 0x3800, s'.dev.dataByte s'.mem n c =
      if a ≤ c ∧ c < a + bs.length then bs.getD (c - a) 0 else (s.dev.begin 0).dataByte s.mem n c) ∧
      (s'.dev.engine n).regs = (s.dev.engine n).regs ∧ (s'.dev.engine n).pc = (s.dev.engine n).pc + 4 * words ∧
      s.memSameBut (dataBase n) 0x4000 s' ∧ s.engineOnly n s' := by
  obtain ⟨hframe, ⟨ws, hws⟩, hstages⟩ := dataPokes_dataFrame s.mem bs (s.atNext n words) n.isLt ha
  have hwipe : ((s.atNext n words).dataPokes s.mem n a bs).wipe = [] := hframe.engine_wipe
  rw [atNext_engine words n.isLt] at hws
  dsimp only
  have hregs : (((s.atNext n words).dataPokes s.mem n a bs).engine n).regs = (s.dev.engine n).regs := by rw [hws]; rfl
  have hpc : (((s.atNext n words).dataPokes s.mem n a bs).engine n).pc = (s.dev.engine n).pc + 4 * words := by rw [hws]; rfl
  refine ⟨fun c hc => ?_, hregs, hpc, ⟨fun b hb => ?_, rfl⟩,
    land_engineOnly ((setEngine_engineFrame n _ _).trans hframe)⟩
  · rw [← atNext_dataByte n.isLt words, ← dataPokes_dataByte n.isLt ha hc]
    obtain ⟨y, hy⟩ := Nat.exists_eq_add_of_le (dataAddr_lt n ((s.atNext n words).dataPokes s.mem n a bs) hc).1
    have hlt := (dataAddr_lt n ((s.atNext n words).dataPokes s.mem n a bs) hc).2
    have hin : inMemory (((s.atNext n words).dataPokes s.mem n a bs).dataAddr n c) = true := by
      rw [hy]; exact dataBase_inMemory n.isLt (by omega)
    exact land_byte hwipe hin
  · exact land_memByte hwipe (hstages (fun c hc => by cases hc)) (by omega)

end

/-! ## Felt transactions of an engine -/

/-- A transaction but for the begin of its handshake. -/
def Tx.unbegun (x : Tx) : Tx := { x with began := none }

/-- The device without its registers and Felt. -/
def Dev.sansFelt (d : Dev) : Dev := { d with regs := [], felt := .reset }

/-- The handshakes of other targets may begin: those of a Canvas bank, the queue and the count stay (R267). -/
structure Dev.Begins (d e : Dev) : Prop where
  rest : e = { d with felt := { d.felt with tags := e.felt.tags } }
  tags : ∀ j, (e.tag j).map Tx.unbegun = (d.tag j).map Tx.unbegun
  bank : ∀ j x, d.tag j = some x → (bankOf x.addr).isSome = true → e.tag j = some x

theorem Dev.Begins.refl (d : Dev) : d.Begins d := ⟨rfl, fun _ => rfl, fun _ _ h _ => h⟩

theorem Dev.Begins.trans {d e f : Dev} (h : d.Begins e) (h' : e.Begins f) : d.Begins f :=
  ⟨by rw [h'.rest, h.rest], fun j => (h'.tags j).trans (h.tags j), fun j x hx hb => h'.bank j x (h.bank j x hx hb) hb⟩

/-- The handshake of tag k begins at t. -/
def Dev.begun (k : Nat) (x : Tx) (t : Nat) (d : Dev) : Dev :=
  { d with felt := { d.felt with tags := d.felt.tags.setIfInBounds k (some { x with began := some t }) } }

theorem begun_begins {k : Nat} {x : Tx} {d : Dev} (t : Nat) (hk : k < 48) (hx : d.tag k = some x)
    (hb : (bankOf x.addr).isNone = true) : d.Begins (d.begun k x t) := by
  have hsame : (d.begun k x t).tag k = some { x with began := some t } := getD_setIfInBounds_same d.felt.tags _ none hk
  have hother {j : Nat} (h : j ≠ k) : (d.begun k x t).tag j = d.tag j := getD_setIfInBounds_ne d.felt.tags _ none h
  refine ⟨rfl, fun j => ?_, fun j y hy hbank => ?_⟩
  · by_cases hj : j = k
    · subst hj; rw [hsame, hx]; rfl
    · rw [hother hj]
  · have hj : j ≠ k := fun hj => by
      subst hj
      obtain rfl : x = y := Option.some.inj (hx.symm.trans hy)
      simp [Option.isNone_iff_eq_none.mp hb] at hbank
    exact (hother hj).trans hy

theorem Dev.Begins.each {f : Nat → Dev → Dev} {ks : List Nat} (h : ∀ k ∈ ks, ∀ x : Dev, x.Begins (f k x)) (d : Dev) :
    d.Begins (d.each f ks) := by
  induction ks generalizing d with
  | nil => exact .refl d
  | cons k ks ih => exact (h k List.mem_cons_self d).trans (ih (fun j hj => h j (List.mem_cons_of_mem _ hj)) _)

theorem beginAll_begins (t : Nat) (d : Dev) : d.Begins (d.beginAll t) := by
  refine Dev.Begins.each (fun k hk x => ?_) d
  split
  · next y hy =>
    split
    · next hdue =>
      simp only [Bool.and_eq_true] at hdue
      obtain ⟨⟨hb, -⟩, -⟩ := hdue
      exact begun_begins t (List.mem_range.mp hk) hy hb
    · exact .refl x
  · exact .refl x

/-- The transaction that a request puts on its tag (R255). -/
def Waiting.tx (w : Waiting) (t : Nat) (d : Dev) : Tx :=
  ⟨w.data, w.addr, match w.data with | some bs => bs.length | none => w.len, t, d.felt.issued, d.felt.issued, 0, false, none, [], none⟩

/-- The registers that show which tags are occupied. -/
def busyWords : List Nat := [FELT.TAG_BUSY0_BUSY.addr pFELT 0, FELT.TAG_BUSY1_BUSY.addr pFELT 0]

/-- A request that asks a bank anew counts its wait from zero. -/
def Dev.askedAnew (b : Nat) (w : Waiting) (d : Dev) : Dev := if (d.asks b w.port).isNone then d.freshWait b w.port else d

/-- The transaction stands on its tag and is counted. -/
def Dev.tagged (k : Nat) (x : Tx) (d : Dev) : Dev :=
  { d.setTag k (some x) with felt := { (d.setTag k (some x)).felt with issued := x.order + 1 } }

theorem takeTag_eq {k b : Nat} {w : Waiting} (t : Nat) (d : Dev) (hb : bankOf w.addr = some b) :
    d.takeTag k w t = ((d.askedAnew b w).tagged k (w.tx t d)).beginAll t := by
  have hissued : (d.askedAnew b w).felt.issued = d.felt.issued := by unfold Dev.askedAnew; split <;> rfl
  simp only [Dev.takeTag, hb]
  change Dev.beginAll t { (d.askedAnew b w).setTag k (some ⟨w.data, w.addr, _, t, (d.askedAnew b w).felt.issued,
    (d.askedAnew b w).felt.issued, 0, false, none, [], none⟩) with felt := { ((d.askedAnew b w).setTag k (some ⟨w.data, w.addr, _, t,
    (d.askedAnew b w).felt.issued, (d.askedAnew b w).felt.issued, 0, false, none, [], none⟩)).felt with
      issued := (d.askedAnew b w).felt.issued + 1 } } = _
  rw [hissued]
  rfl

theorem askedAnew_arbs (b : Nat) (w : Waiting) (d : Dev) :
    d.askedAnew b w = { d with felt := { d.felt with arbs := (d.askedAnew b w).felt.arbs } } := by
  unfold Dev.askedAnew
  split <;> rfl

theorem setTag_busy_frame (k : Nat) (x : Option Tx) (d : Dev) : Dev.Frame Dev.sansFelt (regsIn busyWords) d (d.setTag k x) := by
  have hput₀ (v : Nat) (e : Dev) : Dev.Frame Dev.sansFelt (regsIn busyWords) e (e.putAt pFELT FELT.TAG_BUSY0_BUSY 0 v) :=
    (putAt_frame v e (by decide)).mono (fun _ => rfl) (fun _ h => h)
  have hput₁ (v : Nat) (e : Dev) : Dev.Frame Dev.sansFelt (regsIn busyWords) e (e.putAt pFELT FELT.TAG_BUSY1_BUSY 0 v) :=
    (putAt_frame v e (by decide)).mono (fun _ => rfl) (fun _ h => h)
  have htags : Dev.Frame Dev.sansFelt (regsIn busyWords) d { d with felt := { d.felt with tags := d.felt.tags.setIfInBounds k x } } :=
    ⟨rfl, fun _ _ => rfl⟩
  exact (htags.trans (hput₀ _ _)).trans (hput₁ _ _)

theorem tagged_tag (k j : Nat) (x : Tx) (d : Dev) : (d.tagged k x).tag j = (d.setTag k (some x)).tag j := (rfl)

theorem tagged_frame (k : Nat) (x : Tx) (d : Dev) : Dev.Frame Dev.sansFelt (regsIn busyWords) d (d.tagged k x) :=
  (setTag_busy_frame k (some x) d).trans ⟨rfl, fun _ _ => rfl⟩

theorem Dev.Begins.frame {d e : Dev} (h : d.Begins e) (P : Nat → Bool) : Dev.Frame Dev.sansFelt P d e := by
  rw [h.rest]; exact ⟨rfl, fun _ _ => rfl⟩

/-- A request to a Canvas bank takes its tag; no more than its arbitration and the handshakes elsewhere change (R255). -/
structure Dev.Takes (k : Nat) (x : Tx) (d e : Dev) : Prop where
  tag : e.tag k = some x
  issued : e.felt.issued = d.felt.issued + 1
  queue : e.felt.queue = d.felt.queue
  others : ∀ j, j ≠ k → (e.tag j).map Tx.unbegun = (d.tag j).map Tx.unbegun
  frame : Dev.Frame Dev.sansFelt (regsIn busyWords) d e

theorem takeTag_takes {k : Nat} {w : Waiting} (t : Nat) (d : Dev) (hk : k < 48) (hb : (bankOf w.addr).isSome = true) :
    d.Takes k (w.tx t d) (d.takeTag k w t) := by
  obtain ⟨b, hbank⟩ := Option.isSome_iff_exists.mp hb
  rw [takeTag_eq t d hbank]
  have hbegins := beginAll_begins t ((d.askedAnew b w).tagged k (w.tx t d))
  have harbs := askedAnew_arbs b w d
  generalize (d.askedAnew b w) = d₁ at hbegins harbs ⊢
  generalize he : (d₁.tagged k (w.tx t d)).beginAll t = e at hbegins ⊢
  have htag₁ (j : Nat) : d₁.tag j = d.tag j := by rw [harbs]; rfl
  refine ⟨hbegins.bank k _ ?_ hb, ?_, ?_, fun j hj => ?_, ?_⟩
  · rw [tagged_tag, tag_setTag_same _ _ hk]
  · rw [hbegins.rest]; rfl
  · have hqueue : (d₁.setTag k (some (w.tx t d))).felt.queue = d.felt.queue := by rw [setTag_felt_queue, harbs]
    rw [hbegins.rest]; exact hqueue
  · rw [hbegins.tags, tagged_tag, tag_setTag_ne _ _ hj, htag₁]
  · have hframe₁ : Dev.Frame Dev.sansFelt (regsIn busyWords) d d₁ := by rw [harbs]; exact ⟨rfl, fun _ _ => rfl⟩
    exact (hframe₁.trans (tagged_frame k _ d₁)).trans (hbegins.frame _)

/-! ## CRD, CBR, CWR and CBW -/

theorem bankOf_inCanvas {a len : Nat} (hlen : len ≠ 0) (h : inCanvas a len = true) : (bankOf a).isSome = true := by
  simp only [inCanvas, Bool.and_eq_true, decide_eq_true_eq] at h
  obtain ⟨⟨hlo, hhi⟩, -⟩ := h
  have hin : (decide (0x10000000 ≤ a) && decide (a < 0x10100000)) = true := by
    simp only [Bool.and_eq_true, decide_eq_true_eq]; omega
  rw [bankOf, if_pos hin]
  rfl

theorem tagFor_lt {n k : Nat} {d : Dev} (hn : n < 15) (h : d.tagFor n = some k) : k < 48 := by
  have hmem := List.mem_of_find?_eq_some h
  simp only [List.mem_cons, List.not_mem_nil, or_false] at hmem
  omega

section
variable {n : Fin 15} {k : Nat} {s : State}

/-- A device that has taken a tag for engine n, landed. -/
theorem land_takes {x : Engine} {y : Tx} {e : Dev} (h : ((s.dev.begin 0).setEngine n x).Takes k y e)
    (hy : y = ⟨y.data, y.addr, y.len, s.dev.now, s.dev.felt.issued, s.dev.felt.issued, 0, false, none, [], none⟩) :
    (s.land 0 e).dev.engine n = x ∧ s.issues n k y.data y.addr y.len (s.land 0 e) := by
  obtain ⟨htag, hissued, hqueue, hothers, hframe⟩ := h
  refine ⟨(hframe.field (fun d => d.engine n) (fun _ => rfl)).trans (engine_setEngine_same x _ n.isLt), htag.trans (congrArg some hy),
    hissued, hqueue, hothers, fun j hj => (hframe.field (fun d => d.engine j) (fun _ => rfl)).trans (engine_setEngine_ne x _ hj),
    hframe.field Dev.triad (fun _ => rfl), hframe.field Dev.mp (fun _ => rfl), hframe.field Dev.pw (fun _ => rfl),
    hframe.field Dev.sense (fun _ => rfl), hframe.field Dev.acq (fun _ => rfl), hframe.field Dev.prec (fun _ => rfl),
    hframe.field Dev.safe (fun _ => rfl), hframe.field Dev.bus (fun _ => rfl), hframe.field Dev.chain (fun _ => rfl),
    hframe.field Dev.boot (fun _ => rfl), fun r hr _ => ?_, land_memSame (hframe.field Dev.wr (fun _ => rfl))
      (hframe.field Dev.wipe (fun _ => rfl))⟩
  rw [land_reg, hframe.reg r (by simpa [regsIn, busyWords] using hr)]
  rfl

/-- A request that engine n issues on a free tag of its port, its record x. -/
theorem land_issues {data : Option (List Byte)} {a len : Nat} (x : Engine) (hk : s.dev.tagFor n = some k)
    (hbank : (bankOf a).isSome = true) (hlen : ∀ bs, data = some bs → bs.length = len) :
    let s' := s.land 0 (((s.dev.begin 0).setEngine n x).takeTag k ⟨n, data, a, len⟩ s.dev.now)
    s'.dev.engine n = x ∧ s.issues n k data a len s' := by
  have htx : (⟨n, data, a, len⟩ : Waiting).tx s.dev.now ((s.dev.begin 0).setEngine n x) =
      ⟨data, a, len, s.dev.now, s.dev.felt.issued, s.dev.felt.issued, 0, false, none, [], none⟩ := by
    cases data with
    | none => rfl
    | some bs => rw [← hlen bs rfl]; rfl
  have htakes := takeTag_takes (w := ⟨n, data, a, len⟩) s.dev.now ((s.dev.begin 0).setEngine n x) (tagFor_lt n.isLt hk) hbank
  rw [htx] at htakes
  exact land_takes htakes rfl

theorem issueRead_issues {a len : Nat} (words : Nat) (dest : ReadDest) (hlen : len ≠ 0) (hp : (s.dev.engine n).pend = [])
    (hk : s.dev.tagFor n = some k) : (s.atNext n words).issueRead n dest a len =
      .ok (((s.dev.begin 0).setEngine n { (s.dev.engine n).past words with pend := [⟨dest, len, s.dev.felt.issued, none⟩] }).takeTag k
        ⟨n, none, a, len⟩ s.dev.now) := by
  have hk' : (s.atNext n words).tagFor n = some k := hk
  have hk'' : ((s.dev.begin 0).setEngine n { (s.dev.engine n).past words with
    pend := [⟨dest, len, s.dev.felt.issued, none⟩] }).tagFor n = some k := hk
  have hpast : ((s.dev.engine n).past words).pend = [] := hp
  have hnow : (s.atNext n words).now = s.dev.now := Nat.max_zero _
  have hissued : (s.atNext n words).felt.issued = s.dev.felt.issued := rfl
  simp only [Dev.issueRead, hlen, if_false, hk', Option.isNone_some, Bool.false_eq_true, hnow, hissued]
  rw [atNext_engine _ n.isLt, hpast, atNext_eq, setEngine_setEngine, Dev.feltIssue, List.nil_append, hk'']

theorem issueWrite_issues {a : Nat} {bs : List Byte} (words : Nat) (hbs : bs ≠ []) (hk : s.dev.tagFor n = some k) :
    (s.atNext n words).issueWrite n a bs = .ok (((s.dev.begin 0).setEngine n ((s.dev.engine n).past words)).takeTag k
      ⟨n, some bs, a, bs.length⟩ s.dev.now) := by
  have hk' : (s.atNext n words).tagFor n = some k := hk
  have hnow : (s.atNext n words).now = s.dev.now := Nat.max_zero _
  simp only [Dev.issueWrite, List.isEmpty_iff, hbs, if_false, hk', Option.isNone_some, Bool.false_eq_true, hnow, Dev.feltIssue]
  rw [atNext_eq]

theorem issueRead_stalls {a len : Nat} (words : Nat) (dest : ReadDest) (hlen : len ≠ 0) (hk : s.dev.tagFor n = none) :
    (s.atNext n words).issueRead n dest a len = .error .stall := by
  have hk' : (s.atNext n words).tagFor n = none := hk
  simp only [Dev.issueRead, hlen, if_false, hk', Option.isNone_none, if_true]

theorem issueWrite_stalls {a : Nat} {bs : List Byte} (words : Nat) (hbs : bs ≠ []) (hk : s.dev.tagFor n = none) :
    (s.atNext n words).issueWrite n a bs = .error .stall := by
  have hk' : (s.atNext n words).tagFor n = none := hk
  simp only [Dev.issueWrite, List.isEmpty_iff, hbs, if_false, hk', Option.isNone_none, if_true]

theorem crd_answers {x : Src} (rd : Fin 32) (hp : (s.dev.engine n).pend = [])
    (hin : inCanvas ((s.vals n [x]).getD 0 0).toNat 4 = true) : s.answers n [x] (.crd n rd x)
      ((s.atNext n (srcWords [x])).issueRead n (.word rd) ((s.vals n [x]).getD 0 0).toNat 4) := by
  refine ⟨_, rfl, ?_⟩
  rw [vals_one n.isLt, List.getD_cons_zero] at hin ⊢
  rw [atNext_src _ n.isLt hp]
  have hsame : ((s.atNext n (srcWords [x])).engine n).wrote rd ((s.atNext n (srcWords [x])).engine n).regs[rd] =
      (s.atNext n (srcWords [x])).engine n := by
    simp only [Engine.wrote, atNext_pend _ n.isLt hp, List.filter_nil, Fin.getElem_fin, Vector.set_getElem_self]
    rw [← atNext_pend (srcWords [x]) n.isLt hp]
  simp only [hin, if_true, setG_eq, hsame, setEngine_self _ n.isLt]

theorem cbr_answers {x y : Src} {len : Fin 65} (hp : (s.dev.engine n).pend = [])
    (hdesc : 0x20 ≤ ((s.vals n [x, y]).getD 0 0).toNat) (hdata : ((s.vals n [x, y]).getD 0 0).toNat + len ≤ 0x3800)
    (hin : inCanvas ((s.vals n [x, y]).getD 1 0).toNat len = true) : s.answers n [x, y] (.cbr n x y len)
      ((s.atNext n (srcWords [x, y])).issueRead n (.block ((s.vals n [x, y]).getD 0 0).toNat)
        ((s.vals n [x, y]).getD 1 0).toNat len) := by
  refine ⟨_, rfl, ?_⟩
  simp only [vals_two n.isLt hp, List.getD_cons_zero, List.getD_cons_succ] at hdesc hdata hin ⊢
  rw [atNext_src _ n.isLt hp, atNext_src _ n.isLt hp]
  have hwin : inData (((s.dev.engine n).past (srcWords [x, y])).src x).1.toNat len = true := by simpa [inData] using hdata
  simp only [hwin, hin, Bool.not_true, Bool.or_false, Bool.false_eq_true, if_false, Nat.not_lt.mpr hdesc,
    awaits_of_no_pend _ (atNext_pend _ n.isLt hp), take_of_no_pend _ n.isLt (atNext_pend _ n.isLt hp)]

theorem cwr_answers {x y : Src} (hp : (s.dev.engine n).pend = [])
    (hin : inCanvas ((s.vals n [x, y]).getD 0 0).toNat 4 = true) : s.answers n [x, y] (.cwr n x y)
      ((s.atNext n (srcWords [x, y])).issueWrite n ((s.vals n [x, y]).getD 0 0).toNat
        (wordBytes ((s.vals n [x, y]).getD 1 0))) := by
  refine ⟨_, rfl, ?_⟩
  simp only [vals_two n.isLt hp, List.getD_cons_zero, List.getD_cons_succ] at hin ⊢
  rw [atNext_src _ n.isLt hp, atNext_src _ n.isLt hp]
  simp only [hin, if_true]

theorem cbw_answers {x y : Src} {len : Fin 65} (hp : (s.dev.engine n).pend = [])
    (hin : inCanvas ((s.vals n [x, y]).getD 0 0).toNat len = true)
    (hdata : ((s.vals n [x, y]).getD 1 0).toNat + len ≤ 0x3800) : s.answers n [x, y] (.cbw n x y len)
      ((s.atNext n (srcWords [x, y])).issueWrite n ((s.vals n [x, y]).getD 0 0).toNat
        ((List.range len).map (fun j => (s.dev.begin 0).dataByte s.mem n (((s.vals n [x, y]).getD 1 0).toNat + j)))) := by
  refine ⟨_, rfl, ?_⟩
  simp only [vals_two n.isLt hp, List.getD_cons_zero, List.getD_cons_succ] at hin hdata ⊢
  rw [atNext_src _ n.isLt hp, atNext_src _ n.isLt hp]
  have hwin : inData (((s.dev.engine n).past (srcWords [x, y])).src y).1.toNat len = true := by simpa [inData] using hdata
  simp only [hin, hwin, Bool.and_self, if_true, Bool.false_eq_true, if_false, awaits_of_no_pend _ (atNext_pend _ n.isLt hp),
    take_of_no_pend _ n.isLt (atNext_pend _ n.isLt hp), atNext_dataByte n.isLt]

end

/-! ## LWR -/

theorem Engine.Took.staged {xs : List Src} {e e' : Engine} (h : e.Took xs e') : e'.staged = e.staged := by
  simpa [Engine.sansLoads] using congrArg Engine.staged h.rest

/-- A write to an owned leg is counted and reported with the port that made it (R176). -/
theorem foreignWrite_reports {n port : Nat} (d : Dev) (hport : port < 2 ^ 8) :
    (d.foreignWrite n port).getAt (pLEG n) LEG.IRQ_RAW_FOREIGN_WRITE 0 = 1 ∧
      (d.foreignWrite n port).getAt (pLEG n) LEG.FAULT_CODE_SOURCE 0 = port := by
  have hirq (f : FieldSpec) (hf : f.off = 0x024 ∧ f.stride = 4) :
      LEG.IRQ_RAW_FOREIGN_WRITE.addr (pLEG n) 0 ≠ f.addr (pLEG n) 0 := by
    simp [FieldSpec.addr, LEG.IRQ_RAW_FOREIGN_WRITE, hf]
  simp only [Dev.foreignWrite, Dev.put_eq, Dev.raise_eq]
  refine ⟨?_, ?_⟩
  · rw [getAt_putAt_word _ _ (hirq _ ⟨rfl, rfl⟩), getAt_putAt_word _ _ (hirq _ ⟨rfl, rfl⟩), getAt_putAt_same _ _ _ _ _ (by decide)]
    rfl
  · rw [getAt_putAt_same _ _ _ _ _ (by decide)]
    exact Nat.mod_eq_of_lt hport

theorem foreignWrite_regs (n port : Nat) (d : Dev) : Dev.Frame Dev.sansRegs (fun _ => true) d (d.foreignWrite n port) :=
  (((putAt_frame _ _ rfl).trans (putAt_frame _ _ rfl)).trans (putAt_frame _ _ rfl)).trans (putAt_frame _ _ rfl)

/-- What a leg write of engine n comes to, its record x, where it lists the leg, where another owns it, and else. -/
def Dev.legWritten (n : Nat) (w v : Word) (x : Engine) (d : Dev) : Dev :=
  if (d.engLegs n).contains (w.toNat % 64) then
    d.setEngine n { x with staged := x.staged ++ [⟨w.toNat % 64, w.toNat / 256 % 4, v⟩] }
  else if w.toNat % 64 < 48 && (d.legOwner (w.toNat % 64)).isSome then (d.setEngine n x).foreignWrite (w.toNat % 64) n
  else d.setEngine n x

section
variable {n : Fin 15} {s : State}

theorem lwr_answers (x y : Fin 32) : s.answers n [.reg x, .reg y] (.lwr n x y)
    (.ok ((s.dev.begin 0).legWritten n ((s.vals n [.reg x, .reg y]).getD 0 0) ((s.vals n [.reg x, .reg y]).getD 1 0)
      (((s.dev.engine n).past 1).srcs [.reg x, .reg y]).2)) := by
  refine ⟨_, rfl, ?_⟩
  have hwords : srcWords [.reg x, .reg y] = 1 := rfl
  rw [vals_eq n.isLt, hwords, srcs_cons, srcs_cons, List.getD_cons_zero, List.getD_cons_succ, List.getD_cons_zero,
    src_eq n.isLt, atNext_engine _ n.isLt, atNext_eq, setEngine_setEngine]
  dsimp only
  rw [src_eq n.isLt, engine_setEngine_same _ _ n.isLt, setEngine_setEngine]
  have hlegs (z : Engine) : ((s.dev.begin 0).setEngine n z).engLegs n = (s.dev.begin 0).engLegs n := rfl
  have howner (z : Engine) (l : Nat) : ((s.dev.begin 0).setEngine n z).legOwner l = (s.dev.begin 0).legOwner l := rfl
  unfold Dev.legWritten
  simp only [hlegs, howner, engine_setEngine_same _ _ n.isLt, setEngine_setEngine]
  split
  · rfl
  · split <;> rfl

variable (w v : Word) (x : Engine)

theorem land_legWritten_staged (h : (s.dev.engLegs n).contains (w.toNat % 64) = true) :
    (s.land 0 ((s.dev.begin 0).legWritten n w v x)).dev.engine n =
        { x with staged := x.staged ++ [⟨w.toNat % 64, w.toNat / 256 % 4, v⟩] } ∧
      s.engineOnly n (s.land 0 ((s.dev.begin 0).legWritten n w v x)) ∧
      s.memSame (s.land 0 ((s.dev.begin 0).legWritten n w v x)) := by
  have h' : ((s.dev.begin 0).engLegs n).contains (w.toNat % 64) = true := h
  rw [Dev.legWritten, if_pos h']
  exact ⟨engine_setEngine_same _ _ n.isLt, land_engineOnly (setEngine_engineFrame n _ _), land_memSame rfl rfl⟩

theorem land_legWritten_foreign (h : (s.dev.engLegs n).contains (w.toNat % 64) = false) (hleg : w.toNat % 64 < 48)
    (howned : (s.dev.legOwner (w.toNat % 64)).isSome = true) :
    s.land 0 ((s.dev.begin 0).legWritten n w v x) = s.land 0 (((s.dev.begin 0).setEngine n x).foreignWrite (w.toNat % 64) n) := by
  have h' : ((s.dev.begin 0).engLegs n).contains (w.toNat % 64) = false := h
  have howned' : ((s.dev.begin 0).legOwner (w.toNat % 64)).isSome = true := howned
  simp only [Dev.legWritten, h', Bool.false_eq_true, if_false, hleg, howned', decide_true, Bool.and_self, if_true]

theorem land_legWritten_none (h : (s.dev.engLegs n).contains (w.toNat % 64) = false)
    (hfree : ¬(w.toNat % 64 < 48 ∧ (s.dev.legOwner (w.toNat % 64)).isSome = true)) :
    s.land 0 ((s.dev.begin 0).legWritten n w v x) = s.land 0 ((s.dev.begin 0).setEngine n x) := by
  have h' : ((s.dev.begin 0).engLegs n).contains (w.toNat % 64) = false := h
  have howner : (s.dev.begin 0).legOwner (w.toNat % 64) = s.dev.legOwner (w.toNat % 64) := rfl
  have hfree' : ¬((decide (w.toNat % 64 < 48) && ((s.dev.begin 0).legOwner (w.toNat % 64)).isSome) = true) := by
    simpa [howner] using hfree
  rw [Dev.legWritten, if_neg (by rw [h']; exact Bool.false_ne_true), if_neg hfree']

/-- A change of registers besides the record of engine n, landed. -/
theorem land_regs_engine {e : Dev} (h : Dev.Frame Dev.sansRegs (fun _ => true) ((s.dev.begin 0).setEngine n x) e) :
    (s.land 0 e).dev.engine n = x ∧ (s.land 0 e).dev.pw = s.dev.pw ∧ s.memSame (s.land 0 e) :=
  ⟨(h.field (fun d => d.engine n) (fun _ => rfl)).trans (engine_setEngine_same x _ n.isLt), h.field Dev.pw (fun _ => rfl),
    land_memSame (h.field Dev.wr (fun _ => rfl)) (h.field Dev.wipe (fun _ => rfl))⟩

theorem land_foreignWrite (l : Nat) :
    let s' := s.land 0 (((s.dev.begin 0).setEngine n x).foreignWrite l n)
    s'.dev.engine n = x ∧ s'.dev.flag (pLEG l) LEG.IRQ_RAW_FOREIGN_WRITE = true ∧
      s'.dev.get (pLEG l) LEG.FAULT_CODE_SOURCE = n ∧ s'.dev.pw = s.dev.pw ∧ s.memSame s' := by
  obtain ⟨hirq, hsource⟩ := foreignWrite_reports (n := l) (port := n) ((s.dev.begin 0).setEngine n x) (by omega)
  obtain ⟨hengine, hpw, hmem⟩ := land_regs_engine x (foreignWrite_regs l n ((s.dev.begin 0).setEngine n x))
  exact ⟨hengine, by rw [Dev.flag_eq, land_getAt, hirq]; rfl, by rw [Dev.get_eq, land_getAt, hsource], hpw, hmem⟩

end

/-- LWR (R176): staged, foreign or nothing. -/
theorem lwr_writes {n : Fin 15} {x y : Fin 32} {s : State} (h : s.fetches n [.reg x, .reg y]) :
    let w := (s.vals n [.reg x, .reg y]).getD 0 0
    let leg := w.toNat % 64
    ∃ s', exec (.lwr n x y) s = .next s' ∧ (s'.dev.engine n).pc = (s.dev.engine n).pc + 4 ∧
      ((s.dev.engLegs n).contains leg = true → (s'.dev.engine n).staged = (s.dev.engine n).staged ++
        [⟨leg, w.toNat / 256 % 4, (s.vals n [.reg x, .reg y]).getD 1 0⟩] ∧ s.engineOnly n s') ∧
      ((s.dev.engLegs n).contains leg = false → leg < 48 → (s.dev.legOwner leg).isSome = true →
        s'.dev.flag (pLEG leg) LEG.IRQ_RAW_FOREIGN_WRITE = true ∧ s'.dev.get (pLEG leg) LEG.FAULT_CODE_SOURCE = n ∧
        s'.dev.pw = s.dev.pw) ∧
      ((s.dev.engLegs n).contains leg = false → ¬(leg < 48 ∧ (s.dev.legOwner leg).isSome = true) → s.engineOnly n s') ∧
      s.memSame s' := by
  dsimp only
  have htook := srcs_took [.reg x, .reg y] ((s.dev.engine n).past 1)
  have hnext := answers_done h (lwr_answers x y)
  generalize (s.vals n [.reg x, .reg y]).getD 0 0 = w at hnext ⊢
  generalize (s.vals n [.reg x, .reg y]).getD 1 0 = v at hnext ⊢
  generalize (((s.dev.engine n).past 1).srcs [.reg x, .reg y]).2 = e at hnext htook
  refine ⟨_, hnext, ?_⟩
  have hpc : e.pc = (s.dev.engine n).pc + 4 := htook.pc
  have hstaged : e.staged = (s.dev.engine n).staged := htook.staged
  by_cases hlisted : (s.dev.engLegs n).contains (w.toNat % 64) = true
  · obtain ⟨hengine, honly, hmem⟩ := land_legWritten_staged (n := n) (s := s) w v e hlisted
    rw [hengine]
    exact ⟨hpc, fun _ => ⟨by rw [hstaged], honly⟩, fun hno => absurd hlisted (by rw [hno]; exact Bool.false_ne_true),
      fun hno => absurd hlisted (by rw [hno]; exact Bool.false_ne_true), hmem⟩
  · have hlisted' := Bool.eq_false_iff.mpr hlisted
    by_cases hforeign : w.toNat % 64 < 48 ∧ (s.dev.legOwner (w.toNat % 64)).isSome = true
    · obtain ⟨hengine, hirq, hsource, hpw, hmem⟩ := land_foreignWrite (n := n) (s := s) e (w.toNat % 64)
      rw [land_legWritten_foreign w v e hlisted' hforeign.1 hforeign.2, hengine]
      exact ⟨hpc, fun hyes => absurd hyes hlisted, fun _ _ _ => ⟨hirq, hsource, hpw⟩, fun _ hfree => absurd hforeign hfree, hmem⟩
    · rw [land_legWritten_none w v e hlisted' hforeign]
      exact ⟨(congrArg Engine.pc (engine_setEngine_same e _ n.isLt)).trans hpc, fun hyes => absurd hyes hlisted,
        fun _ hleg howned => absurd ⟨hleg, howned⟩ hforeign, fun _ _ => land_engineOnly (setEngine_engineFrame n _ _),
        land_memSame rfl rfl⟩

/-! ## The obligation -/

/-- With both tags of its port occupied an instruction that issues a transaction changes nothing (R255). -/
theorem occupied_stalls {n : Fin 15} {rd : Fin 32} {x y : Src} {len : Fin 65} {s : State} {c : Instr} {xs : List Src}
    (hc : (c, xs) ∈ [(Instr.crd n rd x, [x]), (.cbr n x y len, [x, y]), (.cwr n x y, [x, y]), (.cbw n x y len, [x, y])])
    (h : s.fetches n xs) (hp : (s.dev.engine n).pend = []) (hk : s.dev.tagFor n = none) (hlen : len.val ≠ 0)
    (hword : c = .crd n rd x ∨ c = .cwr n x y → inCanvas ((s.vals n xs).getD 0 0).toNat 4 = true)
    (hcbr : c = .cbr n x y len → inCanvas ((s.vals n xs).getD 1 0).toNat len = true ∧ 0x20 ≤ ((s.vals n xs).getD 0 0).toNat ∧
      ((s.vals n xs).getD 0 0).toNat + len ≤ 0x3800)
    (hcbw : c = .cbw n x y len → inCanvas ((s.vals n xs).getD 0 0).toNat len = true ∧
      ((s.vals n xs).getD 1 0).toNat + len ≤ 0x3800) :
    ∃ s', exec c s = .next s' ∧ s'.dev.units = s.dev.units ∧ s.regsSame s' ∧ s.memSame s' := by
  simp only [List.mem_cons, List.not_mem_nil, or_false, Prod.mk.injEq] at hc
  rcases hc with ⟨rfl, rfl⟩ | ⟨rfl, rfl⟩ | ⟨rfl, rfl⟩ | ⟨rfl, rfl⟩
  · have hanswers := crd_answers rd hp (hword (.inl rfl))
    rw [issueRead_stalls _ _ (by decide) hk] at hanswers
    exact answers_stall h hanswers
  · obtain ⟨hin, hdesc, hdata⟩ := hcbr rfl
    have hanswers := cbr_answers hp hdesc hdata hin
    rw [issueRead_stalls _ _ hlen hk] at hanswers
    exact answers_stall h hanswers
  · have hanswers := cwr_answers hp (hword (.inr rfl))
    rw [issueWrite_stalls _ (by simp [wordBytes]) hk] at hanswers
    exact answers_stall h hanswers
  · obtain ⟨hin, hdata⟩ := hcbw rfl
    have hanswers := cbw_answers hp hin hdata
    rw [issueWrite_stalls _ (by simpa using hlen) hk] at hanswers
    exact answers_stall h hanswers

/-- Settles O23: past its operands each instruction answers a load, bytes written to data memory, a request or a leg write. -/
theorem memoryInstructionsMoveBytes : Obligations.MemoryInstructionsMoveBytes := by
  unfold Obligations.MemoryInstructionsMoveBytes
  refine ⟨fun n rd x s h hp => ⟨fun ha => ?_, fun ha => ?_⟩, fun n x y s h hp hdesc ha => ?_,
    fun n rd x k s h hp hk hin => ?_, fun n x y len k s h hp hk hlen hdesc hdata hin => ?_,
    fun n x y k s h hp hk hin => ?_, fun n x y len k s h hp hk hlen hin hdata => ?_,
    fun n rd x y len s c xs hc h hp hk hlen hword hcbr hcbw => occupied_stalls hc h hp hk hlen hword hcbr hcbw,
    fun n x y s h => lwr_writes h⟩
  · exact ⟨_, answers_done h (ld_data_answers rd hp ha), land_loads _ _ _⟩
  · exact ⟨_, answers_done h (ld_prog_answers rd hp ha), land_loads _ _ _⟩
  · obtain ⟨hbytes, hregs, hpc, hmem, honly⟩ := land_dataPokes (n := n) (s := s) (bs := wordBytes ((s.vals n [x, y]).getD 1 0))
      (srcWords [x, y]) ha
    have hlen : (wordBytes ((s.vals n [x, y]).getD 1 0)).length = 4 := rfl
    refine ⟨_, answers_done h (st_answers hp hdesc ha), fun j hj => ?_, fun b hb hout => ?_, hregs, hpc, hmem, honly⟩
    · rw [hbytes _ (by omega), if_pos (by omega), Nat.add_sub_cancel_left]
    · rw [hbytes _ hb, if_neg (by omega)]
  · have hanswers := crd_answers rd hp hin
    rw [issueRead_issues _ _ (by decide) hp hk] at hanswers
    exact ⟨_, answers_done h hanswers, land_issues _ hk (bankOf_inCanvas (by decide) hin) (fun _ hbs => by cases hbs)⟩
  · have hanswers := cbr_answers hp hdesc hdata hin
    rw [issueRead_issues _ _ hlen hp hk] at hanswers
    exact ⟨_, answers_done h hanswers, land_issues _ hk (bankOf_inCanvas hlen hin) (fun _ hbs => by cases hbs)⟩
  · have hanswers := cwr_answers hp hin
    rw [issueWrite_issues _ (by simp [wordBytes]) hk] at hanswers
    exact ⟨_, answers_done h hanswers, land_issues _ hk (bankOf_inCanvas (by decide) hin) (fun _ hbs => by cases hbs; rfl)⟩
  · have hanswers := cbw_answers hp hin hdata
    rw [issueWrite_issues _ (by simpa using hlen) hk, List.length_map, List.length_range] at hanswers
    exact ⟨_, answers_done h hanswers, land_issues _ hk (bankOf_inCanvas hlen hin) (fun _ hbs => by cases hbs; simp)⟩

end Sys2Proof.Machine
end

section
/-!
SUPPORT. The group fault (R218): it trips the group and reports GFAULT, and what it settles afterwards undoes neither.
-/
namespace Sys2Proof.Machine

/-! ## What it may change -/

theorem groupOf_lt {n g : Nat} {d : Dev} (h : d.groupOf n = some g) : g < 4 := List.mem_range.mp (List.mem_of_find?_eq_some h)

theorem putAt_power_frame {p : Nat} {f : FieldSpec} {i : Nat} (v : Nat) (d : Dev) (hp : powerPage p = true)
    (hf : f.off + i * f.stride < 0x1000) : d.PowerFrame (d.putAt p f i v) := (putAt_page_frame v d hp hf).ofRegs

/-- The events of a group trip. -/
def Dev.grpNoted (g cause : Nat) (d : Dev) : Dev :=
  let d := if cause = 0x10 then ((d.raise (pGRP g) GRP.IRQ_RAW_MULTI_SC).count (pGRP g) GRP.GCNT_MULTI) else d
  if cause = 0x12 then d.raise (pGRP g) GRP.IRQ_RAW_GFAULT else d

/-- What a group trip shows in the group's registers and on its legs. -/
def Dev.grpShown (g cause leg t : Nat) (d : Dev) : Dev :=
  let d := d.put (pGRP g) GRP.FAULT_CODE_CAUSE cause
  let d := d.put (pGRP g) GRP.FAULT_CODE_LEG leg
  let d := d.put (pGRP g) GRP.GTRIP_STAMP (d.stampOf t).toNat
  let d := d.count (pGRP g) GRP.GCNT_TRIPS
  let d := d.raise (pGRP g) GRP.IRQ_RAW_GROUP_OFF
  d.markHeld 0x18 (d.groupLegs g)

/-- The latch of a group after a trip. -/
def Group.after (cause : Nat) (srcs : List TripSrc) (t : Nat) (x : Group) : Group :=
  if x.tripped then
    { x with multiSc := x.multiSc || decide (cause = 0x10), sources := srcs ++ x.sources,
             lastReg := if srcs.isEmpty then t else x.lastReg }
  else
    { x with tripped := true, multiSc := x.multiSc || decide (cause = 0x10), cause := cause, regAt := t, lastReg := t, sources := srcs }

theorem Group.after_tripped (cause : Nat) (srcs : List TripSrc) (t : Nat) (x : Group) : (x.after cause srcs t).tripped = true := by
  unfold Group.after
  split
  · assumption
  · rfl

/-- A group trip notes its event, sets the latch and, where it was not set, shows it. -/
theorem grpTrip_eq (g cause leg : Nat) (srcs : List TripSrc) (t : Nat) (d : Dev) : d.grpTrip g cause leg srcs t =
    (let e := (d.grpNoted g cause).setGrp g ((d.grp g).after cause srcs t)
     if (d.grp g).tripped then e else e.grpShown g cause leg t) := by
  by_cases h : (d.grp g).tripped = true
  · simp only [Group.after, h, if_true]
    simp only [Dev.grpTrip, h, if_true]
    rfl
  · simp only [Group.after, h]
    simp only [Dev.grpTrip, h]
    rfl

section
variable {g : Nat} (hg : g < 4)
include hg

theorem putGrp_frame (f : FieldSpec) (v : Nat) (d : Dev) (hf : f.off + 0 * f.stride < 0x1000) :
    d.PowerFrame (d.putAt (pGRP g) f 0 v) := putAt_power_frame v d (powerPage_grp hg) hf

theorem grpNoted_frame (cause : Nat) (d : Dev) : d.PowerFrame (d.grpNoted g cause) := by
  have hmulti : d.PowerFrame (if cause = 0x10 then (d.raise (pGRP g) GRP.IRQ_RAW_MULTI_SC).count (pGRP g) GRP.GCNT_MULTI else d) :=
    .ite (fun _ => (putGrp_frame hg _ _ _ (by decide)).trans (putGrp_frame hg GRP.GCNT_MULTI _ _ (by decide)))
      (fun _ => .refl _ _ _)
  exact hmulti.trans (.ite (fun _ => putGrp_frame hg _ 1 _ (by decide)) (fun _ => .refl _ _ _))

theorem grpShown_frame (cause leg t : Nat) (d : Dev) : d.PowerFrame (d.grpShown g cause leg t) := by
  refine .trans ?_ ((markHeld_frame _ (fun n hn => List.mem_range.mp (List.mem_filter.mp hn).1) _).ofRegs)
  refine .trans ?_ (putGrp_frame hg _ _ _ (by decide))
  refine .trans ?_ (putGrp_frame hg GRP.GCNT_TRIPS _ _ (by decide))
  refine .trans ?_ (putGrp_frame hg _ _ _ (by decide))
  exact (putGrp_frame hg _ _ _ (by decide)).trans (putGrp_frame hg _ _ _ (by decide))

theorem grpTrip_frame (cause leg : Nat) (srcs : List TripSrc) (t : Nat) (d : Dev) :
    d.PowerFrame (d.grpTrip g cause leg srcs t) := by
  have hset : d.PowerFrame ((d.grpNoted g cause).setGrp g ((d.grp g).after cause srcs t)) :=
    (grpNoted_frame hg cause d).trans (setGrp_frame _ _ _)
  rw [grpTrip_eq]
  exact .ite (fun _ => hset) (fun _ => hset.trans (grpShown_frame hg cause leg t _))

end

theorem escDevice_frame {g : Nat} (hg : g < 4) (cause : Nat) (srcs : List TripSrc) (t : Nat) (d : Dev) :
    d.PowerFrame (d.escDevice g cause srcs t) :=
  (putAt_power_frame _ _ (powerPage_grp hg) (by decide)).trans ((devTrip_frame _ _ _ _ _).mono (fun _ => rfl) (fun _ ha => ha))

theorem gfault_frame {g : Nat} (hg : g < 4) (t : Nat) (d : Dev) : d.PowerFrame (d.gfault g t) :=
  ((grpTrip_frame hg _ _ _ t d).trans (.ite (fun _ => escDevice_frame hg _ _ t _) (fun _ => .refl _ _ _))).trans (settle_frame t _)

/-! ## What it leaves of a fault -/

/-- From d to e group g keeps a trip that is set, and a GFAULT that is reported. -/
structure Dev.KeepsFault (g : Nat) (d e : Dev) : Prop where
  tripped : (d.grp g).tripped = true → (e.grp g).tripped = true
  shown : d.getAt (pGRP g) GRP.IRQ_RAW_GFAULT 0 = 1 → e.getAt (pGRP g) GRP.IRQ_RAW_GFAULT 0 = 1

namespace Dev.KeepsFault

variable {g : Nat} {d e f : Dev}

theorem refl (g : Nat) (d : Dev) : d.KeepsFault g d := ⟨id, id⟩

theorem trans (h : d.KeepsFault g e) (h' : e.KeepsFault g f) : d.KeepsFault g f :=
  ⟨h'.tripped ∘ h.tripped, h'.shown ∘ h.shown⟩

theorem ite {c : Prop} [Decidable c] {e₁ e₂ : Dev} (h₁ : c → d.KeepsFault g e₁) (h₂ : ¬c → d.KeepsFault g e₂) :
    d.KeepsFault g (if c then e₁ else e₂) := by
  split
  · exact h₁ ‹_›
  · exact h₂ ‹_›

theorem each {α : Type} {f : α → Dev → Dev} {l : List α} (h : ∀ a ∈ l, ∀ x : Dev, x.KeepsFault g (f a x)) (d : Dev) :
    d.KeepsFault g (d.each f l) := by
  induction l generalizing d with
  | nil => exact refl g d
  | cons a l ih => exact (h a List.mem_cons_self d).trans (ih (fun b hb => h b (List.mem_cons_of_mem _ hb)) _)

end Dev.KeepsFault

section
variable {g : Nat}

theorem put_keepsFault {p : Nat} {f : FieldSpec} (v : Nat) (d : Dev)
    (hf : (f.off ≠ 0x010 ∧ f.off < 0x1000) ∨ (f.fits = true ∧ f.apart GRP.IRQ_RAW_GFAULT = true)) :
    d.KeepsFault g (d.putAt p f 0 v) := by
  refine ⟨id, fun h => ?_⟩
  rcases hf with ⟨hoff, hlt⟩ | ⟨hfits, hapart⟩
  · rwa [getAt_putAt_word]
    simp only [FieldSpec.addr, GRP.IRQ_RAW_GFAULT]
    omega
  · rwa [getAt_putAt_apart _ _ hfits hapart]

theorem setGrp_keepsFault {j : Nat} {x : Group} (d : Dev) (hx : (d.grp j).tripped = true → x.tripped = true) :
    d.KeepsFault g (d.setGrp j x) := by
  refine ⟨fun h => ?_, id⟩
  by_cases hj : g = j
  · subst hj
    by_cases hlt : g < 4
    · rw [grp_setGrp_same _ _ hlt]; exact hx h
    · exact absurd h (by simp [Dev.grp, Array.getD, hlt, Group.reset])
  · rwa [grp_setGrp_ne _ _ hj]

theorem markHeld_keepsFault (cause : Nat) (legs : List Nat) (d : Dev) : d.KeepsFault g (d.markHeld cause legs) :=
  .each (fun _ _ _ => .ite (fun _ => .refl _ _)
    (fun _ => (put_keepsFault _ _ (by decide)).trans (put_keepsFault _ _ (by decide)))) d

theorem devTrip_keepsFault (cause j : Nat) (srcs : List TripSrc) (t : Nat) (d : Dev) :
    d.KeepsFault g (d.devTrip cause j srcs t) := by
  refine .ite (fun _ => ⟨id, id⟩) (fun _ => ?_)
  refine .trans ?_ (markHeld_keepsFault _ _ _)
  refine .trans ?_ (put_keepsFault _ _ (by decide))
  refine .trans ?_ (put_keepsFault _ _ (by decide))
  refine .trans ?_ (put_keepsFault _ _ (by decide))
  refine .trans ?_ (put_keepsFault _ _ (by decide))
  exact ⟨id, id⟩

theorem escDevice_keepsFault (j cause : Nat) (srcs : List TripSrc) (t : Nat) (d : Dev) :
    d.KeepsFault g (d.escDevice j cause srcs t) := (put_keepsFault _ d (by decide)).trans (devTrip_keepsFault _ _ _ _ _)

theorem settleLeg_keepsFault (t n : Nat) (d : Dev) : d.KeepsFault g (d.settleLeg t n) := by
  obtain ⟨h, -⟩ | ⟨x, h, -⟩ := settleLeg_cases t n d
  · rw [h]; exact .refl _ _
  · rw [h]; exact ⟨id, id⟩

theorem joinSpread_keepsFault (t j n : Nat) (d : Dev) : d.KeepsFault g (d.joinSpread t j n) := by
  unfold Dev.joinSpread
  exact .ite (fun _ => .refl _ _) (fun _ => .ite (fun _ => .refl _ _) (fun _ => ⟨id, id⟩))

theorem settleGroup_keepsFault (t j : Nat) (d : Dev) : d.KeepsFault g (d.settleGroup t j) := by
  have hrespread : d.KeepsFault g (d.respread t j) :=
    .ite (fun _ => .refl _ _) (fun _ => (setGrp_keepsFault (j := j)
      (x := { d.grp j with nSpread := (d.counted j).length, spreadAt := t }) d id).trans (.each (fun n _ x => joinSpread_keepsFault t j n x) _))
  exact .ite (fun _ => hrespread.trans (put_keepsFault _ _ (by decide))) (fun _ => hrespread)

theorem settleLegs_keepsFault (t : Nat) (d : Dev) : d.KeepsFault g (d.settleLegs t) :=
  (Dev.KeepsFault.each (fun n _ x => settleLeg_keepsFault t n x) d).trans
    (.each (fun j _ x => settleGroup_keepsFault t j x) _)

theorem phaseLoss_keepsFault (t : Nat) (d : Dev) : d.KeepsFault g (d.phaseLoss t) := by
  refine .ite (fun _ => .ite (fun _ => ⟨id, id⟩) (fun _ => .refl _ _)) (fun _ => ?_)
  cases d.lostPhase with
  | none => exact .refl _ _
  | some j => exact escDevice_keepsFault j 3 [] t d

theorem settle_keepsFault (t : Nat) (d : Dev) : d.KeepsFault g (d.settle t) :=
  .ite (fun _ => ((settleLegs_keepsFault t d).trans (phaseLoss_keepsFault t _)).trans (settleLegs_keepsFault t _))
    (fun _ => (settleLegs_keepsFault t d).trans (phaseLoss_keepsFault t _))

theorem grpShown_keepsFault (j cause leg t : Nat) (d : Dev) : d.KeepsFault g (d.grpShown j cause leg t) := by
  refine .trans ?_ (markHeld_keepsFault _ _ _)
  refine .trans ?_ (put_keepsFault _ _ (by decide))
  refine .trans ?_ (put_keepsFault (f := GRP.GCNT_TRIPS) _ _ (by decide))
  refine .trans ?_ (put_keepsFault _ _ (by decide))
  exact (put_keepsFault _ _ (by decide)).trans (put_keepsFault _ _ (by decide))

/-- The group trip of a group fault trips the group and reports GFAULT. -/
theorem grpTrip_faults (hg : g < 4) (t : Nat) (d : Dev) : ((d.grpTrip g 0x12 0 [] t).grp g).tripped = true ∧
    (d.grpTrip g 0x12 0 [] t).getAt (pGRP g) GRP.IRQ_RAW_GFAULT 0 = 1 := by
  have hlatch : ((((d.grpNoted g 0x12).setGrp g ((d.grp g).after 0x12 [] t))).grp g).tripped = true := by
    rw [grp_setGrp_same _ _ hg, Group.after_tripped]
  have hevent : ((d.grpNoted g 0x12).setGrp g ((d.grp g).after 0x12 [] t)).getAt (pGRP g) GRP.IRQ_RAW_GFAULT 0 = 1 := by
    simp only [setGrp_getAt, Dev.grpNoted, Nat.reduceEqDiff, if_false, if_true, Dev.raise_eq]
    rw [getAt_putAt_same _ _ _ _ _ (by decide)]
    rfl
  rw [grpTrip_eq]
  dsimp only
  split
  · exact ⟨hlatch, hevent⟩
  · obtain ⟨htripped, hshown⟩ := grpShown_keepsFault (g := g) g 0x12 0 t
      ((d.grpNoted g 0x12).setGrp g ((d.grp g).after 0x12 [] t))
    exact ⟨htripped hlatch, hshown hevent⟩

/-- A group fault trips its group and reports it (R148, R218). -/
theorem gfault_faults (hg : g < 4) (t : Nat) (d : Dev) :
    ((d.gfault g t).grp g).tripped = true ∧ (d.gfault g t).getAt (pGRP g) GRP.IRQ_RAW_GFAULT 0 = 1 := by
  obtain ⟨htripped, hshown⟩ := grpTrip_faults hg t d
  have hkeeps : (d.grpTrip g 0x12 0 [] t).KeepsFault g (d.gfault g t) :=
    .trans (.ite (fun _ => escDevice_keepsFault g 2 [] t _) (fun _ => .refl _ _)) (settle_keepsFault t _)
  exact ⟨hkeeps.tripped htripped, hkeeps.shown hshown⟩

end

end Sys2Proof.Machine
end

section
/-!
SUPPORT. Shedding (R275): the level and what shows it, and the state codes of the transmit buffers (R372) that level 3 holds.
-/
namespace Sys2Proof.Machine

/-! ## The state codes of the transmit buffers (R372) -/

/-- The word that shows the state code of transmit buffer n. -/
def txWord (n : Nat) : Nat := pBUF * 0x1000 + 0x200 + 4 * (n / 8)

theorem txCode_eq (n : Nat) (d : Dev) : d.txCode n = bitsGet (d.reg (txWord n)) (4 * (n % 8) + 3) (4 * (n % 8)) := by
  have hwidth : 4 * (n % 8) + 3 + 1 - 4 * (n % 8) = 4 := by omega
  rw [bitsGet, hwidth, pow_mul]
  rfl

theorem setTxCode_eq (n c : Nat) (d : Dev) :
    d.setTxCode n c = d.setReg (txWord n) (bitsPut (d.reg (txWord n)) (4 * (n % 8) + 3) (4 * (n % 8)) c) := (rfl)

theorem txCode_setTxCode_same (n : Nat) {c : Nat} (d : Dev) (hc : c < 16) : (d.setTxCode n c).txCode n = c := by
  have hwidth : 4 * (n % 8) + 3 + 1 - 4 * (n % 8) = 4 := by omega
  rw [txCode_eq, setTxCode_eq, reg_setReg_same, bitsGet_bitsPut_same _ _ (by omega) (by omega), hwidth]
  exact Nat.mod_eq_of_lt hc

theorem txCode_setTxCode_ne {n m : Nat} (c : Nat) (d : Dev) (h : m ≠ n) : (d.setTxCode n c).txCode m = d.txCode m := by
  rw [txCode_eq, txCode_eq, setTxCode_eq]
  by_cases hword : txWord m = txWord n
  · have hnibble : m % 8 ≠ n % 8 := by unfold txWord at hword; omega
    rw [hword, reg_setReg_same, bitsGet_bitsPut_disj _ _ (by omega) (by omega)]
  · rw [reg_setReg_ne _ _ hword]

/-- What shedding does to the state code of one buffer. -/
def Dev.txShed (hold : Bool) (n : Nat) (d : Dev) : Dev :=
  if d.txCode n = txPENDING && hold && !d.isSlot n then d.setTxCode n txHELD
  else if d.txCode n = txHELD && (!hold || d.isSlot n) then d.setTxCode n txPENDING
  else d

theorem busShed_eq (d : Dev) : d.busShed = (d.putAt pPBUS PBUS.STATUS_SHED_HOLD 0 (decide (d.mp.shed = 3)).toNat).each
    (fun n x => x.txShed (decide (d.mp.shed = 3)) n) (List.range 64) := by
  refine congrFun (congrFun (congrArg Dev.each ?_) (List.range 64)) _
  funext n x
  rfl

/-- The words that show the state codes. -/
def bufPage (p : Nat) : Bool := decide (p = pBUF)

theorem setTxCode_frame {n : Nat} (c : Nat) (d : Dev) (hn : n < 64) :
    Dev.Frame Dev.sansRegs (onPages bufPage) d (d.setTxCode n c) :=
  setReg_frame _ d (decide_eq_true (by omega))

theorem txShed_frame (hold : Bool) {n : Nat} (d : Dev) (hn : n < 64) :
    Dev.Frame Dev.sansRegs (onPages bufPage) d (d.txShed hold n) :=
  .ite (fun _ => setTxCode_frame _ d hn) (fun _ => .ite (fun _ => setTxCode_frame _ d hn) (fun _ => .refl _ _ _))

/-- At level 3 shedding leaves a buffer that is no slot buffer not PENDING. -/
theorem txShed_holds {n : Nat} {d : Dev} (hslot : d.isSlot n = false) : (d.txShed true n).txCode n ≠ txPENDING := by
  unfold Dev.txShed
  split
  · rw [txCode_setTxCode_same _ _ (by decide)]; decide
  · next hpending =>
    rw [if_neg (by simp [hslot])]
    simpa [hslot] using hpending

theorem txShed_txCode_ne (hold : Bool) {n m : Nat} (d : Dev) (h : m ≠ n) : (d.txShed hold n).txCode m = d.txCode m := by
  unfold Dev.txShed
  split
  · exact txCode_setTxCode_ne _ d h
  · split
    · exact txCode_setTxCode_ne _ d h
    · rfl

theorem txShed_isSlot (hold : Bool) (n m : Nat) (d : Dev) : (d.txShed hold n).isSlot m = d.isSlot m := by
  unfold Dev.txShed
  split
  · rfl
  · split <;> rfl

theorem busShed_holds {n : Nat} {d : Dev} (hn : n < 64) (hshed : d.mp.shed = 3) (hslot : d.isSlot n = false) :
    d.busShed.txCode n ≠ txPENDING := by
  have hreach := foldl_reaches (g := fun x m => x.txShed true m) (I := fun x => x.isSlot n = false)
    (Q := fun x => x.isSlot n = false ∧ x.txCode n ≠ txPENDING) (List.mem_range.mpr hn)
    (fun m x hx => (txShed_isSlot _ m n x).trans hx) (fun x hx => ⟨(txShed_isSlot _ n n x).trans hx, txShed_holds hx⟩)
    (fun m x hx => ⟨(txShed_isSlot _ m n x).trans hx.1, ?_⟩)
    (d := d.putAt pPBUS PBUS.STATUS_SHED_HOLD 0 (decide (d.mp.shed = 3)).toNat) hslot
  · have hlevel : decide (d.mp.shed = 3) = true := decide_eq_true hshed
    rw [busShed_eq, hlevel, Dev.each]
    rw [hlevel] at hreach
    exact hreach.2
  · obtain ⟨hx₁, hx₂⟩ := hx
    by_cases hm : n = m
    · subst hm; exact txShed_holds hx₁
    · rwa [txShed_txCode_ne _ x hm]

/-! ## The level of shedding (R275) -/

/-- The registers that a change of the level shows: STATUS and the event of FELT, the hold of PBUS, the state codes, and the
event of ACQ. -/
def shedReg (a : Nat) : Bool :=
  onPages bufPage a || regsIn [FELT.STATUS_SHED.addr pFELT 0, FELT.IRQ_RAW_SHED_CHANGE.addr pFELT 0,
    PBUS.STATUS_SHED_HOLD.addr pPBUS 0, ACQ.IRQ_RAW_STREAM_PAUSED.addr pACQ 0] a

theorem busShed_frame (d : Dev) : Dev.Frame Dev.sansRegs
    (fun a => onPages bufPage a || regsIn [PBUS.STATUS_SHED_HOLD.addr pPBUS 0] a) d d.busShed := by
  rw [busShed_eq]
  refine (putAt_frame _ d (by decide)).trans (.each (fun n hn x => ?_) _)
  exact (txShed_frame _ x (List.mem_range.mp hn)).mono (fun _ => rfl) (fun a ha => (Bool.or_eq_false_iff.mp ha).1)

/-- The new level shown. -/
def Dev.shedShown (k : Nat) (d : Dev) : Dev :=
  (({ d with mp := { d.mp with shed := k } }).put pFELT FELT.STATUS_SHED k).raise pFELT FELT.IRQ_RAW_SHED_CHANGE

/-- The stream pauses where shedding begins. -/
def Dev.streamPaused (k : Nat) (d : Dev) : Dev :=
  if d.acq.st = .stream && decide (0 < k) && decide (d.mp.shed = 0) then d.raise pACQ ACQ.IRQ_RAW_STREAM_PAUSED else d

theorem setShed_of_ne {k : Nat} {d : Dev} (h : d.mp.shed ≠ k) : d.setShed k = ((d.streamPaused k).shedShown k).busShed := by
  rw [Dev.setShed, if_neg h]
  rfl

theorem setShed_of_eq {k : Nat} {d : Dev} (h : d.mp.shed = k) : d.setShed k = d := if_pos h

/-- The device without its registers and MP's housekeeping. -/
def Dev.sansMp (d : Dev) : Dev := { d with regs := [], mp := MpState.reset }

theorem streamPaused_frame (k : Nat) (d : Dev) :
    Dev.Frame Dev.sansRegs (regsIn [ACQ.IRQ_RAW_STREAM_PAUSED.addr pACQ 0]) d (d.streamPaused k) :=
  .ite (fun _ => putAt_frame _ d (by decide)) (fun _ => .refl _ _ _)

theorem shedShown_frame (k : Nat) (d : Dev) : Dev.Frame Dev.sansMp
    (regsIn [FELT.STATUS_SHED.addr pFELT 0, FELT.IRQ_RAW_SHED_CHANGE.addr pFELT 0]) d (d.shedShown k) := by
  have hlevel : Dev.Frame Dev.sansMp (regsIn [FELT.STATUS_SHED.addr pFELT 0, FELT.IRQ_RAW_SHED_CHANGE.addr pFELT 0]) d
      { d with mp := { d.mp with shed := k } } := ⟨rfl, fun _ _ => rfl⟩
  exact (hlevel.trans ((putAt_frame _ _ (by decide)).mono (fun _ => rfl) (fun _ h => h))).trans
    ((putAt_frame _ _ (by decide)).mono (fun _ => rfl) (fun _ h => h))

theorem setShed_frame (k : Nat) (d : Dev) : Dev.Frame Dev.sansMp shedReg d (d.setShed k) := by
  by_cases h : d.mp.shed = k
  · rw [setShed_of_eq h]; exact .refl _ _ _
  · rw [setShed_of_ne h]
    refine .trans (.trans ((streamPaused_frame k d).mono (fun _ => rfl) ?_) ((shedShown_frame k _).mono (fun _ => rfl) ?_))
      ((busShed_frame _).mono (fun _ => rfl) ?_)
    all_goals intro a ha
    all_goals simp only [shedReg, regsIn, Bool.or_eq_false_iff, List.mem_cons, List.not_mem_nil, or_false,
      decide_eq_false_iff_not, not_or] at ha ⊢
    all_goals tauto

theorem setShed_mp (k : Nat) (d : Dev) : (d.setShed k).mp = { d.mp with shed := k } := by
  by_cases h : d.mp.shed = k
  · rw [setShed_of_eq h, ← h]
  · rw [setShed_of_ne h, (busShed_frame _).field Dev.mp (fun _ => rfl)]
    have hpaused : (d.streamPaused k).mp = d.mp := (streamPaused_frame k d).field Dev.mp (fun _ => rfl)
    change { (d.streamPaused k).mp with shed := k } = _
    rw [hpaused]

/-- A level that changes is shown and reported. -/
theorem setShed_shows {k : Nat} {d : Dev} (h : d.mp.shed ≠ k) (hk : k < 4) :
    (d.setShed k).getAt pFELT FELT.STATUS_SHED 0 = k ∧ (d.setShed k).getAt pFELT FELT.IRQ_RAW_SHED_CHANGE 0 = 1 := by
  rw [setShed_of_ne h, (busShed_frame _).getAt (by decide), (busShed_frame _).getAt (by decide)]
  simp only [Dev.shedShown, Dev.put_eq, Dev.raise_eq]
  rw [getAt_putAt_word _ _ (by decide), getAt_putAt_same _ _ _ _ _ (by decide), getAt_putAt_same _ _ _ _ _ (by decide)]
  exact ⟨Nat.mod_eq_of_lt hk, rfl⟩

/-- At level 3 no buffer but a slot buffer is PENDING (R275). -/
theorem setShed_holds {n : Nat} {d : Dev} (h : d.mp.shed ≠ 3) (hn : n < 64) (hslot : d.isSlot n = false) :
    (d.setShed 3).txCode n ≠ txPENDING := by
  rw [setShed_of_ne h]
  refine busShed_holds hn rfl ?_
  have hbus : ((d.streamPaused 3).shedShown 3).bus = d.bus :=
    ((shedShown_frame 3 _).field Dev.bus (fun _ => rfl)).trans ((streamPaused_frame 3 d).field Dev.bus (fun _ => rfl))
  rw [Dev.isSlot, hbus]
  exact hslot

end Sys2Proof.Machine
end

section
/-! Housekeeping, the overload and shedding, and the faults of the vendor leg program (R148, R159, R275). -/
namespace Sys2Proof.Machine

/-! ## The overload (R159, R275) -/

/-- The registers that housekeeping shows, but HK_STAT. -/
def overloadReg (a : Nat) : Bool :=
  shedReg a || regsIn [MP.STATUS_MP_OVERLOAD.addr pMP 0, MP.IRQ_RAW_OVERRUN.addr pMP 0, FELT.SHED_CNT.addr pFELT 0] a

/-- What housekeeping may change. -/
abbrev Dev.OverloadFrame (d e : Dev) : Prop := Dev.Frame Dev.sansMp overloadReg d e

theorem putAt_overload_frame {p : Nat} {f : FieldSpec} (v : Nat) (d : Dev) (h : overloadReg (f.addr p 0) = true) :
    d.OverloadFrame (d.putAt p f 0 v) := (putAt_frame v d h).mono (fun _ => rfl) (fun _ ha => ha)

theorem setShed_overload_frame (k : Nat) (d : Dev) : d.OverloadFrame (d.setShed k) :=
  (setShed_frame k d).mono (fun _ => rfl) (fun _ ha => (Bool.or_eq_false_iff.mp ha).1)

/-- A change of MP's record alone. -/
theorem setMp_frame (x : MpState) (d : Dev) : d.OverloadFrame { d with mp := x } := ⟨rfl, fun _ _ => rfl⟩

@[simp] theorem getAt_setMp (x : MpState) (p : Nat) (f : FieldSpec) (i : Nat) (d : Dev) :
    Dev.getAt p f i { d with mp := x } = d.getAt p f i := (rfl)

/-- The overload is set, its level not yet. -/
def Dev.overloadBegun (d : Dev) : Dev :=
  (({ d with mp := { d.mp with overload := true, shedRun := 0, cleanRun := 0 } }).put pMP MP.STATUS_MP_OVERLOAD 1).raise pMP
    MP.IRQ_RAW_OVERLOAD_SET

/-- The overload is over, its level not yet. -/
def Dev.overloadEnded (d : Dev) : Dev :=
  (({ d with mp := { d.mp with overload := false, shedRun := 0 } }).put pMP MP.STATUS_MP_OVERLOAD 0).raise pMP
    MP.IRQ_RAW_OVERLOAD_CLEAR

theorem overloadBegun_frame (d : Dev) : d.OverloadFrame d.overloadBegun :=
  ((setMp_frame _ d).trans (putAt_overload_frame _ _ (by decide))).trans (putAt_overload_frame _ _ (by decide))

theorem overloadEnded_frame (d : Dev) : d.OverloadFrame d.overloadEnded :=
  ((setMp_frame _ d).trans (putAt_overload_frame _ _ (by decide))).trans (putAt_overload_frame _ _ (by decide))

section
variable {d : Dev}

theorem overloadSet_sets (hconsec : d.getAt pMP MP.HK_STAT_CONSEC 0 = 3) (hoff : d.mp.overload = false) :
    d.overloadSet = (d.overloadBegun.setShed 1).count pFELT FELT.SHED_CNT := by
  rw [Dev.overloadSet, if_pos (by simp [hconsec, hoff])]
  rfl

theorem overloadSet_rests (h : ¬(d.getAt pMP MP.HK_STAT_CONSEC 0 = 3 ∧ d.mp.overload = false)) : d.overloadSet = d := by
  rw [Dev.overloadSet, if_neg (by simpa using h)]

theorem overloadClear_clears (hon : d.mp.overload = true) (hrun : 64 ≤ d.mp.cleanRun) :
    d.overloadClear = d.overloadEnded.setShed 0 := by
  rw [Dev.overloadClear, if_pos (by simp [hon, hrun])]
  rfl

theorem overloadClear_rests (h : ¬(d.mp.overload = true ∧ 64 ≤ d.mp.cleanRun)) : d.overloadClear = d := by
  rw [Dev.overloadClear, if_neg (by simpa using h)]

/-- The count of overruns at the level starts again. -/
def Dev.shedRunEnded (d : Dev) : Dev := { d with mp := { d.mp with shedRun := 0 } }

theorem shedUp_raises (hon : d.mp.overload = true) (hrun : 3 ≤ d.mp.shedRun) (hlevel : d.mp.shed < 3) :
    d.shedUp = d.shedRunEnded.setShed (d.mp.shed + 1) := by
  rw [Dev.shedUp, if_pos (by simp [hon, hrun, hlevel])]
  rfl

theorem shedUp_rests (h : ¬(d.mp.overload = true ∧ 3 ≤ d.mp.shedRun ∧ d.mp.shed < 3)) : d.shedUp = d := by
  rw [Dev.shedUp, if_neg (by simpa [and_assoc] using h)]

end

theorem overloadSet_frame (d : Dev) : d.OverloadFrame d.overloadSet := by
  by_cases h : d.getAt pMP MP.HK_STAT_CONSEC 0 = 3 ∧ d.mp.overload = false
  · rw [overloadSet_sets h.1 h.2]
    exact ((overloadBegun_frame d).trans (setShed_overload_frame 1 _)).trans (putAt_overload_frame _ _ (by decide))
  · rw [overloadSet_rests h]; exact .refl _ _ _

theorem overloadClear_frame (d : Dev) : d.OverloadFrame d.overloadClear := by
  by_cases h : d.mp.overload = true ∧ 64 ≤ d.mp.cleanRun
  · rw [overloadClear_clears h.1 h.2]
    exact (overloadEnded_frame d).trans (setShed_overload_frame 0 _)
  · rw [overloadClear_rests h]; exact .refl _ _ _

theorem shedUp_frame (d : Dev) : d.OverloadFrame d.shedUp := by
  by_cases h : d.mp.overload = true ∧ 3 ≤ d.mp.shedRun ∧ d.mp.shed < 3
  · rw [shedUp_raises h.1 h.2.1 h.2.2]
    exact (setMp_frame _ d).trans (setShed_overload_frame _ _)
  · rw [shedUp_rests h]; exact .refl _ _ _

/-- Housekeeping stages nothing. -/
theorem land_hk_memSame {P : Nat → Bool} {t : Nat} {e : Dev} {s : State} (h : Dev.Frame Dev.sansMp P (s.dev.begin t) e) :
    s.memSame (s.land t e) := land_memSame (h.field Dev.wr (fun _ => rfl)) (h.field Dev.wipe (fun _ => rfl))

section
variable (d : Dev)

theorem setShed_overrun (k : Nat) : (d.setShed k).getAt pMP MP.IRQ_RAW_OVERRUN 0 = d.getAt pMP MP.IRQ_RAW_OVERRUN 0 :=
  (setShed_frame k d).getAt (by decide)

theorem overloadSet_overrun : d.overloadSet.getAt pMP MP.IRQ_RAW_OVERRUN 0 = d.getAt pMP MP.IRQ_RAW_OVERRUN 0 := by
  by_cases h : d.getAt pMP MP.HK_STAT_CONSEC 0 = 3 ∧ d.mp.overload = false
  · rw [overloadSet_sets h.1 h.2, Dev.count_eq, getAt_putAt_word _ _ (by decide), setShed_overrun]
    simp only [Dev.overloadBegun, Dev.put_eq, Dev.raise_eq]
    rw [getAt_putAt_apart _ _ (by decide) (by decide), getAt_putAt_word _ _ (by decide)]
    rfl
  · rw [overloadSet_rests h]

theorem shedUp_overrun : d.shedUp.getAt pMP MP.IRQ_RAW_OVERRUN 0 = d.getAt pMP MP.IRQ_RAW_OVERRUN 0 := by
  by_cases h : d.mp.overload = true ∧ 3 ≤ d.mp.shedRun ∧ d.mp.shed < 3
  · rw [shedUp_raises h.1 h.2.1 h.2.2, setShed_overrun]; rfl
  · rw [shedUp_rests h]

/-- Of MP's record, the run, its tick and its clean ticks stay where the level rises; the overload stays too. -/
theorem shedUp_mp : d.shedUp.mp.hkBusy = d.mp.hkBusy ∧ d.shedUp.mp.cleanRun = d.mp.cleanRun ∧
    d.shedUp.mp.overload = d.mp.overload := by
  by_cases h : d.mp.overload = true ∧ 3 ≤ d.mp.shedRun ∧ d.mp.shed < 3
  · rw [shedUp_raises h.1 h.2.1 h.2.2, setShed_mp]; exact ⟨rfl, rfl, rfl⟩
  · rw [shedUp_rests h]; exact ⟨rfl, rfl, rfl⟩

theorem overloadSet_mp : d.overloadSet.mp.hkBusy = d.mp.hkBusy ∧ (d.mp.cleanRun = 0 → d.overloadSet.mp.cleanRun = 0) ∧
    (d.getAt pMP MP.HK_STAT_CONSEC 0 = 3 → d.overloadSet.mp.overload = true) := by
  by_cases h : d.getAt pMP MP.HK_STAT_CONSEC 0 = 3 ∧ d.mp.overload = false
  · rw [overloadSet_sets h.1 h.2, Dev.count_eq, putAt_mp, setShed_mp]; exact ⟨rfl, fun _ => rfl, fun _ => rfl⟩
  · rw [overloadSet_rests h]
    exact ⟨rfl, id, fun hconsec => by simpa [hconsec] using h⟩

theorem overloadClear_mp : d.overloadClear.mp.hkBusy = d.mp.hkBusy ∧ d.overloadClear.mp.hkAt = d.mp.hkAt := by
  by_cases h : d.mp.overload = true ∧ 64 ≤ d.mp.cleanRun
  · rw [overloadClear_clears h.1 h.2, setShed_mp]; exact ⟨rfl, rfl⟩
  · rw [overloadClear_rests h]; exact ⟨rfl, rfl⟩

end

/-! ## The commands -/

theorem exec_hkTick (t : Nat) (s : State) : exec (.hkTick t) s = .next (s.land t ((s.dev.begin t).hkTick t)) := (rfl)
theorem exec_hkDone (t : Nat) (s : State) : exec (.hkDone t) s = runReg t (fun _ d => { d with mp := { d.mp with hkBusy := false } }) s :=
  (rfl)
theorem exec_mpOverloadSet (t : Nat) (s : State) :
    exec (.mpOverloadSet t) s = .next (s.land t (s.dev.begin t).overloadSet) := (rfl)
theorem exec_mpOverloadClear (t : Nat) (s : State) :
    exec (.mpOverloadClear t) s = .next (s.land t (s.dev.begin t).overloadClear) := (rfl)
theorem exec_shedLevelUp (t : Nat) (s : State) : exec (.shedLevelUp t) s = .next (s.land t (s.dev.begin t).shedUp) := (rfl)
theorem exec_legHoldExpired (n : Fin 12) (k : Fin 8) (t : Nat) (s : State) :
    exec (.legHoldExpired n k t) s = .next (s.land t ((s.dev.begin t).legHoldExpired n k t)) := (rfl)
theorem exec_legNonfiniteLimit (n : Fin 12) (k : Fin 8) (t : Nat) (s : State) :
    exec (.legNonfiniteLimit n k t) s = .next (s.land t ((s.dev.begin t).legNonFinite n k t)) := (rfl)

/-- The tick of a run that starts. -/
def Dev.hkStarted (t : Nat) (d : Dev) : Dev :=
  let d := ({ d with mp := { d.mp with hkAt := t } }).put pMP MP.HK_STAT_CONSEC 0
  { d with mp := { d.mp with hkBusy := true, cleanRun := d.mp.cleanRun + 1, shedRun := 0 } }

/-- The tick of an overrun. -/
def Dev.hkOverran (t : Nat) (d : Dev) : Dev :=
  let d := (({ d with mp := { d.mp with hkAt := t } }).count pMP MP.HK_STAT_OVERRUNS).raise pMP MP.IRQ_RAW_OVERRUN
  let d := d.put pMP MP.HK_STAT_CONSEC (min 3 (d.get pMP MP.HK_STAT_CONSEC + 1))
  { d with mp := { d.mp with cleanRun := 0, shedRun := d.mp.shedRun + (if d.mp.overload then 1 else 0) } }

section
variable {t : Nat} {d : Dev}

theorem hkTick_starts (hdue : d.hkDue t = true) (hbusy : d.mp.hkBusy = false) : d.hkTick t = (d.hkStarted t).overloadClear := by
  rw [Dev.hkTick, if_neg (by simp [hdue])]
  exact if_neg (by simp [hbusy])

theorem hkTick_overruns (hdue : d.hkDue t = true) (hbusy : d.mp.hkBusy = true) :
    d.hkTick t = (d.hkOverran t).overloadSet.shedUp := by
  rw [Dev.hkTick, if_neg (by simp [hdue])]
  exact if_pos hbusy

end

section
variable (t : Nat) (s : State)

/-- The registers that housekeeping shows. -/
def hkReg (a : Nat) : Bool := overloadReg a || regsIn [MP.HK_STAT_CONSEC.addr pMP 0] a

theorem hkStarted_frame (d : Dev) : Dev.Frame Dev.sansMp hkReg d (d.hkStarted t) :=
  ((setMp_frame _ d).mono (fun _ => rfl) (fun _ ha => (Bool.or_eq_false_iff.mp ha).1)).trans
    (((putAt_frame _ _ (by decide)).mono (fun _ => rfl) (fun _ ha => ha)).trans ⟨rfl, fun _ _ => rfl⟩)

theorem hkStarted_consec (d : Dev) : (d.hkStarted t).getAt pMP MP.HK_STAT_CONSEC 0 = 0 := by
  rw [Dev.hkStarted, getAt_setMp, Dev.put_eq, getAt_putAt_same _ _ _ _ _ (by decide)]
  rfl

theorem hkStarted_overruns (d : Dev) :
    (d.hkStarted t).getAt pMP MP.HK_STAT_OVERRUNS 0 = d.getAt pMP MP.HK_STAT_OVERRUNS 0 := by
  rw [Dev.hkStarted, getAt_setMp, Dev.put_eq, getAt_putAt_apart _ _ (by decide) (by decide), getAt_setMp]

theorem hkTick_run (hdue : s.dev.hkDue t = true) (hbusy : s.dev.mp.hkBusy = false) :
    ∃ s', exec (.hkTick t) s = .next s' ∧ s'.dev.mp.hkBusy = true ∧ s'.dev.mp.hkAt = t ∧ s'.dev.get pMP MP.HK_STAT_CONSEC = 0 ∧
      s'.dev.get pMP MP.HK_STAT_OVERRUNS = s.dev.get pMP MP.HK_STAT_OVERRUNS ∧ s.memSame s' := by
  have hframe := (hkStarted_frame t (s.dev.begin t)).trans
    ((overloadClear_frame ((s.dev.begin t).hkStarted t)).mono (fun _ => rfl) (fun _ ha => (Bool.or_eq_false_iff.mp ha).1))
  obtain ⟨hrun, hat⟩ := overloadClear_mp ((s.dev.begin t).hkStarted t)
  have hshown := overloadClear_frame ((s.dev.begin t).hkStarted t)
  have hconsec : ((s.dev.begin t).hkStarted t).overloadClear.getAt pMP MP.HK_STAT_CONSEC 0 = 0 := by
    rw [hshown.getAt (by decide), hkStarted_consec]
  have hoverruns : ((s.dev.begin t).hkStarted t).overloadClear.getAt pMP MP.HK_STAT_OVERRUNS 0 =
      s.dev.getAt pMP MP.HK_STAT_OVERRUNS 0 := by
    rw [hshown.getAt (by decide), hkStarted_overruns, begin_getAt]
  rw [exec_hkTick, hkTick_starts (d := s.dev.begin t) hdue hbusy]
  generalize ((s.dev.begin t).hkStarted t).overloadClear = e at hframe hrun hat hconsec hoverruns ⊢
  exact ⟨_, rfl, hrun, hat, hconsec, hoverruns, land_hk_memSame hframe⟩

theorem hkOverran_frame (d : Dev) : Dev.Frame Dev.sansMp hkReg d (d.hkOverran t) := by
  have hput {f : FieldSpec} (v : Nat) (x : Dev) (h : hkReg (f.addr pMP 0) = true) :
      Dev.Frame Dev.sansMp hkReg x (x.putAt pMP f 0 v) := (putAt_frame v x h).mono (fun _ => rfl) (fun _ ha => ha)
  have hmp (x : MpState) (e : Dev) : Dev.Frame Dev.sansMp hkReg e { e with mp := x } := ⟨rfl, fun _ _ => rfl⟩
  exact ((((hmp _ d).trans (hput (f := MP.HK_STAT_OVERRUNS) _ _ (by decide))).trans (hput _ _ (by decide))).trans
    (hput (f := MP.HK_STAT_CONSEC) _ _ (by decide))).trans (hmp _ _)

/-- An overrun is counted, reported, and counted among the consecutive ones up to 3. -/
theorem hkOverran_shows (d : Dev) : (d.hkOverran t).getAt pMP MP.HK_STAT_CONSEC 0 = min 3 (d.getAt pMP MP.HK_STAT_CONSEC 0 + 1) ∧
    (d.hkOverran t).getAt pMP MP.HK_STAT_OVERRUNS 0 = min 65535 (d.getAt pMP MP.HK_STAT_OVERRUNS 0 + 1) ∧
    (d.hkOverran t).getAt pMP MP.IRQ_RAW_OVERRUN 0 = 1 := by
  simp only [Dev.hkOverran, getAt_setMp, Dev.count_eq, Dev.raise_eq, Dev.put_eq, Dev.get_eq]
  refine ⟨?_, ?_, ?_⟩
  · rw [getAt_putAt_same _ _ _ _ _ (by decide), getAt_putAt_word _ _ (by decide), getAt_putAt_apart _ _ (by decide) (by decide),
      getAt_setMp]
    exact Nat.mod_eq_of_lt (Nat.lt_of_le_of_lt (Nat.min_le_left _ _) (by decide))
  · rw [getAt_putAt_apart _ _ (by decide) (by decide), getAt_putAt_word _ _ (by decide), getAt_putAt_same _ _ _ _ _ (by decide)]
    exact Nat.mod_eq_of_lt (Nat.lt_of_le_of_lt (Nat.min_le_left _ _) (by decide))
  · rw [getAt_putAt_word _ _ (by decide), getAt_putAt_same _ _ _ _ _ (by decide)]
    rfl

theorem hkTick_overrun (hdue : s.dev.hkDue t = true) (hbusy : s.dev.mp.hkBusy = true) :
    ∃ s', exec (.hkTick t) s = .next s' ∧ s'.dev.mp.hkBusy = true ∧ s'.dev.mp.cleanRun = 0 ∧
      s'.dev.get pMP MP.HK_STAT_OVERRUNS = min 65535 (s.dev.get pMP MP.HK_STAT_OVERRUNS + 1) ∧
      s'.dev.get pMP MP.HK_STAT_CONSEC = min 3 (s.dev.get pMP MP.HK_STAT_CONSEC + 1) ∧
      s'.dev.flag pMP MP.IRQ_RAW_OVERRUN = true ∧
      (2 ≤ s.dev.get pMP MP.HK_STAT_CONSEC → s'.dev.mp.overload = true) ∧ s.memSame s' := by
  obtain ⟨hconsec, hoverruns, hirq⟩ := hkOverran_shows t (s.dev.begin t)
  have hframe₀ := hkOverran_frame t (s.dev.begin t)
  have hrun₀ : ((s.dev.begin t).hkOverran t).mp.hkBusy = true := hbusy
  have hclean₀ : ((s.dev.begin t).hkOverran t).mp.cleanRun = 0 := rfl
  rw [exec_hkTick, hkTick_overruns (d := s.dev.begin t) hdue hbusy]
  generalize (s.dev.begin t).hkOverran t = d at hconsec hoverruns hirq hframe₀ hrun₀ hclean₀ ⊢
  obtain ⟨hrun₁, hclean₁, hover₁⟩ := overloadSet_mp d
  obtain ⟨hrun₂, hclean₂, hover₂⟩ := shedUp_mp d.overloadSet
  have hshown := (overloadSet_frame d).trans (shedUp_frame d.overloadSet)
  have hirq' : d.overloadSet.shedUp.getAt pMP MP.IRQ_RAW_OVERRUN 0 = 1 := by rw [shedUp_overrun, overloadSet_overrun, hirq]
  have hoverruns' : d.overloadSet.shedUp.getAt pMP MP.HK_STAT_OVERRUNS 0 = min 65535 (s.dev.getAt pMP MP.HK_STAT_OVERRUNS 0 + 1) := by
    rw [hshown.getAt (by decide), hoverruns, begin_getAt]
  have hconsec' : d.overloadSet.shedUp.getAt pMP MP.HK_STAT_CONSEC 0 = min 3 (s.dev.getAt pMP MP.HK_STAT_CONSEC 0 + 1) := by
    rw [hshown.getAt (by decide), hconsec, begin_getAt]
  rw [begin_getAt] at hconsec
  have hframe := hframe₀.trans (hshown.mono (fun _ => rfl) (fun _ ha => (Bool.or_eq_false_iff.mp ha).1))
  generalize d.overloadSet.shedUp = e at hrun₂ hclean₂ hover₂ hirq' hoverruns' hconsec' hframe ⊢
  exact ⟨_, rfl, hrun₂.trans (hrun₁.trans hrun₀), hclean₂.trans (hclean₁ hclean₀), hoverruns', hconsec',
    by rw [Dev.flag_eq, land_getAt, hirq']; rfl,
    fun h => hover₂.trans (hover₁ (hconsec.trans (Nat.min_eq_left (Nat.succ_le_succ h)))), land_hk_memSame hframe⟩

end

section
variable (t : Nat) (s : State)

theorem hkDone_ends : ∃ s', exec (.hkDone t) s = .next s' ∧ s'.dev.mp = { s.dev.mp with hkBusy := false } ∧ s.regsBut [] s' ∧
    s.memSame s' := by
  refine ⟨_, (exec_hkDone t s).trans (runReg_land t _ s), ?_, fun a _ ha => ?_, land_memSame ?_ ?_⟩
  · rw [land_mp, regRound_mp, begin_mp]
  · rw [land_reg, regRound_reg _ ha]
    rfl
  · rw [regRound_wr, begin_wr]
  · rw [regRound_wipe, begin_wipe]

theorem overloadBegun_shows (d : Dev) : d.overloadBegun.getAt pMP MP.STATUS_MP_OVERLOAD 0 = 1 ∧
    d.overloadBegun.getAt pMP MP.IRQ_RAW_OVERLOAD_SET 0 = 1 ∧
    d.overloadBegun.getAt pFELT FELT.SHED_CNT 0 = d.getAt pFELT FELT.SHED_CNT 0 := by
  simp only [Dev.overloadBegun, Dev.put_eq, Dev.raise_eq]
  refine ⟨?_, ?_, ?_⟩
  · rw [getAt_putAt_word _ _ (by decide), getAt_putAt_same _ _ _ _ _ (by decide)]; rfl
  · rw [getAt_putAt_same _ _ _ _ _ (by decide)]; rfl
  · rw [getAt_putAt_word _ _ (by decide), getAt_putAt_word _ _ (by decide), getAt_setMp]

theorem overloadEnded_shows (d : Dev) : d.overloadEnded.getAt pMP MP.STATUS_MP_OVERLOAD 0 = 0 ∧
    d.overloadEnded.getAt pMP MP.IRQ_RAW_OVERLOAD_CLEAR 0 = 1 := by
  simp only [Dev.overloadEnded, Dev.put_eq, Dev.raise_eq]
  refine ⟨?_, ?_⟩
  · rw [getAt_putAt_word _ _ (by decide), getAt_putAt_same _ _ _ _ _ (by decide)]; rfl
  · rw [getAt_putAt_same _ _ _ _ _ (by decide)]; rfl

theorem mpOverloadSet_sets (hconsec : s.dev.getAt pMP MP.HK_STAT_CONSEC 0 = 3) (hoff : s.dev.mp.overload = false) :
    ∃ s', exec (.mpOverloadSet t) s = .next s' ∧ s'.dev.mp.overload = true ∧ s'.dev.mp.shed = 1 ∧
      s'.dev.flag pMP MP.STATUS_MP_OVERLOAD = true ∧ s'.dev.flag pMP MP.IRQ_RAW_OVERLOAD_SET = true ∧
      s'.dev.get pFELT FELT.SHED_CNT = min 65535 (s.dev.get pFELT FELT.SHED_CNT + 1) ∧ s.memSame s' := by
  have hframe := overloadSet_frame (s.dev.begin t)
  obtain ⟨hstatus, hirq, hcnt⟩ := overloadBegun_shows (s.dev.begin t)
  have hmp := setShed_mp 1 (s.dev.begin t).overloadBegun
  have hshed := setShed_frame 1 (s.dev.begin t).overloadBegun
  rw [overloadSet_sets (d := s.dev.begin t) hconsec hoff] at hframe
  rw [exec_mpOverloadSet, overloadSet_sets (d := s.dev.begin t) hconsec hoff]
  rw [Dev.count_eq, hshed.getAt (by decide), hcnt, begin_getAt] at hframe ⊢
  have hover : (s.dev.begin t).overloadBegun.mp.overload = true := rfl
  generalize (s.dev.begin t).overloadBegun = d at hstatus hirq hcnt hmp hshed hframe hover ⊢
  refine ⟨_, rfl, ?_, ?_, ?_, ?_, ?_, land_hk_memSame hframe⟩
  · rw [land_mp, putAt_mp, hmp]; exact hover
  · rw [land_mp, putAt_mp, hmp]
  · rw [Dev.flag_eq, land_getAt, getAt_putAt_word _ _ (by decide), hshed.getAt (by decide), hstatus]; rfl
  · rw [Dev.flag_eq, land_getAt, getAt_putAt_word _ _ (by decide), hshed.getAt (by decide), hirq]; rfl
  · rw [Dev.get_eq, land_getAt, getAt_putAt_same _ _ _ _ _ (by decide)]
    exact Nat.mod_eq_of_lt (Nat.lt_of_le_of_lt (Nat.min_le_left _ _) (by decide))

theorem mpOverloadClear_clears (hon : s.dev.mp.overload = true) (hrun : 64 ≤ s.dev.mp.cleanRun) :
    ∃ s', exec (.mpOverloadClear t) s = .next s' ∧ s'.dev.mp.overload = false ∧ s'.dev.mp.shed = 0 ∧
      s'.dev.flag pMP MP.STATUS_MP_OVERLOAD = false ∧ s'.dev.flag pMP MP.IRQ_RAW_OVERLOAD_CLEAR = true ∧ s.memSame s' := by
  have hframe := overloadClear_frame (s.dev.begin t)
  obtain ⟨hstatus, hirq⟩ := overloadEnded_shows (s.dev.begin t)
  have hmp := setShed_mp 0 (s.dev.begin t).overloadEnded
  have hshed := setShed_frame 0 (s.dev.begin t).overloadEnded
  rw [overloadClear_clears (d := s.dev.begin t) hon hrun] at hframe
  rw [exec_mpOverloadClear, overloadClear_clears (d := s.dev.begin t) hon hrun]
  have hover : (s.dev.begin t).overloadEnded.mp.overload = false := rfl
  generalize (s.dev.begin t).overloadEnded = d at hstatus hirq hmp hshed hframe hover ⊢
  refine ⟨_, rfl, ?_, ?_, ?_, ?_, land_hk_memSame hframe⟩
  · rw [land_mp, hmp]; exact hover
  · rw [land_mp, hmp]
  · rw [Dev.flag_eq, land_getAt, hshed.getAt (by decide), hstatus]; rfl
  · rw [Dev.flag_eq, land_getAt, hshed.getAt (by decide), hirq]; rfl

theorem shedLevelUp_raises (hon : s.dev.mp.overload = true) (hrun : 3 ≤ s.dev.mp.shedRun) (hlevel : s.dev.mp.shed < 3) :
    ∃ s', exec (.shedLevelUp t) s = .next s' ∧ s'.dev.mp.shed = s.dev.mp.shed + 1 ∧
      s'.dev.get pFELT FELT.STATUS_SHED = s.dev.mp.shed + 1 ∧ s'.dev.flag pFELT FELT.IRQ_RAW_SHED_CHANGE = true ∧
      (s.dev.mp.shed = 2 → ∀ n < 64, s.dev.isSlot n = false → s'.dev.txCode n ≠ txPENDING) ∧ s.memSame s' := by
  have hframe := shedUp_frame (s.dev.begin t)
  have hne : (s.dev.begin t).shedRunEnded.mp.shed ≠ s.dev.mp.shed + 1 := Nat.ne_of_lt (Nat.lt_succ_self _)
  obtain ⟨hstatus, hirq⟩ := setShed_shows hne (by omega)
  have hmp := setShed_mp (s.dev.mp.shed + 1) (s.dev.begin t).shedRunEnded
  have hholds (h2 : s.dev.mp.shed = 2) (n : Nat) (hn : n < 64) (hslot : s.dev.isSlot n = false) :
      ((s.dev.begin t).shedRunEnded.setShed (s.dev.mp.shed + 1)).txCode n ≠ txPENDING := by
    rw [h2]
    exact setShed_holds (by change s.dev.mp.shed ≠ 3; omega) hn hslot
  rw [shedUp_raises (d := s.dev.begin t) hon hrun hlevel, begin_mp] at hframe
  rw [exec_shedLevelUp, shedUp_raises (d := s.dev.begin t) hon hrun hlevel, begin_mp]
  generalize (s.dev.begin t).shedRunEnded.setShed (s.dev.mp.shed + 1) = d at hstatus hirq hmp hframe hholds ⊢
  exact ⟨_, rfl, by rw [land_mp, hmp], by rw [Dev.get_eq, land_getAt, hstatus], by rw [Dev.flag_eq, land_getAt, hirq]; rfl,
    hholds, land_hk_memSame hframe⟩

end

/-! ## The faults of the vendor leg program (R148) -/

/-- A group fault landed. -/
theorem land_gfault {g : Nat} (hg : g < 4) (t : Nat) (s : State) : ((s.land t ((s.dev.begin t).gfault g t)).dev.grp g).tripped = true ∧
    (s.land t ((s.dev.begin t).gfault g t)).dev.flag (pGRP g) GRP.IRQ_RAW_GFAULT = true ∧
    s.memSame (s.land t ((s.dev.begin t).gfault g t)) := by
  obtain ⟨htripped, hshown⟩ := gfault_faults hg t (s.dev.begin t)
  have hframe := gfault_frame hg t (s.dev.begin t)
  generalize (s.dev.begin t).gfault g t = e at htripped hshown hframe ⊢
  exact ⟨htripped, by rw [Dev.flag_eq, land_getAt, hshown]; rfl,
    land_memSame (hframe.field Dev.wr (fun _ => rfl)) (hframe.field Dev.wipe (fun _ => rfl))⟩

section
variable {n k g t : Nat} {x : Nat × Nat} {d : Dev}

theorem legHoldExpired_faults {p : List Word} (hp : (d.engine n).vendorWork.params = some p)
    (hx : (d.engSlots n).find? (fun y => decide (y.1 = k)) = some x) (hg : d.groupOf x.2 = some g)
    (hexpired : (d.inputExpired (d.engine n).vendorWork.held ((p.getD 6 0).toNat % 64) ||
      d.inputExpired (d.engine n).vendorWork.held ((p.getD (16 + 2 * k) 0).toNat % 64)) = true) :
    d.legHoldExpired n k t = d.gfault g t := by
  simp only [Dev.legHoldExpired, hp, hx, hexpired, if_true, hg]

theorem legNonFinite_faults (hx : (d.engSlots n).find? (fun y => decide (y.1 = k)) = some x) (hg : d.groupOf x.2 = some g)
    (hrun : 8 ≤ (d.engine n).vendorWork.nonFinite.getD k 0) : d.legNonFinite n k t = d.gfault g t := by
  simp only [Dev.legNonFinite, hx, hrun, decide_true, if_true, hg]

end

/-- Settles O20: `Dev.hkTick`, `Dev.setShed` and `Dev.gfault` do what the statement says of each command. -/
theorem housekeepingOverloadAndShedding : Obligations.HousekeepingOverloadAndShedding := by
  unfold Obligations.HousekeepingOverloadAndShedding
  refine ⟨hkTick_run, hkTick_overrun, hkDone_ends, mpOverloadSet_sets, mpOverloadClear_clears, shedLevelUp_raises,
    fun n k p x g t s hp hx hg hexpired => ⟨_, (exec_legHoldExpired n k t s).trans ?_, land_gfault (groupOf_lt hg) t s⟩,
    fun n k x g t s hx hg hrun => ⟨_, (exec_legNonfiniteLimit n k t s).trans ?_, land_gfault (groupOf_lt hg) t s⟩⟩
  · rw [legHoldExpired_faults (d := s.dev.begin t) hp hx hg hexpired]
  · rw [legNonFinite_faults (d := s.dev.begin t) hx hg hrun]

end Sys2Proof.Machine
end

section
/-!
SUPPORT. The legs of an engine's list (R133, R151, R153): that an engine which turns them off leaves none of them conducting or
released.
-/
namespace Sys2Proof.Machine

/-! ## A leg that an engine holds off -/

section
variable (c : LegCfg) (high : Bool) (t : Nat) (l : Leg)

@[simp] theorem Leg.offBy_ls : (l.offBy c high t).ls = l.ls := by unfold Leg.offBy; split <;> rfl
@[simp] theorem Leg.offLs_ls : (l.offLs c t).ls = false := by unfold Leg.offLs; split <;> simp_all
@[simp] theorem Leg.bothOff_ls : (l.bothOff c t).ls = false := by simp [Leg.bothOff]

end

/-- Neither switch of the leg conducts, the leg is not released, and an engine holds it off. -/
def Leg.stopped (l : Leg) : Prop := (l.hs = false ∧ l.ls = false ∧ l.live = false) ∧ l.engOff.isSome = true

/-- An engine holds leg n off, and no debug halt. -/
def Dev.legStops (n : Nat) (d : Dev) : Prop := d.pw.halted = false ∧ (d.leg n).engOff.isSome = true

/-- Leg n is stopped, and no debug halt. -/
def Dev.legStopped (n : Nat) (d : Dev) : Prop := d.pw.halted = false ∧ (d.leg n).stopped

theorem Dev.legStopped.stops {n : Nat} {d : Dev} (h : d.legStopped n) : d.legStops n := ⟨h.1, h.2.2⟩

/-- An engine that holds a leg keeps it from every other state than off. -/
theorem legHeld_of_stops {n : Nat} {d : Dev} (h : d.legStops n) : ∃ c, d.legHeld n = some c ∧ c ≠ 5 := by
  obtain ⟨hhalt, heng⟩ := h
  have hheld : d.engHeld n = true := by simp [Dev.engHeld, heng]
  unfold Dev.legHeld
  simp only [hhalt, hheld, Bool.false_eq_true, if_false, if_true]
  split_ifs
  · exact ⟨3, rfl, by decide⟩
  · exact ⟨0, rfl, by decide⟩
  · exact ⟨2, rfl, by decide⟩
  · exact ⟨4, rfl, by decide⟩

/-- Settling a leg that an engine holds off stops it. -/
theorem settleLeg_of_stops (t : Nat) {n : Nat} {d : Dev} (h : d.legStops n) :
    ∃ x : Leg, d.settleLeg t n = d.setLeg n x ∧ x.stopped := by
  obtain ⟨c, hc, hne⟩ := legHeld_of_stops h
  obtain ⟨-, heng⟩ := h
  have hlow : d.forcedLow n = false := by simp [Dev.forcedLow, Dev.engHeld, heng]
  refine ⟨{ (d.leg n).bothOff (d.legCfg n) (d.nextTick t) with live := false, heldBy := c, freeSince := none }, ?_,
    ⟨Leg.bothOff_hs _ _ _, Leg.bothOff_ls _ _ _, rfl⟩, (congrArg Option.isSome (Leg.bothOff_engOff _ _ _)).trans heng⟩
  unfold Dev.settleLeg
  rw [hc]
  split
  · next h5 => exact absurd (Option.some.inj h5) hne
  · next heq =>
    cases heq
    simp only [hlow, Bool.false_eq_true, if_false]
  · next h0 => cases h0

/-! ## Settling -/

section
variable {n : Nat} (t : Nat)

theorem setLeg_stops {m : Nat} {x : Leg} {d : Dev} (hx : x.engOff = (d.leg m).engOff) (h : d.legStops n) :
    (d.setLeg m x).legStops n := by
  refine ⟨h.1, ?_⟩
  by_cases hm : n = m
  · subst hm
    by_cases hn : n < 48
    · rw [leg_setLeg_same _ _ hn, hx]; exact h.2
    · exact absurd h.2 (by simp [Dev.leg, Array.getD, hn, Leg.reset])
  · rw [leg_setLeg_ne _ _ hm]; exact h.2

theorem setLeg_stopped {m : Nat} {x : Leg} {d : Dev} (hx : n = m → x.stopped) (h : d.legStopped n) :
    (d.setLeg m x).legStopped n := by
  refine ⟨h.1, ?_⟩
  by_cases hm : n = m
  · subst hm
    by_cases hn : n < 48
    · rw [leg_setLeg_same _ _ hn]; exact hx rfl
    · exact absurd h.2.2 (by simp [Dev.leg, Array.getD, hn, Leg.reset])
  · rw [leg_setLeg_ne _ _ hm]; exact h.2

theorem settleLeg_keeps_stops (m : Nat) {d : Dev} (h : d.legStops n) : (d.settleLeg t m).legStops n := by
  obtain ⟨heq, -⟩ | ⟨x, heq, -, hx⟩ := settleLeg_cases t m d
  · rw [heq]; exact h
  · rw [heq]; exact setLeg_stops hx h

theorem settleLeg_keeps_stopped (m : Nat) {d : Dev} (h : d.legStopped n) : (d.settleLeg t m).legStopped n := by
  by_cases hm : n = m
  · subst hm
    obtain ⟨x, heq, hx⟩ := settleLeg_of_stops t h.stops
    rw [heq]; exact setLeg_stopped (fun _ => hx) h
  · obtain ⟨heq, -⟩ | ⟨x, heq, -⟩ := settleLeg_cases t m d
    · rw [heq]; exact h
    · rw [heq]; exact setLeg_stopped (fun hnm => absurd hnm hm) h

theorem settleLeg_reaches_stopped (hn : n < 48) {d : Dev} (h : d.legStops n) : (d.settleLeg t n).legStopped n := by
  obtain ⟨x, heq, hx⟩ := settleLeg_of_stops t h
  rw [heq]
  exact ⟨h.1, by rw [leg_setLeg_same _ _ hn]; exact hx⟩

theorem joinSpread_keeps_stopped (g m : Nat) {d : Dev} (h : d.legStopped n) : (d.joinSpread t g m).legStopped n := by
  unfold Dev.joinSpread
  dsimp only
  split
  · exact h
  · split
    · exact h
    · exact setLeg_stopped (fun hnm => by subst hnm; exact h.2) h

theorem settleGroup_keeps_stopped (g : Nat) {d : Dev} (h : d.legStopped n) : (d.settleGroup t g).legStopped n := by
  have hrespread : (d.respread t g).legStopped n := by
    unfold Dev.respread
    dsimp only
    split
    · exact h
    · exact List.foldlRecOn (motive := fun x : Dev => x.legStopped n) _ _ h (fun _ hx m _ => joinSpread_keeps_stopped t g m hx)
  unfold Dev.settleGroup
  dsimp only
  split
  · exact hrespread
  · exact hrespread

theorem settleLegs_stops (hn : n < 48) {d : Dev} (h : d.legStops n) : (d.settleLegs t).legStopped n :=
  List.foldlRecOn (motive := fun x : Dev => x.legStopped n) _ _
    (foldl_reaches (I := fun x => x.legStops n) (Q := fun x => x.legStopped n) (List.mem_range.mpr hn)
      (fun m _ hx => settleLeg_keeps_stops t m hx) (fun _ hx => settleLeg_reaches_stopped t hn hx)
      (fun m _ hx => settleLeg_keeps_stopped t m hx) h)
    (fun _ hx g _ => settleGroup_keeps_stopped t g hx)

/-- Once everything has settled, a leg that an engine holds off is stopped. -/
theorem settle_stops (hn : n < 48) {d : Dev} (h : d.legStops n) : (d.settle t).legStopped n := by
  have hloss : ((d.settleLegs t).phaseLoss t).legStopped n := by
    have hhalted : ((d.settleLegs t).phaseLoss t).pw.halted = (d.settleLegs t).pw.halted :=
      (phaseLoss_frame t _).field (fun x => x.pw.halted) (fun _ => rfl)
    rw [Dev.legStopped, phaseLoss_leg, hhalted]
    exact settleLegs_stops t hn h
  unfold Dev.settle
  dsimp only
  split
  · exact settleLegs_stops t hn hloss.stops
  · exact hloss

end

/-! ## The legs of a list -/

/-- An engine that turns its legs off leaves every leg of its list stopped. -/
theorem engineLegsOff_stops {n k : Nat} (t : Nat) {d : Dev} (hk : k < 48) (hlist : k ∈ d.engLegs n)
    (hhalt : d.pw.halted = false) : (d.engineLegsOff n t).legStopped k := by
  refine settle_stops t hk ?_
  refine foldl_reaches (g := fun x l => x.setLeg l { x.leg l with engOff := some n }) (I := fun x => x.pw.halted = false)
    (Q := fun x => x.legStops k) hlist (fun _ _ hx => hx) (fun x hx => ⟨hx, by rw [leg_setLeg_same _ _ hk]; rfl⟩)
    (fun m x hx => ⟨hx.1, ?_⟩) hhalt
  by_cases hm : k = m
  · subst hm; rw [leg_setLeg_same _ _ hk]; rfl
  · rw [leg_setLeg_ne _ _ hm]; exact hx.2

theorem engineLegsOff_frame (n t : Nat) (d : Dev) : d.PowerFrame (d.engineLegsOff n t) :=
  (Dev.Frame.each (fun l _ x => setLeg_frame l { x.leg l with engOff := some n } x) d).trans (settle_frame t _)

end Sys2Proof.Machine
end

section
/-!
SUPPORT. What ends and loads a sample of an engine (R133, R134, R151, R153): the cut with its abandoned transactions, the load of
the state window, and what each leaves.
-/
namespace Sys2Proof.Machine

/-! ## Fields of one page -/

theorem getAt_putAt_other {p : Nat} {f g : FieldSpec} (v : Nat) (d : Dev) (h : g.off ≠ f.off) :
    (d.putAt p f 0 v).getAt p g 0 = d.getAt p g 0 :=
  getAt_putAt_word _ _ (by simp only [FieldSpec.addr]; omega)

theorem getAt_putAt_fits {p v : Nat} {f : FieldSpec} (d : Dev) (hf : f.fits = true) (hv : v < 2 ^ (f.hi + 1 - f.lo)) :
    (d.putAt p f 0 v).getAt p f 0 = v := by
  rw [getAt_putAt_same _ _ _ _ _ hf, Nat.mod_eq_of_lt hv]

/-- A count goes up to the largest value of its field. -/
theorem getAt_count {p : Nat} {f : FieldSpec} (d : Dev) (hf : f.fits = true) :
    (d.count p f).getAt p f 0 = min f.max (d.getAt p f 0 + 1) := by
  have hpos := Nat.two_pow_pos (f.hi + 1 - f.lo)
  rw [Dev.count_eq, getAt_putAt_fits d hf (by have := Nat.min_le_left f.max (d.getAt p f 0 + 1); rw [FieldSpec.max] at *; omega)]

@[simp] theorem getAt_setEngine (n : Nat) (x : Engine) (p : Nat) (f : FieldSpec) (i : Nat) (d : Dev) :
    (d.setEngine n x).getAt p f i = d.getAt p f i := (rfl)

/-- The list of legs of an engine is in two of its registers. -/
theorem engLegs_congr {n : Nat} {d e : Dev} (h₀ : e.getAt (pENG n) CE.LEG_LIST0_SLOTS 0 = d.getAt (pENG n) CE.LEG_LIST0_SLOTS 0)
    (h₁ : e.getAt (pENG n) CE.LEG_LIST1_SLOTS 0 = d.getAt (pENG n) CE.LEG_LIST1_SLOTS 0) : e.engLegs n = d.engLegs n := by
  unfold Dev.engLegs
  refine List.filterMap_congr (fun k _ => ?_)
  have hword : e.get (pENG n) (if k < 4 then CE.LEG_LIST0_SLOTS else CE.LEG_LIST1_SLOTS) =
      d.get (pENG n) (if k < 4 then CE.LEG_LIST0_SLOTS else CE.LEG_LIST1_SLOTS) := by
    split
    · exact h₀
    · exact h₁
  rw [hword]

/-! ## The cut (R133, R270) -/

/-- The pages on which Felt shows its tags and arbiters. -/
def feltPage (p : Nat) : Bool := decide (p = pFELT) || (decide (pARB 0 ≤ p) && decide (p < pARB 16))

/-- What an act of Felt may change. -/
abbrev Dev.FeltFrame (d e : Dev) : Prop := Dev.Frame Dev.sansFelt (onPages feltPage) d e

theorem busyWords_feltPage (a : Nat) (h : onPages feltPage a = false) : regsIn busyWords a = false := by
  by_contra hbusy
  simp only [regsIn, busyWords, List.mem_cons, List.not_mem_nil, or_false, Bool.not_eq_false, decide_eq_true_eq] at hbusy
  rcases hbusy with rfl | rfl
  · exact absurd h (by decide)
  · exact absurd h (by decide)

theorem setTag_felt_frame (k : Nat) (x : Option Tx) (d : Dev) : d.FeltFrame (d.setTag k x) :=
  (setTag_busy_frame k x d).mono (fun _ => rfl) busyWords_feltPage

theorem setFelt_frame (x : Felt) (d : Dev) : d.FeltFrame { d with felt := x } := ⟨rfl, fun _ _ => rfl⟩

theorem takeTag_of_no_bank {k : Nat} {w : Waiting} (t : Nat) (d : Dev) (hb : bankOf w.addr = none) :
    d.takeTag k w t = (d.tagged k (w.tx t d)).beginAll t := by
  simp only [Dev.takeTag, hb]
  rfl

theorem takeTag_felt_frame (k : Nat) (w : Waiting) (t : Nat) (d : Dev) : d.FeltFrame (d.takeTag k w t) := by
  have htagged (x : Tx) (e : Dev) : e.FeltFrame ((e.tagged k x).beginAll t) :=
    ((tagged_frame k x e).mono (fun _ => rfl) busyWords_feltPage).trans ((beginAll_begins t _).frame _)
  cases hb : bankOf w.addr with
  | none => rw [takeTag_of_no_bank t d hb]; exact htagged _ _
  | some b =>
    have hasked : d.FeltFrame (d.askedAnew b w) := by rw [askedAnew_arbs]; exact setFelt_frame _ d
    rw [takeTag_eq t d hb]
    exact hasked.trans (htagged _ _)

theorem pumpOne_frame (p t : Nat) (d : Dev) : d.FeltFrame (d.pumpOne p t) := by
  unfold Dev.pumpOne
  split
  · exact (setFelt_frame _ d).trans (takeTag_felt_frame _ _ t _)
  · exact .refl _ _ _

theorem pump_frame (p t : Nat) (d : Dev) : d.FeltFrame (d.pump p t) :=
  ((pumpOne_frame p t d).trans (pumpOne_frame p t _)).trans ((beginAll_begins t _).frame _)

theorem feltPage_iff (p : Nat) : feltPage p = true ↔ p = 0x08 ∨ (0x0A ≤ p ∧ p < 0x1A) := by
  simp only [feltPage, Bool.or_eq_true, Bool.and_eq_true, decide_eq_true_eq]
  rfl

theorem release_frame {b : Nat} (hb : b < 16) (d : Dev) : d.FeltFrame (d.release b) := by
  have hpage : feltPage (pARB b) = true := by rw [feltPage_iff, pARB]; omega
  exact (setFelt_frame _ d).trans ((putAt_page_frame _ _ hpage (by decide)).mono (fun _ => rfl) (fun _ h => h))

theorem releaseTag_frame (k : Nat) (d : Dev) : d.FeltFrame (d.releaseTag k) :=
  .each (fun _ hb x => .ite (fun _ => release_frame (List.mem_range.mp hb) x) (fun _ => .refl _ _ _)) d

theorem abandon_frame (p : Nat) (d : Dev) : d.FeltFrame (d.abandon p) := by
  refine .trans ((setFelt_frame _ d).trans (.trans (.each (fun k _ x => ?_) _) (setFelt_frame _ _))) (pump_frame p _ _)
  split
  · exact .ite (fun _ => (releaseTag_frame k x).trans (setTag_felt_frame k none _)) (fun _ => .refl _ _ _)
  · exact .refl _ _ _

/-- The device without its registers, Felt, the feeds of PRECEDENCE and the record of engine n. -/
def Dev.sansCut (n : Nat) (d : Dev) : Dev :=
  { d.setEngine n (.reset .legEngine .off) with regs := [], felt := .reset, prec := { d.prec with feed := [] } }

theorem sansCut_sansCut (n : Nat) (d : Dev) : Dev.sansCut n (Dev.sansCut n d) = Dev.sansCut n d := by
  simp only [Dev.sansCut, Dev.setEngine, Vector.setIfInBounds_setIfInBounds]

/-- What a cut of engine n's sample may change. -/
abbrev Dev.CutFrame (n : Nat) (d e : Dev) : Prop := Dev.Frame (Dev.sansCut n) (onPages feltPage) d e

/-- The record of an engine after its sample is cut. -/
def Engine.cut (e : Engine) : Engine :=
  { e with tickAt := none, doneAt := none, unacked := false, pend := [], staged := [], written := [],
           missedLast := e.missedLast || e.tickAt.isSome }

theorem feedDrop_cut_frame (n : Nat) (d : Dev) : d.CutFrame n (d.feedDrop n) := ⟨rfl, fun _ _ => rfl⟩

theorem feedDrop_engine (n k : Nat) (d : Dev) : (d.feedDrop n).engine k = d.engine k := (rfl)

theorem setEngine_cut_frame (n : Nat) (x : Engine) (d : Dev) : d.CutFrame n (d.setEngine n x) := by
  refine ⟨?_, fun _ _ => rfl⟩
  simp only [Dev.sansCut, setEngine_setEngine]
  rfl

theorem cutSample_eq (n : Nat) (d : Dev) : d.cutSample n = ((d.abandon n).feedDrop n).setEngine n (d.engine n).cut := by
  have habandon : (d.abandon n).engine n = d.engine n := (abandon_frame n d).field (fun x => x.engine n) (fun _ => rfl)
  have hengine : ((d.abandon n).feedDrop n).engine n = d.engine n := (feedDrop_engine n n _).trans habandon
  unfold Dev.cutSample
  dsimp only
  rw [hengine]
  rfl

theorem cutSample_frame (n : Nat) (d : Dev) : d.CutFrame n (d.cutSample n) := by
  rw [cutSample_eq]
  exact (((abandon_frame n d).mono (fun _ => rfl) (fun _ h => h)).trans (feedDrop_cut_frame n _)).trans (setEngine_cut_frame n _ _)

theorem cutSample_engine {n : Nat} (d : Dev) (hn : n < 15) : (d.cutSample n).engine n = (d.engine n).cut := by
  rw [cutSample_eq, engine_setEngine_same _ _ hn]

/-! ## The state window -/

/-- The bytes of the state window of engine n. -/
def stateWindow (n a : Nat) : Prop := dataBase n + 0x3000 ≤ a ∧ a < dataBase n + 0x3000 + 4096

/-- The device without its registers, the bytes staged, the count of open choices and the record of engine n. -/
def Dev.sansLoad (n : Nat) (d : Dev) : Dev := { d.setEngine n (.reset .legEngine .off) with regs := [], wr := [], free := 0 }

theorem sansLoad_sansLoad (n : Nat) (d : Dev) : Dev.sansLoad n (Dev.sansLoad n d) = Dev.sansLoad n d := by
  simp only [Dev.sansLoad, Dev.setEngine, Vector.setIfInBounds_setIfInBounds]

theorem setEngine_load_frame (n : Nat) (P : Nat → Bool) (x : Engine) (d : Dev) : Dev.Frame (Dev.sansLoad n) P d (d.setEngine n x) := by
  refine ⟨?_, fun _ _ => rfl⟩
  simp only [Dev.sansLoad, setEngine_setEngine]

theorem openBytes_stagesIn {R : Nat → Prop} {a len : Nat} {d : Dev} (hd : d.stagesIn R) (h : ∀ b, a ≤ b → b < a + len → R b) :
    (d.openBytes a len).stagesIn R := by
  refine stage_stagesIn (d := { d with free := d.free + 1 }) hd (fun c hc _ => ?_)
  obtain ⟨j, hj, rfl⟩ := List.mem_map.mp hc
  exact h _ (Nat.le_add_right _ _) (Nat.add_lt_add_left (List.mem_range.mp hj) a)

theorem pokes_stagesIn {R : Nat → Prop} {a : Nat} {bs : List Byte} {d : Dev} (hd : d.stagesIn R)
    (h : ∀ b, a ≤ b → b < a + bs.length → R b) : (d.pokes a bs).stagesIn R := by
  refine stage_stagesIn hd (fun c hc _ => ?_)
  obtain ⟨h₁, h₂⟩ := cellsAt_mem hc
  exact h _ h₁ h₂

theorem loadWindow_frame (m : List Host.Cell) (n : Nat) (d : Dev) :
    Dev.Frame (Dev.sansLoad n) (fun _ => false) d (d.loadWindow m n) := by
  refine (setEngine_load_frame n _ { d.engine n with vendor := .init, vendorWork := .init } d).trans ?_
  exact .ite (fun _ => ⟨rfl, fun _ _ => rfl⟩) (fun _ => .ite (fun _ => ⟨rfl, fun _ _ => rfl⟩) (fun _ => ⟨rfl, fun _ _ => rfl⟩))

theorem loadWindow_engine (m : List Host.Cell) {n : Nat} (d : Dev) (hn : n < 15) :
    (d.loadWindow m n).engine n = { d.engine n with vendor := .init, vendorWork := .init } := by
  have hload : (d.loadWindow m n).engine n = (d.setEngine n { d.engine n with vendor := .init, vendorWork := .init }).engine n := by
    unfold Dev.loadWindow
    dsimp only
    split_ifs <;> rfl
  rw [hload, engine_setEngine_same _ _ hn]

theorem loadWindow_stages (m : List Host.Cell) {n : Nat} {d : Dev} (hd : d.stagesIn (stateWindow n)) :
    (d.loadWindow m n).stagesIn (stateWindow n) := by
  unfold Dev.loadWindow
  dsimp only
  split_ifs
  · exact openBytes_stagesIn hd (fun b h₁ h₂ => ⟨h₁, h₂⟩)
  · refine pokes_stagesIn (pokes_stagesIn hd (fun b h₁ h₂ => ?_)) (fun b h₁ h₂ => ?_)
    all_goals rw [List.length_map, List.length_range] at h₂
    · exact ⟨h₁, by omega⟩
    · exact ⟨by omega, by omega⟩
  · exact openBytes_stagesIn hd (fun b h₁ h₂ => ⟨h₁, h₂⟩)

end Sys2Proof.Machine
end

section
/-! Start, stop, restart, resume and mailbox commit of an engine (R134, R143, R151, R153). -/
namespace Sys2Proof.Machine

/-! ## Pages and landing -/

/-- The page of engine n. -/
def engPage (n p : Nat) : Bool := decide (p = pENG n)

theorem engPage_frame {n : Nat} (f : FieldSpec) (v : Nat) (d : Dev) (hf : f.off + 0 * f.stride < 0x1000) :
    Dev.Frame Dev.sansRegs (onPages (engPage n)) d (d.putAt (pENG n) f 0 v) :=
  putAt_page_frame v d (decide_eq_true rfl) hf

@[simp] theorem putAt_engine (p : Nat) (f : FieldSpec) (i v k : Nat) (d : Dev) : (d.putAt p f i v).engine k = d.engine k := (rfl)

theorem showState_eq (n : Nat) (d : Dev) : d.showState n = d.putAt (pENG n) TE.STATUS_STATE 0 (d.engCode n) := (rfl)

theorem engCause_eq (n c : Nat) (d : Dev) :
    d.engCause n c = (d.putAt (pENG n) TE.FAULT_CODE_CAUSE 0 c).putAt (pENG n) TE.FAULT_CODE_ADDR 0 0 := (rfl)

theorem vendorOff_eq {n : Nat} (hn : n < 12) (d : Dev) : d.vendorOff n = d.putAt (pENG n) CE.STATUS_VENDOR 0 0 := if_pos hn

theorem engCause_shows {n c : Nat} (d : Dev) (hc : c < 16) : (d.engCause n c).getAt (pENG n) TE.FAULT_CODE_CAUSE 0 = c := by
  rw [engCause_eq, getAt_putAt_apart _ _ (by decide) (by decide), getAt_putAt_fits _ (by decide) hc]

theorem engCause_other {n c : Nat} {f : FieldSpec} (d : Dev) (hf : f.off ≠ 0x024) :
    (d.engCause n c).getAt (pENG n) f 0 = d.getAt (pENG n) f 0 := by
  rw [engCause_eq, getAt_putAt_other _ _ hf, getAt_putAt_other _ _ hf]

theorem engCause_regs (n c : Nat) (d : Dev) : Dev.Frame Dev.sansRegs (onPages (engPage n)) d (d.engCause n c) :=
  (engPage_frame _ _ d (by decide)).trans (engPage_frame _ _ _ (by decide))

section
variable {t : Nat} {e : Dev} {s : State}

/-- A field after a command of the register target, the LOCK word aside. -/
theorem land_regRound_getAt {p : Nat} {f : FieldSpec} (hf : f.off < 0x1000 ∧ f.off ≠ 0x1C) :
    (s.land t e.regRound).dev.getAt p f 0 = e.getAt p f 0 := by
  rw [land_getAt, regRound_getAt]
  simp only [FieldSpec.addr]
  omega

theorem land_regRound_engine (n : Nat) : (s.land t e.regRound).dev.engine n = e.engine n := by
  simp only [Dev.engine, land_eng, regRound_eng]

theorem land_regRound_leg (n : Nat) : (s.land t e.regRound).dev.leg n = e.leg n := by
  simp only [Dev.leg, land_pw, regRound_pw]

theorem land_regRound_memSame (hwr : e.wr = []) (hwipe : e.wipe = []) : s.memSame (s.land t e.regRound) :=
  land_memSame (by rw [regRound_wr, hwr]) (by rw [regRound_wipe, hwipe])

theorem land_regRound_memSameBut {a n : Nat} (hst : e.stagesIn (fun b => a ≤ b ∧ b < a + n)) (hwipe : e.wipe = []) :
    s.memSameBut a n (s.land t e.regRound) := by
  refine ⟨fun b hb => land_memByte (R := fun b => a ≤ b ∧ b < a + n) (by rw [regRound_wipe, hwipe]) ?_ (by omega), rfl⟩
  intro c hc
  rw [regRound_wr] at hc
  exact hst c hc

theorem land_regRound_legsDark {l : List Nat} (h : ∀ k ∈ l, k < 48 → e.legStopped k) :
    (s.land t e.regRound).legsDark l := by
  intro k hk hlt
  obtain ⟨-, hstopped, -⟩ := h k hk hlt
  rw [land_regRound_leg]
  exact hstopped

end

/-! ## Start (R134, R151) -/

/-- The record of an engine that starts. -/
def Engine.started (e : Engine) : Engine :=
  { e with st := .wait, regs := Vector.replicate 32 0, pc := 0, stack := [], first := true, releaseDue := true,
           legsOff := false, missedLast := false, resumeDue := false }

/-- What a start shows. -/
def Dev.startShown (n : Nat) (d : Dev) : Dev :=
  (((d.put (pENG n) CE.MISS_STAT_CONSEC 0).put (pENG n) CE.CLEAN_RUN 0).put (pENG n) CE.STATUS_LEGS_FORCED_OFF 0).showState n

/-- The start of an engine that nothing refuses. -/
def Dev.engineStarted (m : List Host.Cell) (n : Nat) (d : Dev) : Dev :=
  (((d.loadWindow m n).put (pENG n) CE.CTRL_RUN 1).setEngine n
    (((d.loadWindow m n).put (pENG n) CE.CTRL_RUN 1).engine n).started).startShown n

theorem engineRun_starts {m : List Host.Cell} {n : Nat} {d : Dev} (hst : (d.engine n).st = .off) (hr : d.runRefusal n = none) :
    d.engineRun m n = d.engineStarted m n := by
  unfold Dev.engineRun
  simp only [hst, if_true, hr]
  rfl

theorem startShown_frame (n : Nat) (d : Dev) : Dev.Frame Dev.sansRegs (onPages (engPage n)) d (d.startShown n) :=
  (((engPage_frame _ _ d (by decide)).trans (engPage_frame _ _ _ (by decide))).trans (engPage_frame _ _ _ (by decide))).trans
    (engPage_frame _ _ _ (by decide))

theorem startShown_run (n : Nat) (d : Dev) : (d.startShown n).getAt (pENG n) CE.CTRL_RUN 0 = d.getAt (pENG n) CE.CTRL_RUN 0 := by
  simp only [Dev.startShown, Dev.put_eq, showState_eq]
  rw [getAt_putAt_other _ _ (by decide), getAt_putAt_other _ _ (by decide), getAt_putAt_other _ _ (by decide),
    getAt_putAt_other _ _ (by decide)]

theorem startShown_counts (n : Nat) (d : Dev) : (d.startShown n).getAt (pENG n) CE.MISS_STAT_CONSEC 0 = 0 ∧
    (d.startShown n).getAt (pENG n) CE.CLEAN_RUN 0 = 0 := by
  simp only [Dev.startShown, Dev.put_eq, showState_eq]
  refine ⟨?_, ?_⟩
  · rw [getAt_putAt_other _ _ (by decide), getAt_putAt_other _ _ (by decide), getAt_putAt_other _ _ (by decide),
      getAt_putAt_fits _ (by decide) (by decide)]
  · rw [getAt_putAt_other _ _ (by decide), getAt_putAt_other _ _ (by decide), getAt_putAt_fits _ (by decide) (by decide)]

section
variable (m : List Host.Cell) {n : Nat} (d : Dev)

theorem engineStarted_frame : Dev.Frame (Dev.sansLoad n) (onPages (engPage n)) d (d.engineStarted m n) :=
  ((((loadWindow_frame m n d).mono (sansLoad_sansLoad n) (fun _ _ => rfl)).trans
    ((engPage_frame CE.CTRL_RUN 1 _ (by decide)).mono (fun _ => rfl) (fun _ h => h))).trans (setEngine_load_frame n _ _ _)).trans
    ((startShown_frame n _).mono (fun _ => rfl) (fun _ h => h))

theorem engineStarted_engine (hn : n < 15) :
    (d.engineStarted m n).engine n = Engine.started { d.engine n with vendor := .init, vendorWork := .init } := by
  have hrun : ((d.loadWindow m n).put (pENG n) CE.CTRL_RUN 1).engine n = (d.loadWindow m n).engine n := rfl
  have hshown := (startShown_frame n (((d.loadWindow m n).put (pENG n) CE.CTRL_RUN 1).setEngine n
    (((d.loadWindow m n).put (pENG n) CE.CTRL_RUN 1).engine n).started)).field (fun x => x.engine n) (fun _ => rfl)
  exact hshown.trans (by rw [engine_setEngine_same _ _ hn, hrun, loadWindow_engine m d hn])

theorem engineStarted_stages (h : d.stagesIn (stateWindow n)) : (d.engineStarted m n).stagesIn (stateWindow n) := by
  have hwr : (d.engineStarted m n).wr = (d.loadWindow m n).wr := (startShown_frame n _).field Dev.wr (fun _ => rfl)
  intro c hc
  rw [hwr] at hc
  exact loadWindow_stages m h c hc

theorem engineStarted_run : (d.engineStarted m n).getAt (pENG n) CE.CTRL_RUN 0 = 1 := by
  rw [Dev.engineStarted, startShown_run, getAt_setEngine, Dev.put_eq, getAt_putAt_fits _ (by decide) (by decide)]

end

theorem exec_engineRun (n : Fin 12) (t : Nat) (s : State) :
    exec (.engineRun n t) s = .next (s.land t ((s.dev.begin t).runWrite s.mem n true t).regRound) := (rfl)

theorem runWrite_true (m : List Host.Cell) (n t : Nat) {d : Dev} (h : d.boot.idle = false) :
    d.runWrite m n true t = d.engineRun m n := by
  simp only [Dev.runWrite, h, Bool.false_eq_true, if_false, if_true]

theorem runWrite_false (m : List Host.Cell) (n t : Nat) {d : Dev} (h : d.boot.idle = false) :
    d.runWrite m n false t = d.engineStop n t := by
  simp only [Dev.runWrite, h, Bool.false_eq_true, if_false]

theorem engineRun_waits (n : Fin 12) (t : Nat) (s : State) (hidle : s.dev.boot.idle = false) (hst : (s.dev.engine n).st = .off)
    (hr : s.dev.runRefusal n = none) :
    ∃ s', exec (.engineRun n t) s = .next s' ∧ (s'.dev.engine n).st = .wait ∧ (s'.dev.engine n).first = true ∧
      s'.dev.flag (pENG n) CE.CTRL_RUN = true ∧ s'.dev.get (pENG n) CE.MISS_STAT_CONSEC = 0 ∧
      s'.dev.get (pENG n) CE.CLEAN_RUN = 0 ∧ (∀ j, j ≠ n.val → s'.dev.engine j = s.dev.engine j) ∧
      s'.dev.pw = s.dev.pw ∧ s.memSameBut (dataBase n + 0x3000) 4096 s' := by
  have hn : n.val < 15 := by omega
  have hengine := engineStarted_engine s.mem (n := n) (s.dev.begin t) hn
  have hrun := engineStarted_run s.mem (n := n) (s.dev.begin t)
  obtain ⟨hconsec, hclean⟩ : ((s.dev.begin t).engineStarted s.mem n).getAt (pENG n) CE.MISS_STAT_CONSEC 0 = 0 ∧
    ((s.dev.begin t).engineStarted s.mem n).getAt (pENG n) CE.CLEAN_RUN 0 = 0 := startShown_counts n _
  have hframe := engineStarted_frame s.mem (n := n) (s.dev.begin t)
  have hstages := engineStarted_stages s.mem (n := n) (s.dev.begin t) (fun c hc => by cases hc)
  rw [exec_engineRun, runWrite_true _ _ _ (d := s.dev.begin t) hidle, engineRun_starts (d := s.dev.begin t) hst hr]
  generalize (s.dev.begin t).engineStarted s.mem n = e at hengine hrun hconsec hclean hframe hstages ⊢
  refine ⟨_, rfl, ?_, ?_, ?_, ?_, ?_, fun j hj => ?_, ?_, land_regRound_memSameBut hstages (hframe.field Dev.wipe (fun _ => rfl))⟩
  · rw [land_regRound_engine, hengine]; rfl
  · rw [land_regRound_engine, hengine]; rfl
  · rw [Dev.flag_eq, land_regRound_getAt (by decide), hrun]; rfl
  · rw [Dev.get_eq, land_regRound_getAt (by decide), hconsec]
  · rw [Dev.get_eq, land_regRound_getAt (by decide), hclean]
  · rw [land_regRound_engine]
    exact hframe.field (fun x => x.engine j) (fun x => engine_setEngine_ne _ x hj)
  · rw [land_pw, regRound_pw]
    exact hframe.field Dev.pw (fun _ => rfl)

/-! ## Refusal (R151) -/

theorem runRefusal_lt {n c : Nat} {d : Dev} (h : d.runRefusal n = some c) : c < 16 := by
  unfold Dev.runRefusal at h
  dsimp only at h
  split_ifs at h
  all_goals cases h; decide

/-- A start that is refused. -/
def Dev.startRefused (n c : Nat) (d : Dev) : Dev := ((d.put (pENG n) CE.CTRL_RUN 0).raise (pENG n) CE.IRQ_RAW_START_REFUSED).engCause n c

theorem engineRun_refuses {m : List Host.Cell} {n c : Nat} {d : Dev} (hst : (d.engine n).st = .off) (hr : d.runRefusal n = some c) :
    d.engineRun m n = d.startRefused n c := by
  unfold Dev.engineRun
  simp only [hst, if_true, hr]
  rfl

theorem startRefused_frame (n c : Nat) (d : Dev) : Dev.Frame Dev.sansRegs (onPages (engPage n)) d (d.startRefused n c) :=
  ((engPage_frame _ _ d (by decide)).trans (engPage_frame _ _ _ (by decide))).trans (engCause_regs n c _)

theorem startRefused_shows {n c : Nat} (d : Dev) (hc : c < 16) : (d.startRefused n c).getAt (pENG n) CE.CTRL_RUN 0 = 0 ∧
    (d.startRefused n c).getAt (pENG n) CE.IRQ_RAW_START_REFUSED 0 = 1 ∧
    (d.startRefused n c).getAt (pENG n) CE.FAULT_CODE_CAUSE 0 = c := by
  refine ⟨?_, ?_, engCause_shows _ hc⟩
  · rw [Dev.startRefused, engCause_other _ (by decide), Dev.raise_eq, getAt_putAt_other _ _ (by decide), Dev.put_eq,
      getAt_putAt_fits _ (by decide) (by decide)]
  · rw [Dev.startRefused, engCause_other _ (by decide), Dev.raise_eq, getAt_putAt_fits _ (by decide) (by decide)]

theorem engineRun_refused (n : Fin 12) (t c : Nat) (s : State) (hidle : s.dev.boot.idle = false)
    (hst : (s.dev.engine n).st = .off) (hr : s.dev.runRefusal n = some c) :
    ∃ s', exec (.engineRun n t) s = .next s' ∧ s'.dev.eng = s.dev.eng ∧ s'.dev.flag (pENG n) CE.CTRL_RUN = false ∧
      s'.dev.flag (pENG n) CE.IRQ_RAW_START_REFUSED = true ∧ s'.dev.get (pENG n) CE.FAULT_CODE_CAUSE = c ∧ s.memSame s' := by
  obtain ⟨hrun, hirq, hcause⟩ := startRefused_shows (n := n) (s.dev.begin t) (runRefusal_lt hr)
  have hframe := startRefused_frame n c (s.dev.begin t)
  rw [exec_engineRun, runWrite_true _ _ _ (d := s.dev.begin t) hidle, engineRun_refuses (d := s.dev.begin t) hst hr]
  generalize (s.dev.begin t).startRefused n c = e at hrun hirq hcause hframe ⊢
  refine ⟨_, rfl, ?_, ?_, ?_, ?_,
    land_regRound_memSame (hframe.field Dev.wr (fun _ => rfl)) (hframe.field Dev.wipe (fun _ => rfl))⟩
  · rw [land_eng, regRound_eng]
    exact hframe.field Dev.eng (fun _ => rfl)
  · rw [Dev.flag_eq, land_regRound_getAt (by decide), hrun]; rfl
  · rw [Dev.flag_eq, land_regRound_getAt (by decide), hirq]; rfl
  · rw [Dev.get_eq, land_regRound_getAt (by decide), hcause]

/-! ## Stop (R151) -/

/-- The pages of Felt and of engine n. -/
def cutPage (n p : Nat) : Bool := feltPage p || engPage n p

theorem engPage_cut_frame {n : Nat} (f : FieldSpec) (v : Nat) (d : Dev) (hf : f.off + 0 * f.stride < 0x1000) :
    Dev.Frame (Dev.sansCut n) (onPages (cutPage n)) d (d.putAt (pENG n) f 0 v) :=
  (putAt_page_frame (Q := cutPage n) v d (by simp [cutPage, engPage]) hf).mono (fun _ => rfl) (fun _ h => h)

theorem cutSample_pages_frame (n : Nat) (d : Dev) : Dev.Frame (Dev.sansCut n) (onPages (cutPage n)) d (d.cutSample n) :=
  (cutSample_frame n d).mono (sansCut_sansCut n) (fun _ h => (Bool.or_eq_false_iff.mp h).1)

/-- A cut leaves the registers of the engines. -/
theorem cutSample_getAt {n j : Nat} {f : FieldSpec} (d : Dev) (hf : f.off + 0 * f.stride < 0x1000) :
    (d.cutSample n).getAt (pENG j) f 0 = d.getAt (pENG j) f 0 := by
  refine (cutSample_frame n d).getAt ?_
  rw [onPages, addr_page hf, Bool.eq_false_iff, Ne, feltPage_iff, pENG]
  omega

/-- What the legs of an engine do leaves its registers. -/
theorem engineLegsOff_getAt {n t : Nat} {f : FieldSpec} (d : Dev) (hn : n < 16) (hf : f.off + 0 * f.stride < 0x1000) :
    (d.engineLegsOff n t).getAt (pENG n) f 0 = d.getAt (pENG n) f 0 := by
  refine (engineLegsOff_frame n t d).getAt ?_
  rw [onPages, addr_page hf, Bool.eq_false_iff, Ne, powerPage_iff, pENG]
  omega

/-- The record of an engine that stops, its sample cut. -/
def Engine.offNow (e : Engine) : Engine := { e with st := .off, restartAt := none, releaseDue := false, resumeDue := false }

/-- An engine that stops, its legs aside. -/
def Dev.engineStopped (n : Nat) (d : Dev) : Dev :=
  let d := (d.put (pENG n) CE.CTRL_RUN 0).cutSample n
  ((d.setEngine n (d.engine n).offNow).vendorOff n).showState n

theorem engineStop_stops {n t : Nat} {d : Dev} (hoff : (d.engine n).st ≠ .off) (hrole : (d.engine n).st ≠ .role) :
    d.engineStop n t = (d.engineStopped n).engineLegsOff n t := by
  unfold Dev.engineStop
  simp only [hoff, hrole, decide_false, Bool.or_self, Bool.false_eq_true, if_false]
  rfl

section
variable {n : Nat} (d : Dev)

theorem engineStopped_frame (hn : n < 12) : Dev.Frame (Dev.sansCut n) (onPages (cutPage n)) d (d.engineStopped n) := by
  rw [Dev.engineStopped]
  rw [vendorOff_eq hn, showState_eq]
  refine .trans (.trans ?_ (engPage_cut_frame _ _ _ (by decide))) (engPage_cut_frame _ _ _ (by decide))
  exact (((engPage_cut_frame _ _ d (by decide)).trans (cutSample_pages_frame n _)).trans
    ((setEngine_cut_frame n _ _).mono (sansCut_sansCut n) (fun _ h => (Bool.or_eq_false_iff.mp h).1)))

theorem engineStopped_engine (hn : n < 12) : ((d.engineStopped n).engine n).st = .off ∧ ((d.engineStopped n).engine n).tickAt = none := by
  have hcut := cutSample_engine (d.put (pENG n) CE.CTRL_RUN 0) (show n < 15 by omega)
  rw [Dev.engineStopped, vendorOff_eq hn, showState_eq]
  rw [putAt_engine, putAt_engine, engine_setEngine_same _ _ (by omega), hcut]
  exact ⟨rfl, rfl⟩

theorem engineStopped_other {f : FieldSpec} (hn : n < 12) (hf : f.off ≠ 0x00C ∧ f.off ≠ 0x008) (hlt : f.off + 0 * f.stride < 0x1000) :
    (d.engineStopped n).getAt (pENG n) f 0 = d.getAt (pENG n) f 0 := by
  rw [Dev.engineStopped, vendorOff_eq hn, showState_eq]
  rw [getAt_putAt_other _ _ hf.1, getAt_putAt_other _ _ hf.1, getAt_setEngine, cutSample_getAt _ hlt, Dev.put_eq,
    getAt_putAt_other _ _ hf.2]

theorem engineStopped_run (hn : n < 12) : (d.engineStopped n).getAt (pENG n) CE.CTRL_RUN 0 = 0 := by
  rw [Dev.engineStopped, vendorOff_eq hn, showState_eq]
  rw [getAt_putAt_other _ _ (by decide), getAt_putAt_other _ _ (by decide), getAt_setEngine, cutSample_getAt _ (by decide),
    Dev.put_eq, getAt_putAt_fits _ (by decide) (by decide)]

end

theorem exec_engineStop (n : Fin 12) (t : Nat) (s : State) :
    exec (.engineStop n t) s = .next (s.land t ((s.dev.begin t).runWrite s.mem n false t).regRound) := (rfl)

theorem engineStop_halts (n : Fin 12) (t : Nat) (s : State) (hidle : s.dev.boot.idle = false) (hoff : (s.dev.engine n).st ≠ .off)
    (hrole : (s.dev.engine n).st ≠ .role) (hhalt : s.dev.pw.halted = false) :
    ∃ s', exec (.engineStop n t) s = .next s' ∧ (s'.dev.engine n).st = .off ∧ (s'.dev.engine n).tickAt = none ∧
      s'.dev.flag (pENG n) CE.CTRL_RUN = false ∧ s'.legsDark (s.dev.engLegs n) ∧ s'.dev.triad = s.dev.triad ∧ s.memSame s' := by
  have hn : n.val < 12 := n.isLt
  obtain ⟨hst, htick⟩ := engineStopped_engine (n := n) (s.dev.begin t) hn
  have hrun := engineStopped_run (n := n) (s.dev.begin t) hn
  have hframe := engineStopped_frame (n := n) (s.dev.begin t) hn
  have hlist : ((s.dev.begin t).engineStopped n).engLegs n = (s.dev.begin t).engLegs n :=
    engLegs_congr (engineStopped_other _ hn (by decide) (by decide)) (engineStopped_other _ hn (by decide) (by decide))
  rw [exec_engineStop, runWrite_false _ _ _ (d := s.dev.begin t) hidle, engineStop_stops (d := s.dev.begin t) hoff hrole]
  generalize (s.dev.begin t).engineStopped n = e at hst htick hrun hframe hlist ⊢
  have hhalt' : e.pw.halted = false := (hframe.field (fun x => x.pw.halted) (fun _ => rfl)).trans hhalt
  have hlegs : ∀ k ∈ s.dev.engLegs n, k < 48 → (e.engineLegsOff n t).legStopped k :=
    fun k hk hlt => engineLegsOff_stops t hlt (hlist ▸ hk) hhalt'
  have hrun' := engineLegsOff_getAt (n := n) (t := t) (f := CE.CTRL_RUN) e (by omega) (by decide)
  have hpower := engineLegsOff_frame n t e
  generalize e.engineLegsOff n t = f at hlegs hrun' hpower ⊢
  have hengine : f.engine n = e.engine n := hpower.field (fun x => x.engine n) (fun _ => rfl)
  refine ⟨_, rfl, ?_, ?_, ?_, land_regRound_legsDark hlegs, ?_, land_regRound_memSame ?_ ?_⟩
  · rw [land_regRound_engine, hengine, hst]
  · rw [land_regRound_engine, hengine, htick]
  · rw [Dev.flag_eq, land_regRound_getAt (by decide), hrun', hrun]; rfl
  · rw [land_triad, regRound_triad]
    exact (hpower.field Dev.triad (fun _ => rfl)).trans (hframe.field Dev.triad (fun _ => rfl))
  · exact (hpower.field Dev.wr (fun _ => rfl)).trans (hframe.field Dev.wr (fun _ => rfl))
  · exact (hpower.field Dev.wipe (fun _ => rfl)).trans (hframe.field Dev.wipe (fun _ => rfl))

/-! ## Restart (R153) -/

/-- The record of an engine that restarts at t. -/
def Engine.restarted (n t : Nat) (e : Engine) : Engine :=
  { e with st := .restart, regs := Vector.replicate 32 0, pc := 0, stack := [], restartAt := some t, releaseDue := false,
           resumeDue := false, legsOff := if n < 12 then true else e.legsOff }

/-- An engine that restarts, its legs aside. -/
def Dev.restartBegun (m : List Host.Cell) (n t : Nat) (d : Dev) : Dev :=
  let d := (d.cutSample n).loadWindow m n
  (((d.setEngine n ((d.engine n).restarted n t)).count (pENG n) TE.RESTARTS).vendorOff n).showState n

/-- The counts and the legs of a control engine that restarts. -/
def Dev.restartLegs (n t : Nat) (d : Dev) : Dev :=
  (((d.put (pENG n) CE.MISS_STAT_CONSEC 0).put (pENG n) CE.CLEAN_RUN 0).put (pENG n) CE.STATUS_LEGS_FORCED_OFF 1).engineLegsOff n t

theorem restart_eq (m : List Host.Cell) (n t : Nat) (d : Dev) :
    d.restart m n t = if n < 12 then (d.restartBegun m n t).restartLegs n t else d.restartBegun m n t := (rfl)

theorem vendorOff_other {n : Nat} {f : FieldSpec} (d : Dev) (hf : f.off ≠ 0x00C) :
    (d.vendorOff n).getAt (pENG n) f 0 = d.getAt (pENG n) f 0 := by
  unfold Dev.vendorOff
  split
  · exact getAt_putAt_other _ _ hf
  · rfl

theorem vendorOff_engine (n k : Nat) (d : Dev) : (d.vendorOff n).engine k = d.engine k := by
  unfold Dev.vendorOff
  split <;> rfl

theorem vendorOff_cut_frame (n : Nat) (d : Dev) : Dev.Frame (Dev.sansCut n) (onPages (cutPage n)) d (d.vendorOff n) :=
  .ite (fun _ => engPage_cut_frame _ _ d (by decide)) (fun _ => .refl _ _ _)

section
variable (m : List Host.Cell) {n : Nat} (t : Nat) (d : Dev)

theorem loadWindow_getAt (p : Nat) (f : FieldSpec) : (d.loadWindow m n).getAt p f 0 = d.getAt p f 0 :=
  (loadWindow_frame m n d).getAt rfl

theorem restartBegun_engine (hn : n < 15) : (d.restartBegun m n t).engine n =
    Engine.restarted n t { (d.engine n).cut with vendor := .init, vendorWork := .init } := by
  rw [Dev.restartBegun, showState_eq, putAt_engine, vendorOff_engine, Dev.count_eq, putAt_engine, engine_setEngine_same _ _ hn,
    loadWindow_engine m _ hn, cutSample_engine d hn]

theorem restartBegun_other {f : FieldSpec} (hf : f.off ≠ 0x00C ∧ f.off ≠ 0x06C) (hlt : f.off + 0 * f.stride < 0x1000) :
    (d.restartBegun m n t).getAt (pENG n) f 0 = d.getAt (pENG n) f 0 := by
  rw [Dev.restartBegun, showState_eq, getAt_putAt_other _ _ hf.1, vendorOff_other _ hf.1, Dev.count_eq, getAt_putAt_other _ _ hf.2,
    getAt_setEngine, loadWindow_getAt, cutSample_getAt _ hlt]

theorem restartBegun_counts : (d.restartBegun m n t).getAt (pENG n) TE.RESTARTS 0 =
    min 65535 (d.getAt (pENG n) TE.RESTARTS 0 + 1) := by
  rw [Dev.restartBegun, showState_eq, getAt_putAt_other _ _ (by decide), vendorOff_other _ (by decide), getAt_count _ (by decide),
    getAt_setEngine, loadWindow_getAt, cutSample_getAt _ (by decide)]
  rfl

/-- The power stage is as before until the legs go off. -/
theorem restartBegun_pw : (d.restartBegun m n t).pw = d.pw := by
  have hcut : (d.cutSample n).pw = d.pw := (cutSample_frame n d).field Dev.pw (fun _ => rfl)
  have hload : ((d.cutSample n).loadWindow m n).pw = (d.cutSample n).pw := (loadWindow_frame m n _).field Dev.pw (fun _ => rfl)
  have hvendor (e : Dev) : (e.vendorOff n).pw = e.pw := (vendorOff_cut_frame n e).field Dev.pw (fun _ => rfl)
  rw [Dev.restartBegun, showState_eq, putAt_pw, hvendor, Dev.count_eq, putAt_pw, setEngine_pw, hload, hcut]

theorem restartLegs_getAt {f : FieldSpec} (hn : n < 12) (hf : f.off ≠ 0x00C ∧ f.off ≠ 0x058 ∧ f.off ≠ 0x05C)
    (hlt : f.off + 0 * f.stride < 0x1000) : (d.restartLegs n t).getAt (pENG n) f 0 = d.getAt (pENG n) f 0 := by
  obtain ⟨hstatus, hmiss, hclean⟩ := hf
  rw [Dev.restartLegs, engineLegsOff_getAt _ (by omega) hlt, Dev.put_eq, getAt_putAt_other _ _ hstatus, Dev.put_eq,
    getAt_putAt_other _ _ hclean, Dev.put_eq, getAt_putAt_other _ _ hmiss]

theorem restartLegs_engine (k : Nat) : (d.restartLegs n t).engine k = d.engine k :=
  (engineLegsOff_frame n t _).field (fun x => x.engine k) (fun _ => rfl)

theorem restartLegs_stops (hhalt : d.pw.halted = false) {k : Nat} (hk : k < 48) (hlist : k ∈ d.engLegs n) :
    (d.restartLegs n t).legStopped k := by
  refine engineLegsOff_stops t hk ?_ hhalt
  have hsame : (((d.put (pENG n) CE.MISS_STAT_CONSEC 0).put (pENG n) CE.CLEAN_RUN 0).put (pENG n) CE.STATUS_LEGS_FORCED_OFF 1).engLegs n =
      d.engLegs n := by
    refine engLegs_congr ?_ ?_
    all_goals rw [Dev.put_eq, getAt_putAt_other _ _ (by decide), Dev.put_eq, getAt_putAt_other _ _ (by decide), Dev.put_eq,
      getAt_putAt_other _ _ (by decide)]
  rw [hsame]
  exact hlist

end

/-- What a restart stages lies in the state window. -/
theorem restart_stages (m : List Host.Cell) (n t : Nat) {d : Dev} (hwr : d.wr = []) (hwipe : d.wipe = []) :
    (d.restart m n t).stagesIn (stateWindow n) ∧ (d.restart m n t).wipe = [] := by
  obtain ⟨hw, hp⟩ := Prod.mk.inj (restart_staged m n t d)
  have hcut : (d.cutSample n).wr = [] := ((cutSample_frame n d).field Dev.wr (fun _ => rfl)).trans hwr
  have hcut' : (d.cutSample n).wipe = [] := ((cutSample_frame n d).field Dev.wipe (fun _ => rfl)).trans hwipe
  refine ⟨fun c hc => ?_, hp.trans (((loadWindow_frame m n _).field Dev.wipe (fun _ => rfl)).trans hcut')⟩
  rw [hw] at hc
  exact loadWindow_stages m (fun c hc => by rw [hcut] at hc; cases hc) c hc

section
variable (m : List Host.Cell) {n : Nat} (t : Nat) (d : Dev)

theorem restart_engine (hn : n < 15) : (d.restart m n t).engine n =
    Engine.restarted n t { (d.engine n).cut with vendor := .init, vendorWork := .init } := by
  rw [restart_eq]
  split
  · rw [restartLegs_engine, restartBegun_engine m t d hn]
  · rw [restartBegun_engine m t d hn]

theorem restart_counts : (d.restart m n t).getAt (pENG n) TE.RESTARTS 0 = min 65535 (d.getAt (pENG n) TE.RESTARTS 0 + 1) := by
  rw [restart_eq]
  split
  · next hn => rw [restartLegs_getAt t _ hn (by decide) (by decide), restartBegun_counts]
  · rw [restartBegun_counts]

/-- A restart of a control engine stops the legs of its list. -/
theorem restart_stops (hn : n < 12) (hhalt : d.pw.halted = false) {k : Nat} (hk : k < 48) (hlist : k ∈ d.engLegs n) :
    (d.restart m n t).legStopped k := by
  rw [restart_eq, if_pos hn]
  refine restartLegs_stops t _ (by rw [restartBegun_pw]; exact hhalt) hk ?_
  rw [engLegs_congr (restartBegun_other m t d (by decide) (by decide)) (restartBegun_other m t d (by decide) (by decide))]
  exact hlist

end

theorem exec_restart (n : Fin 15) (t : Nat) (s : State) :
    exec (.restart n t) s = .next (s.land t (((s.dev.begin t).restart s.mem n t).engCause n 0xB).regRound) := (rfl)

theorem restart_restarts (n : Fin 15) (t : Nat) (s : State) :
    ∃ s', exec (.restart n t) s = .next s' ∧ (s'.dev.engine n).st = .restart ∧ (s'.dev.engine n).pc = 0 ∧
      (s'.dev.engine n).regs = Vector.replicate 32 0 ∧ (s'.dev.engine n).tickAt = none ∧
      s'.dev.get (pENG n) TE.RESTARTS = min 65535 (s.dev.get (pENG n) TE.RESTARTS + 1) ∧
      s'.dev.get (pENG n) TE.FAULT_CODE_CAUSE = 0xB ∧
      (n.val < 12 → (s'.dev.engine n).legsOff = true ∧ (s.dev.pw.halted = false → s'.legsDark (s.dev.engLegs n))) ∧
      s.memSameBut (dataBase n + 0x3000) 4096 s' := by
  have hengine := restart_engine s.mem (n := n) t (s.dev.begin t) n.isLt
  have hcounts := restart_counts s.mem (n := n) t (s.dev.begin t)
  have hlegs (hn : n.val < 12) (hhalt : s.dev.pw.halted = false) (k : Nat) (hlist : k ∈ s.dev.engLegs n) (hk : k < 48) :=
    restart_stops s.mem (n := n) t (s.dev.begin t) hn hhalt hk hlist
  obtain ⟨hstages, hwipe⟩ := restart_stages s.mem n t (d := s.dev.begin t) rfl rfl
  rw [exec_restart]
  generalize (s.dev.begin t).restart s.mem n t = e at hengine hcounts hlegs hstages hwipe ⊢
  have hframe := engCause_regs n 0xB e
  have hcause := engCause_shows (n := n) e (show (0xB : Nat) < 16 by decide)
  have hother := engCause_other (n := n) (c := 0xB) (f := TE.RESTARTS) e (by decide)
  generalize e.engCause n 0xB = f at hframe hcause hother ⊢
  have hengine' : f.engine n = e.engine n := hframe.field (fun x => x.engine n) (fun _ => rfl)
  have hwr : f.wr = e.wr := hframe.field Dev.wr (fun _ => rfl)
  have hleg (k : Nat) (h : e.legStopped k) : f.legStopped k := by
    have hpw : f.pw = e.pw := hframe.field Dev.pw (fun _ => rfl)
    simpa only [Dev.legStopped, Dev.leg, hpw] using h
  have hmem : s.memSameBut (dataBase n + 0x3000) 4096 (s.land t f.regRound) :=
    land_regRound_memSameBut (fun c hc => hstages c (hwr ▸ hc)) ((hframe.field Dev.wipe (fun _ => rfl)).trans hwipe)
  have hrecord : (s.land t f.regRound).dev.engine n =
      Engine.restarted n t { (s.dev.engine n).cut with vendor := .init, vendorWork := .init } := by
    rw [land_regRound_engine, hengine', hengine]; rfl
  refine ⟨_, rfl, ?_⟩
  rw [hrecord]
  refine ⟨rfl, rfl, rfl, rfl, ?_, ?_, fun hn => ⟨if_pos hn, fun hhalt => land_regRound_legsDark (fun k hlist hk =>
    hleg k (hlegs hn hhalt k hlist hk))⟩, hmem⟩
  · rw [Dev.get_eq, land_regRound_getAt (by decide), hother, hcounts]; rfl
  · rw [Dev.get_eq, land_regRound_getAt (by decide), hcause]

/-- The state an engine has after its restart. -/
def Dev.stAfterRestart (n : Nat) (d : Dev) : EngSt :=
  if 12 ≤ n then .role else if d.flag (pENG n) CE.CTRL_RUN then .wait else .off

/-- The record of an engine after its restart. -/
def Engine.restartOver (st : EngSt) (e : Engine) : Engine := { e with st := st, first := true, restartAt := none }

theorem restartDone_ends {n : Nat} {d : Dev} (h : (d.engine n).st = .restart) : d.restartDone n =
    ((d.setEngine n ((d.engine n).restartOver (d.stAfterRestart n))).showState n).raise (pENG n) TE.IRQ_RAW_RESTARTED := by
  unfold Dev.restartDone
  simp only [h, if_true]
  rfl

theorem exec_restartDone (n : Fin 15) (t : Nat) (s : State) :
    exec (.restartDone n t) s = .next (s.land t ((s.dev.begin t).restartDone n)) := (rfl)

theorem restartDone_waits (n : Fin 15) (t : Nat) (s : State) (h : (s.dev.engine n).st = .restart) :
    ∃ s', exec (.restartDone n t) s = .next s' ∧
      (s'.dev.engine n).st = (if 12 ≤ n.val then .role else if s.dev.flag (pENG n) CE.CTRL_RUN then .wait else .off) ∧
      (s'.dev.engine n).first = true ∧ s'.dev.flag (pENG n) TE.IRQ_RAW_RESTARTED = true ∧
      (∀ j, j ≠ n.val → s'.dev.engine j = s.dev.engine j) ∧ s.memSame s' := by
  have hst : (s.dev.begin t).stAfterRestart n =
      (if 12 ≤ n.val then .role else if s.dev.flag (pENG n) CE.CTRL_RUN then .wait else .off) := rfl
  rw [exec_restartDone, restartDone_ends (d := s.dev.begin t) h, showState_eq, Dev.raise_eq, ← hst]
  generalize (s.dev.begin t).stAfterRestart n = st
  refine ⟨_, rfl, ?_, ?_, ?_, fun j hj => engine_setEngine_ne _ _ hj, land_memSame rfl rfl⟩
  · exact congrArg Engine.st (engine_setEngine_same _ (s.dev.begin t) n.isLt)
  · exact congrArg Engine.first (engine_setEngine_same _ (s.dev.begin t) n.isLt)
  · rw [Dev.flag_eq, land_getAt, getAt_putAt_fits _ (by decide) (by decide)]; rfl

/-! ## Resume and mailbox commit (R134, R143) -/

theorem exec_legResume (n : Fin 12) (t : Nat) (s : State) :
    exec (.legResume n t) s = .next (s.land t ((s.dev.begin t).legResume n).regRound) := (rfl)

theorem exec_ceCommit (n : Fin 12) (t : Nat) (s : State) :
    exec (.ceCommit n t) s = .next (s.land t ((s.dev.begin t).ceCommit n).regRound) := (rfl)

theorem legResume_accepts {n : Nat} {d : Dev} (hclean : 64 ≤ d.getAt (pENG n) CE.CLEAN_RUN 0)
    (hst : (d.engine n).st = .wait ∨ (d.engine n).st = .run) :
    d.legResume n = d.setEngine n { d.engine n with resumeDue := true } := by
  rw [Dev.legResume, if_pos (by simpa using ⟨hclean, hst⟩)]

/-- A resume that is refused. -/
def Dev.resumeRefused (n : Nat) (d : Dev) : Dev := (d.putAt (pENG n) CE.IRQ_RAW_RESUME_REFUSED 0 1).engCause n 0xA

theorem legResume_refuses {n : Nat} {d : Dev}
    (h : d.getAt (pENG n) CE.CLEAN_RUN 0 < 64 ∨ (d.engine n).st ≠ .wait ∧ (d.engine n).st ≠ .run) :
    d.legResume n = d.resumeRefused n := by
  rw [Dev.legResume, if_neg]
  · rfl
  · simp only [Dev.get_eq, Bool.and_eq_true, Bool.or_eq_true, decide_eq_true_eq, not_and, not_or]
    intro hclean
    exact h.resolve_left (Nat.not_lt.mpr hclean)

theorem legResume_resumes (n : Fin 12) (t : Nat) (s : State) (hclean : 64 ≤ s.dev.get (pENG n) CE.CLEAN_RUN)
    (hst : (s.dev.engine n).st = .wait ∨ (s.dev.engine n).st = .run) :
    ∃ s', exec (.legResume n t) s = .next s' ∧ s'.dev.engine n = { s.dev.engine n with resumeDue := true } ∧
      s.regsBut [] s' ∧ s.memSame s' := by
  rw [exec_legResume, legResume_accepts (d := s.dev.begin t) hclean hst]
  refine ⟨_, rfl, ?_, fun a _ ha => ?_, land_regRound_memSame rfl rfl⟩
  · rw [land_regRound_engine, engine_setEngine_same _ _ (by omega)]; rfl
  · rw [land_reg, regRound_reg _ ha]; rfl

theorem legResume_refused (n : Fin 12) (t : Nat) (s : State)
    (h : s.dev.get (pENG n) CE.CLEAN_RUN < 64 ∨ (s.dev.engine n).st ≠ .wait ∧ (s.dev.engine n).st ≠ .run) :
    ∃ s', exec (.legResume n t) s = .next s' ∧ s'.dev.eng = s.dev.eng ∧
      s'.dev.flag (pENG n) CE.IRQ_RAW_RESUME_REFUSED = true ∧ s'.dev.get (pENG n) CE.FAULT_CODE_CAUSE = 0xA ∧ s.memSame s' := by
  have hframe : Dev.Frame Dev.sansRegs (onPages (engPage n)) (s.dev.begin t) ((s.dev.begin t).resumeRefused n) :=
    (engPage_frame _ _ _ (by decide)).trans (engCause_regs n 0xA _)
  have hcause : ((s.dev.begin t).resumeRefused n).getAt (pENG n) CE.FAULT_CODE_CAUSE 0 = 0xA := engCause_shows _ (by decide)
  have hirq : ((s.dev.begin t).resumeRefused n).getAt (pENG n) CE.IRQ_RAW_RESUME_REFUSED 0 = 1 := by
    rw [Dev.resumeRefused, engCause_other _ (by decide), getAt_putAt_fits _ (by decide) (by decide)]
  rw [exec_legResume, legResume_refuses (d := s.dev.begin t) h]
  generalize (s.dev.begin t).resumeRefused n = e at hframe hcause hirq ⊢
  refine ⟨_, rfl, ?_, ?_, ?_, land_regRound_memSame (hframe.field Dev.wr (fun _ => rfl)) (hframe.field Dev.wipe (fun _ => rfl))⟩
  · rw [land_eng, regRound_eng]
    exact hframe.field Dev.eng (fun _ => rfl)
  · rw [Dev.flag_eq, land_regRound_getAt (by decide), hirq]; rfl
  · rw [Dev.get_eq, land_regRound_getAt (by decide), hcause]

theorem ceCommit_latches (n : Fin 12) (t : Nat) (s : State) :
    ∃ s', exec (.ceCommit n t) s = .next s' ∧ s'.dev.engine n = { s.dev.engine n with mboxLatched := true } ∧
      s'.dev.flag (pENG n) CE.STATUS_COMMIT_PENDING = true ∧ s.regsBut [CE.STATUS_COMMIT_PENDING.addr (pENG n) 0] s' ∧
      s.memSame s' := by
  rw [exec_ceCommit, Dev.ceCommit, Dev.put_eq]
  refine ⟨_, rfl, ?_, ?_, fun a ha hlock => ?_, land_regRound_memSame rfl rfl⟩
  · rw [land_regRound_engine, putAt_engine, engine_setEngine_same _ _ (by omega)]; rfl
  · rw [Dev.flag_eq, land_regRound_getAt (by decide), getAt_putAt_fits _ (by decide) (by decide)]; rfl
  · rw [land_reg, regRound_reg _ hlock, reg_putAt_ne _ _ (by simpa using ha)]; rfl

/-- Settles O19: what each command of an engine's life does, one lemma for each. -/
theorem enginesStartStopAndRestart : Obligations.EnginesStartStopAndRestart :=
  ⟨engineRun_waits, engineRun_refused, engineStop_halts, restart_restarts, restartDone_waits, legResume_resumes,
    legResume_refused, ceCommit_latches⟩

end Sys2Proof.Machine
end

section
/-! Deadline misses of an engine (R132, R133): the cut at the deadline, its counts, and the legs that the third one forces off. -/
namespace Sys2Proof.Machine

/-! ## Landing -/

section
variable {t : Nat} {e : Dev} {s : State}

theorem land_engine (n : Nat) : (s.land t e).dev.engine n = e.engine n := (rfl)

theorem land_legsDark {l : List Nat} (h : ∀ k ∈ l, k < 48 → e.legStopped k) : (s.land t e).legsDark l := by
  intro k hk hlt
  obtain ⟨-, hstopped, -⟩ := h k hk hlt
  exact hstopped

end

/-! ## The legs that a third miss forces off (R133) -/

/-- The record of an engine whose legs are forced off. -/
def Engine.forced (e : Engine) : Engine := { e with legsOff := true, releaseDue := false }

/-- What an engine shows whose legs are forced off, the legs aside. -/
def Dev.legsForced (n : Nat) (d : Dev) : Dev :=
  ((d.setEngine n (d.engine n).forced).putAt (pENG n) CE.STATUS_LEGS_FORCED_OFF 0 1).putAt (pENG n) CE.IRQ_RAW_MISS_OFF 0 1

theorem forceLegsOff_eq (n t : Nat) (d : Dev) : d.forceLegsOff n t = (d.legsForced n).engineLegsOff n t := (rfl)

section
variable {n : Nat} (d : Dev)

theorem legsForced_frame : Dev.Frame (Dev.sansCut n) (onPages (cutPage n)) d (d.legsForced n) :=
  (((setEngine_cut_frame n _ d).mono (sansCut_sansCut n) (fun _ h => (Bool.or_eq_false_iff.mp h).1)).trans
    (engPage_cut_frame _ _ _ (by decide))).trans (engPage_cut_frame _ _ _ (by decide))

theorem legsForced_other {f : FieldSpec} (hf : f.off ≠ 0x00C ∧ f.off ≠ 0x010) :
    (d.legsForced n).getAt (pENG n) f 0 = d.getAt (pENG n) f 0 := by
  rw [Dev.legsForced, getAt_putAt_other _ _ hf.2, getAt_putAt_other _ _ hf.1, getAt_setEngine]

variable (t : Nat)

/-- What neither an engine's record nor the power stage holds is as before. -/
theorem forceLegsOff_keeps {α : Type} (g : Dev → α) (hcut : ∀ x, g (Dev.sansCut n x) = g x) (hpower : ∀ x, g (Dev.sansPower x) = g x) :
    g (d.forceLegsOff n t) = g d := by
  rw [forceLegsOff_eq]
  exact ((engineLegsOff_frame n t _).field g hpower).trans ((legsForced_frame d).field g hcut)

theorem forceLegsOff_engine (hn : n < 15) : (d.forceLegsOff n t).engine n = (d.engine n).forced := by
  have hpower : ((d.legsForced n).engineLegsOff n t).engine n = (d.legsForced n).engine n :=
    (engineLegsOff_frame n t _).field (fun x => x.engine n) (fun _ => rfl)
  rw [forceLegsOff_eq, hpower, Dev.legsForced, putAt_engine, putAt_engine, engine_setEngine_same _ _ hn]

theorem forceLegsOff_other {f : FieldSpec} (hn : n < 16) (hf : f.off ≠ 0x00C ∧ f.off ≠ 0x010) (hlt : f.off + 0 * f.stride < 0x1000) :
    (d.forceLegsOff n t).getAt (pENG n) f 0 = d.getAt (pENG n) f 0 := by
  rw [forceLegsOff_eq, engineLegsOff_getAt _ hn hlt, legsForced_other _ hf]

theorem forceLegsOff_shows (hn : n < 16) : (d.forceLegsOff n t).getAt (pENG n) CE.STATUS_LEGS_FORCED_OFF 0 = 1 ∧
    (d.forceLegsOff n t).getAt (pENG n) CE.IRQ_RAW_MISS_OFF 0 = 1 := by
  rw [forceLegsOff_eq, engineLegsOff_getAt _ hn (by decide), engineLegsOff_getAt _ hn (by decide), Dev.legsForced]
  refine ⟨?_, getAt_putAt_fits _ (by decide) (by decide)⟩
  rw [getAt_putAt_other _ _ (by decide), getAt_putAt_fits _ (by decide) (by decide)]

/-- A miss that is shown stays shown. -/
theorem forceLegsOff_miss (hn : n < 16) : (d.forceLegsOff n t).getAt (pENG n) CE.IRQ_RAW_DEADLINE_MISS 0 =
    d.getAt (pENG n) CE.IRQ_RAW_DEADLINE_MISS 0 := by
  rw [forceLegsOff_eq, engineLegsOff_getAt _ hn (by decide), Dev.legsForced, getAt_putAt_apart _ _ (by decide) (by decide),
    getAt_putAt_other _ _ (by decide), getAt_setEngine]

theorem forceLegsOff_stops (hhalt : d.pw.halted = false) {k : Nat} (hk : k < 48) (hlist : k ∈ d.engLegs n) :
    (d.forceLegsOff n t).legStopped k := by
  have hhalt' : (d.legsForced n).pw.halted = d.pw.halted := (legsForced_frame d).field (fun x => x.pw.halted) (fun _ => rfl)
  have hsame : (d.legsForced n).engLegs n = d.engLegs n :=
    engLegs_congr (legsForced_other d (by decide)) (legsForced_other d (by decide))
  rw [forceLegsOff_eq]
  exact engineLegsOff_stops t hk (hsame ▸ hlist) (hhalt'.trans hhalt)

end

theorem exec_missOff (n : Fin 12) (t : Nat) (s : State) :
    exec (.missOff n t) s = .next (s.land t ((s.dev.begin t).missOff n t)) := (rfl)

theorem missOff_forces {n t : Nat} {d : Dev} (hconsec : d.getAt (pENG n) CE.MISS_STAT_CONSEC 0 = 3) (hoff : (d.engine n).legsOff = false)
    (hst : (d.engine n).st = .wait ∨ (d.engine n).st = .run) : d.missOff n t = d.forceLegsOff n t := by
  rw [Dev.missOff, if_pos]
  simp only [Dev.get_eq, hconsec, hoff, decide_true, Bool.not_false, Bool.true_and, Bool.or_eq_true, decide_eq_true_eq]
  exact hst.symm

theorem missOff_darkens (n : Fin 12) (t : Nat) (s : State) (hconsec : s.dev.get (pENG n) CE.MISS_STAT_CONSEC = 3)
    (hoff : (s.dev.engine n).legsOff = false) (hst : (s.dev.engine n).st = .wait ∨ (s.dev.engine n).st = .run)
    (hhalt : s.dev.pw.halted = false) :
    ∃ s', exec (.missOff n t) s = .next s' ∧ (s'.dev.engine n).legsOff = true ∧
      s'.dev.flag (pENG n) CE.STATUS_LEGS_FORCED_OFF = true ∧ s'.dev.flag (pENG n) CE.IRQ_RAW_MISS_OFF = true ∧
      s'.legsDark (s.dev.engLegs n) ∧ s'.dev.triad = s.dev.triad ∧ s.memSame s' := by
  have hn : n.val < 12 := n.isLt
  have hengine := forceLegsOff_engine (n := n) (s.dev.begin t) t (by omega)
  obtain ⟨hforced, hmiss⟩ := forceLegsOff_shows (n := n) (s.dev.begin t) t (by omega)
  have hlegs (k : Nat) (hlist : k ∈ s.dev.engLegs n) (hk : k < 48) : ((s.dev.begin t).forceLegsOff n t).legStopped k :=
    forceLegsOff_stops (s.dev.begin t) t hhalt hk hlist
  have htriad := forceLegsOff_keeps (n := n) (s.dev.begin t) t Dev.triad (fun _ => rfl) (fun _ => rfl)
  have hwr := forceLegsOff_keeps (n := n) (s.dev.begin t) t Dev.wr (fun _ => rfl) (fun _ => rfl)
  have hwipe := forceLegsOff_keeps (n := n) (s.dev.begin t) t Dev.wipe (fun _ => rfl) (fun _ => rfl)
  rw [exec_missOff, missOff_forces (d := s.dev.begin t) hconsec hoff hst]
  generalize (s.dev.begin t).forceLegsOff n t = e at hengine hforced hmiss hlegs htriad hwr hwipe ⊢
  refine ⟨_, rfl, ?_, ?_, ?_, land_legsDark hlegs, htriad, land_memSame hwr hwipe⟩
  · rw [land_engine, hengine]; rfl
  · rw [Dev.flag_eq, land_getAt, hforced]; rfl
  · rw [Dev.flag_eq, land_getAt, hmiss]; rfl

/-! ## The cut at the deadline (R132, R133) -/

/-- What a deadline shows of its slack (R138). -/
theorem slack_eq (n ticks : Nat) (d : Dev) : d.slack n ticks =
    (d.putAt (pENG n) TE.SLACK_LAST_TICKS 0 (min 65534 ticks)).putAt (pENG n) TE.SLACK_MIN_TICKS 0
      (min (d.getAt (pENG n) TE.SLACK_MIN_TICKS 0) (min 65534 ticks)) := (rfl)

theorem slack_regs (n ticks : Nat) (d : Dev) : Dev.Frame Dev.sansRegs (onPages (engPage n)) d (d.slack n ticks) := by
  rw [slack_eq]
  exact (engPage_frame _ _ d (by decide)).trans (engPage_frame _ _ _ (by decide))

theorem slack_other {n ticks : Nat} {f : FieldSpec} (d : Dev) (hf : f.off ≠ 0x060 ∧ f.off ≠ 0x064) :
    (d.slack n ticks).getAt (pENG n) f 0 = d.getAt (pENG n) f 0 := by
  rw [slack_eq, getAt_putAt_other _ _ hf.1, getAt_putAt_other _ _ hf.2]

/-- What a miss shows, the count of consecutive misses having been `old`. -/
def Dev.missCounted (n old : Nat) (d : Dev) : Dev :=
  ((((d.slack n 0).count (pENG n) TE.MISS_STAT_TOTAL).putAt (pENG n) TE.IRQ_RAW_DEADLINE_MISS 0 1).putAt (pENG n)
    CE.MISS_STAT_CONSEC 0 (min 3 (old + 1))).putAt (pENG n) CE.CLEAN_RUN 0 0

section
variable {n : Nat} (old : Nat) (d : Dev)

theorem missCounted_regs : Dev.Frame Dev.sansRegs (onPages (engPage n)) d (d.missCounted n old) := by
  rw [Dev.missCounted, Dev.count_eq]
  exact ((((slack_regs n 0 d).trans (engPage_frame _ _ _ (by decide))).trans (engPage_frame _ _ _ (by decide))).trans
    (engPage_frame _ _ _ (by decide))).trans (engPage_frame _ _ _ (by decide))

theorem missCounted_other {f : FieldSpec} (hirq : f.off ≠ 0x010) (hcounts : f.off ≠ 0x058 ∧ f.off ≠ 0x05C)
    (hslack : f.off ≠ 0x060 ∧ f.off ≠ 0x064) : (d.missCounted n old).getAt (pENG n) f 0 = d.getAt (pENG n) f 0 := by
  rw [Dev.missCounted, getAt_putAt_other _ _ hcounts.2, getAt_putAt_other _ _ hcounts.1, getAt_putAt_other _ _ hirq, Dev.count_eq,
    getAt_putAt_other _ _ hcounts.1, slack_other _ hslack]

theorem missCounted_consec : (d.missCounted n old).getAt (pENG n) CE.MISS_STAT_CONSEC 0 = min 3 (old + 1) := by
  rw [Dev.missCounted, getAt_putAt_other _ _ (by decide), getAt_putAt_fits _ (by decide) (show min 3 (old + 1) < 4 by omega)]

theorem missCounted_total : (d.missCounted n old).getAt (pENG n) CE.MISS_STAT_TOTAL 0 =
    min 65535 (d.getAt (pENG n) CE.MISS_STAT_TOTAL 0 + 1) := by
  have hcount := getAt_count (p := pENG n) (f := TE.MISS_STAT_TOTAL) (d.slack n 0) (by decide)
  rw [slack_other _ (by decide)] at hcount
  rw [Dev.missCounted, getAt_putAt_other _ _ (by decide), getAt_putAt_apart _ _ (by decide) (by decide),
    getAt_putAt_other _ _ (by decide)]
  exact hcount

theorem missCounted_shows : (d.missCounted n old).getAt (pENG n) CE.CLEAN_RUN 0 = 0 ∧
    (d.missCounted n old).getAt (pENG n) CE.IRQ_RAW_DEADLINE_MISS 0 = 1 := by
  rw [Dev.missCounted]
  refine ⟨getAt_putAt_fits _ (by decide) (by decide), ?_⟩
  rw [getAt_putAt_other _ _ (by decide), getAt_putAt_other _ _ (by decide)]
  exact getAt_putAt_fits _ (by decide) (by decide)

end

/-- A miss, the legs of a third one aside. -/
def Dev.missShown (n : Nat) (d : Dev) : Dev := (d.cutSample n).missCounted n (d.getAt (pENG n) CE.MISS_STAT_CONSEC 0)

theorem sampleMiss_eq (n t : Nat) (d : Dev) : d.sampleMiss n t =
    if d.getAt (pENG n) CE.MISS_STAT_CONSEC 0 = 2 then (d.missShown n).forceLegsOff n t else d.missShown n := (rfl)

/-- What a missed deadline leaves in the record and the registers of engine n, and outside them. -/
structure Dev.Missed (n : Nat) (d e : Dev) : Prop where
  outB : (e.engine n).outB = (d.engine n).outB
  tickAt : (e.engine n).tickAt = none
  missedLast : (e.engine n).missedLast = ((d.engine n).missedLast || (d.engine n).tickAt.isSome)
  consec : e.getAt (pENG n) CE.MISS_STAT_CONSEC 0 = min 3 (d.getAt (pENG n) CE.MISS_STAT_CONSEC 0 + 1)
  total : e.getAt (pENG n) CE.MISS_STAT_TOTAL 0 = min 65535 (d.getAt (pENG n) CE.MISS_STAT_TOTAL 0 + 1)
  clean : e.getAt (pENG n) CE.CLEAN_RUN 0 = 0
  shown : e.getAt (pENG n) CE.IRQ_RAW_DEADLINE_MISS 0 = 1
  wr : e.wr = d.wr
  wipe : e.wipe = d.wipe

section
variable {n : Nat} (d : Dev)

theorem missShown_frame : Dev.Frame (Dev.sansCut n) (onPages (cutPage n)) d (d.missShown n) :=
  (cutSample_pages_frame n d).trans
    ((missCounted_regs _ _).mono (fun _ => rfl) (fun _ h => (Bool.or_eq_false_iff.mp h).2))

theorem missShown_missed (hn : n < 15) : d.Missed n (d.missShown n) := by
  have hregs := missCounted_regs (n := n) (d.getAt (pENG n) CE.MISS_STAT_CONSEC 0) (d.cutSample n)
  have hengine : (d.missShown n).engine n = (d.engine n).cut :=
    (hregs.field (fun x => x.engine n) (fun _ => rfl)).trans (cutSample_engine d hn)
  obtain ⟨hclean, hshown⟩ := missCounted_shows (n := n) (d.getAt (pENG n) CE.MISS_STAT_CONSEC 0) (d.cutSample n)
  have htotal := missCounted_total (n := n) (d.getAt (pENG n) CE.MISS_STAT_CONSEC 0) (d.cutSample n)
  rw [cutSample_getAt _ (by decide)] at htotal
  exact ⟨by rw [hengine]; rfl, by rw [hengine]; rfl, by rw [hengine]; rfl, missCounted_consec _ _, htotal, hclean, hshown,
    (missShown_frame d).field Dev.wr (fun _ => rfl), (missShown_frame d).field Dev.wipe (fun _ => rfl)⟩

theorem missShown_engLegs : (d.missShown n).engLegs n = d.engLegs n := by
  refine engLegs_congr ?_ ?_
  · exact (missCounted_other _ _ (by decide) (by decide) (by decide)).trans (cutSample_getAt _ (by decide))
  · exact (missCounted_other _ _ (by decide) (by decide) (by decide)).trans (cutSample_getAt _ (by decide))

/-- Forcing the legs off undoes nothing of a miss. -/
theorem Dev.Missed.forced {e : Dev} (h : d.Missed n e) (t : Nat) (hn : n < 15) : d.Missed n (e.forceLegsOff n t) := by
  have hengine := forceLegsOff_engine e t hn
  have hother {f : FieldSpec} (hf : f.off ≠ 0x00C ∧ f.off ≠ 0x010) (hlt : f.off + 0 * f.stride < 0x1000) :=
    forceLegsOff_other (n := n) e t (by omega) hf hlt
  exact ⟨by rw [hengine]; exact h.outB, by rw [hengine]; exact h.tickAt, by rw [hengine]; exact h.missedLast,
    (hother (by decide) (by decide)).trans h.consec, (hother (by decide) (by decide)).trans h.total,
    (hother (by decide) (by decide)).trans h.clean, (forceLegsOff_miss e t (by omega)).trans h.shown,
    (forceLegsOff_keeps e t Dev.wr (fun _ => rfl) (fun _ => rfl)).trans h.wr,
    (forceLegsOff_keeps e t Dev.wipe (fun _ => rfl) (fun _ => rfl)).trans h.wipe⟩

variable (t : Nat)

theorem sampleMiss_missed (hn : n < 15) : d.Missed n (d.sampleMiss n t) := by
  rw [sampleMiss_eq]
  split
  · exact (missShown_missed d hn).forced d t hn
  · exact missShown_missed d hn

/-- The third consecutive miss turns the legs off. -/
theorem sampleMiss_third (hn : n < 15) (hold : d.getAt (pENG n) CE.MISS_STAT_CONSEC 0 = 2) (hhalt : d.pw.halted = false) :
    ((d.sampleMiss n t).engine n).legsOff = true ∧ (d.sampleMiss n t).getAt (pENG n) CE.IRQ_RAW_MISS_OFF 0 = 1 ∧
      ∀ k ∈ d.engLegs n, k < 48 → (d.sampleMiss n t).legStopped k := by
  have hhalt' : (d.missShown n).pw.halted = d.pw.halted := (missShown_frame d).field (fun x => x.pw.halted) (fun _ => rfl)
  rw [sampleMiss_eq, if_pos hold]
  refine ⟨by rw [forceLegsOff_engine _ _ hn]; rfl, (forceLegsOff_shows _ t (by omega)).2, fun k hk hlt => ?_⟩
  exact forceLegsOff_stops _ t (hhalt'.trans hhalt) hlt (by rw [missShown_engLegs]; exact hk)

end

/-! ## The deadline -/

theorem exec_sampleDeadline (n : Fin 12) (arr : Option Nat) (t : Nat) (s : State) :
    exec (.sampleDeadline n arr t) s = .next (s.land t ((s.dev.begin t).sampleDeadline s.mem n t arr)) := (rfl)

/-- The deadline of the sample begun at a. -/
def Dev.deadlineOf (n a : Nat) (d : Dev) : Nat := a + tickTaps (d.getAt (pENG n) CE.DEADLINE_TICKS 0)

/-- The deadline of a user program's sample has come. -/
structure Dev.Due (n a t : Nat) (d : Dev) : Prop where
  runs : (d.engine n).st = .run
  free : d.pw.halted = false
  user : d.flag (pENG n) CE.ENG_CFG_VENDOR_PROG = false
  began : (d.engine n).tickAt = some a
  due : d.deadlineOf n a ≤ t

theorem sampleDeadline_of_due {m : List Host.Cell} {n a t : Nat} (arr : Option Nat) {d : Dev} (h : d.Due n a t) :
    d.sampleDeadline m n t arr = match (d.engine n).doneAt with
      | some x => if x ≤ d.deadlineOf n a then d.sampleCommit m n t x (d.deadlineOf n a) else d.sampleMiss n t
      | none => d.sampleMiss n t := by
  obtain ⟨hruns, hfree, huser, hbegan, hdue⟩ := h
  have hcond : ((d.engine n).st = .run && decide (d.deadlineOf n a ≤ t) && !d.pw.halted) = true := by
    simp only [hruns, hfree, hdue, decide_true, Bool.and_self, Bool.not_false]
  unfold Dev.sampleDeadline
  simp only [hbegan, huser, Bool.not_false, if_true]
  exact if_pos hcond

theorem sampleDeadline_misses {m : List Host.Cell} {n a t : Nat} (arr : Option Nat) {d : Dev} (h : d.Due n a t)
    (hlate : ∀ x, (d.engine n).doneAt = some x → d.deadlineOf n a < x) : d.sampleDeadline m n t arr = d.sampleMiss n t := by
  rw [sampleDeadline_of_due arr h]
  split
  · next x hx => exact if_neg (Nat.not_le.mpr (hlate x hx))
  · rfl

theorem sampleDeadline_cuts (n : Fin 12) (t a : Nat) (arr : Option Nat) (s : State) (hst : (s.dev.engine n).st = .run)
    (hhalt : s.dev.pw.halted = false) (huser : s.dev.flag (pENG n) CE.ENG_CFG_VENDOR_PROG = false)
    (hbegan : (s.dev.engine n).tickAt = some a)
    (hlate : ∀ x, (s.dev.engine n).doneAt = some x → a + tickTaps (s.dev.get (pENG n) CE.DEADLINE_TICKS) < x)
    (hdue : a + tickTaps (s.dev.get (pENG n) CE.DEADLINE_TICKS) ≤ t) :
    ∃ s', exec (.sampleDeadline n arr t) s = .next s' ∧ (s'.dev.engine n).outB = (s.dev.engine n).outB ∧
      (s'.dev.engine n).tickAt = none ∧ (s'.dev.engine n).missedLast = true ∧
      s'.dev.get (pENG n) CE.MISS_STAT_CONSEC = min 3 (s.dev.get (pENG n) CE.MISS_STAT_CONSEC + 1) ∧
      s'.dev.get (pENG n) CE.MISS_STAT_TOTAL = min 65535 (s.dev.get (pENG n) CE.MISS_STAT_TOTAL + 1) ∧
      s'.dev.get (pENG n) CE.CLEAN_RUN = 0 ∧ s'.dev.flag (pENG n) CE.IRQ_RAW_DEADLINE_MISS = true ∧
      (s.dev.get (pENG n) CE.MISS_STAT_CONSEC = 2 → (s'.dev.engine n).legsOff = true ∧
        s'.dev.flag (pENG n) CE.IRQ_RAW_MISS_OFF = true ∧ s'.legsDark (s.dev.engLegs n)) ∧ s.memSame s' := by
  have hn : n.val < 15 := by omega
  have hmissed := sampleMiss_missed (n := n) (s.dev.begin t) t hn
  have hthird (hold : s.dev.get (pENG n) CE.MISS_STAT_CONSEC = 2) := sampleMiss_third (n := n) (s.dev.begin t) t hn hold hhalt
  rw [exec_sampleDeadline, sampleDeadline_misses (d := s.dev.begin t) arr ⟨hst, hhalt, huser, hbegan, hdue⟩ hlate]
  generalize (s.dev.begin t).sampleMiss n t = e at hmissed hthird ⊢
  obtain ⟨houtB, htick, hlast, hconsec, htotal, hclean, hshown, hwr, hwipe⟩ := hmissed
  refine ⟨_, rfl, houtB, htick, ?_, hconsec, htotal, hclean, ?_, fun hold => ?_, land_memSame hwr hwipe⟩
  · have hsome : ((s.dev.begin t).engine n).tickAt = some a := hbegan
    rw [land_engine, hlast, hsome, Option.isSome_some, Bool.or_true]
  · rw [Dev.flag_eq, land_getAt, hshown]; rfl
  · obtain ⟨hoff, hirq, hlegs⟩ := hthird hold
    exact ⟨hoff, by rw [Dev.flag_eq, land_getAt, hirq]; rfl, land_legsDark hlegs⟩

end Sys2Proof.Machine
end

section
/-! The commit of a complete sample (R131, R133, R134): the state window, the record, what is shown, the leg writes and the feed. -/
namespace Sys2Proof.Machine

/-! ## Leg writes and feed -/

/-- The pages on which leg writes, the feed and the legs report: none of an engine. -/
def tailPage (p : Nat) : Bool := decide (p = 0 ∨ 0x40 ≤ p)

/-- The device without its registers, legs, groups, device latch and PRECEDENCE. -/
def Dev.sansTail (d : Dev) : Dev := { d.sansPower with prec := .reset }

/-- What the leg writes, the feed and the release of the legs may change. -/
abbrev Dev.TailFrame (d e : Dev) : Prop := Dev.Frame Dev.sansTail (onPages tailPage) d e

theorem Dev.Frame.tailOfPower {d e : Dev} (h : d.PowerFrame e) : d.TailFrame e := by
  refine h.mono (fun _ => rfl) (fun a ha => Bool.eq_false_iff.mpr (fun hp => ?_))
  have hp' := (powerPage_iff _).mp hp
  rw [onPages, tailPage, decide_eq_false_iff_not] at ha
  omega

theorem Dev.Frame.tail_getAt {d e : Dev} (h : d.TailFrame e) {n : Nat} {f : FieldSpec} (hn : n < 16)
    (hf : f.off + 0 * f.stride < 0x1000) : e.getAt (pENG n) f 0 = d.getAt (pENG n) f 0 := by
  refine h.getAt ?_
  rw [onPages, addr_page hf, tailPage, decide_eq_false_iff_not, pENG]
  omega

theorem putAt_tail {p : Nat} {f : FieldSpec} (v : Nat) (d : Dev) (hp : tailPage p = true) (hf : f.off + 0 * f.stride < 0x1000) :
    d.TailFrame (d.putAt p f 0 v) := (putAt_page_frame v d hp hf).ofRegs

theorem tailPage_leg (n : Nat) : tailPage (pLEG n) = true := by
  rw [tailPage, decide_eq_true_eq, pLEG]; omega

theorem setShadow_tail (n o : Nat) (w : Word) (d : Dev) (ho : o < 0x1000) : d.TailFrame (d.setReg (pLEG n * 0x1000 + o) w) := by
  refine (setReg_frame w d ?_).ofRegs
  have hdiv : (pLEG n * 0x1000 + o) / 0x1000 = pLEG n := by omega
  rw [onPages, hdiv, tailPage_leg]

theorem enterFrac_tail (n : Nat) (w : Word) (d : Dev) : d.TailFrame (d.enterFrac n w).2 := by
  unfold Dev.enterFrac
  dsimp only
  split
  · exact ((putAt_tail _ d (tailPage_leg n) (by decide)).trans (putAt_tail _ _ (tailPage_leg n) (by decide))).trans
      (putAt_tail _ _ (tailPage_leg n) (by decide))
  · exact (setShadow_tail n _ _ d (by decide)).trans
      (.ite (fun _ => putAt_tail _ _ (tailPage_leg n) (by decide)) (fun _ => .refl _ _ _))

theorem enterStaged_tail (x : StagedWrite) (d : Dev) : d.TailFrame (d.enterStaged x).2 := by
  unfold Dev.enterStaged
  dsimp only
  split
  · exact enterFrac_tail _ _ d
  · exact setShadow_tail _ _ _ d (by decide)
  · exact setShadow_tail _ _ _ d (by decide)
  · exact setShadow_tail _ _ _ d (by decide)

theorem commitStaged_tail (t : Nat) (ws : List StagedWrite) (d : Dev) : d.TailFrame (d.commitStaged t ws) := by
  refine .trans ?_ (.each (fun l _ x => (setLeg_frame l _ x).tailOfPower) _)
  exact List.foldlRecOn (motive := fun r : List Nat × Dev => d.TailFrame r.2) ws _ (.refl _ _ _)
    (fun r hr x _ => hr.trans (enterStaged_tail x r.2))

theorem setPrec_tail (x : Prec) (d : Dev) : d.TailFrame { d with prec := x } := ⟨rfl, fun _ _ => rfl⟩

theorem putLedger_tail (f : FieldSpec) (v : Nat) (d : Dev) (hf : f.off + 0 * f.stride < 0x1000) :
    d.TailFrame (d.putAt pLEDGER f 0 v) := putAt_tail v d (by decide) hf

/-- A log that is full reports an entry as lost. -/
def Dev.logLost (d : Dev) : Dev :=
  ((d.count pLEDGER LEDGER.LOG_STAT_LOST).put pLEDGER LEDGER.STATUS_LOG_FULL 1).raise pLEDGER LEDGER.IRQ_RAW_LOG_FULL

/-- An entry in the log. -/
def Dev.logEntered (e : List Word) (d : Dev) : Dev :=
  let head := d.get pLEDGER LEDGER.LOG_HEAD
  let d := { d with prec := { d.prec with log := d.prec.log.setIfInBounds (head % 256) e } }
  let d := d.put pLEDGER LEDGER.LOG_HEAD (head + 1)
  let d := d.put pLEDGER LEDGER.LOG_STAT_USED d.logUsed
  let full := decide (256 ≤ d.logUsed)
  let d := d.putFlag pLEDGER LEDGER.STATUS_LOG_FULL full
  if full then d.raise pLEDGER LEDGER.IRQ_RAW_LOG_FULL else d

theorem logAppend_cases (code d16 : Nat) (d32 : Word) (t : Nat) (d : Dev) :
    d.logAppend code d16 d32 t = d.logLost ∨ ∃ e, d.logAppend code d16 d32 t = d.logEntered e := by
  by_cases h : 256 ≤ d.logUsed
  · exact .inl (if_pos h)
  · exact .inr ⟨_, if_neg h⟩

theorem logLost_tail (d : Dev) : d.TailFrame d.logLost :=
  ((putLedger_tail _ _ d (by decide)).trans (putLedger_tail _ _ _ (by decide))).trans (putLedger_tail _ _ _ (by decide))

theorem logEntered_tail (e : List Word) (d : Dev) : d.TailFrame (d.logEntered e) :=
  ((((setPrec_tail _ d).trans (putLedger_tail LEDGER.LOG_HEAD _ _ (by decide))).trans
    (putLedger_tail LEDGER.LOG_STAT_USED _ _ (by decide))).trans (putLedger_tail LEDGER.STATUS_LOG_FULL _ _ (by decide))).trans
    (.ite (fun _ => putLedger_tail LEDGER.IRQ_RAW_LOG_FULL _ _ (by decide)) (fun _ => .refl _ _ _))

theorem logAppend_tail (code d16 : Nat) (d32 : Word) (t : Nat) (d : Dev) : d.TailFrame (d.logAppend code d16 d32 t) := by
  obtain h | ⟨e, h⟩ := logAppend_cases code d16 d32 t d
  · rw [h]; exact logLost_tail d
  · rw [h]; exact logEntered_tail e d

theorem energyAdd_tail (k v t : Nat) (d : Dev) : d.TailFrame (d.energyAdd k v t) :=
  (setPrec_tail _ d).trans (.ite (fun _ => logAppend_tail _ _ _ t _) (fun _ => .refl _ _ _))

/-- A feed that is lost. -/
def Dev.feedGone (t a : Nat) (d : Dev) : Dev :=
  let d := (d.put pLEDGER LEDGER.STATUS_FEED_OK 0).raise pLEDGER LEDGER.IRQ_RAW_FEED_LOST
  let d := d.logAppend 4 (d.get pLEDGER LEDGER.LED_CFG_AC_ENG) (BitVec.ofNat 32 ((t - a) / 12800000)) t
  { d with prec := { d.prec with feedLost := true } }

theorem feedGone_tail (t a : Nat) (d : Dev) : d.TailFrame (d.feedGone t a) :=
  (((putLedger_tail LEDGER.STATUS_FEED_OK _ d (by decide)).trans (putLedger_tail LEDGER.IRQ_RAW_FEED_LOST _ _ (by decide))).trans
    (logAppend_tail _ _ _ t _)).trans (setPrec_tail _ _)

theorem feedLost_tail (t : Nat) (d : Dev) : d.TailFrame (d.feedLost t) := by
  unfold Dev.feedLost
  split
  · next a _ => exact .ite (fun _ => feedGone_tail t a d) (fun _ => .refl _ _ _)
  · exact .refl _ _ _

/-- The feed of a sample, counted. -/
def Dev.feedCounted (t : Nat) (fs : List (Nat × Int)) (d : Dev) : Dev :=
  d.each (fun x d => if x.2 < 0 then d.energyAdd 1 x.2.natAbs t else d.energyAdd 0 x.2.natAbs t) fs

theorem feedCounted_tail (t : Nat) (fs : List (Nat × Int)) (d : Dev) : d.TailFrame (d.feedCounted t fs) :=
  .each (fun _ _ y => .ite (fun _ => energyAdd_tail _ _ t y) (fun _ => energyAdd_tail _ _ t y)) d

/-- A feed that is applied after a loss ends the loss. -/
def Dev.feedBack (n t : Nat) (d : Dev) : Dev :=
  let d := if d.prec.feedLost then d.logAppend 5 n 0 t else d
  let d := { d with prec := { d.prec with feedAt := some t, feedLost := false } }
  d.put pLEDGER LEDGER.STATUS_FEED_OK 1

theorem feedBack_tail (n t : Nat) (d : Dev) : d.TailFrame (d.feedBack n t) := by
  have hlogged : d.TailFrame (if d.prec.feedLost then d.logAppend 5 n 0 t else d) :=
    .ite (fun _ => logAppend_tail _ _ _ t d) (fun _ => .refl _ _ _)
  exact (hlogged.trans (setPrec_tail _ _)).trans (putLedger_tail LEDGER.STATUS_FEED_OK _ _ (by decide))

theorem feedApply_eq (n t : Nat) (d : Dev) : d.feedApply n t =
    if (d.prec.feed.filter (fun x => decide (x.1 = n))).isEmpty then d
    else if n ≠ d.get pLEDGER LEDGER.LED_CFG_AC_ENG then d.feedDrop n
    else (((d.feedLost t).feedDrop n).feedCounted t (d.prec.feed.filter (fun x => decide (x.1 = n)))).feedBack n t := (rfl)

theorem feedApply_tail (n t : Nat) (d : Dev) : d.TailFrame (d.feedApply n t) := by
  rw [feedApply_eq]
  exact .ite (fun _ => .refl _ _ _) (fun _ => .ite (fun _ => setPrec_tail _ d) (fun _ =>
    (((feedLost_tail t d).trans (setPrec_tail _ _)).trans (feedCounted_tail t _ _)).trans (feedBack_tail n t _)))

/-! ## The release of the legs (R134, R151) -/

/-- The legs of the list are no longer held by the engine. -/
def Dev.legsReleased (n t : Nat) (d : Dev) : Dev :=
  (d.each (fun l d => d.setLeg l { d.leg l with engOff := none }) (d.engLegs n)).settle t

theorem engineLegsOn_eq (n t : Nat) (d : Dev) : d.engineLegsOn n t =
    if (d.engine n).releaseDue then (d.setEngine n { d.engine n with releaseDue := false }).legsReleased n t else d := (rfl)

theorem legsReleased_tail (n t : Nat) (d : Dev) : d.TailFrame (d.legsReleased n t) :=
  ((Dev.Frame.each (fun l _ x => setLeg_frame l { x.leg l with engOff := none } x) d).trans (settle_frame t _)).tailOfPower

/-- What the release of the legs, the feed and the leg writes leave of engine n and of the bytes staged. -/
structure Dev.TailKeeps (n : Nat) (d e : Dev) : Prop where
  engine : ∃ b, e.engine n = { d.engine n with releaseDue := b }
  getAt : ∀ f : FieldSpec, f.off + 0 * f.stride < 0x1000 → e.getAt (pENG n) f 0 = d.getAt (pENG n) f 0
  wr : e.wr = d.wr
  wipe : e.wipe = d.wipe

theorem Dev.TailKeeps.trans {n : Nat} {d e f : Dev} (h : d.TailKeeps n e) (h' : e.TailKeeps n f) : d.TailKeeps n f := by
  obtain ⟨b, hb⟩ := h.engine
  obtain ⟨b', hb'⟩ := h'.engine
  exact ⟨⟨b', by rw [hb', hb]⟩, fun x hx => (h'.getAt x hx).trans (h.getAt x hx), h'.wr.trans h.wr, h'.wipe.trans h.wipe⟩

theorem Dev.Frame.tailKeeps {n : Nat} {d e : Dev} (h : d.TailFrame e) (hn : n < 16) : d.TailKeeps n e :=
  ⟨⟨(d.engine n).releaseDue, h.field (fun x => x.engine n) (fun _ => rfl)⟩, fun _ hf => h.tail_getAt hn hf,
    h.field Dev.wr (fun _ => rfl), h.field Dev.wipe (fun _ => rfl)⟩

theorem engineLegsOn_keeps {n : Nat} (t : Nat) (d : Dev) (hn : n < 15) : d.TailKeeps n (d.engineLegsOn n t) := by
  have hrecord : d.TailKeeps n (d.setEngine n { d.engine n with releaseDue := false }) :=
    ⟨⟨false, engine_setEngine_same _ d hn⟩, fun _ _ => rfl, rfl, rfl⟩
  rw [engineLegsOn_eq]
  split
  · exact hrecord.trans ((legsReleased_tail n t _).tailKeeps (by omega))
  · exact (Dev.Frame.refl Dev.sansTail (onPages tailPage) d).tailKeeps (by omega)

/-! ## The commit of window and record (R131) -/

/-- The record of an engine whose sample is committed. -/
def Engine.committed (e : Engine) : Engine :=
  { e with outB := !e.outB, tickAt := none, doneAt := none, pend := [], staged := [], written := [], missedLast := false,
           vendor := e.vendorWork }

/-- The bytes of the committed half that a sample which wrote these words commits. -/
def committedBytes (n : Nat) (written : List Nat) (b : Nat) : Prop :=
  ∃ o ∈ written, dataBase n + 0x3000 + o ≤ b ∧ b < dataBase n + 0x3000 + o + 4

theorem commitWindow_user {m : List Host.Cell} {n : Nat} {d : Dev} (h : d.flag (pENG n) CE.ENG_CFG_VENDOR_PROG = false) :
    d.commitWindow m n =
      d.each (fun o d => d.pokeWords (dataBase n + 0x3000 + o) [d.word m (dataBase n + 0x3800 + o)]) (d.engine n).written := by
  rw [Dev.commitWindow, h, Bool.false_and]
  rfl

theorem commitWindow_frame {m : List Host.Cell} {n : Nat} {d : Dev} (h : d.flag (pENG n) CE.ENG_CFG_VENDOR_PROG = false) :
    Dev.Frame (Dev.sansLoad n) (fun _ => false) d (d.commitWindow m n) := by
  rw [commitWindow_user h]
  refine .each (fun o _ x => ?_) d
  exact ⟨rfl, fun _ _ => rfl⟩

theorem commitWindow_stages {m : List Host.Cell} {n : Nat} {d : Dev} (h : d.flag (pENG n) CE.ENG_CFG_VENDOR_PROG = false)
    (hwr : d.wr = []) : (d.commitWindow m n).stagesIn (committedBytes n (d.engine n).written) := by
  rw [commitWindow_user h]
  refine each_stagesIn (fun c hc => by rw [hwr] at hc; cases hc) (fun o ho x hx => pokeWords_stagesIn hx (fun b h₁ h₂ _ => ?_))
  exact ⟨o, ho, h₁, h₂⟩

/-- What a complete sample shows: no consecutive miss, one more clean sample. -/
def Dev.cleanCounted (n : Nat) (d : Dev) : Dev :=
  (d.putAt (pENG n) CE.MISS_STAT_CONSEC 0 0).count (pENG n) CE.CLEAN_RUN

/-- The window and the record of engine n are committed. -/
def Dev.windowCommitted (m : List Host.Cell) (n : Nat) (d : Dev) : Dev := (d.commitWindow m n).setEngine n (d.engine n).committed

/-- What a committed sample shows: the outbound half, slack and count. -/
def Dev.commitShown (n : Nat) (out : Bool) (arrived deadline : Nat) (d : Dev) : Dev :=
  (d.putAt (pENG n) CE.STATUS_OUT_ACTIVE 0 out.toNat).sampleDone n arrived deadline

/-- A complete sample, its leg writes, feed and legs aside. -/
def Dev.sampleClosed (m : List Host.Cell) (n arrived deadline : Nat) (d : Dev) : Dev :=
  ((d.cleanCounted n).windowCommitted m n).commitShown n (!(d.engine n).outB) arrived deadline

theorem sampleCommit_eq {m : List Host.Cell} {n : Nat} (hn : n < 12) (t arrived deadline : Nat) (d : Dev) :
    d.sampleCommit m n t arrived deadline =
      (((d.sampleClosed m n arrived deadline).commitStaged t (d.engine n).staged).feedApply n t).engineLegsOn n t := by
  unfold Dev.sampleCommit Dev.commitSample
  simp only [hn, if_true]
  rfl

section
variable {n : Nat} (d : Dev)

theorem cleanCounted_regs : Dev.Frame Dev.sansRegs (onPages (engPage n)) d (d.cleanCounted n) :=
  (engPage_frame _ _ d (by decide)).trans (engPage_frame CE.CLEAN_RUN _ _ (by decide))

theorem cleanCounted_other {f : FieldSpec} (hf : f.off ≠ 0x058 ∧ f.off ≠ 0x05C) :
    (d.cleanCounted n).getAt (pENG n) f 0 = d.getAt (pENG n) f 0 := by
  rw [Dev.cleanCounted, Dev.count_eq, getAt_putAt_other _ _ hf.2, getAt_putAt_other _ _ hf.1]

theorem cleanCounted_counts : (d.cleanCounted n).getAt (pENG n) CE.MISS_STAT_CONSEC 0 = 0 ∧
    (d.cleanCounted n).getAt (pENG n) CE.CLEAN_RUN 0 = min 65535 (d.getAt (pENG n) CE.CLEAN_RUN 0 + 1) := by
  refine ⟨?_, ?_⟩
  · rw [Dev.cleanCounted, Dev.count_eq, getAt_putAt_other _ _ (by decide), getAt_putAt_fits _ (by decide) (by decide)]
  · rw [Dev.cleanCounted, getAt_count _ (by decide), getAt_putAt_other _ _ (by decide)]
    rfl

variable (out : Bool) (arrived deadline : Nat)

theorem commitShown_eq : d.commitShown n out arrived deadline =
    ((d.putAt (pENG n) CE.STATUS_OUT_ACTIVE 0 out.toNat).slack n ((deadline - arrived) / max 32 d.edgeRes * max 32 d.edgeRes / 32)).countWrap
      (pENG n) TE.SAMPLES := (rfl)

theorem commitShown_regs : Dev.Frame Dev.sansRegs (onPages (engPage n)) d (d.commitShown n out arrived deadline) := by
  rw [commitShown_eq]
  exact ((engPage_frame _ _ d (by decide)).trans (slack_regs n _ _)).trans (engPage_frame TE.SAMPLES _ _ (by decide))

theorem commitShown_other {f : FieldSpec} (hf : f.off ≠ 0x00C ∧ f.off ≠ 0x068) (hslack : f.off ≠ 0x060 ∧ f.off ≠ 0x064) :
    (d.commitShown n out arrived deadline).getAt (pENG n) f 0 = d.getAt (pENG n) f 0 := by
  rw [commitShown_eq, Dev.countWrap, Dev.put_eq, getAt_putAt_other _ _ hf.2, slack_other _ hslack, getAt_putAt_other _ _ hf.1]

end

/-- What a committed sample leaves in the record and the registers of engine n, and of memory. -/
structure Dev.Committed (n : Nat) (d e : Dev) : Prop where
  outB : (e.engine n).outB = !(d.engine n).outB
  tickAt : (e.engine n).tickAt = none
  missedLast : (e.engine n).missedLast = false
  consec : e.getAt (pENG n) CE.MISS_STAT_CONSEC 0 = 0
  clean : e.getAt (pENG n) CE.CLEAN_RUN 0 = min 65535 (d.getAt (pENG n) CE.CLEAN_RUN 0 + 1)
  stages : e.stagesIn (committedBytes n (d.engine n).written)
  wipe : e.wipe = d.wipe

theorem Dev.Committed.tail {n : Nat} {d e f : Dev} (h : d.Committed n e) (hf : e.TailKeeps n f) : d.Committed n f := by
  obtain ⟨b, hengine⟩ := hf.engine
  exact ⟨by rw [hengine]; exact h.outB, by rw [hengine]; exact h.tickAt, by rw [hengine]; exact h.missedLast,
    (hf.getAt _ (by decide)).trans h.consec, (hf.getAt _ (by decide)).trans h.clean,
    fun c hc => h.stages c (hf.wr ▸ hc), hf.wipe.trans h.wipe⟩

theorem windowCommitted_committed {m : List Host.Cell} {n : Nat} {d : Dev} (hn : n < 15)
    (huser : d.flag (pENG n) CE.ENG_CFG_VENDOR_PROG = false) (hwr : d.wr = []) :
    (d.windowCommitted m n).engine n = (d.engine n).committed ∧
      (∀ f, (d.windowCommitted m n).getAt (pENG n) f 0 = d.getAt (pENG n) f 0) ∧
      (d.windowCommitted m n).stagesIn (committedBytes n (d.engine n).written) ∧ (d.windowCommitted m n).wipe = d.wipe := by
  have hframe := commitWindow_frame (m := m) huser
  have hstages := commitWindow_stages (m := m) huser hwr
  unfold Dev.windowCommitted
  generalize d.commitWindow m n = e at hframe hstages ⊢
  exact ⟨engine_setEngine_same _ e hn, fun f => hframe.getAt rfl, hstages, hframe.field Dev.wipe (fun _ => rfl)⟩

theorem sampleClosed_committed {m : List Host.Cell} {n : Nat} (arrived deadline : Nat) {d : Dev} (hn : n < 15)
    (huser : d.flag (pENG n) CE.ENG_CFG_VENDOR_PROG = false) (hwr : d.wr = []) :
    d.Committed n (d.sampleClosed m n arrived deadline) := by
  have hclean := cleanCounted_regs (n := n) d
  have huser' : (d.cleanCounted n).flag (pENG n) CE.ENG_CFG_VENDOR_PROG = false := by
    rw [Dev.flag_eq, cleanCounted_other _ (by decide)]; exact huser
  obtain ⟨hconsec, hrun⟩ := cleanCounted_counts (n := n) d
  have hwindow := windowCommitted_committed (m := m) hn huser' ((hclean.field Dev.wr (fun _ => rfl)).trans hwr)
  have hengine₀ : (d.cleanCounted n).engine n = d.engine n := hclean.field (fun x => x.engine n) (fun _ => rfl)
  rw [hengine₀] at hwindow
  have hwipe₀ : (d.cleanCounted n).wipe = d.wipe := hclean.field Dev.wipe (fun _ => rfl)
  unfold Dev.sampleClosed
  generalize (d.cleanCounted n).windowCommitted m n = e at hwindow ⊢
  obtain ⟨hengine, hgetAt, hstages, hwipe⟩ := hwindow
  have hshown := commitShown_regs (n := n) e (!(d.engine n).outB) arrived deadline
  have hother {f : FieldSpec} := commitShown_other (n := n) (f := f) e (!(d.engine n).outB) arrived deadline
  generalize e.commitShown n (!(d.engine n).outB) arrived deadline = x at hshown hother ⊢
  have hengine' : x.engine n = (d.engine n).committed := (hshown.field (fun x => x.engine n) (fun _ => rfl)).trans hengine
  have hwr' : x.wr = e.wr := hshown.field Dev.wr (fun _ => rfl)
  refine ⟨by rw [hengine']; rfl, by rw [hengine']; rfl, by rw [hengine']; rfl, ?_, ?_, fun c hc => hstages c (hwr' ▸ hc),
    (hshown.field Dev.wipe (fun _ => rfl)).trans (hwipe.trans hwipe₀)⟩
  · rw [hother (by decide) (by decide), hgetAt, hconsec]
  · rw [hother (by decide) (by decide), hgetAt, hrun]

theorem sampleCommit_committed {m : List Host.Cell} {n : Nat} (t arrived deadline : Nat) {d : Dev} (hn : n < 12)
    (huser : d.flag (pENG n) CE.ENG_CFG_VENDOR_PROG = false) (hwr : d.wr = []) :
    d.Committed n (d.sampleCommit m n t arrived deadline) := by
  rw [sampleCommit_eq hn]
  have hwrites := (commitStaged_tail t (d.engine n).staged (d.sampleClosed m n arrived deadline)).trans (feedApply_tail n t _)
  exact ((sampleClosed_committed arrived deadline (by omega) huser hwr).tail (hwrites.tailKeeps (by omega))).tail
    (engineLegsOn_keeps t _ (by omega))

/-! ## The deadline of a complete sample -/

theorem sampleDeadline_commits (n : Fin 12) (t a x : Nat) (arr : Option Nat) (s : State) (hst : (s.dev.engine n).st = .run)
    (hhalt : s.dev.pw.halted = false) (huser : s.dev.flag (pENG n) CE.ENG_CFG_VENDOR_PROG = false)
    (hbegan : (s.dev.engine n).tickAt = some a) (hdone : (s.dev.engine n).doneAt = some x)
    (htime : x ≤ a + tickTaps (s.dev.get (pENG n) CE.DEADLINE_TICKS))
    (hdue : a + tickTaps (s.dev.get (pENG n) CE.DEADLINE_TICKS) ≤ t) :
    ∃ s', exec (.sampleDeadline n arr t) s = .next s' ∧ (s'.dev.engine n).outB = !(s.dev.engine n).outB ∧
      (s'.dev.engine n).tickAt = none ∧ (s'.dev.engine n).missedLast = false ∧
      s'.dev.get (pENG n) CE.MISS_STAT_CONSEC = 0 ∧
      s'.dev.get (pENG n) CE.CLEAN_RUN = min 65535 (s.dev.get (pENG n) CE.CLEAN_RUN + 1) ∧
      (∀ b, (∀ o ∈ (s.dev.engine n).written, b < dataBase n + 0x3000 + o ∨ dataBase n + 0x3000 + o + 4 ≤ b) →
        memByte s'.mem b = memByte s.mem b) ∧ s'.pending = s.pending := by
  have hcommit := sampleCommit_committed (m := s.mem) (n := n) t x ((s.dev.begin t).deadlineOf n a) (d := s.dev.begin t) n.isLt huser rfl
  have heq : (s.dev.begin t).sampleDeadline s.mem n t arr =
      (s.dev.begin t).sampleCommit s.mem n t x ((s.dev.begin t).deadlineOf n a) := by
    have hdone' : ((s.dev.begin t).engine n).doneAt = some x := hdone
    rw [sampleDeadline_of_due (d := s.dev.begin t) arr ⟨hst, hhalt, huser, hbegan, hdue⟩, hdone']
    exact if_pos htime
  rw [exec_sampleDeadline, heq]
  generalize (s.dev.begin t).sampleCommit s.mem n t x ((s.dev.begin t).deadlineOf n a) = e at hcommit ⊢
  obtain ⟨houtB, htick, hlast, hconsec, hclean, hstages, hwipe⟩ := hcommit
  refine ⟨_, rfl, houtB, htick, hlast, hconsec, hclean, fun b hb => land_memByte hwipe hstages ?_, rfl⟩
  rintro ⟨o, ho, hlow, hhigh⟩
  have := hb o ho
  omega

end Sys2Proof.Machine
end

section
/-! A tick that starts a sample, and the whole of a sample's begin, commit and miss (R128, R129, R131 to R134, R143). -/
namespace Sys2Proof.Machine

/-! ## The record of the engine -/

/-- The record of an engine whose sample begins at the tick t. -/
def Engine.begun (t : Nat) (e : Engine) : Engine :=
  { e with st := .run, regs := Vector.replicate 32 0, pc := 0, stack := [], pend := [], written := [], staged := [],
           sampleNo := (e.sampleNo + 1) % 2 ^ 32, first := false, tickAt := some t, doneAt := none, unacked := false,
           vendorWork := e.vendor }

/-- The record after a latched inbound mailbox has flipped. -/
def Engine.flipped (e : Engine) : Engine :=
  if e.mboxLatched then { e with mboxLatched := false, inB := !e.inB } else e

/-- The record after a resume that is due has acted. -/
def Engine.resumed (e : Engine) : Engine :=
  if e.resumeDue then
    { e with vendor := .init, vendorWork := .init, resumeDue := false, first := true, legsOff := false, releaseDue := true }
  else e

/-- A latched inbound mailbox flips. -/
def Dev.mboxFlipped (n : Nat) (d : Dev) : Dev :=
  (((d.setEngine n { d.engine n with mboxLatched := false, inB := !(d.engine n).inB }).put (pENG n)
    CE.STATUS_COMMIT_PENDING 0).putFlag (pENG n) CE.STATUS_IN_ACTIVE (!(d.engine n).inB)).raise (pENG n) CE.IRQ_RAW_COMMIT_DONE

theorem mboxFlip_eq (n : Nat) (d : Dev) : d.mboxFlip n = if (d.engine n).mboxLatched then d.mboxFlipped n else d := (rfl)

/-- A resume acts. -/
def Dev.resumeActed (m : List Host.Cell) (n : Nat) (d : Dev) : Dev :=
  let d := d.loadWindow m n
  (d.setEngine n { d.engine n with resumeDue := false, first := true, legsOff := false, releaseDue := true }).put (pENG n)
    CE.STATUS_LEGS_FORCED_OFF 0

theorem resumeAct_eq (m : List Host.Cell) (n : Nat) (d : Dev) :
    d.resumeAct m n = if (d.engine n).resumeDue then d.resumeActed m n else d := (rfl)

section
variable (m : List Host.Cell) {n : Nat} (t : Nat) (d : Dev) (hn : n < 12)
include hn

theorem mboxFlip_engine : (d.mboxFlip n).engine n = (d.engine n).flipped := by
  rw [mboxFlip_eq, Engine.flipped]
  split
  · exact engine_setEngine_same _ d (by omega)
  · rfl

theorem resumeAct_engine : (d.resumeAct m n).engine n = (d.engine n).resumed := by
  rw [resumeAct_eq, Engine.resumed]
  split
  · rw [Dev.resumeActed, Dev.put_eq, putAt_engine, engine_setEngine_same _ _ (by omega), loadWindow_engine m d (by omega)]
  · rfl

/-- The descriptor of a control engine leaves the device as it is. -/
theorem descriptor_of_lt (flip : Bool) : (d.descriptor n t flip).2 = d := by
  unfold Dev.descriptor
  simp only [hn, if_true]

theorem startSample_eq (flip : Bool) : (d.startSample n t .run flip).2 =
    (d.pokeWords (dataBase n) (d.descriptor n t flip).1).setEngine n ((d.engine n).begun t) := by
  unfold Dev.startSample
  dsimp only
  rw [descriptor_of_lt t d hn]
  rfl

end

/-- A sample that begins, the run of the vendor program aside. -/
def Dev.sampleBegun (n t : Nat) (flip : Bool) (d : Dev) : Dev :=
  (((d.startSample n t .run flip).2).showState n).putFlag (pENG n) CE.STATUS_VENDOR (d.flag (pENG n) CE.ENG_CFG_VENDOR_PROG)

section
variable {n : Nat} (t : Nat) (flip : Bool) (d : Dev) (hn : n < 12)
include hn

theorem sampleBegun_eq : d.sampleBegun n t flip =
    (((d.pokeWords (dataBase n) (d.descriptor n t flip).1).setEngine n ((d.engine n).begun t)).showState n).putFlag (pENG n)
      CE.STATUS_VENDOR (d.flag (pENG n) CE.ENG_CFG_VENDOR_PROG) := by
  rw [Dev.sampleBegun, startSample_eq t d hn]

theorem sampleBegun_engine : (d.sampleBegun n t flip).engine n = (d.engine n).begun t := by
  rw [sampleBegun_eq t flip d hn]
  exact engine_setEngine_same _ _ (by omega)

end

/-! ## The run of the vendor program -/

theorem vendorFaults_lt {n g : Nat} {v : VendorState} {d : Dev} (h : g ∈ d.vendorFaults n v) : g < 4 := by
  unfold Dev.vendorFaults at h
  dsimp only at h
  split at h
  · cases h
  · obtain ⟨x, hx, rfl⟩ := List.mem_map.mp (List.mem_eraseDups.mp h)
    obtain ⟨y, -, hy⟩ := List.mem_filterMap.mp (List.mem_filter.mp hx).1
    obtain ⟨g, hg, rfl⟩ := Option.map_eq_some_iff.mp hy
    exact groupOf_lt hg

/-- The sample of the vendor program before its faults. -/
def Dev.vendorSampled (n : Nat) (v : VendorState) (staged : List StagedWrite) (a : Nat) (ws : List Word) (fl : FFlags) (d : Dev) : Dev :=
  (((d.openBytes (dataBase n + 0x3800) 2048).setEngine n { d.engine n with vendorWork := v, staged := staged }).pokeWords a ws).fpFlags n fl

/-- The sample of the vendor program without parameters. -/
def Dev.vendorIdles (n : Nat) (v : VendorState) (a : Nat) (ws : List Word) (d : Dev) : Dev :=
  ((d.openBytes (dataBase n + 0x3800) 2048).setEngine n { d.engine n with vendorWork := v }).pokeWords a ws

theorem vendorRun_cases (m : List Host.Cell) (n t : Nat) (desc : List Word) (reread : Bool) (d : Dev) :
    (∃ v a ws, d.vendorRun m n t desc reread = d.vendorIdles n v a ws) ∨
    ∃ v staged a ws fl, d.vendorRun m n t desc reread =
      (d.vendorSampled n v staged a ws fl).each (fun g d => d.gfault g t) ((d.vendorSampled n v staged a ws fl).vendorFaults n v) := by
  unfold Dev.vendorRun
  extract_lets
  split
  · exact .inl ⟨_, _, _, rfl⟩
  · exact .inr ⟨_, _, _, _, _, rfl⟩

/-- The run of the vendor program changes in the record its working state and its staged writes alone. -/
theorem vendorRun_engine (m : List Host.Cell) {n : Nat} (t : Nat) (desc : List Word) (reread : Bool) (d : Dev) (hn : n < 15) :
    ∃ v ws, (d.vendorRun m n t desc reread).engine n = { d.engine n with vendorWork := v, staged := ws } := by
  obtain ⟨v, a, ws, h⟩ | ⟨v, staged, a, ws, fl, h⟩ := vendorRun_cases m n t desc reread d
  · rw [h]
    exact ⟨v, (d.engine n).staged, engine_setEngine_same _ _ hn⟩
  · have hsampled : (d.vendorSampled n v staged a ws fl).engine n = { d.engine n with vendorWork := v, staged := staged } := by
      rw [Dev.vendorSampled, fpFlags_engine]
      exact engine_setEngine_same _ _ hn
    have hfaults := Dev.Frame.each (E := Dev.sansPower) (P := onPages powerPage) (g := fun g d => d.gfault g t)
      (l := (d.vendorSampled n v staged a ws fl).vendorFaults n v)
      (fun g hg x => gfault_frame (vendorFaults_lt hg) t x) (d.vendorSampled n v staged a ws fl)
    rw [h]
    exact ⟨v, staged, (hfaults.field (fun x => x.engine n) (fun _ => rfl)).trans hsampled⟩

/-! ## The tick -/

theorem exec_engineTick (n : Fin 12) (t : Nat) (s : State) :
    exec (.engineTick n t) s = .next (s.land t ((s.dev.begin t).engineTick s.mem n t)) := (rfl)

/-- A tick of engine n starts a sample. -/
structure Dev.Ticks (n t : Nat) (d : Dev) : Prop where
  due : d.tickDue n t = true
  noSpare : ¬(d.spareEn = true ∧ d.spare = n)
  ready : (d.engine n).st = .wait ∨ (d.engine n).st = .run
  free : d.pw.halted = false
  awake : d.boot.idle = false ∧ d.boot.gauze = false
  later : ∀ a, (d.engine n).tickAt = some a → a < t

/-- The device on which the sample of a tick begins. -/
def Dev.tickReady (m : List Host.Cell) (n : Nat) (d : Dev) : Dev := (d.resumeAct m n).mboxFlip n

theorem engineTick_of_ticks {m : List Host.Cell} {n t : Nat} {d : Dev} (h : d.Ticks n t) : d.engineTick m n t =
    if (d.tickReady m n).flag (pENG n) CE.ENG_CFG_VENDOR_PROG then
      ((d.tickReady m n).sampleBegun n t (d.engine n).mboxLatched).vendorRun m n t
        ((d.tickReady m n).startSample n t .run (d.engine n).mboxLatched).1
        ((d.engine n).mboxLatched || ((d.tickReady m n).engine n).first)
    else (d.tickReady m n).sampleBegun n t (d.engine n).mboxLatched := by
  obtain ⟨hdue, hspare, hready, hfree, ⟨hidle, hgauze⟩, hlater⟩ := h
  have hspare' : ¬(d.spareEn && decide (d.spare = n)) = true := by simpa using hspare
  have hstarts : (d.tickDue n t && ((d.engine n).st = .wait || (d.engine n).st = .run) && !d.pw.halted && !d.boot.idle &&
      !d.boot.gauze && (d.engine n).tickAt.all (fun a => decide (a < t))) = true := by
    have hall : (d.engine n).tickAt.all (fun a => decide (a < t)) = true := by
      cases htick : (d.engine n).tickAt with
      | none => rfl
      | some a => exact decide_eq_true (hlater a htick)
    simp [hdue, hready, hfree, hidle, hgauze, hall]
  unfold Dev.engineTick
  exact (if_neg hspare').trans (if_pos hstarts)

/-- The record of an engine after a tick that starts a sample, the work of the vendor program aside. -/
theorem engineTick_engine {m : List Host.Cell} {n t : Nat} {d : Dev} (hn : n < 12) (h : d.Ticks n t) :
    ∃ v ws, (d.engineTick m n t).engine n =
      { ((d.engine n).resumed.flipped).begun t with vendorWork := v, staged := ws } := by
  have hready : (d.tickReady m n).engine n = (d.engine n).resumed.flipped := by
    rw [Dev.tickReady, mboxFlip_engine _ hn, resumeAct_engine m d hn]
  have hbegun := sampleBegun_engine t (d.engine n).mboxLatched (d.tickReady m n) hn
  rw [hready] at hbegun
  rw [engineTick_of_ticks h, ← hbegun]
  split
  · exact vendorRun_engine m t _ _ _ (by omega)
  · exact ⟨_, _, rfl⟩

theorem resumed_flipped (e : Engine) : e.resumed.flipped.sampleNo = e.sampleNo ∧
    e.resumed.flipped.inB = (e.inB != e.mboxLatched) ∧ e.resumed.flipped.mboxLatched = false := by
  have hresumed : e.resumed.sampleNo = e.sampleNo ∧ e.resumed.inB = e.inB ∧ e.resumed.mboxLatched = e.mboxLatched := by
    unfold Engine.resumed
    split
    · exact ⟨rfl, rfl, rfl⟩
    · exact ⟨rfl, rfl, rfl⟩
  obtain ⟨hno, hinB, hlatched⟩ := hresumed
  unfold Engine.flipped
  cases h : e.mboxLatched with
  | true => simp [hlatched, h, hno, hinB]
  | false => simp [hlatched, h, hno, hinB]

/-! ## The descriptor of a user program's sample (R128) -/

/-- A word reads as its bytes. -/
theorem word_of_bytes {m : List Host.Cell} {a : Nat} {w : Word} {d : Dev} (h : ∀ j < 4, d.byte m (a + j) = (wordBytes w).getD j 0) :
    d.word m a = w := by
  have hbyte (j : Nat) (hj : j < 4) : (d.byte m (a + j)).toNat = w.toNat / 2 ^ (8 * j) % 256 := by
    rw [h j hj, wordBytes_getD hj, BitVec.extractLsb'_toNat, Nat.shiftRight_eq_div_pow]
  have h₀ := hbyte 0 (by decide)
  have h₁ := hbyte 1 (by decide)
  have h₂ := hbyte 2 (by decide)
  have h₃ := hbyte 3 (by decide)
  have hw := w.isLt
  apply BitVec.eq_of_toNat_eq
  rw [Dev.word, BitVec.toNat_ofNat]
  simp only [Nat.mul_zero, Nat.mul_one, Nat.reduceMul, Nat.reducePow, Nat.add_zero, Nat.div_one] at h₀ h₁ h₂ h₃ hw ⊢
  omega

/-- A descriptor has eight words, the tick's stamp first. -/
theorem descriptor_words (n t : Nat) (flip : Bool) (d : Dev) :
    ∃ ws, (d.descriptor n t flip).1 = d.stampOf t :: ws ∧ ws.length = 7 := ⟨_, rfl, rfl⟩

/-- What a user program's tick stages: the words of its descriptor. -/
theorem sampleBegun_wr {n : Nat} (t : Nat) (flip : Bool) (d : Dev) (hn : n < 12) :
    (d.sampleBegun n t flip).wr = (d.pokeWords (dataBase n) (d.descriptor n t flip).1).wr ∧ (d.sampleBegun n t flip).wipe = d.wipe := by
  rw [sampleBegun_eq t flip d hn]
  exact ⟨rfl, rfl⟩

theorem byte_congr {m : List Host.Cell} {a : Nat} {d e : Dev} (h : e.wr = d.wr) : e.byte m a = d.byte m a := by
  rw [Dev.byte, Dev.byte, h]

theorem mboxFlip_stampOf {n : Nat} (t : Nat) (d : Dev) : (d.mboxFlip n).stampOf t = d.stampOf t := by
  rw [mboxFlip_eq]
  split
  · rfl
  · rfl

theorem mboxFlip_user (n : Nat) (d : Dev) :
    (d.mboxFlip n).getAt (pENG n) CE.ENG_CFG_VENDOR_PROG 0 = d.getAt (pENG n) CE.ENG_CFG_VENDOR_PROG 0 := by
  rw [mboxFlip_eq]
  split
  · rw [Dev.mboxFlipped, Dev.raise_eq, getAt_putAt_other _ _ (by decide), Dev.putFlag, Dev.put_eq, getAt_putAt_other _ _ (by decide),
      Dev.put_eq, getAt_putAt_other _ _ (by decide), getAt_setEngine]
  · rfl

theorem mboxFlip_wipe (n : Nat) (d : Dev) : (d.mboxFlip n).wipe = d.wipe := by
  rw [mboxFlip_eq]
  split
  · rfl
  · rfl

/-- A user program's tick without a resume stages the descriptor alone, whose first word is the tick's stamp. -/
theorem engineTick_stages {m : List Host.Cell} {n t : Nat} {d : Dev} (hn : n < 12) (h : d.Ticks n t)
    (huser : d.flag (pENG n) CE.ENG_CFG_VENDOR_PROG = false) (hresume : (d.engine n).resumeDue = false) (hwr : d.wr = [])
    (hwipe : d.wipe = []) : (d.engineTick m n t).wipe = [] ∧
      (d.engineTick m n t).stagesIn (fun b => dataBase n ≤ b ∧ b < dataBase n + 32) ∧
      ∀ j < 4, (d.engineTick m n t).byte m (dataBase n + j) = (wordBytes (d.stampOf t)).getD j 0 := by
  have hready : d.tickReady m n = d.mboxFlip n := by rw [Dev.tickReady, resumeAct_eq, hresume]; rfl
  have huser' : (d.mboxFlip n).flag (pENG n) CE.ENG_CFG_VENDOR_PROG = false := by
    rw [Dev.flag_eq, mboxFlip_user]; exact huser
  have htick : d.engineTick m n t = (d.mboxFlip n).sampleBegun n t (d.engine n).mboxLatched := by
    rw [engineTick_of_ticks h, hready, huser']; rfl
  have hwr' : (d.mboxFlip n).wr = [] := (mboxFlip_wr n d).trans hwr
  have hwipe' : (d.mboxFlip n).wipe = [] := (mboxFlip_wipe n d).trans hwipe
  have hstamp := mboxFlip_stampOf (n := n) t d
  rw [htick]
  generalize d.mboxFlip n = e at hwr' hwipe' hstamp ⊢
  obtain ⟨hstaged, hpurged⟩ := sampleBegun_wr t (d.engine n).mboxLatched e hn
  obtain ⟨ws, hws, hlen⟩ := descriptor_words n t (d.engine n).mboxLatched e
  rw [hws] at hstaged
  refine ⟨hpurged.trans hwipe', fun c hc => ?_, fun j hj => ?_⟩
  · rw [hstaged] at hc
    refine pokeWords_stagesIn (R := fun b => dataBase n ≤ b ∧ b < dataBase n + 32) (d := e)
      (fun c hc => by rw [hwr'] at hc; cases hc) (fun b h₁ h₂ _ => ?_) c hc
    rw [List.length_cons, hlen] at h₂
    exact ⟨h₁, h₂⟩
  · have hbytes := length_wordBytes (e.stampOf t :: ws)
    rw [List.length_cons, hlen] at hbytes
    rw [byte_congr hstaged, Dev.pokeWords, byte_pokes, if_pos (by omega), Nat.add_sub_cancel_left, hstamp, List.flatMap_cons,
      List.getD_append _ _ _ _ (show j < (wordBytes (d.stampOf t)).length from hj)]
    intro b h₁ h₂
    obtain ⟨y, rfl⟩ := Nat.exists_eq_add_of_le h₁
    exact dataBase_inMemory (by omega) (by omega)

theorem engineTick_begins (n : Fin 12) (t : Nat) (s : State) (hdue : s.dev.tickDue n t = true)
    (hspare : ¬(s.dev.spareEn = true ∧ s.dev.spare = n.val)) (hst : (s.dev.engine n).st = .wait ∨ (s.dev.engine n).st = .run)
    (hhalt : s.dev.pw.halted = false) (hidle : s.dev.boot.idle = false) (hgauze : s.dev.boot.gauze = false)
    (hlater : ∀ a, (s.dev.engine n).tickAt = some a → a < t) :
    ∃ s', exec (.engineTick n t) s = .next s' ∧ (s'.dev.engine n).st = .run ∧ (s'.dev.engine n).tickAt = some t ∧
      (s'.dev.engine n).pc = 0 ∧ (s'.dev.engine n).regs = Vector.replicate 32 0 ∧ (s'.dev.engine n).doneAt = none ∧
      (s'.dev.engine n).sampleNo = ((s.dev.engine n).sampleNo + 1) % 2 ^ 32 ∧
      (s'.dev.engine n).inB = ((s.dev.engine n).inB != (s.dev.engine n).mboxLatched) ∧
      (s'.dev.engine n).mboxLatched = false ∧ s'.pending = s.pending ∧
      (s.dev.flag (pENG n) CE.ENG_CFG_VENDOR_PROG = false → (s.dev.engine n).resumeDue = false →
        s'.dev.word s'.mem (dataBase n) = s.dev.stampOf t ∧ s.memSameBut (dataBase n) 32 s') := by
  have hticks : (s.dev.begin t).Ticks n t := ⟨hdue, hspare, hst, hhalt, ⟨hidle, hgauze⟩, hlater⟩
  obtain ⟨v, ws, hengine⟩ := engineTick_engine (m := s.mem) n.isLt hticks
  obtain ⟨hno, hinB, hlatched⟩ := resumed_flipped (s.dev.engine n)
  have hmem (huser : s.dev.flag (pENG n) CE.ENG_CFG_VENDOR_PROG = false) (hresume : (s.dev.engine n).resumeDue = false) :=
    engineTick_stages (m := s.mem) n.isLt hticks huser hresume rfl rfl
  rw [exec_engineTick]
  generalize (s.dev.begin t).engineTick s.mem n t = e at hengine hmem ⊢
  have hrecord : (s.land t e).dev.engine n =
      { ((s.dev.engine n).resumed.flipped).begun t with vendorWork := v, staged := ws } := hengine
  refine ⟨_, rfl, ?_⟩
  rw [hrecord]
  refine ⟨rfl, rfl, rfl, rfl, rfl, ?_, hinB, hlatched, rfl, fun huser hresume => ?_⟩
  · exact congrArg (fun k => (k + 1) % 2 ^ 32) hno
  · obtain ⟨hwipe, hstages, hbytes⟩ := hmem huser hresume
    refine ⟨word_of_bytes (fun j hj => ?_), fun b hb => land_memByte hwipe hstages (by omega), rfl⟩
    exact (land_byte hwipe (dataBase_inMemory (by omega) (by omega))).trans (hbytes j hj)

/-- Settles O18: the tick, the deadline of a complete sample, that of a missed one and the third miss, one lemma for each. -/
theorem samplesBeginCommitAndMiss : Obligations.SamplesBeginCommitAndMiss :=
  ⟨engineTick_begins, sampleDeadline_commits, sampleDeadline_cuts, missOff_darkens⟩

end Sys2Proof.Machine
end

section
/-!
A branch at an instruction address that FAULT_CODE.ADDR cannot hold (R154): the field has 15 bits, an address has 32.
-/
namespace Sys2Proof.Machine

/-- Engine 0 in a sample, at address 0x8000, outside its program, to which a branch has taken it (R127, R136). -/
def strayedRecord : Engine := { engReset[0] with st := .run, tickAt := some 0, pc := 0x8000 }

/-- That engine, without AUTO_RESTART. -/
def strayedEngine : State :=
  { State.reset with dev := (Dev.reset.setEngine 0 strayedRecord).put (pENG 0) TE.ENG_CFG_AUTO_RESTART 0 }

theorem strayedEngine_facts : strayedEngine.dev.flag (pENG 0) TE.ENG_CFG_AUTO_RESTART = false ∧
    strayedEngine.dev.executes 0 = true ∧ (strayedEngine.dev.engine 0).pc = 0x8000 := by decide +kernel

theorem exec_br (n : Fin 15) (x : Src) (s : State) :
    exec (.br n x) s = .next (s.land 0 ((s.dev.begin 0).br s.mem n.val x)) := (rfl)

/-- The fault reports the address cut to its 15 bits, 0. -/
theorem strayedEngine_reports :
    (strayedEngine.land 0 ((strayedEngine.dev.begin 0).br strayedEngine.mem 0 (.lit 0))).dev.get (pENG 0) TE.FAULT_CODE_ADDR =
      0 := by decide +kernel

/-- Refutes O24: its last clause has FAULT_CODE.ADDR name the instruction's address whatever the program counter holds, but a
branch takes any 32-bit target and the field holds 15 bits (R136, R154). The counterexample is `strayedEngine`. -/
theorem not_controlInstructionsAndEngineFaults : ¬ Obligations.ControlInstructionsAndEngineFaults := by
  unfold Obligations.ControlInstructionsAndEngineFaults
  rintro ⟨-, -, -, -, hfaults⟩
  obtain ⟨hauto, hexecutes, hpc⟩ := strayedEngine_facts
  have houtside : 0x7800 < (strayedEngine.dev.engine 0).pc + 4 * srcWords [.lit 0] := by rw [hpc]; decide
  obtain ⟨s', hstep, -, -, -, haddr, -⟩ := hfaults 0 0 (.lit 0) (.lit 0) 0 strayedEngine hauto (.br 0 (.lit 0)) 2
    (by iterate 10 right
        exact .inl ⟨rfl, hexecutes, .inr houtside⟩)
  have hs' := Host.Outcome.next.inj ((exec_br _ _ _).symm.trans hstep)
  have hzero : s'.dev.get (pENG 0) TE.FAULT_CODE_ADDR = 0 := hs' ▸ strayedEngine_reports
  exact absurd (hzero.symm.trans (haddr.trans hpc)) (by decide)

end Sys2Proof.Machine
end

section
/-! Reads that restart or capture what they read (R138, R271, R281, R335, R400). -/
namespace Sys2Proof.Machine

/-- A command of the register target whose effect changes no register and stages nothing leaves registers and memory alone. -/
theorem land_regRound_same {t : Nat} {e : Dev} {s : State} (hreg : ∀ a, e.reg a = s.dev.reg a) (hwr : e.wr = [])
    (hwipe : e.wipe = []) : s.regsBut [] (s.land t e.regRound) ∧ s.memSame (s.land t e.regRound) :=
  ⟨fun a _ ha => by rw [land_reg, regRound_reg _ ha, hreg], land_memSame (by simp [hwr]) (by simp [hwipe])⟩

theorem exec_slackMinRead (n : Fin 15) (t : Nat) (s : State) :
    exec (.slackMinRead n t) s = .next (s.land t ((s.dev.begin t).slackRead n).2.regRound) := (rfl)

theorem exec_waitMaxRead (b : Fin 16) (k : Fin 24) (t : Nat) (s : State) :
    exec (.waitMaxRead b k t) s = .next (s.land t ((s.dev.begin t).waitRead b k).2.regRound) := (rfl)

theorem exec_ntLoRead (t : Nat) (s : State) :
    exec (.ntLoRead t) s = .next (s.land t ((s.dev.begin t).ntRead t).2.regRound) := (rfl)

theorem exec_ledgerCounterRead (k : Fin 6) (t : Nat) (s : State) :
    exec (.ledgerCounterRead k t) s = .next (s.land t ((s.dev.begin t).counterLow k).2.regRound) := (rfl)

theorem slackMinRead_restarts (n : Fin 15) (t : Nat) (s : State) :
    ∃ s', exec (.slackMinRead n t) s = .next s' ∧ s'.dev.get (pENG n) TE.SLACK_MIN_TICKS = 0xFFFF ∧
      s.regsBut [TE.SLACK_MIN_TICKS.addr (pENG n) 0] s' ∧ s'.dev.units = s.dev.units ∧ s.memSame s' := by
  have hoff : TE.SLACK_MIN_TICKS.addr (pENG n) 0 % 0x1000 = 0x060 := by
    simp only [FieldSpec.addr, TE.SLACK_MIN_TICKS]; omega
  have hframe : Dev.Frame Dev.sansRegs (regsIn [TE.SLACK_MIN_TICKS.addr (pENG n) 0]) (s.dev.begin t)
      ((s.dev.begin t).slackRead n).2 := putAt_frame _ _ (by simp [regsIn])
  refine ⟨_, exec_slackMinRead n t s, ?_, land_regRound_frame hframe.ofRegs⟩
  rw [Dev.get_eq, land_getAt, regRound_getAt _ (by omega)]
  exact getAt_putAt_same _ _ _ _ _ (by decide)

theorem waitMaxRead_restarts (b : Fin 16) (k : Fin 24) (t : Nat) (s : State) :
    ∃ s', exec (.waitMaxRead b k t) s = .next s' ∧ s'.dev.getAt (pARB b) ARB.PORT_STAT_WAIT_MAX k = 0 ∧
      s.regsBut [ARB.PORT_STAT_WAIT_MAX.addr (pARB b) k] s' ∧ s'.dev.units = s.dev.units ∧ s.memSame s' := by
  have hoff : ARB.PORT_STAT_WAIT_MAX.addr (pARB b) k % 0x1000 = 0x080 + k * 4 := by
    simp only [FieldSpec.addr, ARB.PORT_STAT_WAIT_MAX]; omega
  have hframe : Dev.Frame Dev.sansRegs (regsIn [ARB.PORT_STAT_WAIT_MAX.addr (pARB b) k]) (s.dev.begin t)
      ((s.dev.begin t).waitRead b k).2 := putAt_frame _ _ (by simp [regsIn])
  refine ⟨_, exec_waitMaxRead b k t s, ?_, land_regRound_frame hframe.ofRegs⟩
  rw [land_getAt, regRound_getAt _ (by omega)]
  exact getAt_putAt_same _ _ _ _ _ (by decide)

/-- The device without its registers and without the high word of network time that a read captured. -/
def Dev.sansNtHi (d : Dev) : Dev := { d with regs := [], bus := { d.bus with ntHi := 0 } }

theorem ntRead_frame (t : Nat) (d : Dev) :
    Dev.Frame Dev.sansNtHi (regsIn [PBUS_TIME.NT_HI.addr pTIME 0]) d (d.ntRead t).2 :=
  ⟨rfl, fun a ha => reg_putAt_ne _ _ (by simpa [regsIn] using ha)⟩

theorem ntLoRead_captures (t : Nat) {s : State} (hvalid : s.dev.bus.nt.valid = true) :
    ∃ s', exec (.ntLoRead t) s = .next s' ∧
      s'.dev.wordAt pTIME PBUS_TIME.NT_HI 0 = (ntWords (s.dev.bus.nt.taps t)).2 ∧
      s.regsBut [PBUS_TIME.NT_HI.addr pTIME 0] s' ∧ s'.dev.bus.nt = s.dev.bus.nt ∧ s.memSame s' := by
  have hframe := ntRead_frame t (s.dev.begin t)
  refine ⟨_, exec_ntLoRead t s, ?_, fun a ha ha' => ?_, ?_, land_memSame ?_ ?_⟩
  · rw [land_regRound_wordAt (by decide)]
    simp only [Dev.ntRead, Dev.put_eq, reg_putAt_whole _ _ (f := PBUS_TIME.NT_HI) (by decide), begin_bus, hvalid,
      if_true]
  · rw [land_reg, regRound_reg _ ha', hframe.reg a (by simpa [regsIn] using ha), begin_reg]
  · rw [land_bus, regRound_bus]
    exact hframe.field (fun x => x.bus.nt) (fun _ => rfl)
  · rw [regRound_wr]; exact hframe.field Dev.wr (fun _ => rfl)
  · rw [regRound_wipe]; exact hframe.field Dev.wipe (fun _ => rfl)

theorem ledgerCounterRead_captures (k : Fin 6) (t : Nat) (s : State) :
    ∃ s', exec (.ledgerCounterRead k t) s = .next s' ∧
      s'.dev.prec = { s.dev.prec with capHi := s.dev.prec.capHi.set k (s.dev.prec.count.getD k 0 / 2 ^ 32) } ∧
      s.regsBut [] s' ∧ s.memSame s' := by
  refine ⟨_, exec_ledgerCounterRead k t s, ?_, land_regRound_same (fun _ => ?_) ?_ ?_⟩
  · rw [land_prec, regRound_prec]; rfl
  · rfl
  · rfl
  · rfl

/-- Settles O14: each read is one register put, or one captured word, in front of the round that ends it. -/
theorem readsThatRestartOrCapture : Obligations.ReadsThatRestartOrCapture := by
  unfold Obligations.ReadsThatRestartOrCapture
  exact ⟨slackMinRead_restarts, waitMaxRead_restarts, fun t _ h => ntLoRead_captures t h, ledgerCounterRead_captures⟩

end Sys2Proof.Machine
end

section
/-!
SUPPORT. The legs one by one (R183, R187, R191, R213): a relation that holds between each leg before and after, and what settling
can make of one leg.
-/
namespace Sys2Proof.Machine

/-! ## A relation on every leg -/

/-- Each leg of e stands in relation R to that leg of d. -/
def Dev.Legwise (R : Leg → Leg → Prop) (d e : Dev) : Prop := ∀ m, R (d.leg m) (e.leg m)

/-- The leg of a place on which a leg is set: places past the last hold none. -/
theorem leg_setLeg_cases (n m : Nat) (x : Leg) (d : Dev) :
    (d.setLeg n x).leg m = d.leg m ∨ (m = n ∧ (d.setLeg n x).leg m = x) := by
  by_cases hm : m = n
  · subst hm
    by_cases hlt : m < 48
    · exact .inr ⟨rfl, leg_setLeg_same x d hlt⟩
    · exact .inl (by simp [Dev.leg, Dev.setLeg, Array.getD, hlt])
  · exact .inl (leg_setLeg_ne x d hm)

theorem putAt_leg (p : Nat) (g : FieldSpec) (i v n : Nat) (d : Dev) : (d.putAt p g i v).leg n = d.leg n := (rfl)

theorem setReg_leg (a n : Nat) (w : Word) (d : Dev) : (d.setReg a w).leg n = d.leg n := (rfl)

namespace Dev.Legwise

variable {R R' : Leg → Leg → Prop} {d e f : Dev}

theorem mono (h : d.Legwise R e) (hR : ∀ l x, R l x → R' l x) : d.Legwise R' e := fun m => hR _ _ (h m)

theorem trans [IsTrans Leg R] (h : d.Legwise R e) (h' : e.Legwise R f) : d.Legwise R f :=
  fun m => IsTrans.trans _ _ _ (h m) (h' m)

theorem ofLegs [Std.Refl R] (h : e.pw.legs = d.pw.legs) : d.Legwise R e :=
  fun m => by rw [show e.leg m = d.leg m by simp [Dev.leg, h]]; exact Std.Refl.refl _

theorem refl [Std.Refl R] (d : Dev) : d.Legwise R d := ofLegs rfl

theorem setLeg [Std.Refl R] {n : Nat} {x : Leg} (h : R (d.leg n) x) : d.Legwise R (d.setLeg n x) := by
  intro m
  rcases leg_setLeg_cases n m x d with hm | ⟨rfl, hm⟩
  · rw [hm]; exact Std.Refl.refl _
  · rw [hm]; exact h

theorem then_legs (h : d.Legwise R e) (hlegs : f.pw.legs = e.pw.legs) : d.Legwise R f := fun m => by
  rw [show f.leg m = e.leg m by simp only [Dev.leg, hlegs]]; exact h m

theorem then_put (h : d.Legwise R e) {p : Nat} {g : FieldSpec} {i v : Nat} : d.Legwise R (e.putAt p g i v) :=
  h.then_legs (congrArg PowerStage.legs (putAt_pw p g i v e))

theorem then_reg (h : d.Legwise R e) {a : Nat} {w : Word} : d.Legwise R (e.setReg a w) :=
  h.then_legs (congrArg PowerStage.legs (setReg_pw a w e))

theorem then_trip (h : d.Legwise R e) {n : Nat} {x : TripLatch} : d.Legwise R (e.setTrip n x) :=
  h.then_legs (setTrip_pw_legs n x e)

theorem then_grp (h : d.Legwise R e) {n : Nat} {x : Group} : d.Legwise R (e.setGrp n x) :=
  h.then_legs (setGrp_pw_legs n x e)

theorem ite {c : Prop} [Decidable c] {e₁ e₂ : Dev} (h₁ : c → d.Legwise R e₁) (h₂ : ¬c → d.Legwise R e₂) :
    d.Legwise R (if c then e₁ else e₂) := by
  split
  · exact h₁ ‹_›
  · exact h₂ ‹_›

theorem each [Std.Refl R] [IsTrans Leg R] {α : Type} {g : α → Dev → Dev} {l : List α}
    (h : ∀ a ∈ l, ∀ x : Dev, x.Legwise R (g a x)) (d : Dev) : d.Legwise R (d.each g l) := by
  induction l generalizing d with
  | nil => exact refl d
  | cons a l ih => exact (h a List.mem_cons_self d).trans (ih (fun b hb => h b (List.mem_cons_of_mem _ hb)) _)

end Dev.Legwise

/-! ## What settling makes of a leg -/

/-- A held leg: both switches off, its release forgotten (R183, R213, R337). -/
def Leg.heldOff (c : LegCfg) (t by' : Nat) (l : Leg) : Leg :=
  { l.bothOff c t with live := false, heldBy := by', freeSince := none }

/-- A leg under FORCE = 0b10: its high side goes off, its low side is or goes on (R183). -/
def Leg.lowOn (c : LegCfg) (t by' : Nat) (l : Leg) : Leg :=
  let l := { l.offHs c t with refresh := none, dropping := false, live := false, heldBy := by', freeSince := none }
  let l := if l.turnOn.any (fun x => x.high) then { l with turnOn := none } else l
  l.schedule false (t + c.dtHL)

/-- One act of settling on a leg: it is held off, held with its low side on, set to wait for its release, or its carrier is
realigned (R180, R183, R191). -/
inductive Leg.Settles (l : Leg) : Leg → Prop
  | off (c : LegCfg) (t by' : Nat) : l.Settles (l.heldOff c t by')
  | low (c : LegCfg) (t by' : Nat) : l.Settles (l.lowOn c t by')
  | waits (c : LegCfg) (t since : Nat) (hlive : l.live = false) : l.Settles { l.bothOff c t with freeSince := some since }
  | realigned (start len : Nat) : l.Settles { l with start := start, len := len, edges := [], peakDone := true }

/-- What any number of acts of settling may make of a leg. -/
abbrev Leg.Settled : Leg → Leg → Prop := Relation.ReflTransGen Leg.Settles

section
variable {t n c : Nat} {d : Dev}

/-- Settling a leg that anything but a debug halt holds: it goes off, or on its low side where FORCE = 0b10 alone holds it
(R183, R192). -/
theorem settleLeg_of_held (hheld : d.legHeld n = some c) (hc : c ≠ 5) :
    d.settleLeg t n =
      if d.forcedLow n then
        if d.pw.halted then d else d.setLeg n ((d.leg n).lowOn (d.legCfg n) (d.nextTick t) c)
      else d.setLeg n ((d.leg n).heldOff (d.legCfg n) (d.nextTick t) c) := by
  unfold Dev.settleLeg
  rw [hheld]
  split
  · next h => exact absurd (Option.some.inj h) hc
  · next h => cases h; rfl
  · next h => cases h

theorem settleLeg_off (hheld : d.legHeld n = some c) (hc : c ≠ 5) (hlow : d.forcedLow n = false) :
    d.settleLeg t n = d.setLeg n ((d.leg n).heldOff (d.legCfg n) (d.nextTick t) c) := by
  simp [settleLeg_of_held hheld hc, hlow]

theorem settleLeg_low (hheld : d.legHeld n = some c) (hc : c ≠ 5) (hlow : d.forcedLow n = true)
    (hhalt : d.pw.halted = false) :
    d.settleLeg t n = d.setLeg n ((d.leg n).lowOn (d.legCfg n) (d.nextTick t) c) := by
  simp [settleLeg_of_held hheld hc, hlow, hhalt]

end

/-- Settling one leg leaves the device, or sets that leg to what one act makes of it. -/
theorem settleLeg_settles (t n : Nat) (d : Dev) :
    d.settleLeg t n = d ∨ ∃ x, d.settleLeg t n = d.setLeg n x ∧ (d.leg n).Settles x := by
  cases hheld : d.legHeld n with
  | none =>
    unfold Dev.settleLeg
    rw [hheld]
    dsimp only
    split
    · exact .inl rfl
    · split
      · exact .inl rfl
      · next hlive _ => exact .inr ⟨_, rfl, .waits _ _ _ (by simpa using hlive)⟩
  | some c =>
    by_cases hc : c = 5
    · subst hc
      refine .inl ?_
      unfold Dev.settleLeg
      rw [hheld]
      rfl
    · rw [settleLeg_of_held hheld hc]
      split
      · split
        · exact .inl rfl
        · exact .inr ⟨_, rfl, .low _ _ _⟩
      · exact .inr ⟨_, rfl, .off _ _ _⟩

section
variable (t : Nat) (d : Dev)

theorem settleLeg_legs (n : Nat) : d.Legwise Leg.Settled (d.settleLeg t n) := by
  obtain h | ⟨x, h, hx⟩ := settleLeg_settles t n d
  · rw [h]; exact .refl d
  · rw [h]; exact .setLeg (.single hx)

theorem joinSpread_legs (g n : Nat) : d.Legwise Leg.Settled (d.joinSpread t g n) := by
  unfold Dev.joinSpread
  exact .ite (fun _ => .refl d) (fun _ => .ite (fun _ => .refl d) (fun _ => .setLeg (.single (.realigned _ _))))

theorem settleGroup_legs (g : Nat) : d.Legwise Leg.Settled (d.settleGroup t g) := by
  have hrespread : d.Legwise Leg.Settled (d.respread t g) :=
    .ite (fun _ => .refl d) (fun _ => (Dev.Legwise.ofLegs (by rfl)).trans (.each (fun n _ x => joinSpread_legs t x g n) _))
  exact .ite (fun _ => hrespread.trans (.ofLegs (by rfl))) (fun _ => hrespread)

theorem settleLegs_legs : d.Legwise Leg.Settled (d.settleLegs t) :=
  (Dev.Legwise.each (fun n _ x => settleLeg_legs t x n) d).trans (.each (fun g _ x => settleGroup_legs t x g) _)

/-- Whatever settling does to a leg is a run of its acts. -/
theorem settle_legs : d.Legwise Leg.Settled (d.settle t) := by
  have hloss : (d.settleLegs t).Legwise Leg.Settled ((d.settleLegs t).phaseLoss t) :=
    fun m => by rw [phaseLoss_leg]
  have h := (settleLegs_legs t d).trans hloss
  exact .ite (fun _ => h.trans (settleLegs_legs t _)) (fun _ => h)

end

end Sys2Proof.Machine
end

section
/-!
SUPPORT. The order of a leg's switches (R181, R187, R191, R202) under the acts on one leg: what turns a switch off, schedules a
turn-on, places one, or settles the leg keeps it.
-/
namespace Sys2Proof.Machine

/-! ## Switches of a leg -/

/-- What the order of a leg's switches speaks of. -/
def Leg.switches (l : Leg) : Bool × Bool × Option TurnOn × Option RefreshStage × Option Nat × Bool :=
  (l.hs, l.ls, l.turnOn, l.refresh, l.freeSince, l.live)

theorem Leg.ordered_congr {l x : Leg} (h : x.switches = l.switches) : x.ordered ↔ l.ordered := by
  simp only [Leg.switches, Prod.mk.injEq] at h
  obtain ⟨hhs, hls, hturn, hrefresh, hfree, hlive⟩ := h
  simp only [Leg.ordered, hhs, hls, hturn, hrefresh, hfree, hlive]

section
variable (c : LegCfg) (high : Bool) (t : Nat) (l : Leg)

@[simp] theorem Leg.offBy_switches : (l.offBy c high t).switches = l.switches := by unfold Leg.offBy; split <;> rfl

/-- The high side off leaves the other switch, what is scheduled, the refresh and the release. -/
@[simp] theorem Leg.offHs_switches : (l.offHs c t).switches = ({ l with hs := false } : Leg).switches := by
  unfold Leg.offHs
  split
  · rw [Leg.offBy_switches]; rfl
  · simp_all [Leg.switches]

@[simp] theorem Leg.offLs_switches : (l.offLs c t).switches = ({ l with ls := false } : Leg).switches := by
  unfold Leg.offLs
  split
  · rw [Leg.offBy_switches]; rfl
  · simp_all [Leg.switches]

@[simp] theorem Leg.offHs_ls : (l.offHs c t).ls = l.ls := congrArg (fun x => x.2.1) (Leg.offHs_switches c t l)
@[simp] theorem Leg.offHs_turnOn : (l.offHs c t).turnOn = l.turnOn := congrArg (fun x => x.2.2.1) (Leg.offHs_switches c t l)
@[simp] theorem Leg.offHs_refresh : (l.offHs c t).refresh = l.refresh :=
  congrArg (fun x => x.2.2.2.1) (Leg.offHs_switches c t l)
@[simp] theorem Leg.offHs_freeSince : (l.offHs c t).freeSince = l.freeSince :=
  congrArg (fun x => x.2.2.2.2.1) (Leg.offHs_switches c t l)
@[simp] theorem Leg.offLs_turnOn : (l.offLs c t).turnOn = l.turnOn := congrArg (fun x => x.2.2.1) (Leg.offLs_switches c t l)
@[simp] theorem Leg.offLs_refresh : (l.offLs c t).refresh = l.refresh :=
  congrArg (fun x => x.2.2.2.1) (Leg.offLs_switches c t l)
@[simp] theorem Leg.offLs_freeSince : (l.offLs c t).freeSince = l.freeSince :=
  congrArg (fun x => x.2.2.2.2.1) (Leg.offLs_switches c t l)
@[simp] theorem Leg.bothOff_turnOn : (l.bothOff c t).turnOn = none := (rfl)
@[simp] theorem Leg.bothOff_refresh : (l.bothOff c t).refresh = none := (rfl)
@[simp] theorem Leg.bothOff_freeSince : (l.bothOff c t).freeSince = l.freeSince := by simp [Leg.bothOff]

@[simp] theorem Leg.schedule_ls : (l.schedule high t).ls = l.ls := by unfold Leg.schedule; split_ifs <;> rfl
@[simp] theorem Leg.schedule_refresh : (l.schedule high t).refresh = l.refresh := by unfold Leg.schedule; split_ifs <;> rfl
@[simp] theorem Leg.schedule_freeSince : (l.schedule high t).freeSince = l.freeSince := by
  unfold Leg.schedule; split_ifs <;> rfl

/-- What a schedule leaves to turn on is the switch that it names. -/
theorem Leg.schedule_turnOn_high {x : TurnOn} (h : (l.schedule high t).turnOn = some x) : x.high = high := by
  unfold Leg.schedule at h
  by_cases hon : (if high then l.hs else l.ls) = true
  · rw [if_pos hon] at h; cases h
  · rw [if_neg hon] at h
    split at h
    · next hany => simpa [h] using hany
    · exact (congrArg TurnOn.high (Option.some.inj h)).symm

/-- A switch that is not on is scheduled (R181). -/
theorem Leg.schedule_any (hoff : (if high then l.hs else l.ls) = false) :
    (l.schedule high t).turnOn.any (fun x => x.high == high) = true := by
  unfold Leg.schedule
  rw [if_neg (by simp [hoff])]
  split
  · next h => simpa [beq_eq_decide] using h
  · simp

end

/-! ## What keeps the order -/

/-- A leg with both switches off, nothing scheduled, no refresh, and not both released and waiting is in order. -/
theorem Leg.ordered_of_off {l : Leg} (hhs : l.hs = false) (hls : l.ls = false) (hturn : l.turnOn = none)
    (hrefresh : l.refresh = none) (hlive : l.live = true → l.freeSince = none) : l.ordered := by
  simpa [Leg.ordered, hhs, hls, hturn, hrefresh] using hlive

/-- A leg outside refresh and release whose switch other than `high` is off, and of which nothing but `high` may turn on, is
in order. -/
theorem Leg.ordered_of_toward {l : Leg} (high : Bool) (hoff : (if high then l.ls else l.hs) = false)
    (hturn : ∀ x, l.turnOn = some x → x.high = high) (hrefresh : l.refresh = none) (hfree : l.freeSince = none) :
    l.ordered := by
  refine ⟨?_, fun x hx => ?_, fun h => absurd hrefresh h, fun h => ?_, fun f h => ?_, fun h => ?_, fun h => absurd hfree h,
    fun _ => hfree⟩
  · cases high
    · simp_all
    · simp_all
  · rw [hturn x hx]; exact hoff
  all_goals rw [hrefresh] at h; cases h

section
variable {c : LegCfg} {high : Bool} {t k : Nat} {l x : Leg}

theorem Leg.heldOff_ordered : (l.heldOff c t k).ordered :=
  Leg.ordered_of_off (Leg.bothOff_hs ..) (Leg.bothOff_ls ..) rfl rfl (fun _ => rfl)

/-- The switch opposite to what turns on goes off, and what was scheduled against it is forgotten (R181, R208). -/
theorem Leg.turnTo_ordered (hrefresh : l.refresh = none) (hfree : l.freeSince = none)
    (hoff : (if high then l.ls else l.hs) = false) (due : Nat) : (l.schedule high due).ordered :=
  Leg.ordered_of_toward high (by cases high <;> simpa using hoff) (fun _ hx => Leg.schedule_turnOn_high _ _ _ hx)
    (by rw [Leg.schedule_refresh, hrefresh]) (by rw [Leg.schedule_freeSince, hfree])

theorem Leg.lowOn_ordered : (l.lowOn c t k).ordered := by
  unfold Leg.lowOn
  refine Leg.turnTo_ordered (high := false) ?_ ?_ (Eq.trans (if_neg Bool.false_ne_true) ?_) _
  all_goals split <;> simp

theorem Leg.Settles.ordered (h : l.Settles x) (hl : l.ordered) : x.ordered := by
  cases h with
  | off => exact Leg.heldOff_ordered
  | low => exact Leg.lowOn_ordered
  | waits c t since hlive =>
    exact Leg.ordered_of_off (Leg.bothOff_hs ..) (Leg.bothOff_ls ..) rfl rfl
      (fun h => by rw [Leg.bothOff_live, hlive] at h; cases h)
  | realigned => exact (Leg.ordered_congr rfl).mpr hl

theorem Leg.Settled.ordered (h : l.Settled x) (hl : l.ordered) : x.ordered := by
  induction h with
  | refl => exact hl
  | tail _ h ih => exact h.ordered ih

/-- A leg that is on, released, or refreshes does not wait for its release. -/
theorem Leg.ordered.freeSince_none (hl : l.ordered) (h : l.hs = true ∨ l.ls = true ∨ l.live = true ∨ l.refresh ≠ none ∨
    l.turnOn ≠ none) : l.freeSince = none := by
  obtain ⟨-, -, -, -, -, -, hfree, hlive⟩ := hl
  by_contra hne
  obtain ⟨hhs, hls, hturn, hrefresh⟩ := hfree hne
  rcases h with h | h | h | h | h
  · rw [hhs] at h; cases h
  · rw [hls] at h; cases h
  · exact hne (hlive h)
  · exact h hrefresh
  · exact h hturn

end

/-! ## On the device -/

/-- Every leg in order in d is in order in e. -/
abbrev Dev.KeepsOrder (d e : Dev) : Prop := d.Legwise (Leg.ordered ⁻¹'o (· ≤ ·)) e

/-- No leg's switches change, nor what is scheduled for them. -/
abbrev Dev.KeepsSwitches (d e : Dev) : Prop := d.Legwise (Leg.switches ⁻¹'o (· = ·)) e

theorem Dev.Legwise.keepsOrder {d e : Dev} (h : d.KeepsSwitches e) : d.KeepsOrder e :=
  h.mono (fun l x hx => (Leg.ordered_congr (l := l) (x := x) (Eq.symm hx)).mpr)

theorem Dev.Legwise.hs {d e : Dev} (h : d.KeepsSwitches e) (n : Nat) : (e.leg n).hs = (d.leg n).hs :=
  (congrArg Prod.fst (h n)).symm

theorem Dev.Legwise.ls {d e : Dev} (h : d.KeepsSwitches e) (n : Nat) : (e.leg n).ls = (d.leg n).ls :=
  (congrArg (fun x => x.2.1) (h n)).symm

theorem setLeg_keepsOrder {n : Nat} {x : Leg} {d : Dev} (h : (d.leg n).ordered → x.ordered) : d.KeepsOrder (d.setLeg n x) :=
  .setLeg h

theorem settle_keepsOrder (t : Nat) (d : Dev) : d.KeepsOrder (d.settle t) :=
  (settle_legs t d).mono (fun _ _ h => Leg.Settled.ordered h)

end Sys2Proof.Machine
end

section
/-!
SUPPORT. Trips and settling (R213 to R220): what they may write of the leg pages, and that a trip leaves the legs to the settling
after it.
-/
namespace Sys2Proof.Machine

/-! ## Registers -/

/-- The pages of the legs. -/
def legPage (p : Nat) : Bool := decide (pLEG 0 ≤ p) && decide (p < pGRP 0)

/-- The registers of the power pages, of the legs' pages only those at the offsets given. -/
def protReg (offs : List Nat) (a : Nat) : Bool := onPages powerPage a && (!onPages legPage a || decide (a % 0x1000 ∈ offs))

theorem legPage_iff (p : Nat) : legPage p = true ↔ 0x40 ≤ p ∧ p < 0x70 := by
  simp only [legPage, Bool.and_eq_true, decide_eq_true_eq]
  rfl

theorem addr_offset {p : Nat} {f : FieldSpec} (hf : f.off < 0x1000) : f.addr p 0 % 0x1000 = f.off := by
  simp only [FieldSpec.addr]
  omega

theorem addr_zero_page {p : Nat} {f : FieldSpec} (hf : f.off < 0x1000) : f.addr p 0 / 0x1000 = p :=
  addr_page (by omega)

theorem protReg_leg {offs : List Nat} {n : Nat} {f : FieldSpec} (hn : n < 48) (hf : f.off < 0x1000) :
    protReg offs (f.addr (pLEG n) 0) = decide (f.off ∈ offs) := by
  have hleg : legPage (pLEG n) = true := (legPage_iff _).mpr (by rw [pLEG]; omega)
  simp [protReg, onPages, addr_zero_page hf, addr_offset hf, powerPage_leg hn, hleg]

theorem protReg_other {offs : List Nat} {p : Nat} {f : FieldSpec} (hp : p = pSYS ∨ ∃ g < 4, p = pGRP g) (hf : f.off < 0x1000) :
    protReg offs (f.addr p 0) = true := by
  have hnot : legPage p = false := by
    rw [Bool.eq_false_iff, Ne, legPage_iff]
    rcases hp with rfl | ⟨g, hg, rfl⟩
    · exact fun h => absurd h (by decide)
    · rw [pGRP]; omega
  have hpower : powerPage p = true := by
    rcases hp with rfl | ⟨g, hg, rfl⟩
    · rfl
    · exact powerPage_grp hg
  simp [protReg, onPages, addr_zero_page hf, hpower, hnot]

theorem protReg_mono {offs offs' : List Nat} (h : ∀ o ∈ offs, o ∈ offs') (a : Nat) (ha : protReg offs' a = false) :
    protReg offs a = false := by
  simp only [protReg, Bool.and_eq_false_iff, Bool.or_eq_false_iff, decide_eq_false_iff_not] at ha ⊢
  exact ha.imp_right (fun hx => ⟨hx.1, fun ho => hx.2 (h _ ho)⟩)

/-! ## The latches above a leg -/

/-- The device without registers, group latches and device latch. -/
def Dev.sansUpper (d : Dev) : Dev := { d with regs := [], pw := { d.pw with groups := PowerStage.reset.groups, dev := .reset } }

/-- A frame of what the trips of groups and device may change: the legs' pages show them in FAULT_CODE alone (R220). -/
abbrev Dev.UpperFrame (d e : Dev) : Prop := Dev.Frame Dev.sansUpper (protReg [0x024]) d e

section
variable (d : Dev)

theorem putAt_upper_frame {p : Nat} {f : FieldSpec} (v : Nat) (h : protReg [0x024] (f.addr p 0) = true) :
    d.UpperFrame (d.putAt p f 0 v) := (putAt_frame v d h).ofRegs

theorem putSys_upper_frame {f : FieldSpec} (v : Nat) (hf : f.off < 0x1000) : d.UpperFrame (d.putAt pSYS f 0 v) :=
  putAt_upper_frame d v (protReg_other (.inl rfl) hf)

theorem putGrp_upper_frame {g : Nat} (hg : g < 4) {f : FieldSpec} (v : Nat) (hf : f.off < 0x1000) :
    d.UpperFrame (d.putAt (pGRP g) f 0 v) := putAt_upper_frame d v (protReg_other (.inr ⟨g, hg, rfl⟩) hf)

theorem markHeld_upper_frame (cause : Nat) {legs : List Nat} (h : ∀ n ∈ legs, n < 48) : d.UpperFrame (d.markHeld cause legs) := by
  have hput {n : Nat} (hn : n < 48) {f : FieldSpec} (hf : f.off = 0x024) (v : Nat) (x : Dev) :
      x.UpperFrame (x.putAt (pLEG n) f 0 v) :=
    putAt_upper_frame x v (by rw [protReg_leg hn (by omega), hf]; decide)
  exact .each (fun n hn x => .ite (fun _ => .refl _ _ _)
    (fun _ => (hput (h n hn) rfl _ x).trans (hput (h n hn) rfl _ _))) d

theorem devTrip_upper_frame (cause g : Nat) (srcs : List TripSrc) (t : Nat) : d.UpperFrame (d.devTrip cause g srcs t) := by
  refine .ite (fun _ => ⟨rfl, fun _ _ => rfl⟩) (fun _ => ?_)
  refine .trans ?_ (markHeld_upper_frame _ _ (fun n hn => List.mem_range.mp (List.mem_filter.mp hn).1))
  refine .trans ?_ (putSys_upper_frame _ _ (by decide))
  refine .trans ?_ (putSys_upper_frame _ _ (by decide))
  refine .trans ?_ (putSys_upper_frame _ _ (by decide))
  refine .trans ?_ (putSys_upper_frame _ _ (by decide))
  exact ⟨rfl, fun _ _ => rfl⟩

theorem escDevice_upper_frame {g : Nat} (hg : g < 4) (cause : Nat) (srcs : List TripSrc) (t : Nat) :
    d.UpperFrame (d.escDevice g cause srcs t) :=
  (putGrp_upper_frame d hg _ (by decide)).trans (devTrip_upper_frame _ _ _ _ _)

theorem grpTrip_upper_frame {g : Nat} (hg : g < 4) (cause leg : Nat) (srcs : List TripSrc) (t : Nat) :
    d.UpperFrame (d.grpTrip g cause leg srcs t) := by
  have hnoted : d.UpperFrame (d.grpNoted g cause) :=
    Dev.Frame.trans
      (.ite (fun _ => (putGrp_upper_frame d hg _ (by decide)).trans (putGrp_upper_frame _ hg (f := GRP.GCNT_MULTI) _ (by decide)))
        (fun _ => .refl _ _ _))
      (.ite (fun _ => putGrp_upper_frame _ hg 1 (by decide)) (fun _ => .refl _ _ _))
  have hset : d.UpperFrame ((d.grpNoted g cause).setGrp g ((d.grp g).after cause srcs t)) :=
    hnoted.trans ⟨rfl, fun _ _ => rfl⟩
  rw [grpTrip_eq]
  refine .ite (fun _ => hset) (fun _ => hset.trans ?_)
  refine .trans ?_ (markHeld_upper_frame _ _ (fun n hn => List.mem_range.mp (List.mem_filter.mp hn).1))
  refine .trans ?_ (putGrp_upper_frame _ hg _ (by decide))
  refine .trans ?_ (putGrp_upper_frame _ hg (f := GRP.GCNT_TRIPS) _ (by decide))
  refine .trans ?_ (putGrp_upper_frame _ hg _ (by decide))
  exact (putGrp_upper_frame _ hg _ (by decide)).trans (putGrp_upper_frame _ hg _ (by decide))

theorem escalate_upper_frame (n : Nat) (src : TripSrc) : d.UpperFrame (d.escalate n src) := by
  unfold Dev.escalate
  extract_lets t g e
  have hesc : d.UpperFrame e := by
    unfold e
    split
    · next heq => exact grpTrip_upper_frame d (groupOf_lt heq) _ _ _ _
    · exact devTrip_upper_frame d _ _ _ _
    · exact .refl _ _ _
  cases heq : g with
  | none => exact hesc
  | some g =>
    refine .ite (fun _ => ?_) (fun _ => hesc)
    extract_lets srcs x
    have hgrp : d.UpperFrame x := hesc.trans (grpTrip_upper_frame e (groupOf_lt heq) _ _ _ _)
    exact .ite (fun _ => hgrp.trans (escDevice_upper_frame x (groupOf_lt heq) _ _ _)) (fun _ => hgrp)

end

/-! ## The trip of a leg -/

/-- The device without registers and trip latches. -/
def Dev.sansTrips (d : Dev) : Dev :=
  { d with regs := [], pw := { d.pw with trips := PowerStage.reset.trips, groups := PowerStage.reset.groups, dev := .reset } }

/-- A frame of what a trip may change, before anything settles. -/
abbrev Dev.TripFrame (d e : Dev) : Prop := Dev.Frame Dev.sansTrips (protReg [0x010, 0x024, 0x098, 0x09C]) d e

theorem putLeg_trip_frame {n : Nat} (hn : n < 48) {f : FieldSpec} (v : Nat) (d : Dev) (hf : f.off ∈ [0x010, 0x024, 0x098, 0x09C]) :
    d.TripFrame (d.putAt (pLEG n) f 0 v) :=
  (putAt_frame v d (by
    rw [protReg_leg hn (by simp only [List.mem_cons, List.not_mem_nil, or_false] at hf; omega)]
    exact decide_eq_true hf)).ofRegs

theorem causeEvent_trip_frame {n : Nat} (hn : n < 48) (cause : Nat) (d : Dev) : d.TripFrame (d.causeEvent n cause) := by
  unfold Dev.causeEvent
  split
  iterate 8 exact putLeg_trip_frame hn _ d (by decide)
  exact .refl _ _ _

theorem tripCore_frame {n : Nat} (hn : n < 48) (cause : Nat) (high : Bool) (t : Nat) (d : Dev) :
    d.TripFrame (d.tripCore n cause high t) := by
  unfold Dev.tripCore
  extract_lets r held p x src e uv others e₁ e₂ e₃ e₄
  have he : d.TripFrame e := causeEvent_trip_frame hn cause d
  refine .ite (fun _ => he.trans ⟨rfl, fun _ _ => rfl⟩) (fun _ => ?_)
  have h₁ : d.TripFrame e₁ := he.trans ⟨rfl, fun _ _ => rfl⟩
  have h₂ : d.TripFrame e₂ := h₁.trans (.ite (fun _ => .refl _ _ _)
    (fun _ => (putLeg_trip_frame hn _ _ (by decide)).trans (putLeg_trip_frame hn _ _ (by decide))))
  have h₃ : d.TripFrame (e₄.raise p LEG.IRQ_RAW_TRIP) :=
    ((h₂.trans (putLeg_trip_frame hn _ _ (by decide))).trans
      (putLeg_trip_frame hn (f := LEG.CNT_PROT_TRIPS) _ _ (by decide))).trans (putLeg_trip_frame hn _ _ (by decide))
  exact h₃.trans ((escalate_upper_frame _ n src).mono (fun _ => rfl) (protReg_mono (by decide)))

theorem tripCore_legs {n : Nat} (hn : n < 48) (cause : Nat) (high : Bool) (t : Nat) (d : Dev) :
    (d.tripCore n cause high t).pw.legs = d.pw.legs := (tripCore_frame hn cause high t d).field (fun x => x.pw.legs) (fun _ => rfl)

/-! ## Settling -/

/-- A frame of what settling may change: it shows nothing on a leg's page but FAULT_CODE (R220). -/
abbrev Dev.SettleFrame (d e : Dev) : Prop := Dev.Frame Dev.sansPower (protReg [0x024]) d e

/-- The device without registers, legs and groups. -/
def Dev.sansLegs (d : Dev) : Dev :=
  { d with regs := [], pw := { d.pw with legs := PowerStage.reset.legs, groups := PowerStage.reset.groups } }

/-- A frame of what settling legs and groups may change. -/
abbrev Dev.LegsFrame (d e : Dev) : Prop := Dev.Frame Dev.sansLegs (protReg [0x024]) d e

theorem settleLegs_legsFrame (t : Nat) (d : Dev) : d.LegsFrame (d.settleLegs t) := by
  have hset (n : Nat) (x : Leg) (e : Dev) : e.LegsFrame (e.setLeg n x) := ⟨rfl, fun _ _ => rfl⟩
  have hgrp (g : Nat) (x : Group) (e : Dev) : e.LegsFrame (e.setGrp g x) := ⟨rfl, fun _ _ => rfl⟩
  have hleg (n : Nat) (e : Dev) : e.LegsFrame (e.settleLeg t n) := by
    obtain h | ⟨x, h, -⟩ := settleLeg_settles t n e
    · rw [h]; exact .refl _ _ _
    · rw [h]; exact hset n x e
  have hjoin (g n : Nat) (e : Dev) : e.LegsFrame (e.joinSpread t g n) := by
    unfold Dev.joinSpread
    exact .ite (fun _ => .refl _ _ _) (fun _ => .ite (fun _ => .refl _ _ _) (fun _ => hset _ _ _))
  have hrespread (g : Nat) (e : Dev) : e.LegsFrame (e.respread t g) :=
    .ite (fun _ => .refl _ _ _) (fun _ => (hgrp g _ e).trans (.each (fun k _ x => hjoin g k x) _))
  have hgroup {g : Nat} (hg : g < 4) (e : Dev) : e.LegsFrame (e.settleGroup t g) :=
    .ite (fun _ => (hrespread g e).trans (putAt_frame _ _ (protReg_other (.inr ⟨g, hg, rfl⟩) (by decide))).ofRegs)
      (fun _ => hrespread g e)
  exact (Dev.Frame.each (fun n _ x => hleg n x) d).trans (.each (fun _ hg x => hgroup (List.mem_range.mp hg) x) _)

theorem settleLegs_settleFrame (t : Nat) (d : Dev) : d.SettleFrame (d.settleLegs t) :=
  (settleLegs_legsFrame t d).mono (fun _ => rfl) (fun _ ha => ha)

theorem phaseLoss_upper_frame (t : Nat) (d : Dev) : d.UpperFrame (d.phaseLoss t) := by
  unfold Dev.phaseLoss
  refine .ite (fun _ => .ite (fun _ => ⟨rfl, fun _ _ => rfl⟩) (fun _ => .refl _ _ _)) (fun _ => ?_)
  cases hg : d.lostPhase with
  | none => exact .refl _ _ _
  | some g =>
    have hg4 : g < 4 := by
      unfold Dev.lostPhase at hg
      split at hg
      · exact List.mem_range.mp (List.mem_of_find?_eq_some hg)
      · cases hg
    exact escDevice_upper_frame d hg4 _ _ t

theorem settle_settleFrame (t : Nat) (d : Dev) : d.SettleFrame (d.settle t) := by
  have h : d.SettleFrame ((d.settleLegs t).phaseLoss t) :=
    (settleLegs_settleFrame t d).trans ((phaseLoss_upper_frame t _).mono (fun _ => rfl) (fun _ ha => ha))
  exact .ite (fun _ => h.trans (settleLegs_settleFrame t _)) (fun _ => h)

/-- Settling leaves every field of a leg's page but those of FAULT_CODE. -/
theorem settle_legField {n : Nat} (hn : n < 48) (t : Nat) (d : Dev) {f : FieldSpec} (hf : f.off < 0x1000 ∧ f.off ≠ 0x024) :
    (d.settle t).getAt (pLEG n) f 0 = d.getAt (pLEG n) f 0 :=
  (settle_settleFrame t d).getAt (by rw [protReg_leg hn hf.1]; simpa using hf.2)

end Sys2Proof.Machine
end

section
/-!
SUPPORT. The update boundary of a leg (R172 to R175, R190, R191): what each act of a period start or a peak may write, and
what it leaves of the leg's switches and of its latched set.
-/
namespace Sys2Proof.Machine

/-! ## Acts on one leg -/

theorem setLeg_setLeg (n : Nat) (x y : Leg) (d : Dev) : (d.setLeg n x).setLeg n y = d.setLeg n y := by
  simp only [Dev.setLeg, Vector.setIfInBounds_setIfInBounds]

/-- The device without registers, leg n, groups and sigma-delta chains. -/
def Dev.sansPeriod (n : Nat) (d : Dev) : Dev :=
  { d.setLeg n .reset with regs := [], sense := .reset,
                           pw := { (d.setLeg n .reset).pw with groups := PowerStage.reset.groups } }

/-- The registers of leg n's page at the offsets given. -/
def legRegs (n : Nat) (offs : List Nat) (a : Nat) : Bool := decide (∃ o ∈ offs, a = pLEG n * 0x1000 + o)

theorem addr_first (f : FieldSpec) (p : Nat) : f.addr p 0 = p * 0x1000 + f.off := by simp only [FieldSpec.addr]; omega

theorem legRegs_off {n o : Nat} {offs : List Nat} (h : o ∉ offs) : legRegs n offs (pLEG n * 0x1000 + o) = false := by
  simp only [legRegs, decide_eq_false_iff_not, not_exists, not_and]
  rintro o' ho' he
  exact h ((Nat.add_left_cancel he) ▸ ho')

/-- What a leg shows of its latched set and its switches. -/
def Leg.latchAndSwitches (l : Leg) : Option LegSet × Bool × Bool := (l.latched, l.hs, l.ls)

/-- An act on leg n at a boundary: it writes registers of the leg's page at the offsets given, keeps COMMIT_DONE, and leaves latched
sets and switches as they are. -/
structure Dev.BoundaryAct (n : Nat) (offs : List Nat) (d e : Dev) : Prop where
  frame : Dev.Frame (Dev.sansPeriod n) (legRegs n offs) d e
  done : d.getAt (pLEG n) LEG.IRQ_RAW_COMMIT_DONE 0 = 1 → e.getAt (pLEG n) LEG.IRQ_RAW_COMMIT_DONE 0 = 1
  legs : d.Legwise (Leg.latchAndSwitches ⁻¹'o (· = ·)) e

theorem setLeg_period_frame (n : Nat) (P : Nat → Bool) (x : Leg) (d : Dev) :
    Dev.Frame (Dev.sansPeriod n) P d (d.setLeg n x) :=
  ⟨by simp only [Dev.sansPeriod, setLeg_setLeg], fun _ _ => rfl⟩

namespace Dev.BoundaryAct

variable {n : Nat} {offs offs' : List Nat} {d e f : Dev}

theorem refl (n : Nat) (offs : List Nat) (d : Dev) : d.BoundaryAct n offs d := ⟨.refl _ _ _, id, .refl d⟩

theorem trans (h : d.BoundaryAct n offs e) (h' : e.BoundaryAct n offs f) : d.BoundaryAct n offs f :=
  ⟨h.frame.trans h'.frame, h'.done ∘ h.done, h.legs.trans h'.legs⟩

theorem ite {c : Prop} [Decidable c] {e₁ e₂ : Dev} (h₁ : c → d.BoundaryAct n offs e₁) (h₂ : ¬c → d.BoundaryAct n offs e₂) :
    d.BoundaryAct n offs (if c then e₁ else e₂) := by
  split
  · exact h₁ ‹_›
  · exact h₂ ‹_›

theorem mono (h : d.BoundaryAct n offs e) (ho : ∀ o ∈ offs, o ∈ offs') : d.BoundaryAct n offs' e := by
  refine ⟨h.frame.mono (fun x => ?_) (fun a ha => ?_), h.done, h.legs⟩
  · simp only [Dev.sansPeriod, Dev.setLeg, Vector.setIfInBounds_setIfInBounds]
  · simp only [legRegs, decide_eq_false_iff_not, not_exists, not_and] at ha ⊢
    exact fun o hmem => ha o (ho o hmem)

theorem reg (h : d.BoundaryAct n offs e) {o : Nat} (ho : o ∉ offs) :
    e.reg (pLEG n * 0x1000 + o) = d.reg (pLEG n * 0x1000 + o) := h.frame.reg _ (legRegs_off ho)

theorem latched (h : d.BoundaryAct n offs e) : (e.leg n).latched = (d.leg n).latched :=
  (congrArg (fun x => x.1) (h.legs n)).symm
theorem hs (h : d.BoundaryAct n offs e) : (e.leg n).hs = (d.leg n).hs := (congrArg (fun x => x.2.1) (h.legs n)).symm
theorem ls (h : d.BoundaryAct n offs e) : (e.leg n).ls = (d.leg n).ls := (congrArg (fun x => x.2.2) (h.legs n)).symm

theorem setLeg {x : Leg} (h : x.latchAndSwitches = (d.leg n).latchAndSwitches) : d.BoundaryAct n offs (d.setLeg n x) :=
  ⟨setLeg_period_frame n _ x d, id, .setLeg h.symm⟩

theorem setReg {o : Nat} (w : Word) (ho : o ∈ offs) (hne : o ≠ 0x010) : d.BoundaryAct n offs (d.setReg (pLEG n * 0x1000 + o) w) := by
  refine ⟨(setReg_frame w d (decide_eq_true ⟨o, ho, rfl⟩)).mono (fun _ => rfl) (fun _ h => h), fun h => ?_, .ofLegs rfl⟩
  have hother : LEG.IRQ_RAW_COMMIT_DONE.addr (pLEG n) 0 ≠ pLEG n * 0x1000 + o := by
    simp only [FieldSpec.addr, LEG.IRQ_RAW_COMMIT_DONE]; omega
  rwa [Dev.getAt, reg_setReg_ne _ _ hother]

theorem put {g : FieldSpec} (v : Nat) (ho : g.off ∈ offs) (hg : g.off ≠ 0x010 ∨ (g.fits = true ∧ g.apart LEG.IRQ_RAW_COMMIT_DONE = true)) :
    d.BoundaryAct n offs (d.putAt (pLEG n) g 0 v) := by
  refine ⟨(putAt_frame v d (decide_eq_true ⟨_, ho, addr_first g _⟩)).mono (fun _ => rfl) (fun _ h => h), fun h => ?_, .ofLegs rfl⟩
  rcases hg with hne | ⟨hfits, hapart⟩
  · rwa [getAt_putAt_other _ _ (Ne.symm hne)]
  · rwa [getAt_putAt_apart _ _ hfits hapart]

end Dev.BoundaryAct

/-! ## What the acts do -/

section
variable {n : Nat} (d : Dev)

theorem staleStep_act : d.BoundaryAct n [0x010] (d.staleStep n) := by
  unfold Dev.staleStep
  extract_lets l e
  have hset : d.BoundaryAct n [0x010] e := .setLeg rfl
  exact .ite (fun _ => hset.trans (.put (g := LEG.IRQ_RAW_PAIR_STALE) (offs := [0x010]) 1 (by decide) (by decide))) (fun _ => hset)

theorem staleStep_keepsSwitches : d.KeepsSwitches (d.staleStep n) := by
  unfold Dev.staleStep
  extract_lets l e
  have hset : d.KeepsSwitches e := .setLeg rfl
  exact .ite (fun _ => hset.then_put) (fun _ => hset)

theorem closePeriod_act (start : Nat) : d.BoundaryAct n [0x060] (d.closePeriod n start) := by
  unfold Dev.closePeriod
  extract_lets l on e
  have hset : d.BoundaryAct n [0x060] e := .setLeg rfl
  exact hset.trans (.setReg (o := 0x060) (offs := [0x060]) _ (by decide) (by decide))

theorem closePeriod_keepsSwitches (start : Nat) : d.KeepsSwitches (d.closePeriod n start) := by
  unfold Dev.closePeriod
  extract_lets l on e
  have hset : d.KeepsSwitches e := .setLeg rfl
  exact hset.then_reg

/-- EFF_DUTY takes the high-side on-time of the period that ends (R190). -/
theorem closePeriod_effDuty (start : Nat) : (d.closePeriod n start).reg (pLEG n * 0x1000 + 0x60) =
    BitVec.ofNat 32 (((d.leg n).hsAcc + (if (d.leg n).hs then start - (d.leg n).hsMark else 0)) % 2 ^ 24) :=
  reg_setReg_same _ _ _

theorem takeGroup_cases (start : Nat) : d.takeGroup n start = d ∨ ∃ g x, d.takeGroup n start = d.setGrp g x := by
  unfold Dev.takeGroup
  split
  · exact .inl rfl
  · dsimp only
    split
    · exact .inl rfl
    · split
      · exact .inr ⟨_, _, rfl⟩
      · exact .inl rfl

theorem takeGroup_act (start : Nat) : d.BoundaryAct n [] (d.takeGroup n start) := by
  obtain h | ⟨g, x, h⟩ := takeGroup_cases d start
  · rw [h]; exact .refl _ _ _
  · rw [h]; exact ⟨⟨rfl, fun _ _ => rfl⟩, id, .ofLegs rfl⟩

theorem takeGroup_leg (start m : Nat) : (d.takeGroup n start).leg m = d.leg m := by
  obtain h | ⟨g, x, h⟩ := takeGroup_cases d start
  · rw [h]
  · rw [h]; rfl

theorem sdLinked_act (start : Nat) : d.BoundaryAct n [] (d.sdLinked n start) := by
  unfold Dev.sdLinked
  refine List.foldlRecOn (motive := fun x => d.BoundaryAct n [] x) _ _ (.refl _ _ _) (fun x hx i _ => hx.trans ?_)
  exact .ite (fun _ => ⟨⟨rfl, fun _ _ => rfl⟩, id, .ofLegs rfl⟩) (fun _ => .refl _ _ _)

theorem sdLinked_legs (start : Nat) : (d.sdLinked n start).pw.legs = d.pw.legs := by
  unfold Dev.sdLinked
  refine List.foldlRecOn (motive := fun x : Dev => x.pw.legs = d.pw.legs) _ _ rfl (fun x hx i _ => ?_)
  dsimp only
  split
  · exact hx
  · exact hx

end

/-! ## The set that a period start takes -/

/-- The latched set that leg n takes at a period start (R172). -/
def Dev.takenSet (n start : Nat) (d : Dev) : Option LegSet :=
  (d.leg n).latched.bind (fun x =>
    if decide (x.at' + leadTaps ≤ start) && ((d.legCfg n).startBoundary ||
        (d.setMoves n x && decide (x.at' + leadTaps ≤ (d.leg n).peak (d.unitOf n)))) then some x else none)

/-- The device once leg n has taken the set due at a period start. -/
def Dev.setTaken (n start : Nat) (d : Dev) : Dev :=
  match d.takenSet n start with
  | some x => d.applySet n x
  | none => d

section
variable {n : Nat} (d : Dev)

theorem applySet_keepsSwitches (x : LegSet) : d.KeepsSwitches (d.applySet n x) := by
  unfold Dev.applySet
  extract_lets b e
  have he : d.KeepsSwitches e := (((Dev.Legwise.refl d).then_reg).then_reg).then_reg
  have hset : e.KeepsSwitches (e.setLeg n { e.leg n with latched := none }) := .setLeg rfl
  exact he.trans hset.then_put

theorem setTaken_keepsSwitches (start : Nat) : d.KeepsSwitches (d.setTaken n start) := by
  unfold Dev.setTaken
  split
  · exact applySet_keepsSwitches d _
  · exact .refl d

theorem layEdges_keepsSwitches (u start : Nat) : d.KeepsSwitches (d.layEdges n u start) := .setLeg rfl

theorem layEdges_act (u start : Nat) (offs : List Nat) : d.BoundaryAct n offs (d.layEdges n u start) := by
  unfold Dev.layEdges
  extract_lets l c es old
  exact .setLeg rfl

theorem layEdges_start (hn : n < 48) (u start : Nat) : ((d.layEdges n u start).leg n).start = (d.leg n).start := by
  unfold Dev.layEdges
  extract_lets l c es old
  rw [leg_setLeg_same _ d hn]

theorem enterPeriod_keepsSwitches (start : Nat) : d.KeepsSwitches (d.enterPeriod n start) := by
  unfold Dev.enterPeriod
  extract_lets p c take e₁ tg l moves len duty full e₂ e₃ e₄ inv dut src e₅ e₆
  have h₁ : d.KeepsSwitches e₁ := setTaken_keepsSwitches d start
  have h₂ : d.KeepsSwitches e₂ := .ite (fun _ => h₁.then_put.then_put.then_put) (fun _ => h₁)
  have h₃ : d.KeepsSwitches e₃ := .ite (fun _ => h₂.then_put) (fun _ => h₂)
  have h₄ : d.KeepsSwitches e₄ := .ite (fun _ => h₃.then_legs (sdLinked_legs e₃ start)) (fun _ => h₃)
  have h₅ : e₄.KeepsSwitches e₅ := .setLeg rfl
  exact ((h₄.trans h₅).then_reg).trans (layEdges_keepsSwitches e₆ _ _)

/-- What a period start does after the set it takes: it reports, and moves the carrier of the leg. -/
theorem enterPeriod_act (start : Nat) : (d.setTaken n start).BoundaryAct n [0x010, 0x024, 0x05C] (d.enterPeriod n start) := by
  unfold Dev.enterPeriod
  extract_lets p c take e₁ tg l moves len duty full e₂ e₃ e₄ inv dut src e₅ e₆
  have h₂ : e₁.BoundaryAct n [0x010, 0x024, 0x05C] e₂ := .ite (fun _ => (Dev.BoundaryAct.trans
    (.put (g := LEG.IRQ_RAW_PERIOD_CLAMP) (offs := [0x010, 0x024, 0x05C]) 1 (by decide) (by decide))
    (.put (g := LEG.FAULT_CODE_CAUSE) (offs := [0x010, 0x024, 0x05C]) 1 (by decide) (by decide))).trans
    (.put (g := LEG.FAULT_CODE_SOURCE) (offs := [0x010, 0x024, 0x05C]) 0 (by decide) (by decide))) (fun _ => .refl _ _ _)
  have h₃ : e₁.BoundaryAct n [0x010, 0x024, 0x05C] e₃ := h₂.trans (.ite
    (fun _ => .put (g := LEG.IRQ_RAW_DUTY_CLAMP) (offs := [0x010, 0x024, 0x05C]) 1 (by decide) (by decide)) (fun _ => .refl _ _ _))
  have h₄ : e₁.BoundaryAct n [0x010, 0x024, 0x05C] e₄ :=
    h₃.trans (.ite (fun _ => (sdLinked_act e₃ start).mono (by simp)) (fun _ => .refl _ _ _))
  have h₅ : e₁.BoundaryAct n [0x010, 0x024, 0x05C] e₅ := h₄.trans (.setLeg rfl)
  have h₆ : e₁.BoundaryAct n [0x010, 0x024, 0x05C] e₆ :=
    h₅.trans (.setReg (o := 0x05C) (offs := [0x010, 0x024, 0x05C]) _ (by decide) (by decide))
  exact h₆.trans (layEdges_act e₆ _ _ _)

theorem enterPeriod_start (hn : n < 48) (start : Nat) : ((d.enterPeriod n start).leg n).start = start := by
  unfold Dev.enterPeriod
  extract_lets p c take e₁ tg l moves len duty full e₂ e₃ e₄ inv dut src e₅ e₆
  rw [layEdges_start e₆ hn, setReg_leg, leg_setLeg_same _ e₄ hn]

end

/-! ## The release at a period start (R191) -/

section
variable {n : Nat} (d : Dev)

/-- The leg that a period start releases, with its turn-on or with none where MIN_PULSE drops it. -/
def Leg.releasedAs (c : LegCfg) (start : Nat) (s short : Bool) (rest : List (Nat × Bool)) (l : Leg) : Leg :=
  { l with live := true, freeSince := none, s := s, dropping := false, refresh := none,
           turnOn := if short then none else some ⟨s, start + if s then c.dtLH else c.dtHL, false⟩, edges := rest }.offBy c (!s) start

/-- A release leaves the device, or releases a leg that waited for it, and may count a dropped pulse. -/
theorem releaseAt_cases (start : Nat) : d.releaseAt n start = d ∨
    ∃ c s short rest, (d.leg n).freeSince ≠ none ∧
      d.releaseAt n start = (let e := d.setLeg n ((d.leg n).releasedAs c start s short rest)
        if short then (e.count (pLEG n) LEG.CNT_DROPS).raise (pLEG n) LEG.IRQ_RAW_PULSE_DROP else e) := by
  unfold Dev.releaseAt
  dsimp only
  split
  · exact .inl rfl
  · next h =>
    refine .inr ⟨_, _, _, _, fun hnone => ?_, rfl⟩
    simp [hnone] at h

theorem Leg.releasedAs_switches (c : LegCfg) (start : Nat) (s short : Bool) (rest : List (Nat × Bool)) (l : Leg) :
    (l.releasedAs c start s short rest).switches =
      (l.hs, l.ls, if short then none else some ⟨s, start + if s then c.dtLH else c.dtHL, false⟩, none, none, true) :=
  Leg.offBy_switches _ _ _ _

/-- A leg that waits has both switches off, so it may be released to either (R191). -/
theorem Leg.releasedAs_ordered {c : LegCfg} {start : Nat} {s short : Bool} {rest : List (Nat × Bool)} {l : Leg}
    (hwaits : l.freeSince ≠ none) (hl : l.ordered) : (l.releasedAs c start s short rest).ordered := by
  obtain ⟨-, -, -, -, -, -, hfree, -⟩ := hl
  obtain ⟨hhs, hls, -, -⟩ := hfree hwaits
  have h := Leg.releasedAs_switches c start s short rest l
  simp only [Leg.switches, hhs, hls, Prod.mk.injEq] at h
  obtain ⟨hhs', hls', hturn, hrefresh, hnone, -⟩ := h
  refine Leg.ordered_of_toward s ?_ (fun x hx => ?_) hrefresh hnone
  · cases s
    · exact hhs'
    · exact hls'
  · rw [hturn] at hx
    split at hx
    · cases hx
    · exact (congrArg TurnOn.high (Option.some.inj hx)).symm

theorem releaseAt_keepsOrder (start : Nat) : d.KeepsOrder (d.releaseAt n start) := by
  obtain h | ⟨c, s, short, rest, hwaits, h⟩ := releaseAt_cases (n := n) d start
  · rw [h]; exact .refl d
  · rw [h]
    have hset : d.KeepsOrder (d.setLeg n ((d.leg n).releasedAs c start s short rest)) := .setLeg (Leg.releasedAs_ordered hwaits)
    exact .ite (fun _ => hset.then_put.then_put) (fun _ => hset)

theorem Leg.releasedAs_kept (c : LegCfg) (start : Nat) (s short : Bool) (rest : List (Nat × Bool)) (l : Leg) :
    (l.releasedAs c start s short rest).latchAndSwitches = l.latchAndSwitches ∧
      (l.releasedAs c start s short rest).start = l.start := by
  unfold Leg.releasedAs Leg.offBy
  split
  · exact ⟨rfl, rfl⟩
  · exact ⟨rfl, rfl⟩

theorem releaseAt_act (start : Nat) : d.BoundaryAct n [0x010, 0x068] (d.releaseAt n start) := by
  obtain h | ⟨c, s, short, rest, -, h⟩ := releaseAt_cases (n := n) d start
  · rw [h]; exact .refl _ _ _
  · have hset : d.BoundaryAct n [0x010, 0x068] (d.setLeg n ((d.leg n).releasedAs c start s short rest)) :=
      .setLeg (Leg.releasedAs_kept ..).1
    rw [h]
    exact .ite (fun _ => (hset.trans (.put (g := LEG.CNT_DROPS) (offs := [0x010, 0x068]) _ (by decide) (by decide))).trans
      (.put (g := LEG.IRQ_RAW_PULSE_DROP) (offs := [0x010, 0x068]) 1 (by decide) (by decide))) (fun _ => hset)

theorem releaseAt_start (start : Nat) : ((d.releaseAt n start).leg n).start = (d.leg n).start := by
  have hset (x : Leg) (hx : x.start = (d.leg n).start) : ((d.setLeg n x).leg n).start = (d.leg n).start := by
    rcases leg_setLeg_cases n n x d with h | ⟨-, h⟩
    · rw [h]
    · rw [h, hx]
  obtain h | ⟨c, s, short, rest, -, h⟩ := releaseAt_cases (n := n) d start
  · rw [h]
  · rw [h]
    dsimp only
    split
    · exact hset _ (Leg.releasedAs_kept ..).2
    · exact hset _ (Leg.releasedAs_kept ..).2

end

end Sys2Proof.Machine
end

section
/-!
SUPPORT. The commands of the leg modulators and of leg protection keep the order of every leg's switches (R181, R187, R191, R202,
R208, R212).
-/
namespace Sys2Proof.Machine

/-! ## Boundaries -/

section
variable {n : Nat} (d : Dev)

theorem atPeak_keepsSwitches : d.KeepsSwitches (d.atPeak n) := by
  unfold Dev.atPeak
  extract_lets c u l pk e₁ e₂
  have h₁ : d.KeepsSwitches e₁ := .setLeg rfl
  have h₂ : d.KeepsSwitches e₂ := h₁.trans (staleStep_keepsSwitches e₁)
  refine .ite (fun _ => h₁) (fun _ => ?_)
  split
  · refine .ite (fun _ => ?_) (fun _ => h₂)
    extract_lets x₁ x₂ want full x₃ duty fin es old
    have k₁ : d.KeepsSwitches x₁ := h₂.trans (applySet_keepsSwitches e₂ _)
    have k₂ : d.KeepsSwitches x₂ := .ite (fun _ => k₁.then_put.then_put.then_put) (fun _ => k₁)
    have k₃ : d.KeepsSwitches x₃ := .ite (fun _ => k₂.then_put) (fun _ => k₂)
    exact k₃.trans (.setLeg rfl)
  · exact h₂

theorem periodStart_keepsOrder (start : Nat) : d.KeepsOrder (d.periodStart n start) := by
  unfold Dev.periodStart
  extract_lets e₁ e₂ e₃
  have h₁ : d.KeepsSwitches e₁ := closePeriod_keepsSwitches d start
  have h₂ : e₁.KeepsSwitches e₂ := fun m => by rw [show e₂.leg m = e₁.leg m from takeGroup_leg e₁ start m]; rfl
  have h₃ : d.KeepsOrder e₃ :=
    ((h₁.trans h₂).trans (enterPeriod_keepsSwitches e₂ start)).keepsOrder.trans (releaseAt_keepsOrder _ start)
  exact .ite (fun _ => h₃.trans (staleStep_keepsSwitches e₃).keepsOrder) (fun _ => h₃)

theorem boundary_keepsOrder (t : Nat) : d.KeepsOrder (d.boundary n t) :=
  .ite (fun _ => .refl d) (fun _ => .ite (fun _ => periodStart_keepsOrder d _)
    (fun _ => .ite (fun _ => (atPeak_keepsSwitches d).keepsOrder) (fun _ => .refl d)))

/-! ## Edges and turn-ons -/

theorem dropPulse_keepsSwitches : d.KeepsSwitches (d.dropPulse n) := by
  have hset : d.KeepsSwitches (d.setLeg n { d.leg n with dropping := true }) := .setLeg rfl
  exact hset.then_put.then_put

/-- An edge of s turns the other switch off and schedules its own, outside refresh on a released leg (R181). -/
theorem edge_keepsOrder (up : Bool) (e : Nat) (rest : List (Nat × Bool)) : d.KeepsOrder (d.edge n up e rest) := by
  unfold Dev.edge
  extract_lets c src x l off on l₁ l₂
  have hx : d.KeepsOrder x := Dev.Legwise.keepsOrder (.setLeg rfl)
  refine .ite (fun _ => hx) (fun hlive => ?_)
  refine .ite (fun _ => hx.trans (Dev.Legwise.keepsOrder (.setLeg rfl))) (fun _ => ?_)
  refine .ite (fun _ => hx) (fun _ => .ite (fun _ => hx.trans (dropPulse_keepsSwitches x).keepsOrder) (fun _ => ?_))
  refine hx.trans (setLeg_keepsOrder (fun hl => ?_))
  have hl : l.ordered := hl
  obtain ⟨hrel, hrefresh⟩ : l.live = true ∧ l.refresh = none := by simpa using hlive
  have hfree := hl.freeSince_none (.inr (.inr (.inl hrel)))
  have h₁ : l₁.refresh = none ∧ l₁.freeSince = none ∧ (if up then l₁.ls else l₁.hs) = false := by
    unfold l₁
    cases up
    · exact ⟨by simp [hrefresh], by simp [hfree], by simp⟩
    · exact ⟨by simp [hrefresh], by simp [hfree], by simp⟩
  have h₂ : l₂.refresh = none ∧ l₂.freeSince = none ∧ (if up then l₂.ls else l₂.hs) = false := by
    unfold l₂
    split
    · exact h₁
    · exact h₁
  exact Leg.turnTo_ordered h₂.1 h₂.2.1 h₂.2.2 on

theorem switchEdge_keepsOrder (up : Bool) (t : Nat) : d.KeepsOrder (d.switchEdge n up t) := by
  refine .ite (fun _ => .refl d) (fun _ => ?_)
  split
  · exact .ite (fun _ => edge_keepsOrder d _ _ _) (fun _ => .refl d)
  · exact .refl d

end

/-! ## A turn-on that is placed (R202) -/

/-- The switch that a scheduled turn-on turns on: after a refresh pulse the one that s selects (R187). -/
def Leg.turnsHigh (x : TurnOn) (l : Leg) : Bool := if l.refresh = some .after then l.s else x.high

/-- A refresh after a turn-on: it enters its pulse, up to the end given, or ends (R187). -/
def Leg.refreshOn (fin : Nat) (l : Leg) : Leg :=
  match l.refresh with
  | some .before => { l with refresh := some (.pulse fin) }
  | some .after => { l with refresh := none }
  | some (.pulse f) => { l with refresh := some (.pulse f) }
  | none => l

/-- The leg once a switch has turned on. -/
def Leg.placed (c : LegCfg) (high : Bool) (on : Nat) (l : Leg) : Leg := (l.switchOn c high on).refreshOn (on + c.width)

section
variable {n t : Nat} {d : Dev}

theorem placeTurnOn_none (h : (d.leg n).turnOn = none) : d.placeTurnOn n t = d := by
  unfold Dev.placeTurnOn
  dsimp only
  rw [h]

/-- A scheduled turn-on is not due yet, or waits for the opposite feedback, or is placed. -/
theorem placeTurnOn_some {x : TurnOn} (h : (d.leg n).turnOn = some x) : d.placeTurnOn n t =
    (let high := (d.leg n).turnsHigh x
     let due := ceilTo (d.legCfg n).res x.due
     if t < due then d
     else if (if high then (d.leg n).gsLs else (d.leg n).gsHs) then
       if x.waiting then d
       else (d.setLeg n { d.leg n with turnOn := some { x with waiting := true } }).count (pLEG n) LEG.IL_DELAYS
     else d.setLeg n ((d.leg n).placed (d.legCfg n) high (if x.waiting then d.nextTick t else due))) := by
  unfold Dev.placeTurnOn
  dsimp only
  rw [h]
  rfl

end

/-- The stage of a refresh after a turn-on, the pulse up to the end given. -/
def RefreshStage.next (fin : Nat) : Option RefreshStage → Option RefreshStage
  | some .before => some (.pulse fin)
  | some .after => none
  | some (.pulse f) => some (.pulse f)
  | none => none

section
variable (c : LegCfg) (high : Bool) (on : Nat) (l : Leg)

/-- What a turn-on leaves: the switch on, the other as it was, nothing scheduled (R202). -/
theorem Leg.placed_fields :
    (l.placed c high on).hs = (high || l.hs) ∧ (l.placed c high on).ls = (!high || l.ls) ∧ (l.placed c high on).turnOn = none ∧
      (l.placed c high on).freeSince = l.freeSince ∧ (l.placed c high on).live = l.live ∧
      (l.placed c high on).blanks = l.blanks ++ [(on + 512, on + 512 + c.blank)] := by
  unfold Leg.placed Leg.refreshOn Leg.switchOn
  cases high
  all_goals
    dsimp only
    split
    all_goals exact ⟨rfl, rfl, rfl, rfl, rfl, rfl⟩

theorem Leg.placed_refresh : (l.placed c high on).refresh = RefreshStage.next (on + c.width) l.refresh := by
  have hrefresh : (l.switchOn c high on).refresh = l.refresh := by unfold Leg.switchOn; split <;> rfl
  unfold Leg.placed Leg.refreshOn
  rw [hrefresh]
  rcases hr : l.refresh with _ | _ | f | _
  · exact hrefresh.trans hr
  all_goals rfl

/-- In a leg in order the switch opposite to the one that turns on is off. -/
theorem Leg.ordered.opposite_off {l : Leg} {x : TurnOn} (hl : l.ordered) (hturn : l.turnOn = some x) :
    (if l.turnsHigh x then l.ls else l.hs) = false := by
  obtain ⟨-, hopp, hhigh, -, -, hafter, -, -⟩ := hl
  unfold Leg.turnsHigh
  by_cases hr : l.refresh = some .after
  · rw [if_pos hr, hafter hr, hhigh (by rw [hr]; exact Option.some_ne_none _), ite_self]
  · rw [if_neg hr]; exact hopp x hturn

theorem Leg.placed_ordered {l : Leg} {x : TurnOn} (hl : l.ordered) (hturn : l.turnOn = some x) :
    (l.placed c (l.turnsHigh x) on).ordered := by
  have hfree := hl.freeSince_none (.inr (.inr (.inr (.inr (by rw [hturn]; exact Option.some_ne_none x)))))
  have hoff := hl.opposite_off hturn
  obtain ⟨hhs', hls', hturn', hfree', -, -⟩ := Leg.placed_fields c (l.turnsHigh x) on l
  have hrefresh' := Leg.placed_refresh c (l.turnsHigh x) on l
  have hopp : (if l.turnsHigh x then (l.placed c (l.turnsHigh x) on).ls else (l.placed c (l.turnsHigh x) on).hs) = false := by
    rw [hhs', hls']
    cases hh : l.turnsHigh x
    · simpa [hh] using hoff
    · simpa [hh] using hoff
  have htoward : RefreshStage.next (on + c.width) l.refresh = none → (l.placed c (l.turnsHigh x) on).ordered := fun hnone =>
    Leg.ordered_of_toward (l.turnsHigh x) hopp (fun y hy => by rw [hturn'] at hy; cases hy) (hrefresh'.trans hnone)
      (hfree'.trans hfree)
  obtain ⟨-, -, hhigh, hbefore, hpulse, -, -, -⟩ := hl
  rcases hr : l.refresh with _ | _ | f | _
  · exact htoward (by rw [hr]; rfl)
  · have hlow : l.turnsHigh x = false := by
      unfold Leg.turnsHigh
      rw [if_neg (by rw [hr]; decide), hbefore hr x hturn]
    rw [hlow] at hhs' hls' hturn' hfree' hrefresh' ⊢
    rw [hr] at hrefresh'
    have hhs : (l.placed c false on).hs = false := by
      rw [hhs', hhigh (by rw [hr]; exact Option.some_ne_none _)]; rfl
    simp [Leg.ordered, hhs, hturn', hfree', hfree, hrefresh', RefreshStage.next]
  · rw [hpulse f hr] at hturn; cases hturn
  · exact htoward (by rw [hr]; rfl)

/-- A turn-on that begins to wait keeps the order. -/
theorem Leg.waiting_ordered {l : Leg} {x : TurnOn} (hl : l.ordered) (hturn : l.turnOn = some x) :
    ({ l with turnOn := some { x with waiting := true } } : Leg).ordered := by
  have hfree := hl.freeSince_none (.inr (.inr (.inr (.inr (by rw [hturn]; exact Option.some_ne_none x)))))
  obtain ⟨hboth, hopp, hhigh, hbefore, hpulse, hafter, -, hlive⟩ := hl
  refine ⟨hboth, fun y hy => ?_, hhigh, fun hr y hy => ?_, fun f hr => ?_, hafter, fun h => absurd hfree h, hlive⟩
  · cases hy; exact hopp x hturn
  · cases hy; exact hbefore hr x hturn
  · rw [hpulse f hr] at hturn; cases hturn

end

theorem placeTurnOn_keepsOrder (n t : Nat) (d : Dev) : d.KeepsOrder (d.placeTurnOn n t) := by
  cases hturn : (d.leg n).turnOn with
  | none => rw [placeTurnOn_none hturn]; exact .refl d
  | some x =>
    rw [placeTurnOn_some hturn]
    refine .ite (fun _ => .refl d) (fun _ => .ite (fun _ => .ite (fun _ => .refl d) (fun _ => ?_)) (fun _ => ?_))
    · exact .then_put (setLeg_keepsOrder (fun hl => Leg.waiting_ordered hl hturn))
    · exact setLeg_keepsOrder (fun hl => Leg.placed_ordered _ _ hl hturn)

/-! ## Refresh (R187) -/

/-- A leg that begins a refresh, its high side off and nothing but its low side to turn on. -/
theorem Leg.ordered_of_before {l : Leg} (hhs : l.hs = false) (hturn : ∀ x, l.turnOn = some x → x.high = false)
    (hrefresh : l.refresh = some .before) (hfree : l.freeSince = none) : l.ordered := by
  refine ⟨by simp [hhs], fun x hx => ?_, fun _ => hhs, fun _ => hturn, fun f h => ?_, fun h => ?_, fun h => absurd hfree h, fun _ => hfree⟩
  · rw [hturn x hx]; exact hhs
  · rw [hrefresh] at h; cases h
  · rw [hrefresh] at h; cases h

/-- A leg after its refresh pulse has both switches off, whatever turns on next. -/
theorem Leg.ordered_of_after {l : Leg} (hhs : l.hs = false) (hls : l.ls = false) (hrefresh : l.refresh = some .after)
    (hfree : l.freeSince = none) : l.ordered := by
  refine ⟨by simp [hhs], fun x _ => ?_, fun _ => hhs, fun h => ?_, fun f h => ?_, fun _ => hls, fun h => absurd hfree h, fun _ => hfree⟩
  · rw [hhs, hls, ite_self]
  · rw [hrefresh] at h; cases h
  · rw [hrefresh] at h; cases h

section
variable {n : Nat} (t : Nat) (d : Dev)

theorem refresh_keepsOrder : d.KeepsOrder (d.refresh n t) := by
  unfold Dev.refresh
  extract_lets c l
  split
  · exact .refl d
  · refine .ite (fun hgo => ?_) (fun _ => .refl d)
    extract_lets src x e
    have hset : d.KeepsOrder e := setLeg_keepsOrder (fun hl => ?_)
    · exact hset.then_put.then_put
    · have hrel : l.live = true := by simp only [Bool.and_eq_true] at hgo; exact hgo.1.1.1.2
      have hfree : l.freeSince = none := Leg.ordered.freeSince_none hl (.inr (.inr (.inl hrel)))
      exact Leg.ordered_of_before (by simp [x, src]) (fun _ hx => Leg.schedule_turnOn_high _ _ _ hx) (by simp [x])
        (by simp [x, src, hfree])

theorem refreshEnd_keepsOrder : d.KeepsOrder (d.refreshEnd n t) := by
  unfold Dev.refreshEnd
  extract_lets c l
  split
  · next hpulse =>
    refine .ite (fun _ => setLeg_keepsOrder (fun hl => ?_)) (fun _ => .refl d)
    have hl : l.ordered := hl
    have hne : l.refresh ≠ none := by rw [hpulse]; exact Option.some_ne_none _
    have hfree := hl.freeSince_none (.inr (.inr (.inr (.inl hne))))
    obtain ⟨-, -, hhigh, -⟩ := hl
    exact Leg.ordered_of_after (by simp [hhigh hne]) (by simp) rfl (by simp [hfree])
  all_goals exact .refl d

/-! ## Trips, feedback and comparators (R201 to R213) -/

theorem trip_keepsOrder (hn : n < 48) (cause : Nat) (high : Bool) : d.KeepsOrder (d.trip n cause high t) :=
  Dev.Legwise.trans (.ofLegs (tripCore_legs hn cause high t d)) (settle_keepsOrder _ _)

theorem bootUv_keepsOrder (hn : n < 48) : d.KeepsOrder (d.bootUv n t) := by
  unfold Dev.bootUv
  split
  · exact .refl d
  · exact .ite (fun _ => trip_keepsOrder _ d hn _ _) (fun _ => .refl d)

theorem setGs_keepsSwitches (hs ls : Bool) : d.KeepsSwitches (d.setGs n hs ls t) := by
  unfold Dev.setGs
  extract_lets l x y
  have hset : d.KeepsSwitches (d.setLeg n { l with gsHs := hs, gsLs := ls, hsOffBy := if hs then l.hsOffBy else none,
                                                   lsOffBy := if ls then l.lsOffBy else none }) := .setLeg rfl
  exact hset.then_trip

theorem gsChange_keepsOrder (hn : n < 48) (hs ls : Bool) : d.KeepsOrder (d.gsChange n hs ls t) := by
  have hset : d.KeepsOrder (d.setGs n hs ls t) := (setGs_keepsSwitches t d hs ls).keepsOrder
  have htrip (cause : Nat) : (d.setGs n hs ls t).KeepsOrder ((d.setGs n hs ls t).trip n cause false t) :=
    trip_keepsOrder t _ hn cause false
  have hchecks : d.KeepsOrder ((d.setGs n hs ls t).gsChecks n t) :=
    hset.trans (.ite (fun _ => htrip _) (fun _ => .ite (fun _ => htrip _) (fun _ => .ite (fun _ => htrip _) (fun _ => .refl _))))
  exact .ite (fun _ => hchecks.trans (placeTurnOn_keepsOrder n t _)) (fun _ => hchecks)

theorem gsLevel_keepsOrder (hn : n < 48) (hsPin level : Bool) (since : Nat) : d.KeepsOrder (d.gsLevel n hsPin level since t) :=
  .ite (fun _ => .refl d) (fun _ => .ite (fun _ => gsChange_keepsOrder t d hn _ _) (fun _ => gsChange_keepsOrder t d hn _ _))

theorem gsOff_keepsOrder (hn : n < 48) (high : Bool) : d.KeepsOrder (d.gsOff n high t) := by
  unfold Dev.gsOff
  extract_lets l e
  refine .ite (fun _ => ?_) (fun _ => .refl d)
  have hcleared : (if high then { l with hsOffBy := none } else { l with lsOffBy := none } : Leg).switches = l.switches := by
    split <;> rfl
  have hset : d.KeepsOrder e := Dev.Legwise.keepsOrder (.setLeg hcleared.symm)
  exact .ite (fun _ => hset.trans (trip_keepsOrder t e hn _ _)) (fun _ => hset)

theorem gsOn_keepsOrder (hn : n < 48) (high : Bool) : d.KeepsOrder (d.gsOn n high t) :=
  .ite (fun _ => .ite (fun _ => trip_keepsOrder t d hn _ _) (fun _ => .refl d))
    (fun _ => .ite (fun _ => trip_keepsOrder t d hn _ _) (fun _ => .refl d))

/-! ## Comparators (R206 to R209) -/

/-- A comparator output draws at most one open value. -/
theorem scOut_draws (hi pos was : Bool) (v : Int) : ∃ k, (d.scOut n hi pos was v).2 = { d with free := k } := by
  unfold Dev.scOut
  extract_lets x
  split
  · exact ⟨d.free, rfl⟩
  · split
    · exact ⟨d.free, rfl⟩
    · exact ⟨d.free + 1, rfl⟩

theorem scSee_draws (hi : Bool) (v : Int) : ∃ k, (d.scSee n hi v).2.2 = { d with free := k } := by
  unfold Dev.scSee
  extract_lets l a b
  obtain ⟨k, hk⟩ := scOut_draws (n := n) d hi true (if hi then l.scHiPos else l.scLoPos) v
  obtain ⟨k', hk'⟩ := scOut_draws (n := n) a.2 hi false (if hi then l.scHiNeg else l.scLoNeg) v
  refine ⟨k', ?_⟩
  show b.2 = _
  rw [show b.2 = _ from hk', show a.2 = _ from hk]

theorem setSc_keepsSwitches (hi pos level : Bool) : d.KeepsSwitches (d.setSc n hi pos level t) := by
  unfold Dev.setSc
  extract_lets l l' x y
  have hl' : l'.switches = l.switches := by unfold l'; cases hi <;> cases pos <;> rfl
  exact .then_trip (.setLeg hl'.symm)

/-- A comparator that is seen and recorded leaves the switches. -/
theorem scRecorded_keepsSwitches (hi p q : Bool) (v : Int) :
    d.KeepsSwitches (((d.scSee n hi v).2.2.setSc n hi true p t).setSc n hi false q t) := by
  obtain ⟨k, hk⟩ := scSee_draws (n := n) d hi v
  have hsee : d.KeepsSwitches (d.scSee n hi v).2.2 := by rw [hk]; exact .ofLegs rfl
  exact (hsee.trans (setSc_keepsSwitches t _ _ _ _)).trans (setSc_keepsSwitches t _ _ _ _)

theorem layer1_keepsOrder (high : Bool) (hon : (if high then (d.leg n).hs else (d.leg n).ls) = true) :
    d.KeepsOrder (d.layer1 n high t) := by
  unfold Dev.layer1
  extract_lets c l p off l' e₁ e₂
  have h₁ : d.KeepsOrder e₁ := setLeg_keepsOrder (fun hl => by
    have hl : l.ordered := hl
    have hfree : l.freeSince = none := hl.freeSince_none (by
      cases high
      · exact .inr (.inl hon)
      · exact .inl hon)
    cases high
    · exact Leg.ordered_of_toward true (by simp [l']) (fun _ hx => Leg.schedule_turnOn_high _ _ _ hx) rfl (by simp [l', hfree])
    · exact Leg.ordered_of_toward false (by simp [l']) (fun _ hx => Leg.schedule_turnOn_high _ _ _ hx) rfl (by simp [l', hfree]))
  have h₂ : d.KeepsOrder e₂ := .ite (fun _ => h₁) (fun _ => h₁.then_put)
  exact h₂.then_put

theorem scLo_keepsOrder (hn : n < 48) (pos : Bool) : d.KeepsOrder (d.scLo n pos t) := by
  unfold Dev.scLo
  extract_lets c l
  refine .ite (fun _ => .refl d) (fun _ => .ite (fun _ => trip_keepsOrder t d hn _ _) (fun _ => ?_))
  refine .ite (fun _ => trip_keepsOrder t d hn _ _) (fun _ => .ite (fun h => ?_) (fun _ => .ite (fun h => ?_) (fun _ => .refl d)))
  · simp only [Bool.and_eq_true] at h
    exact layer1_keepsOrder t d true h.2
  · simp only [Bool.and_eq_true] at h
    exact layer1_keepsOrder t d false h.1.2

theorem scLoSee_keepsOrder (hn : n < 48) (v : Int) : d.KeepsOrder (d.scLoSee n v t) := by
  unfold Dev.scLoSee
  extract_lets l x e
  have he : d.KeepsOrder e := (scRecorded_keepsSwitches t d _ _ _ _).keepsOrder
  exact .ite (fun _ => he.trans (scLo_keepsOrder t e hn _))
    (fun _ => .ite (fun _ => he.trans (scLo_keepsOrder t e hn _)) (fun _ => he))

theorem scHiSee_keepsOrder (hn : n < 48) (v : Int) : d.KeepsOrder (d.scHiSee n v t) := by
  unfold Dev.scHiSee
  extract_lets was x e
  have he : d.KeepsOrder e := (scRecorded_keepsSwitches t d _ _ _ _).keepsOrder
  exact .ite (fun _ => he.trans (trip_keepsOrder t e hn _ _)) (fun _ => he)

theorem blankEnd_keepsOrder (hn : n < 48) : d.KeepsOrder (d.blankEnd n t) := by
  unfold Dev.blankEnd
  extract_lets l
  split
  · exact .refl d
  · refine .ite (fun _ => ?_) (fun _ => .refl d)
    extract_lets e
    have he : d.KeepsOrder e := Dev.Legwise.keepsOrder (.setLeg rfl)
    exact .ite (fun _ => he.trans (trip_keepsOrder t e hn _ _)) (fun _ => he)

/-! ## Latches (R214, R218 to R220) -/

theorem tripClr_keepsOrder : d.KeepsOrder (d.tripClr n t) := by
  unfold Dev.tripClr
  extract_lets p x
  refine .ite (fun _ => .refl d) (fun _ => .ite (fun _ => .trans ?_ (settle_keepsOrder t _)) (fun _ => ?_))
  · exact (Dev.Legwise.refl d).then_trip.then_put
  · exact (Dev.Legwise.refl d).then_put.then_put.then_put.then_put

theorem grpClr_keepsOrder (g : Nat) : d.KeepsOrder (d.grpClr g t) := by
  unfold Dev.grpClr
  extract_lets p x
  refine .ite (fun _ => .refl d) (fun _ => .ite (fun _ => .trans ?_ (settle_keepsOrder t _)) (fun _ => ?_))
  · exact (Dev.Legwise.refl d).then_grp.then_put
  · exact (Dev.Legwise.refl d).then_put.then_put

theorem devClr_keepsOrder : d.KeepsOrder (d.devClr t) := by
  unfold Dev.devClr
  extract_lets x
  refine .ite (fun _ => .refl d) (fun _ => .ite (fun _ => .trans ?_ (settle_keepsOrder t _)) (fun _ => ?_))
  · exact Dev.Legwise.then_put (.ofLegs rfl)
  · exact (Dev.Legwise.refl d).then_put.then_put

theorem Dev.Frame.keepsOrder {d e : Dev} (h : d.UpperFrame e) : d.KeepsOrder e :=
  .ofLegs (h.field (fun x => x.pw.legs) (fun _ => rfl))

theorem gfault_keepsOrder {g : Nat} (hg : g < 4) : d.KeepsOrder (d.gfault g t) :=
  ((grpTrip_upper_frame d hg _ _ _ t).trans
    (.ite (fun _ => escDevice_upper_frame _ hg _ _ t) (fun _ => .refl _ _ _))).keepsOrder.trans (settle_keepsOrder t _)

theorem assign_keepsOrder (g half : Nat) (w : Word) : d.KeepsOrder (d.assign g half w t) := by
  unfold Dev.assign
  refine .ite (fun _ => .refl d) (fun _ => ?_)
  split
  · exact (Dev.Legwise.refl d).then_put.then_put.then_put
  · extract_lets old e₁ e₂
    have h₁ : d.KeepsOrder e₁ := (Dev.Legwise.refl d).then_reg
    have h₂ : e₁.KeepsOrder e₂ := .ite
      (fun _ => (markHeld_upper_frame e₁ _ (fun n hn =>
        List.mem_range.mp (List.mem_filter.mp (List.mem_filter.mp hn).1).1)).keepsOrder) (fun _ => .refl _)
    exact (h₁.trans h₂).trans (settle_keepsOrder t e₂)

theorem groupActive_keepsOrder (g : Nat) : d.KeepsOrder (d.groupActive g t) := by
  unfold Dev.groupActive
  extract_lets x c
  split
  · exact .refl d
  · exact .ite (fun _ => (Dev.Legwise.refl d).then_reg.then_reg.then_grp.then_put) (fun _ => .refl d)

end

end Sys2Proof.Machine
end

section
/-!
SUPPORT. The remaining commands of the leg modulators and of leg protection keep the order of every leg's switches, and O25.
-/
namespace Sys2Proof.Machine

section
variable {n : Nat} (t : Nat) (d : Dev)

/-! ## Shadows and latched sets (R174 to R177) -/

theorem foreignWrite_keepsSwitches (port : Nat) : d.KeepsSwitches (d.foreignWrite n port) :=
  (Dev.Legwise.refl d).then_put.then_put.then_put.then_put

theorem ownedOr_keepsSwitches {f : Dev → Dev} (port : Nat) (hf : d.KeepsSwitches (f d)) :
    d.KeepsSwitches (d.ownedOr n port f) :=
  .ite (fun _ => foreignWrite_keepsSwitches d port) (fun _ => hf)

theorem legLatch_keepsSwitches : d.KeepsSwitches (d.legLatch n t) := .setLeg rfl

theorem autoLatch_keepsSwitches : d.KeepsSwitches (d.autoLatch n t) :=
  .ite (fun _ => legLatch_keepsSwitches t d) (fun _ => .refl d)

theorem dutyWrite_keepsSwitches (a : Nat) (w : Word) : d.KeepsSwitches ((d.setReg a w).autoLatch n t) :=
  (Dev.Legwise.refl d).then_reg.trans (autoLatch_keepsSwitches t _)

theorem enterFrac_keepsSwitches (w : Word) : d.KeepsSwitches (d.enterFrac n w).2 := by
  unfold Dev.enterFrac
  extract_lets p
  split
  · exact (Dev.Legwise.refl d).then_put.then_put.then_put
  · exact .ite (fun _ => (Dev.Legwise.refl d).then_reg.then_put) (fun _ => (Dev.Legwise.refl d).then_reg)

theorem fracWrite_keepsSwitches (w : Word) : d.KeepsSwitches (d.fracWrite n w t) :=
  .ite (fun _ => (enterFrac_keepsSwitches d w).trans (autoLatch_keepsSwitches t _)) (fun _ => enterFrac_keepsSwitches d w)

/-! ## CTRL (R183, R184, R191) -/

theorem force_keepsOrder (v : Nat) : d.KeepsOrder (d.force n v t) :=
  .ite (fun _ => (Dev.Legwise.refl d).then_put.then_put) (fun _ => (Dev.Legwise.refl d).then_put.trans (settle_keepsOrder t _))

theorem enable_keepsOrder (on : Bool) : d.KeepsOrder (d.enable n on t) :=
  (Dev.Legwise.refl d).then_put.trans (settle_keepsOrder t _)

theorem invert_keepsSwitches (on : Bool) : d.KeepsSwitches (d.invert n on t) := by
  refine .ite (fun _ => .refl d) (fun _ => .trans (Dev.Legwise.refl d).then_put (.setLeg ?_))
  exact (congrArg Leg.switches (putAt_leg (pLEG n) LEG.CTRL_INVERT 0 on.toNat n d)).trans rfl

/-! ## Calibration and groups (R186, R192) -/

theorem calStart_keepsOrder : d.KeepsOrder d.calStart := .ofLegs rfl

theorem calDone_keepsOrder (us code : Nat) (err : Option (Nat × Nat)) : d.KeepsOrder (d.calDone us code err) := by
  unfold Dev.calDone
  refine .ite (fun _ => .refl d) (fun _ => ?_)
  extract_lets e₁ e₂ e₃
  have h : d.KeepsOrder e₃ := (Dev.Legwise.refl d).then_put.then_put.then_put
  have hcal (busy valid : Bool) : d.KeepsOrder { e₃ with pw := { e₃.pw with calBusy := busy, tapsValid := valid } } :=
    h.then_legs rfl
  split
  · exact (hcal false _).then_put
  · exact (hcal false false).then_put.then_put.then_put

theorem groupCommit_keepsOrder (g : Nat) : d.KeepsOrder (d.groupCommit g t) := (Dev.Legwise.refl d).then_grp

/-! ## Group and device trips (R217 to R219) -/

theorem groupTrip_keepsOrder {g : Nat} (hg : g < 4) (cause leg : Nat) (srcs : List TripSrc) :
    d.KeepsOrder ((d.grpTrip g cause leg srcs t).settle t) :=
  (grpTrip_upper_frame d hg _ _ _ t).keepsOrder.trans (settle_keepsOrder t _)

theorem devTrip_keepsOrder (cause g : Nat) (srcs : List TripSrc) : d.KeepsOrder ((d.devTrip cause g srcs t).settle t) :=
  (devTrip_upper_frame d _ _ _ t).keepsOrder.trans (settle_keepsOrder t _)

theorem scFall_keepsSwitches (hi : Bool) (v : Int) : d.KeepsSwitches (d.scFall n hi v t) := scRecorded_keepsSwitches t d _ _ _ _

/-! ## Reverse-polarity switch and breakers (R221 to R225) -/

theorem rpsCmd_keepsOrder (on : Bool) : d.KeepsOrder (d.rpsCmd on) := .ite (fun _ => .refl d) (fun _ => .ofLegs rfl)

theorem setRps_keepsOrder (x : RpsState) : d.KeepsOrder (d.setRps x) := .ofLegs rfl

theorem rpsArm_keepsOrder (on : Bool) : d.KeepsOrder (d.rpsArm on) := by
  have hset : d.KeepsOrder
      (if d.flag pSYS SYS.RPS_CTRL_ARM then d else d.setRps { d.pw.rps with reverse := false }) :=
    .ite (fun _ => .refl d) (fun _ => setRps_keepsOrder d _)
  exact .ite (fun _ => hset.then_put) (fun _ => (Dev.Legwise.refl d).then_put.trans (rpsCmd_keepsOrder _ false))

theorem rpsFb_keepsOrder (level : Bool) (since : Nat) : d.KeepsOrder (d.rpsFb level since t) := by
  unfold Dev.rpsFb
  extract_lets seen closed r e from'
  have he : d.KeepsOrder e := .ofLegs rfl
  exact .ite (fun _ => .refl d) (fun _ => .ite (fun _ => (he.trans (rpsCmd_keepsOrder e false)).then_put) (fun _ => he))

theorem setPair_keepsOrder (k : Nat) (x : BrkPair) : d.KeepsOrder (d.setPair k x) := .ofLegs rfl

theorem brkSync_keepsOrder : d.KeepsOrder (d.brkSync t) :=
  .each (fun k _ x => .ite (fun _ => .refl x) (fun _ => setPair_keepsOrder x k _)) d

theorem brkWrite_keepsOrder (w : Word) : d.KeepsOrder (d.brkWrite w t) := by
  unfold Dev.brkWrite
  extract_lets v bad e₁ e₂
  have h₁ : d.KeepsOrder e₁ := .each (fun _ _ x => .ite (fun _ => .refl x) (fun _ => (Dev.Legwise.refl x).then_put)) d
  have h₂ : d.KeepsOrder e₂ := .ite (fun _ => h₁.then_put) (fun _ => h₁)
  exact h₂.trans (brkSync_keepsOrder t e₂)

theorem brkFb_keepsOrder (k : Nat) (level : Bool) : d.KeepsOrder (d.brkFb k level t) := by
  unfold Dev.brkFb
  extract_lets x closed near e
  have he : d.KeepsOrder e := setPair_keepsOrder d k _
  exact .ite (fun _ => .refl d) (fun _ => .ite (fun _ => he) (fun _ => he.then_put))

theorem brkMismatch_keepsOrder (k : Nat) : d.KeepsOrder (d.brkMismatch k t) := by
  unfold Dev.brkMismatch
  exact .ite (fun _ => (setPair_keepsOrder d k _).then_put) (fun _ => .refl d)

/-! ## Debug halt (R192, R495) -/

theorem safeShow_keepsOrder : d.KeepsOrder d.safeShow :=
  (Dev.Legwise.refl d).then_put.then_put.then_put.then_put.then_put.then_put.then_put.then_put.then_put.then_put.then_put
    |>.then_put |>.then_put |>.then_put

theorem setSafe_keepsOrder (x : Safe) : d.KeepsOrder { d with safe := x } := .ofLegs rfl

theorem safeEval_keepsOrder : d.KeepsOrder (d.safeEval t) := by
  have hshown (x : Safe) (f : FieldSpec) : d.KeepsOrder (({ d with safe := x }.raise pSAFE f).safeShow.settle t) :=
    ((setSafe_keepsOrder d x).then_put.trans (safeShow_keepsOrder _)).trans (settle_keepsOrder t _)
  exact .ite (fun _ => safeShow_keepsOrder d) (fun _ => .ite (fun _ => hshown _ _) (fun _ => hshown _ _))

theorem safeHalt_keepsOrder : d.KeepsOrder (d.safeHalt t) := (setSafe_keepsOrder d _).trans (safeEval_keepsOrder t _)

theorem setEngine_keepsOrder (k : Nat) (x : Engine) : d.KeepsOrder (d.setEngine k x) := .ofLegs rfl

theorem debugHalt_keepsOrder : d.KeepsOrder (d.debugHalt t) := by
  unfold Dev.debugHalt
  refine .ite (fun _ => ?_) (fun _ => .refl d)
  extract_lets b e₁ p e₂ e₃
  have h₁ : d.KeepsOrder e₁ := .ofLegs rfl
  have hhalted : e₁.KeepsOrder { e₁ with pw := { p with halted := true } } := .ofLegs rfl
  have h₂ : d.KeepsOrder e₂ := (h₁.trans hhalted).trans (safeHalt_keepsOrder t _)
  have h₃ : d.KeepsOrder e₃ := h₂.then_put.then_put
  refine h₃.trans (.each (fun k _ x => ?_) e₃)
  exact (setEngine_keepsOrder x k _).then_put

theorem dbgHaltWrite_keepsOrder : d.KeepsOrder (d.dbgHaltWrite t) :=
  .ite (fun _ => debugHalt_keepsOrder t d) (fun _ => (Dev.Legwise.refl d).then_put.then_put)

theorem resumeLeg_keepsOrder : d.KeepsOrder (d.resumeLeg t n) := by
  unfold Dev.resumeLeg
  extract_lets x off l
  exact setLeg_keepsOrder (fun _ =>
    Leg.ordered_of_off (Leg.bothOff_hs ..) (Leg.bothOff_ls ..) rfl rfl (fun h => absurd h Bool.false_ne_true))

theorem debugResume_keepsOrder : d.KeepsOrder (d.debugResume t) := by
  unfold Dev.debugResume
  refine .ite (fun _ => ?_) (fun _ => .refl d)
  extract_lets b e₁ tr p sf e₂ e₃ e₄
  have h₂ : d.KeepsOrder e₂ := .ofLegs rfl
  have h₃ : d.KeepsOrder e₃ := h₂.then_put.then_put
  have h₄ : e₃.KeepsOrder e₄ := by
    refine .each (fun k _ x => ?_) e₃
    have hcut : x.KeepsOrder (x.cutSample k) := .ofLegs ((cutSample_frame k x).field (fun y => y.pw.legs) (fun _ => rfl))
    exact (hcut.trans (setEngine_keepsOrder _ k _)).then_put
  have hlegs : e₄.KeepsOrder (e₄.each (fun n x => x.resumeLeg t n) (List.range 48)) :=
    .each (fun k _ x => resumeLeg_keepsOrder t x) e₄
  exact ((h₃.trans h₄).trans hlegs).trans (settle_keepsOrder t _)

end

/-! ## Commands -/

section
variable {t : Nat} {s s' : State}

theorem legsOrdered_of_keepsOrder {d : Dev} (ho : s.legsOrdered) (h : (s.dev.begin t).KeepsOrder d)
    (hlegs : s'.dev.pw = d.pw) : s'.legsOrdered := fun n hn => by
  rw [show s'.dev.leg n = d.leg n by simp only [Dev.leg, hlegs]]
  exact h n (ho n hn)

/-- A command whose effect on the device keeps the order of the switches keeps it in the state. -/
theorem run_legsOrdered {f : List Host.Cell → Dev → Dev} (h : run t f s = .next s') (ho : s.legsOrdered)
    (hf : ∀ d : Dev, d.KeepsOrder (f s.mem d)) : s'.legsOrdered := by
  cases h
  exact legsOrdered_of_keepsOrder ho (hf _) (land_pw ..)

theorem runReg_legsOrdered {f : List Host.Cell → Dev → Dev} (h : runReg t f s = .next s') (ho : s.legsOrdered)
    (hf : ∀ d : Dev, d.KeepsOrder (f s.mem d)) : s'.legsOrdered := by
  cases h
  exact legsOrdered_of_keepsOrder ho (hf _) ((land_pw ..).trans (regRound_pw _))

/-- A write that faults where it must answers no state. -/
theorem runRegF_legsOrdered {c : Prop} [Decidable c] {e : Fault} {f : Dev → Dev}
    (h : runRegF t (fun _ d => if c then .error e else .ok (f d)) s = .next s') (ho : s.legsOrdered)
    (hf : ∀ d : Dev, d.KeepsOrder (f d)) : s'.legsOrdered := by
  by_cases hc : c
  · simp [runRegF, runF, hc, Except.map] at h
  · exact runReg_legsOrdered (f := fun _ => f) (by simpa [runReg, run, runRegF, runF, hc, Except.map] using h) ho hf

end

/-- Settles O25. -/
theorem legSwitchesNeverBothConduct : Obligations.LegSwitchesNeverBothConduct := by
  unfold Obligations.LegSwitchesNeverBothConduct
  intro c s s' hc ho h
  cases c with
  | legCommit n port t =>
    have h : execLegCommit n port t s = .next s' := h
    exact runReg_legsOrdered h ho (fun d => Dev.Legwise.keepsOrder (ownedOr_keepsSwitches d _ (legLatch_keepsSwitches t d)))
  | dutyWrite n port w t =>
    have h : execDutyWrite n port w t s = .next s' := h
    exact runRegF_legsOrdered h ho (fun d => Dev.Legwise.keepsOrder (ownedOr_keepsSwitches d _ (dutyWrite_keepsSwitches t d _ w)))
  | dutyFracWrite n port w t =>
    have h : execDutyFracWrite n port w t s = .next s' := h
    exact runReg_legsOrdered h ho (fun d => Dev.Legwise.keepsOrder (ownedOr_keepsSwitches d _ (fracWrite_keepsSwitches t d w)))
  | updateBoundary n t =>
    have h : execUpdateBoundary n t s = .next s' := h
    exact run_legsOrdered h ho (fun d => boundary_keepsOrder d t)
  | switchRise n t =>
    have h : execSwitchRise n t s = .next s' := h
    exact run_legsOrdered h ho (fun d => switchEdge_keepsOrder d true t)
  | switchFall n t =>
    have h : execSwitchFall n t s = .next s' := h
    exact run_legsOrdered h ho (fun d => switchEdge_keepsOrder d false t)
  | deadTimeEnd n t =>
    have h : execDeadTimeEnd n t s = .next s' := h
    exact run_legsOrdered h ho (fun d => .ite (fun _ => .refl d) (fun _ => placeTurnOn_keepsOrder n t d))
  | forceOff n t =>
    have h : execForceOff n t s = .next s' := h
    exact runReg_legsOrdered h ho (fun d => force_keepsOrder t d 1)
  | forceLow n t =>
    have h : execForceLow n t s = .next s' := h
    exact runReg_legsOrdered h ho (fun d => force_keepsOrder t d 2)
  | forceRelease n t =>
    have h : execForceRelease n t s = .next s' := h
    exact runReg_legsOrdered h ho (fun d => force_keepsOrder t d 0)
  | legInvert n on t =>
    have h : execLegInvert n on t s = .next s' := h
    exact runReg_legsOrdered h ho (fun d => Dev.Legwise.keepsOrder (invert_keepsSwitches t d on))
  | legEnable n t =>
    have h : execLegEnable n t s = .next s' := h
    exact runReg_legsOrdered h ho (fun d => enable_keepsOrder t d true)
  | legDisable n t =>
    have h : execLegDisable n t s = .next s' := h
    exact runReg_legsOrdered h ho (fun d => enable_keepsOrder t d false)
  | refresh n t =>
    have h : execRefresh n t s = .next s' := h
    exact run_legsOrdered h ho (fun d => refresh_keepsOrder t d)
  | refreshPulseEnd n t =>
    have h : execRefreshPulseEnd n t s = .next s' := h
    exact run_legsOrdered h ho (fun d => refreshEnd_keepsOrder t d)
  | bootUvFullDuty n t =>
    have h : execBootUvFullDuty n t s = .next s' := h
    exact run_legsOrdered h ho (fun d => bootUv_keepsOrder t d n.isLt)
  | cal t =>
    have h : execCal t s = .next s' := h
    exact runReg_legsOrdered h ho (fun d => .ite (fun _ => .refl d) (fun _ => calStart_keepsOrder d))
  | calDone us code err t =>
    have h : execCalDone us code err t s = .next s' := h
    exact run_legsOrdered h ho (fun d => calDone_keepsOrder d _ _ _)
  | assignWrite g half w t =>
    have h : execAssignWrite g half w t s = .next s' := h
    exact runRegF_legsOrdered h ho (fun d => assign_keepsOrder t d _ _ w)
  | groupCommit g t =>
    have h : execGroupCommit g t s = .next s' := h
    exact runReg_legsOrdered h ho (fun d => groupCommit_keepsOrder t d _)
  | groupSetActive g t =>
    have h : execGroupSetActive g t s = .next s' := h
    exact run_legsOrdered h ho (fun d => groupActive_keepsOrder t d _)
  | dbgCtrlHalt t =>
    have h : execDbgCtrlHalt t s = .next s' := h
    exact runReg_legsOrdered h ho (fun d => dbgHaltWrite_keepsOrder t d)
  | dbgCtrlResume t =>
    have h : execDbgCtrlResume t s = .next s' := h
    exact runReg_legsOrdered h ho (fun d => debugResume_keepsOrder t d)
  | gsLevelAccepted n hsPin level since t =>
    have h : execGsLevelAccepted n hsPin level since t s = .next s' := h
    exact run_legsOrdered h ho (fun d => gsLevel_keepsOrder t d n.isLt hsPin level since)
  | gsOffDeadline n high t =>
    have h : execGsOffDeadline n high t s = .next s' := h
    exact run_legsOrdered h ho (fun d => gsOff_keepsOrder t d n.isLt high)
  | gsOnDeadline n high t =>
    have h : execGsOnDeadline n high t s = .next s' := h
    exact run_legsOrdered h ho (fun d => gsOn_keepsOrder t d n.isLt high)
  | scHiActive n v t =>
    have h : execScHiActive n v t s = .next s' := h
    exact run_legsOrdered h ho (fun d => scHiSee_keepsOrder t d n.isLt v)
  | scLoActive n v t =>
    have h : execScLoActive n v t s = .next s' := h
    exact run_legsOrdered h ho (fun d => scLoSee_keepsOrder t d n.isLt v)
  | scRelease n hi v t =>
    have h : execScRelease n hi v t s = .next s' := h
    exact run_legsOrdered h ho (fun d => Dev.Legwise.keepsOrder (scFall_keepsSwitches t d hi v))
  | blankingEnd n t =>
    have h : execBlankingEnd n t s = .next s' := h
    exact run_legsOrdered h ho (fun d => blankEnd_keepsOrder t d n.isLt)
  | trip n t =>
    have h : execTrip n t s = .next s' := h
    exact runReg_legsOrdered h ho (fun d => trip_keepsOrder t d n.isLt _ _)
  | tripClr n t =>
    have h : execTripClr n t s = .next s' := h
    exact runReg_legsOrdered h ho (fun d => tripClr_keepsOrder t d)
  | gfault g port t =>
    have h : execGfault g port t s = .next s' := h
    exact runReg_legsOrdered h ho (fun d => .ite (fun _ => gfault_keepsOrder t d g.isLt) (fun _ => .refl d))
  | groupTrip g t =>
    have h : execGroupTrip g t s = .next s' := h
    exact runReg_legsOrdered h ho (fun d => groupTrip_keepsOrder t d g.isLt _ _ _)
  | groupTripClr g t =>
    have h : execGroupTripClr g t s = .next s' := h
    exact runReg_legsOrdered h ho (fun d => grpClr_keepsOrder t d g)
  | devTrip t =>
    have h : execDevTrip t s = .next s' := h
    exact runReg_legsOrdered h ho (fun d => devTrip_keepsOrder t d _ _ _)
  | devTripClear t =>
    have h : execDevTripClear t s = .next s' := h
    exact runReg_legsOrdered h ho (fun d => devClr_keepsOrder t d)
  | rpsArm t =>
    have h : execRpsArm t s = .next s' := h
    exact runReg_legsOrdered h ho (fun d => rpsArm_keepsOrder d true)
  | rpsDisarm t =>
    have h : execRpsDisarm t s = .next s' := h
    exact runReg_legsOrdered h ho (fun d => rpsArm_keepsOrder d false)
  | rpsDwellDone t =>
    have h : execRpsDwellDone t s = .next s' := h
    exact run_legsOrdered h ho (fun d => .ite (fun _ => (rpsCmd_keepsOrder d true).then_put) (fun _ => .refl d))
  | rpsFbFail level since t =>
    have h : execRpsFbFail level since t s = .next s' := h
    exact run_legsOrdered h ho (fun d => rpsFb_keepsOrder t d level since)
  | brkCmdWrite w t =>
    have h : execBrkCmdWrite w t s = .next s' := h
    exact runRegF_legsOrdered h ho (fun d => brkWrite_keepsOrder t d w)
  | brkFbChange k level since t =>
    have h : execBrkFbChange k level since t s = .next s' := h
    exact run_legsOrdered h ho (fun d => .ite (fun _ => brkFb_keepsOrder t d k level) (fun _ => .refl d))
  | brkMismatch k t =>
    have h : execBrkMismatch k t s = .next s' := h
    exact run_legsOrdered h ho (fun d => brkMismatch_keepsOrder t d k)
  | _ => exact absurd hc Bool.false_ne_true

end Sys2Proof.Machine
end

section
/-!
SUPPORT. What a period start and a peak make of a leg's latched set and its registers (R172, R174, R190), and O27.
-/
namespace Sys2Proof.Machine

/-! ## Commands that act on one leg -/

/-- A frame of what a command on leg n may change beside registers. -/
abbrev Dev.LegFrame (n : Nat) (d e : Dev) : Prop := Dev.Frame (Dev.sansPeriod n) (fun _ => true) d e

namespace Dev.LegFrame

variable {n : Nat} {d e : Dev}

theorem act {offs : List Nat} (h : d.BoundaryAct n offs e) : d.LegFrame n e :=
  h.frame.mono (fun x => by simp only [Dev.sansPeriod, Dev.setLeg, Vector.setIfInBounds_setIfInBounds])
    (fun _ ha => absurd ha Bool.true_eq_false_eq_False)

theorem setLeg (x : Leg) : d.LegFrame n (d.setLeg n x) := setLeg_period_frame n _ x d

theorem setReg (a : Nat) (w : Word) : d.LegFrame n (d.setReg a w) := ⟨rfl, fun _ h => absurd h Bool.true_eq_false_eq_False⟩

theorem put (p : Nat) (f : FieldSpec) (i v : Nat) : d.LegFrame n (d.putAt p f i v) := .setReg _ _

theorem leg_other (h : d.LegFrame n e) {m : Nat} (hm : m ≠ n) : e.leg m = d.leg m :=
  h.field (fun x => x.leg m) (fun x => leg_setLeg_ne .reset x hm)

theorem triad (h : d.LegFrame n e) : e.triad = d.triad := h.field (fun x => x.triad) (fun _ => rfl)

/-- What such a command leaves once it has landed. -/
theorem landed {t : Nat} {s : State} (h : (s.dev.begin t).LegFrame n e) :
    (∀ m, m ≠ n → (s.land t e).dev.leg m = s.dev.leg m) ∧ (s.land t e).dev.triad = s.dev.triad ∧ s.memSame (s.land t e) :=
  ⟨fun _ hm => h.leg_other hm, h.triad,
    land_memSame (h.field (fun x => x.wr) (fun _ => rfl)) (h.field (fun x => x.wipe) (fun _ => rfl))⟩

end Dev.LegFrame

/-! ## The set that a boundary takes -/

section
variable {n : Nat} (d : Dev) (x : LegSet)

/-- The three active words of leg n hold a set. -/
def Dev.activeIs (n : Nat) (x : LegSet) (d : Dev) : Prop :=
  d.reg (pLEG n * 0x1000 + 0x800 + 0x40) = x.period ∧ d.reg (pLEG n * 0x1000 + 0x800 + 0x44) = x.duty ∧
    d.reg (pLEG n * 0x1000 + 0x800 + 0x48) = x.phase

theorem applySet_eq : d.applySet n x =
    ((((d.setReg (pLEG n * 0x1000 + 0x800 + 0x40) x.period).setReg (pLEG n * 0x1000 + 0x800 + 0x44) x.duty).setReg
      (pLEG n * 0x1000 + 0x800 + 0x48) x.phase).setLeg n { d.leg n with latched := none }).putAt (pLEG n)
      LEG.IRQ_RAW_COMMIT_DONE 0 1 := (rfl)

theorem applySet_reg {a : Nat} (hirq : a ≠ pLEG n * 0x1000 + 0x010) : (d.applySet n x).reg a =
    if a = pLEG n * 0x1000 + 0x800 + 0x48 then x.phase else if a = pLEG n * 0x1000 + 0x800 + 0x44 then x.duty
    else if a = pLEG n * 0x1000 + 0x800 + 0x40 then x.period else d.reg a := by
  have hset (e : Dev) (b : Nat) (w : Word) : (e.setReg b w).reg a = if a = b then w else e.reg a := by
    split
    · next h => rw [h, reg_setReg_same]
    · next h => exact reg_setReg_ne _ _ h
  have hdone : a ≠ LEG.IRQ_RAW_COMMIT_DONE.addr (pLEG n) 0 := by
    simpa only [FieldSpec.addr, LEG.IRQ_RAW_COMMIT_DONE, Nat.zero_mul, Nat.add_zero] using hirq
  rw [applySet_eq, reg_putAt_ne _ _ hdone, setLeg_reg, hset, hset, hset]

theorem applySet_active : (d.applySet n x).activeIs n x := by
  refine ⟨?_, ?_, ?_⟩
  · rw [applySet_reg d x (by omega), if_neg (by omega), if_neg (by omega), if_pos rfl]
  · rw [applySet_reg d x (by omega), if_neg (by omega), if_pos rfl]
  · rw [applySet_reg d x (by omega), if_pos rfl]

theorem applySet_leg (hn : n < 48) : (d.applySet n x).leg n = { d.leg n with latched := none } := by
  rw [applySet_eq, putAt_leg, leg_setLeg_same _ _ hn]

theorem applySet_done : (d.applySet n x).getAt (pLEG n) LEG.IRQ_RAW_COMMIT_DONE 0 = 1 :=
  getAt_putAt_fits _ (by decide) (by decide)

theorem applySet_frame : d.LegFrame n (d.applySet n x) := by
  rw [applySet_eq]
  exact (((Dev.LegFrame.setReg _ _).trans (Dev.LegFrame.setReg _ _)).trans (Dev.LegFrame.setReg _ _)).trans
    ((Dev.LegFrame.setLeg _).trans (Dev.LegFrame.put _ _ _ _))

end

/-! ## The period start -/

section
variable {n : Nat} (d : Dev) (start : Nat)

/-- The acts of a period start before a set is taken: the end of the period before and the group's set (R179, R190). -/
theorem closed_act : d.BoundaryAct n [0x060] ((d.closePeriod n start).takeGroup n start) :=
  (closePeriod_act d start).trans ((takeGroup_act _ start).mono (by simp))

/-- The acts of a period start after its set is taken. -/
theorem periodStart_act : (((d.closePeriod n start).takeGroup n start).setTaken n start).BoundaryAct n
    [0x010, 0x024, 0x05C, 0x068] (d.periodStart n start) := by
  unfold Dev.periodStart
  extract_lets e₁ e₂ e₃
  have h₃ : (e₂.setTaken n start).BoundaryAct n [0x010, 0x024, 0x05C, 0x068] e₃ :=
    ((enterPeriod_act e₂ start).mono (by decide)).trans ((releaseAt_act _ start).mono (by decide))
  exact .ite (fun _ => h₃.trans ((staleStep_act e₃).mono (by decide))) (fun _ => h₃)

theorem staleStep_start (hn : n < 48) : ((d.staleStep n).leg n).start = (d.leg n).start := by
  unfold Dev.staleStep
  extract_lets l e
  have he : (e.leg n).start = l.start := (congrArg Leg.start (leg_setLeg_same _ d hn)).trans rfl
  split
  · exact he
  · exact he

theorem periodStart_start (hn : n < 48) : ((d.periodStart n start).leg n).start = start := by
  unfold Dev.periodStart
  extract_lets e₁ e₂ e₃
  have h₃ : (e₃.leg n).start = start := (releaseAt_start _ start).trans (enterPeriod_start e₂ hn start)
  split
  · rw [staleStep_start e₃ hn, h₃]
  · exact h₃

theorem setTaken_frame : d.LegFrame n (d.setTaken n start) := by
  unfold Dev.setTaken
  split
  · exact applySet_frame d _
  · exact .refl _ _ _

theorem periodStart_frame : d.LegFrame n (d.periodStart n start) :=
  ((Dev.LegFrame.act (closed_act d start)).trans (setTaken_frame _ start)).trans (Dev.LegFrame.act (periodStart_act d start))

/-- A leg whose boundaries are its period starts takes a set whose lead is met (R172). -/
theorem takenSet_some {x : LegSet} (hlatched : (d.leg n).latched = some x) (hb : (d.legCfg n).startBoundary = true)
    (hlead : x.at' + leadTaps ≤ start) : d.takenSet n start = some x := by
  simp [Dev.takenSet, hlatched, hb, hlead]

theorem takenSet_none {x : LegSet} (hlatched : (d.leg n).latched = some x) (hlead : start < x.at' + leadTaps) :
    d.takenSet n start = none := by
  simp [Dev.takenSet, hlatched, hlead]

theorem startBoundary_act {offs : List Nat} {e : Dev} (h : d.BoundaryAct n offs e) (hcfg : 0x050 ∉ offs) :
    (e.legCfg n).startBoundary = (d.legCfg n).startBoundary := by
  have hget (f : FieldSpec) (hf : f.off = 0x050) : e.getAt (pLEG n) f 0 = d.getAt (pLEG n) f 0 :=
    h.frame.getAt (by rw [addr_first, hf]; exact legRegs_off hcfg)
  simp only [LegCfg.startBoundary, Dev.legCfg, Dev.flag_eq, Dev.get_eq, hget LEG.CFG_CMODE rfl, hget LEG.CFG_UPD rfl]

end

/-! ## The statement -/

/-- A period start of a leg whose boundaries are its period starts applies a set whose lead is met, whole, and leaves a later one
latched (R172, R174). -/
theorem periodStart_set {n : Nat} (hn : n < 48) (d : Dev) (start : Nat) {x : LegSet} (hlatched : (d.leg n).latched = some x)
    (hb : (d.legCfg n).startBoundary = true) :
    (x.at' + leadTaps ≤ start → (d.periodStart n start).activeIs n x ∧ ((d.periodStart n start).leg n).latched = none ∧
      (d.periodStart n start).getAt (pLEG n) LEG.IRQ_RAW_COMMIT_DONE 0 = 1) ∧
    (start < x.at' + leadTaps → (∀ o ∈ [0x40, 0x44, 0x48], (d.periodStart n start).reg (pLEG n * 0x1000 + 0x800 + o) =
      d.reg (pLEG n * 0x1000 + 0x800 + o)) ∧ ((d.periodStart n start).leg n).latched = some x) := by
  have hclosed := closed_act (n := n) d start
  have hafter := periodStart_act (n := n) d start
  have hlatched' := hclosed.latched.trans hlatched
  have hkept (o : Nat) (ho : 0x800 ≤ o) := hafter.reg (o := o) (by simp; omega)
  refine ⟨fun hlead => ?_, fun hlead => ⟨fun o ho => ?_, ?_⟩⟩
  · have htaken : ((d.closePeriod n start).takeGroup n start).setTaken n start =
        ((d.closePeriod n start).takeGroup n start).applySet n x := by
      rw [Dev.setTaken, takenSet_some _ start hlatched' ((startBoundary_act d hclosed (by decide)).trans hb) hlead]
    obtain ⟨hper, hduty, hphase⟩ := applySet_active ((d.closePeriod n start).takeGroup n start) (n := n) x
    rw [htaken] at hafter hkept
    refine ⟨⟨?_, ?_, ?_⟩, ?_, hafter.done (applySet_done _ x)⟩
    · rw [Nat.add_assoc, hkept _ (by omega), ← Nat.add_assoc, hper]
    · rw [Nat.add_assoc, hkept _ (by omega), ← Nat.add_assoc, hduty]
    · rw [Nat.add_assoc, hkept _ (by omega), ← Nat.add_assoc, hphase]
    · rw [hafter.latched, applySet_leg _ _ hn]
  all_goals
    have htaken : ((d.closePeriod n start).takeGroup n start).setTaken n start = (d.closePeriod n start).takeGroup n start := by
      rw [Dev.setTaken, takenSet_none _ start hlatched' hlead]
    rw [htaken] at hafter hkept
  · rw [Nat.add_assoc, hkept _ (by omega), hclosed.reg (by simp; simp at ho; omega)]
  · rw [hafter.latched, hlatched']

/-- The period start closes EFF_DUTY and leaves the switches (R190). -/
theorem periodStart_effDuty {n : Nat} (d : Dev) (start : Nat) :
    (d.periodStart n start).reg (pLEG n * 0x1000 + 0x60) =
        BitVec.ofNat 32 (((d.leg n).hsAcc + (if (d.leg n).hs then start - (d.leg n).hsMark else 0)) % 2 ^ 24) ∧
      ((d.periodStart n start).leg n).hs = (d.leg n).hs ∧ ((d.periodStart n start).leg n).ls = (d.leg n).ls := by
  have hclosed := closed_act (n := n) d start
  have hafter := periodStart_act (n := n) d start
  have hset := setTaken_keepsSwitches (n := n) ((d.closePeriod n start).takeGroup n start) start
  have hword : (((d.closePeriod n start).takeGroup n start).setTaken n start).reg (pLEG n * 0x1000 + 0x60) =
      ((d.closePeriod n start).takeGroup n start).reg (pLEG n * 0x1000 + 0x60) := by
    unfold Dev.setTaken
    split
    · rw [applySet_reg _ _ (by omega), if_neg (by omega), if_neg (by omega), if_neg (by omega)]
    · rfl
  refine ⟨?_, ?_, ?_⟩
  · rw [hafter.reg (by decide), hword, (takeGroup_act _ start).reg (by decide), closePeriod_effDuty]
  · rw [hafter.hs, hset.hs, hclosed.hs]
  · rw [hafter.ls, hset.ls, hclosed.ls]

/-! ## The peak -/

section
variable {n : Nat} {offs : List Nat} {d e : Dev}

theorem legRegs_grp (hn : n < 48) (hoffs : ∀ o ∈ offs, o < 0x1000) (g : Nat) {f : FieldSpec} (hf : f.off < 0x1000) :
    legRegs n offs (f.addr (pGRP g) 0) = false := by
  simp only [legRegs, decide_eq_false_iff_not, not_exists, not_and]
  rintro o ho h
  have hlt := hoffs o ho
  simp only [FieldSpec.addr, pGRP, pLEG] at h
  omega

/-- An act on one leg leaves which group spreads it (R179). -/
theorem spreadOf_act (h : d.BoundaryAct n offs e) (hn : n < 48) (hoffs : ∀ o ∈ offs, o < 0x1000) (m : Nat) :
    e.spreadOf m = d.spreadOf m := by
  have hget (g : Nat) {f : FieldSpec} (hf : f.off < 0x1000) : e.getAt (pGRP g) f 0 = d.getAt (pGRP g) f 0 :=
    h.frame.getAt (legRegs_grp hn hoffs g hf)
  have hgroup : e.groupOf m = d.groupOf m := List.find?_congr (fun g _ => by
    simp only [Dev.inGroup, Dev.get_eq, hget g (f := GRP.ASSIGN0_LEGS) (by decide),
      hget g (f := GRP.ASSIGN1_LEGS) (by decide)])
  unfold Dev.spreadOf
  rw [hgroup]
  split
  · next g _ => simp only [Dev.get_eq, hget g (f := GRP.ILV_CFG_MODE) (by decide)]
  · rfl

/-- What decides whether a set moves a leg, after an act on the leg that keeps its period and phase (R172). -/
theorem setMoves_act (h : d.BoundaryAct n offs e) (hn : n < 48) (hoffs : ∀ o ∈ offs, o < 0x1000) (hcfg : 0x050 ∉ offs)
    (hper : (e.leg n).per = (d.leg n).per) (hphi : (e.leg n).phi = (d.leg n).phi) (x : LegSet) :
    e.setMoves n x = d.setMoves n x := by
  have hprescale : e.getAt (pLEG n) LEG.CFG_PRESCALE 0 = d.getAt (pLEG n) LEG.CFG_PRESCALE 0 := 
    h.frame.getAt (by rw [addr_first]; exact legRegs_off hcfg)
  simp only [Dev.setMoves, Dev.get_eq, hprescale, spreadOf_act h hn hoffs, hper, hphi]

/-- A peak has applied a set that moves neither period nor phase. -/
def Dev.peakApplied (n : Nat) (x : LegSet) (d e : Dev) : Prop :=
  e.reg (pLEG n * 0x1000 + 0x800 + 0x44) = x.duty ∧ (e.leg n).latched = none ∧ (e.leg n).peakDone = true ∧
    e.getAt (pLEG n) LEG.IRQ_RAW_COMMIT_DONE 0 = 1 ∧ (e.leg n).per = (d.leg n).per ∧ d.LegFrame n e

/-- A period and its phase, and whether its peak has come. -/
def Leg.carrier (l : Leg) : Nat × Nat × Bool := (l.per, l.phi, l.peakDone)

theorem staleStep_carrier (hn : n < 48) : ((d.staleStep n).leg n).carrier = (d.leg n).carrier := by
  unfold Dev.staleStep
  extract_lets l e
  have he : (e.leg n).carrier = l.carrier := (congrArg Leg.carrier (leg_setLeg_same _ d hn)).trans rfl
  split
  · exact he
  · exact he

/-- A peak of a leg with a peak boundary applies a set whose lead is met and that moves neither period nor phase (R172). -/
theorem atPeak_set (hn : n < 48) {x : LegSet} (hb : (d.legCfg n).peakBoundary = true) (hlatched : (d.leg n).latched = some x)
    (hlead : x.at' + leadTaps ≤ (d.leg n).peak (d.unitOf n)) (hmoves : d.setMoves n x = false) :
    d.peakApplied n x (d.atPeak n) := by
  unfold Dev.atPeak
  extract_lets c u l pk e₁ e₂
  have hset : d.BoundaryAct n [0x010] e₁ := .setLeg rfl
  have hstale : d.BoundaryAct n [0x010] e₂ := hset.trans (staleStep_act e₁)
  have hcarrier : (e₂.leg n).carrier = (l.per, l.phi, true) :=
    (staleStep_carrier hn).trans ((congrArg Leg.carrier (leg_setLeg_same _ d hn)).trans rfl)
  simp only [Leg.carrier, Prod.mk.injEq] at hcarrier
  obtain ⟨hper, hphi, hdone⟩ := hcarrier
  have hmoves' : e₂.setMoves n x = false := by
    rw [setMoves_act hstale hn (by decide) (by decide) hper hphi, hmoves]
  rw [if_neg (by simp [c, hb])]
  split
  · next y hy =>
    cases hlatched.symm.trans hy
    rw [if_pos (by simp [hmoves', hlead, pk, l, u])]
    extract_lets x₁ x₂ want full x₃ duty fin es old
    have h₂ : x₁.BoundaryAct n [0x010, 0x024] x₂ := .ite (fun _ => (Dev.BoundaryAct.trans
      (.put (g := LEG.IRQ_RAW_PERIOD_CLAMP) (offs := [0x010, 0x024]) 1 (by decide) (by decide))
      (.put (g := LEG.FAULT_CODE_CAUSE) (offs := [0x010, 0x024]) 1 (by decide) (by decide))).trans
      (.put (g := LEG.FAULT_CODE_SOURCE) (offs := [0x010, 0x024]) 0 (by decide) (by decide))) (fun _ => .refl _ _ _)
    have h₃ : x₁.BoundaryAct n [0x010, 0x024] x₃ := h₂.trans (.ite
      (fun _ => .put (g := LEG.IRQ_RAW_DUTY_CLAMP) (offs := [0x010, 0x024]) 1 (by decide) (by decide)) (fun _ => .refl _ _ _))
    have hlegs : x₁.Legwise (· = ·) x₃ := by
      have k₂ : x₁.Legwise (· = ·) x₂ :=
        .ite (fun _ => ((Dev.Legwise.refl x₁).then_put.then_put).then_put) (fun _ => .refl x₁)
      exact .ite (fun _ => k₂.then_put) (fun _ => k₂)
    have hleg : x₃.leg n = { e₂.leg n with latched := none } := (hlegs n).symm.trans (applySet_leg e₂ x hn)
    have hframe : d.LegFrame n x₃ := (Dev.LegFrame.act hstale).trans ((applySet_frame e₂ x).trans (Dev.LegFrame.act h₃))
    have hfinal (z : Leg) (hz : z.latched = (x₃.leg n).latched ∧ z.peakDone = (x₃.leg n).peakDone ∧ z.per = (x₃.leg n).per) :
        d.peakApplied n x (x₃.setLeg n z) := by
      obtain ⟨hl, hp, hq⟩ := hz
      refine ⟨?_, ?_, ?_, h₃.done (applySet_done e₂ x), ?_, hframe.trans (Dev.LegFrame.setLeg z)⟩
      · rw [setLeg_reg, Nat.add_assoc, h₃.reg (by decide), ← Nat.add_assoc]
        exact (applySet_active e₂ x).2.1
      · rw [leg_setLeg_same _ _ hn, hl, hleg]
      · rw [leg_setLeg_same _ _ hn, hp, hleg]
        exact hdone
      · rw [leg_setLeg_same _ _ hn, hq, hleg]
        exact hper
    exact hfinal _ ⟨rfl, rfl, rfl⟩
  · next hnone => cases hlatched.symm.trans hnone

end

/-! ## The statement -/

section
variable {n : Nat} {t : Nat} {d : Dev}

theorem boundary_start (hhalt : d.pw.halted = false) (hdue : (d.leg n).start + (d.leg n).len ≤ t)
    (hnext : t < (d.leg n).start + (d.leg n).len + (d.leg n).per) :
    d.boundary n t = d.periodStart n ((d.leg n).start + (d.leg n).len) := by
  have hskip : (t - ((d.leg n).start + (d.leg n).len)) / max 1 (d.leg n).per = 0 := Nat.div_eq_of_lt (by omega)
  unfold Dev.boundary
  dsimp only
  rw [if_neg (by simp [hhalt]), if_pos hdue, hskip, Nat.zero_mul, Nat.add_zero]

theorem boundary_peak (hhalt : d.pw.halted = false) (hnot : t < (d.leg n).start + (d.leg n).len)
    (hcentre : (d.legCfg n).centre = true) (hnew : (d.leg n).peakDone = false) (hdue : (d.leg n).peak (d.unitOf n) ≤ t) :
    d.boundary n t = d.atPeak n := by
  unfold Dev.boundary
  dsimp only
  rw [if_neg (by simp [hhalt]), if_neg (by omega), if_pos (by simp [hcentre, hnew, hdue])]

end

theorem updateBoundary_start (n : Fin 48) (t : Nat) (s : State) (hhalt : s.dev.pw.halted = false)
    (hdue : (s.dev.leg n).start + (s.dev.leg n).len ≤ t)
    (hnext : t < (s.dev.leg n).start + (s.dev.leg n).len + (s.dev.leg n).per) :
    exec (.updateBoundary n t) s =
      .next (s.land t ((s.dev.begin t).periodStart n ((s.dev.leg n).start + (s.dev.leg n).len))) :=
  congrArg (fun e => Host.Outcome.next (s.land t e)) (boundary_start (d := s.dev.begin t) hhalt hdue hnext)

theorem updateBoundary_peak (n : Fin 48) (t : Nat) (s : State) (hhalt : s.dev.pw.halted = false)
    (hcentre : s.dev.flag (pLEG n) LEG.CFG_CMODE = true) (hnot : t < (s.dev.leg n).start + (s.dev.leg n).len)
    (hnew : (s.dev.leg n).peakDone = false) (hdue : (s.dev.leg n).peak (s.dev.unitOf n) ≤ t) :
    exec (.updateBoundary n t) s = .next (s.land t ((s.dev.begin t).atPeak n)) :=
  congrArg (fun e => Host.Outcome.next (s.land t e)) (boundary_peak (d := s.dev.begin t) hhalt hnot hcentre hnew hdue)

/-- Settles O27. -/
theorem updateBoundariesApplyLatchedSets : Obligations.UpdateBoundariesApplyLatchedSets := by
  unfold Obligations.UpdateBoundariesApplyLatchedSets
  refine ⟨fun n t x s hhalt hb hlatched hdue hnext => ?_,
    fun n t x s hhalt hcentre hupd hlatched hnot hnew hdue hlead hmoves => ?_⟩
  · extract_lets b w
    obtain ⟨happlies, hstays⟩ := periodStart_set n.isLt (s.dev.begin t) b hlatched hb
    obtain ⟨heff, hhs, hls⟩ := periodStart_effDuty (n := n) (s.dev.begin t) b
    obtain ⟨hother, htriad, hmem⟩ := (periodStart_frame (n := n) (s.dev.begin t) b).landed
    refine ⟨_, updateBoundary_start n t s hhalt hdue hnext, periodStart_start _ _ n.isLt, fun hlead => ?_,
      fun hlead => ?_, heff, hhs, hls, hother, htriad, hmem⟩
    · obtain ⟨⟨hper, hduty, hphase⟩, hnone, hdone⟩ := happlies hlead
      exact ⟨hper, hduty, hphase, hnone, by rw [Dev.flag_eq]; exact decide_eq_true hdone⟩
    · obtain ⟨hwords, hsome⟩ := hstays hlead
      exact ⟨hwords _ (by decide), hwords _ (by decide), hwords _ (by decide), hsome⟩
  · have hpeak : (s.dev.legCfg n).peakBoundary = true := by
      have hcfg : (s.dev.legCfg n).centre = true ∧ ((s.dev.legCfg n).upd = 1 ∨ (s.dev.legCfg n).upd = 2) :=
        ⟨hcentre, (List.mem_pair (b := 1) (c := 2)).mp hupd⟩
      simp [LegCfg.peakBoundary, hcfg]
    obtain ⟨hduty, hnone, hcome, hdone, hper, hframe⟩ := atPeak_set (d := s.dev.begin t) n.isLt hpeak hlatched hlead hmoves
    obtain ⟨hother, -, hmem⟩ := hframe.landed
    have hsw := atPeak_keepsSwitches (n := n) (s.dev.begin t)
    exact ⟨_, updateBoundary_peak n t s hhalt hcentre hnot hnew hdue, hduty, hnone, hcome,
      by rw [Dev.flag_eq]; exact decide_eq_true hdone, hper, hsw.hs n, hsw.ls n, hother, hmem⟩

end Sys2Proof.Machine
end

section
/-!
SUPPORT. What settling makes of a leg that is held (R183, R213), and O29.
-/
namespace Sys2Proof.Machine

/-! ## Settling reaches every leg -/

section
variable {n t : Nat}

theorem settleLeg_settleFrame (t m : Nat) (d : Dev) : d.SettleFrame (d.settleLeg t m) := by
  obtain h | ⟨x, h, -⟩ := settleLeg_settles t m d
  · rw [h]; exact .refl _ _ _
  · rw [h]; exact ⟨rfl, fun _ _ => rfl⟩

theorem settleLeg_leg_other {m : Nat} (hm : n ≠ m) (d : Dev) : (d.settleLeg t m).leg n = d.leg n := by
  obtain h | ⟨x, h, -⟩ := settleLeg_settles t m d
  · rw [h]
  · rw [h, leg_setLeg_ne _ _ hm]

theorem joinSpread_keepsSwitches (g m : Nat) (d : Dev) : d.KeepsSwitches (d.joinSpread t g m) := by
  unfold Dev.joinSpread
  exact .ite (fun _ => .refl d) (fun _ => .ite (fun _ => .refl d) (fun _ => .setLeg rfl))

theorem settleGroup_keepsSwitches (g : Nat) (d : Dev) : d.KeepsSwitches (d.settleGroup t g) := by
  have hrespread : d.KeepsSwitches (d.respread t g) :=
    .ite (fun _ => .refl d)
      (fun _ => (Dev.Legwise.refl d).then_grp.trans (.each (fun m _ x => joinSpread_keepsSwitches g m x) _))
  exact .ite (fun _ => hrespread.then_put) (fun _ => hrespread)

theorem settleGroups_keepSwitches (d : Dev) :
    d.KeepsSwitches (d.each (fun g x => x.settleGroup t g) (List.range 4)) :=
  .each (fun g _ x => settleGroup_keepsSwitches g x) d

/-- What settling leg n brings about holds of it once all legs have settled, if nothing else of settling stands against it. -/
theorem settleLegs_reaches {I : Dev → Prop} {P : Leg → Prop} (hn : n < 48) (hP : ∀ l x : Leg, l.switches = x.switches → P l → P x)
    (hkeep : ∀ m x, I x → I (x.settleLeg t m)) (hreach : ∀ x, I x → P ((x.settleLeg t n).leg n)) {d : Dev} (hd : I d) :
    P ((d.settleLegs t).leg n) := by
  refine hP _ _ (settleGroups_keepSwitches _ n) ?_
  refine (foldl_reaches (g := fun x m => x.settleLeg t m) (I := I) (Q := fun x => I x ∧ P (x.leg n)) (List.mem_range.mpr hn)
    hkeep (fun x hx => ⟨hkeep n x hx, hreach x hx⟩) (fun m x hx => ⟨hkeep m x hx.1, ?_⟩) hd).2
  by_cases hm : n = m
  · subst hm; exact hreach x hx.1
  · rw [settleLeg_leg_other hm]; exact hx.2

/-- What settling leg n brings about in any device that differs by settling alone holds of it after settling. -/
theorem settle_reaches {P : Leg → Prop} (hn : n < 48) (hP : ∀ l x : Leg, l.switches = x.switches → P l → P x) {d : Dev}
    (hreach : ∀ x, d.SettleFrame x → P ((x.settleLeg t n).leg n)) : P ((d.settle t).leg n) := by
  have hlegs (x : Dev) (hx : d.SettleFrame x) : P ((x.settleLegs t).leg n) :=
    settleLegs_reaches (I := d.SettleFrame) hn hP (fun m y hy => hy.trans (settleLeg_settleFrame t m y)) hreach hx
  have hloss : d.SettleFrame ((d.settleLegs t).phaseLoss t) :=
    (settleLegs_settleFrame t d).trans ((phaseLoss_upper_frame t _).mono (fun _ => rfl) (fun _ ha => ha))
  have h : P (((d.settleLegs t).phaseLoss t).leg n) := by rw [phaseLoss_leg]; exact hlegs d (.refl _ _ _)
  unfold Dev.settle
  extract_lets e
  split
  · exact hlegs e hloss
  · exact h

end

/-! ## A leg that its own trip, EN or FORCE holds off -/

/-- Leg n is held off whatever else acts on it: its own latch is set, EN is clear or FORCE is 0b01 (R183, R213). -/
def Dev.barred (n : Nat) (d : Dev) : Prop :=
  (d.tripOf n).set = true ∨ d.getAt (pLEG n) LEG.CTRL_EN 0 = 0 ∨ d.getAt (pLEG n) LEG.CTRL_FORCE 0 = 1

/-- Neither switch of the leg conducts and it is not released. -/
def Leg.unlit (l : Leg) : Prop := l.hs = false ∧ l.ls = false ∧ l.live = false

section
variable {n t : Nat} {d e : Dev}

theorem Leg.unlit_congr (l x : Leg) (h : l.switches = x.switches) (hl : l.unlit) : x.unlit := by
  simp only [Leg.switches, Prod.mk.injEq] at h
  obtain ⟨hhs, hls, -, -, -, hlive⟩ := h
  simpa only [Leg.unlit, hhs, hls, hlive] using hl

theorem Dev.Frame.barred (h : d.SettleFrame e) (hn : n < 48) (hd : d.barred n) : e.barred n := by
  have hget (f : FieldSpec) (hf : f.off < 0x1000 ∧ f.off ≠ 0x024) : e.getAt (pLEG n) f 0 = d.getAt (pLEG n) f 0 :=
    h.getAt (by rw [protReg_leg hn hf.1]; simpa using hf.2)
  have htrip : e.tripOf n = d.tripOf n := h.field (fun x => x.tripOf n) (fun _ => rfl)
  rwa [Dev.barred, htrip, hget LEG.CTRL_EN (by decide), hget LEG.CTRL_FORCE (by decide)]

/-- Nothing but the hold of a latch, EN or FORCE answers for such a leg, and its low side is not forced on. -/
theorem Dev.barred.held (h : d.barred n) : (∃ c, d.legHeld n = some c ∧ c ≠ 5) ∧ d.forcedLow n = false := by
  unfold Dev.legHeld Dev.forcedLow
  rcases h with h | h | h
  · have htripped : d.legTripped n = true := by simp [Dev.legTripped, h]
    simp [htripped]
  · simp only [Dev.flag_eq, h]
    split_ifs
    · exact ⟨⟨3, rfl, by decide⟩, by simp⟩
    · exact ⟨⟨0, rfl, by decide⟩, by simp⟩
    all_goals simp_all
  · simp only [Dev.get_eq, h]
    split_ifs
    · exact ⟨⟨3, rfl, by decide⟩, by simp⟩
    · exact ⟨⟨0, rfl, by decide⟩, by simp⟩
    · exact ⟨⟨2, rfl, by decide⟩, by simp⟩
    all_goals simp_all

theorem Leg.heldOff_unlit (c : LegCfg) (t k : Nat) (l : Leg) : (l.heldOff c t k).unlit :=
  ⟨Leg.bothOff_hs _ _ _, Leg.bothOff_ls _ _ _, rfl⟩

/-- Settling leaves such a leg off, in a debug halt as well (R183, R213). -/
theorem settle_unlit (hn : n < 48) (h : d.barred n) : ((d.settle t).leg n).unlit := by
  refine settle_reaches hn Leg.unlit_congr (fun x hx => ?_)
  obtain ⟨⟨c, hc, hne⟩, hlow⟩ := (Dev.Frame.barred hx hn h).held
  rw [settleLeg_off hc hne hlow, leg_setLeg_same _ _ hn]
  exact Leg.heldOff_unlit _ _ _ _

end

/-! ## A leg whose low side is forced on -/

theorem Leg.lowOn_ls (c : LegCfg) (t k : Nat) (l : Leg) : (l.lowOn c t k).ls = l.ls := by
  unfold Leg.lowOn
  extract_lets src x y
  have hx : x.ls = l.ls := Leg.offHs_ls _ _ _
  rw [Leg.schedule_ls]
  unfold y
  split
  · exact hx
  · exact hx

/-- The low side of a leg is on or scheduled, and nothing else. -/
def Leg.towardLow (l : Leg) : Prop :=
  (l.hs = false ∧ l.live = false) ∧ (l.ls = true ∨ l.turnOn.any (fun x => !x.high) = true)

theorem Leg.towardLow_congr (l x : Leg) (h : l.switches = x.switches) (hl : l.towardLow) : x.towardLow := by
  simp only [Leg.switches, Prod.mk.injEq] at h
  obtain ⟨hhs, hls, hturn, -, -, hlive⟩ := h
  simpa only [Leg.towardLow, hhs, hls, hturn, hlive] using hl

theorem Leg.lowOn_towardLow (c : LegCfg) (t k : Nat) (l : Leg) : (l.lowOn c t k).towardLow := by
  unfold Leg.lowOn
  extract_lets src x y
  have hx : x.hs = false ∧ x.live = false := ⟨Leg.offHs_hs _ _ _, rfl⟩
  have hy : y.hs = false ∧ y.live = false := by
    unfold y
    split
    · exact hx
    · exact hx
  refine ⟨⟨(Leg.schedule_hs _ _ _).trans hy.1, (Leg.schedule_live _ _ _).trans hy.2⟩, ?_⟩
  rw [Leg.schedule_ls]
  refine (Bool.eq_false_or_eq_true y.ls).imp_right (fun hls => ?_)
  simpa using Leg.schedule_any false (t + c.dtHL) y hls

section
variable {n t : Nat} {d e : Dev}

/-- Whatever holds a leg under FORCE = 0b10 outside a debug halt, its high side goes off and it is not released (R183). -/
theorem settleLeg_forcedTwo (hn : n < 48) (hhalt : d.pw.halted = false) (hforce : d.getAt (pLEG n) LEG.CTRL_FORCE 0 = 2) :
    ((d.settleLeg t n).leg n).hs = false ∧ ((d.settleLeg t n).leg n).live = false := by
  have hheld : ∃ c, d.legHeld n = some c ∧ c ≠ 5 := by
    unfold Dev.legHeld
    split_ifs with h₁ h₂ h₃
    · exact ⟨3, rfl, by decide⟩
    · exact ⟨0, rfl, by decide⟩
    · exact ⟨2, rfl, by decide⟩
    all_goals simp [Dev.get_eq, hforce] at h₃
  obtain ⟨c, hc, hne⟩ := hheld
  cases hlow : d.forcedLow n
  · rw [settleLeg_off hc hne hlow, leg_setLeg_same _ _ hn]
    exact ⟨(Leg.heldOff_unlit _ _ _ _).1, rfl⟩
  · rw [settleLeg_low hc hne hlow hhalt, leg_setLeg_same _ _ hn]
    exact (Leg.lowOn_towardLow _ _ _ _).1

/-- After settling, a leg under FORCE = 0b10 outside a debug halt has its high side off (R183). -/
theorem settle_forcedTwo (hn : n < 48) (hhalt : d.pw.halted = false) (hforce : d.getAt (pLEG n) LEG.CTRL_FORCE 0 = 2) :
    ((d.settle t).leg n).hs = false ∧ ((d.settle t).leg n).live = false := by
  refine settle_reaches (P := fun l => l.hs = false ∧ l.live = false) hn (fun l x h hl => ?_) (fun x hx => ?_)
  · simp only [Leg.switches, Prod.mk.injEq] at h
    obtain ⟨hhs, -, -, -, -, hlive⟩ := h
    rwa [← hhs, ← hlive]
  · refine settleLeg_forcedTwo hn ((hx.field (fun y => y.pw.halted) (fun _ => rfl)).trans hhalt) ?_
    rw [hx.getAt (by rw [protReg_leg hn (by decide)]; decide), hforce]

/-- Nothing that settling does to a leg changes whether a low side is forced on. -/
theorem forcedLow_settleLeg (m : Nat) : (d.settleLeg t m).forcedLow n = d.forcedLow n := by
  have hset (x : Leg) (hx : x.engOff = (d.leg m).engOff) : (d.setLeg m x).forcedLow n = d.forcedLow n := by
    have h := setLeg_holdsAlike (n := n) hx
    have hseq : (d.setLeg m x).seqHeld n = d.seqHeld n := by simp only [Dev.seqHeld, h.groupOf, h.fourWire]; rfl
    simp only [Dev.forcedLow, h.legTripped, h.allForced, h.engHeld, hseq, Dev.get_eq, Dev.flag_eq]
    rfl
  obtain ⟨h, -⟩ | ⟨x, h, -, hx⟩ := settleLeg_cases t m d
  · rw [h]
  · rw [h, hset x hx]

theorem legHeld_of_forcedLow (h : d.forcedLow n = true) : d.legHeld n = some 2 := by
  simp only [Dev.forcedLow, Bool.and_eq_true, Bool.not_eq_true', decide_eq_true_eq] at h
  obtain ⟨⟨⟨⟨⟨hforce, hen⟩, htrip⟩, -⟩, -⟩, -⟩ := h
  unfold Dev.legHeld
  rw [if_neg (by rw [htrip]; decide), if_neg (by rw [hen]; decide), if_pos (by rw [hforce]; rfl)]

/-- Settling turns such a leg to its low side. -/
theorem settleLegs_towardLow (hn : n < 48) (hlow : d.forcedLow n = true) (hhalt : d.pw.halted = false) :
    ((d.settleLegs t).leg n).towardLow := by
  refine settleLegs_reaches (I := fun x => x.forcedLow n = true ∧ x.pw.halted = false) hn Leg.towardLow_congr
    (fun m x hx => ⟨(forcedLow_settleLeg m).trans hx.1, ?_⟩) (fun x hx => ?_) ⟨hlow, hhalt⟩
  · exact ((settleLeg_settleFrame t m x).field (fun y => y.pw.halted) (fun _ => rfl)).trans hx.2
  · rw [settleLeg_low (legHeld_of_forcedLow hx.1) (by decide) hx.1 hx.2, leg_setLeg_same _ _ hn]
    exact Leg.lowOn_towardLow _ _ _ _

theorem settleLegs_dev : (d.settleLegs t).pw.dev = d.pw.dev :=
  (settleLegs_legsFrame t d).field (fun x => x.pw.dev) (fun _ => rfl)

/-- Where no device trip stands after settling, none came of it, and the leg is turned to its low side. -/
theorem settle_towardLow (hn : n < 48) (hlow : d.forcedLow n = true) (hhalt : d.pw.halted = false)
    (hdev : (d.settle t).pw.dev.tripped = false) : ((d.settle t).leg n).towardLow := by
  have h : (((d.settleLegs t).phaseLoss t).leg n).towardLow := by
    rw [phaseLoss_leg]; exact settleLegs_towardLow hn hlow hhalt
  unfold Dev.settle at hdev ⊢
  extract_lets at hdev ⊢
  split
  · next htripped => rw [if_pos htripped, settleLegs_dev, htripped] at hdev; cases hdev
  · exact h

end

section
variable {n p : Nat} {d : Dev}

/-- A write to CTRL leaves every other word, and with them what else may hold a leg. -/
theorem putCtrl_getAt {f g : FieldSpec} (hf : f.off = 0x008) (v q : Nat) (hg : g.off < 0x1000 ∧ g.off ≠ 0x008) :
    (d.putAt p f 0 v).getAt q g 0 = d.getAt q g 0 :=
  getAt_putAt_word _ _ (by rw [addr_first, addr_first]; omega)

theorem putCtrl_groupOf {f : FieldSpec} (hf : f.off = 0x008) (v : Nat) : (d.putAt p f 0 v).groupOf n = d.groupOf n := by
  refine List.find?_congr (fun g _ => ?_)
  simp only [Dev.inGroup, Dev.get_eq, putCtrl_getAt hf v _ (g := GRP.ASSIGN0_LEGS) (by decide),
    putCtrl_getAt hf v _ (g := GRP.ASSIGN1_LEGS) (by decide)]

theorem putCtrl_legTripped {f : FieldSpec} (hf : f.off = 0x008) (v : Nat) :
    (d.putAt p f 0 v).legTripped n = d.legTripped n := by
  simp only [Dev.legTripped, putCtrl_groupOf hf]
  rfl

theorem putCtrl_seqHeld {f : FieldSpec} (hf : f.off = 0x008) (v : Nat) : (d.putAt p f 0 v).seqHeld n = d.seqHeld n := by
  simp only [Dev.seqHeld, putCtrl_groupOf hf]
  rfl

theorem putCtrl_engHeld {f : FieldSpec} (hf : f.off = 0x008) (v : Nat) : (d.putAt p f 0 v).engHeld n = d.engHeld n := by
  have hlegs (k : Nat) : (d.putAt p f 0 v).engLegs k = d.engLegs k :=
    engLegs_congr (putCtrl_getAt hf v _ (by decide)) (putCtrl_getAt hf v _ (by decide))
  simp only [Dev.engHeld, Dev.flag_eq, Dev.get_eq, hlegs, putCtrl_getAt hf v _ (g := VOTER.VOTE_CFG_SPARE_EN) (by decide),
    putCtrl_getAt hf v _ (g := VOTER.VOTE_CFG_SPARE) (by decide)]
  rfl

/-- FORCE = 0b10 on a leg that nothing else holds forces its low side on (R183). -/
theorem forcedLow_putForce (htrip : d.legTripped n = false) (hen : d.flag (pLEG n) LEG.CTRL_EN = true)
    (hall : d.allForced = false) (hseq : d.seqHeld n = false) (heng : d.engHeld n = false) :
    (d.putAt (pLEG n) LEG.CTRL_FORCE 0 2).forcedLow n = true := by
  have hforce : (d.putAt (pLEG n) LEG.CTRL_FORCE 0 2).getAt (pLEG n) LEG.CTRL_FORCE 0 = 2 :=
    getAt_putAt_fits _ (by decide) (by decide)
  have hen' : (d.putAt (pLEG n) LEG.CTRL_FORCE 0 2).getAt (pLEG n) LEG.CTRL_EN 0 = d.getAt (pLEG n) LEG.CTRL_EN 0 :=
    getAt_putAt_apart _ _ (by decide) (by decide)
  have hall' : (d.putAt (pLEG n) LEG.CTRL_FORCE 0 2).allForced = false := hall
  rw [Dev.flag_eq] at hen
  simp only [Dev.forcedLow, Dev.get_eq, Dev.flag_eq, hforce, hen', hall', putCtrl_legTripped (f := LEG.CTRL_FORCE) rfl,
    putCtrl_seqHeld (f := LEG.CTRL_FORCE) rfl, putCtrl_engHeld (f := LEG.CTRL_FORCE) rfl, htrip, hen, hseq, heng]
  rfl

end

/-! ## No switch goes on -/

/-- No switch of a leg is on that was not. -/
def Leg.noneOn (l x : Leg) : Prop := (x.hs = true → l.hs = true) ∧ (x.ls = true → l.ls = true)

theorem Leg.Settles.noneOn {l x : Leg} (h : l.Settles x) : l.noneOn x := by
  cases h with
  | off c t k => exact ⟨fun h => absurd h (by rw [(Leg.heldOff_unlit c t k l).1]; decide),
      fun h => absurd h (by rw [(Leg.heldOff_unlit c t k l).2.1]; decide)⟩
  | low c t k =>
    refine ⟨fun h => absurd h (by rw [(Leg.lowOn_towardLow c t k l).1.1]; decide), fun h => ?_⟩
    rwa [Leg.lowOn_ls] at h
  | waits c t since => exact ⟨fun h => absurd h (by simp), fun h => absurd h (by simp)⟩
  | realigned => exact ⟨id, id⟩

theorem Leg.Settled.noneOn {l x : Leg} (h : l.Settled x) : l.noneOn x := by
  induction h with
  | refl => exact ⟨id, id⟩
  | tail _ h ih => exact ⟨ih.1 ∘ h.noneOn.1, ih.2 ∘ h.noneOn.2⟩

/-! ## The commands -/

/-- A write to CTRL with the settling after it. -/
abbrev Dev.ctrlWritten (n : Nat) (f : FieldSpec) (v t : Nat) (d : Dev) : Dev := (d.putAt (pLEG n) f 0 v).settle t

section
variable (n : Fin 48) (t : Nat) (s : State)

/-- What a command answers that writes to CTRL and settles. -/
abbrev State.ctrlWritten (n : Nat) (f : FieldSpec) (v t : Nat) (s : State) : State :=
  s.land t ((s.dev.begin t).ctrlWritten n f v t).regRound

theorem exec_forceOff : exec (.forceOff n t) s = .next (s.ctrlWritten n LEG.CTRL_FORCE 1 t) := (rfl)
theorem exec_forceLow : exec (.forceLow n t) s = .next (s.ctrlWritten n LEG.CTRL_FORCE 2 t) := (rfl)
theorem exec_forceRelease : exec (.forceRelease n t) s = .next (s.ctrlWritten n LEG.CTRL_FORCE 0 t) := (rfl)
theorem exec_legEnable : exec (.legEnable n t) s = .next (s.ctrlWritten n LEG.CTRL_EN 1 t) := (rfl)
theorem exec_legDisable : exec (.legDisable n t) s = .next (s.ctrlWritten n LEG.CTRL_EN 0 t) := (rfl)
theorem exec_legInvert (on : Bool) :
    exec (.legInvert n on t) s = .next (s.land t ((s.dev.begin t).invert n on t).regRound) := (rfl)

end

section
variable {n t v : Nat} {f : FieldSpec} {s : State}

theorem ctrlWritten_field (hn : n < 48) (hf : f.fits = true) (hoff : f.off = 0x008) (hv : v < 2 ^ (f.hi + 1 - f.lo)) :
    (s.ctrlWritten n f v t).dev.getAt (pLEG n) f 0 = v := by
  rw [land_regRound_getAt (by omega), settle_legField hn _ _ (by omega), getAt_putAt_fits _ hf hv]

theorem ctrlWritten_units : (s.ctrlWritten n f v t).dev.triad = s.dev.triad ∧ s.memSame (s.ctrlWritten n f v t) := by
  have h := settle_frame t ((s.dev.begin t).putAt (pLEG n) f 0 v)
  refine ⟨?_, land_regRound_memSame (h.field (fun x => x.wr) (fun _ => rfl)) (h.field (fun x => x.wipe) (fun _ => rfl))⟩
  rw [land_triad, regRound_triad]
  exact h.field (fun x => x.triad) (fun _ => rfl)

theorem ctrlWritten_dark (hn : n < 48) (h : ((s.dev.begin t).putAt (pLEG n) f 0 v).barred n) :
    (s.ctrlWritten n f v t).legsDark [n] := by
  intro k hk hlt
  rw [List.mem_singleton] at hk
  subst hk
  rw [land_regRound_leg]
  exact settle_unlit hn h

theorem ctrlWritten_noneOn (m : Nat) : (s.dev.leg m).noneOn ((s.ctrlWritten n f v t).dev.leg m) := by
  rw [land_regRound_leg]
  exact (settle_legs t ((s.dev.begin t).putAt (pLEG n) f 0 v) m).noneOn

end

/-! ## The statement -/

section
variable (n : Fin 48) (t : Nat) (s : State)

/-- A write of 0b01 to FORCE or of 0 to EN holds the leg off (R183). -/
theorem ctrl_barred {d : Dev} {f : FieldSpec} {v : Nat} (h : (f = LEG.CTRL_FORCE ∧ v = 1) ∨ (f = LEG.CTRL_EN ∧ v = 0)) :
    (d.putAt (pLEG n) f 0 v).barred n := by
  rcases h with ⟨rfl, rfl⟩ | ⟨rfl, rfl⟩
  · exact .inr (.inr (getAt_putAt_fits _ (by decide) (by decide)))
  · exact .inr (.inl (getAt_putAt_fits _ (by decide) (by decide)))

theorem ctrlWritten_force {v : Nat} (hv : v < 4) :
    (s.ctrlWritten n LEG.CTRL_FORCE v t).dev.get (pLEG n) LEG.CTRL_FORCE = v :=
  ctrlWritten_field n.isLt (by decide) rfl hv

theorem decide_toNat_eq_one (b : Bool) : decide (b.toNat = 1) = b := by cases b <;> rfl

theorem ctrlWritten_en (on : Bool) : (s.ctrlWritten n LEG.CTRL_EN on.toNat t).dev.flag (pLEG n) LEG.CTRL_EN = on := by
  rw [Dev.flag_eq, ctrlWritten_field n.isLt (by decide) rfl (Bool.toNat_lt on), decide_toNat_eq_one]

/-- FORCE_LOW outside a debug halt of a leg that nothing else holds (R183). -/
theorem forceLow_turnsLow (htrip : s.dev.legTripped n = false) (hen : s.dev.flag (pLEG n) LEG.CTRL_EN = true)
    (hall : s.dev.allForced = false) (hseq : s.dev.seqHeld n = false) (heng : s.dev.engHeld n = false)
    (hhalt : s.dev.pw.halted = false) :
    let l := (s.ctrlWritten n LEG.CTRL_FORCE 2 t).dev.leg n
    (l.hs = false ∧ l.live = false) ∧ ((s.ctrlWritten n LEG.CTRL_FORCE 2 t).dev.pw.dev.tripped = false → l.towardLow) := by
  have hforce : ((s.dev.begin t).putAt (pLEG n) LEG.CTRL_FORCE 0 2).getAt (pLEG n) LEG.CTRL_FORCE 0 = 2 :=
    getAt_putAt_fits _ (by decide) (by decide)
  have hlow := forcedLow_putForce (d := s.dev.begin t) htrip hen hall hseq heng
  have hhalt' : ((s.dev.begin t).putAt (pLEG n) LEG.CTRL_FORCE 0 2).pw.halted = false := hhalt
  dsimp only
  rw [land_regRound_leg, land_pw, regRound_pw]
  exact ⟨settle_forcedTwo n.isLt hhalt' hforce, settle_towardLow n.isLt hlow hhalt'⟩

theorem legInvert_same (on : Bool) (h : s.dev.flag (pLEG n) LEG.CTRL_INVERT = on) :
    exec (.legInvert n on t) s = .next (s.land t (s.dev.begin t).regRound) := by
  rw [exec_legInvert, Dev.invert, if_pos (show (s.dev.begin t).flag (pLEG n) LEG.CTRL_INVERT = on from h)]

theorem legInvert_changes (on : Bool) (h : s.dev.flag (pLEG n) LEG.CTRL_INVERT ≠ on) :
    exec (.legInvert n on t) s = .next (s.land t (((s.dev.begin t).putAt (pLEG n) LEG.CTRL_INVERT 0 on.toNat).setLeg n
      { s.dev.leg n with invertAt := t }).regRound) := by
  rw [exec_legInvert, Dev.invert, if_neg (show (s.dev.begin t).flag (pLEG n) LEG.CTRL_INVERT ≠ on from h)]
  rfl

/-- INVERT takes its value and leaves the switches (R184). -/
theorem legInvert_sets (on : Bool) :
    ∃ s', exec (.legInvert n on t) s = .next s' ∧ s'.dev.flag (pLEG n) LEG.CTRL_INVERT = on ∧
      s'.dev.leg n = (if s.dev.flag (pLEG n) LEG.CTRL_INVERT = on then s.dev.leg n else { s.dev.leg n with invertAt := t }) ∧
      (∀ m, m ≠ n.val → s'.dev.leg m = s.dev.leg m) ∧ s.regsBut [LEG.CTRL_INVERT.addr (pLEG n) 0] s' ∧ s.memSame s' := by
  by_cases h : s.dev.flag (pLEG n) LEG.CTRL_INVERT = on
  · refine ⟨_, legInvert_same n t s on h, ?_, ?_, fun m _ => ?_, fun a _ ha => ?_, land_regRound_memSame rfl rfl⟩
    · rw [Dev.flag_eq, land_regRound_getAt (by decide)]; exact h
    · rw [land_regRound_leg, if_pos h]; rfl
    · rw [land_regRound_leg]; rfl
    · rw [land_reg, regRound_reg _ ha]; rfl
  · refine ⟨_, legInvert_changes n t s on h, ?_, ?_, fun m hm => ?_, fun a hmem ha => ?_, land_regRound_memSame rfl rfl⟩
    · have hfield : ((s.dev.begin t).putAt (pLEG n) LEG.CTRL_INVERT 0 on.toNat).getAt (pLEG n) LEG.CTRL_INVERT 0 = on.toNat :=
        getAt_putAt_fits _ (by decide) (Bool.toNat_lt on)
      rw [Dev.flag_eq, land_regRound_getAt (by decide), setLeg_getAt, hfield, decide_toNat_eq_one]
    · rw [land_regRound_leg, if_neg h, leg_setLeg_same _ _ n.isLt]
    · rw [land_regRound_leg, leg_setLeg_ne _ _ hm]; rfl
    · rw [land_reg, regRound_reg _ ha, setLeg_reg, reg_putAt_ne _ _ (by simpa using hmem)]; rfl

end

/-- Settles O29. -/
theorem overridesEnableAndInvert : Obligations.OverridesEnableAndInvert := by
  unfold Obligations.OverridesEnableAndInvert
  have hforced (n : Fin 48) (t : Nat) (s : State) : (s.ctrlWritten n LEG.CTRL_FORCE 1 t).legsDark [n.val] :=
    ctrlWritten_dark n.isLt (ctrl_barred n (.inl ⟨rfl, rfl⟩))
  have hdisabled (n : Fin 48) (t : Nat) (s : State) : (s.ctrlWritten n LEG.CTRL_EN 0 t).legsDark [n.val] :=
    ctrlWritten_dark n.isLt (ctrl_barred n (.inr ⟨rfl, rfl⟩))
  refine ⟨fun n t s => ⟨_, exec_forceOff n t s, ctrlWritten_force n t s (by decide), hforced n t s, ctrlWritten_units⟩,
    fun n t s => ⟨_, exec_legDisable n t s, ctrlWritten_en n t s false, hdisabled n t s, ctrlWritten_units⟩,
    fun n t s htrip hen hall hseq heng hhalt => ?_,
    fun n t s => ⟨_, exec_forceRelease n t s, ctrlWritten_force n t s (by decide), fun m _ => ctrlWritten_noneOn m, ctrlWritten_units⟩,
    fun n t s => ⟨_, exec_legEnable n t s, ctrlWritten_en n t s true, fun m _ => ctrlWritten_noneOn m, ctrlWritten_units⟩,
    fun n on t s => legInvert_sets n t s on⟩
  obtain ⟨⟨hhs, hlive⟩, hlow⟩ := forceLow_turnsLow n t s htrip hen hall hseq heng hhalt
  exact ⟨_, exec_forceLow n t s, ctrlWritten_force n t s (by decide), hhs, fun hdev => (hlow hdev).2, hlive, ctrlWritten_units.2⟩

end Sys2Proof.Machine
end

section
/-!
SUPPORT. COMMIT, duty and duty-fraction writes (R174 to R177), and O26.
-/
namespace Sys2Proof.Machine

/-! ## Duty fractions (R177) -/

theorem divEven_mul {b : Nat} (hb : 0 < b) (k : Nat) : divEven (b * k) b = k := by
  simp [divEven, Nat.mul_div_cancel_left k hb, hb.ne]

section
variable {w : Word} {per : Nat}

theorem fracDuty_nan (h : isNaN w = true) : fracDuty w per = none := by simp [fracDuty, h]

/-- A value below zero is clamped to 0. -/
theorem fracDuty_negative (hnan : isNaN w = false) (hsign : fSign w = true) (hzero : w ≠ 0x80000000) :
    fracDuty w per = some (0, true) := by
  have hmod : w.toNat % 2 ^ 31 ≠ 0 := fun h => hzero (BitVec.eq_of_toNat_eq (by
    have hbit : w.toNat / 2 ^ 31 % 2 = 1 := by simpa [fSign] using hsign
    have hlt := w.isLt
    change w.toNat = 2 ^ 31
    omega))
  unfold fracDuty
  rw [if_neg (by simp [hnan]), if_pos hsign, if_pos hsign]
  split
  · rfl
  · exact congrArg (fun b => some (0, b)) (decide_eq_true hmod)

/-- A value above one is clamped to the period. -/
theorem fracDuty_above (hnan : isNaN w = false) (hsign : fSign w = false) (hone : 0x3F800000 < w.toNat) :
    fracDuty w per = some (per, true) := by
  unfold fracDuty
  rw [if_neg (by simp [hnan])]
  split
  · rw [if_neg (by simp [hsign])]
  · simp only [hsign, Bool.false_eq_true, if_false]

/-- A value of 0 to 1 with the exponent and fraction given is rounded half to even. -/
theorem fracDuty_within (hexp : fExp w ≠ 255) (hsign : fSign w = false) (hone : w.toNat ≤ 0x3F800000) : fracDuty w per =
    some (divEven ((if fExp w = 0 then fFrac w else 2 ^ 23 + fFrac w) * per) (2 ^ (150 - max 1 (fExp w))), false) := by
  unfold fracDuty
  rw [if_neg (by simp [isNaN, hexp]), if_neg hexp, if_neg (by simp [hsign]), if_neg (by omega)]

end

theorem fracDuty_one (per : Nat) : fracDuty 0x3F800000 per = some (per, false) := by
  rw [fracDuty_within (by decide) (by decide) (by decide)]
  exact congrArg (fun k => some (k, false)) (divEven_mul (b := 2 ^ 23) (by decide) per)

theorem fracDuty_zero (per : Nat) : fracDuty 0 per = some (0, false) := by
  rw [fracDuty_within (by decide) (by decide) (by decide)]
  simp [divEven, fExp, fFrac]

theorem fracDuty_negZero (per : Nat) : fracDuty 0x80000000 per = some (0, false) := by
  unfold fracDuty
  rw [if_neg (by decide), if_neg (by decide), if_pos (by decide)]
  rfl

theorem fracDuty_half (per : Nat) : fracDuty 0x3F000000 (2 * per) = some (per, false) := by
  rw [fracDuty_within (by decide) (by decide) (by decide)]
  have h : 2 ^ 23 * (2 * per) = 2 ^ 24 * per := by ring
  exact congrArg (fun k => some (k, false)) ((congrArg (fun a => divEven a (2 ^ 24)) h).trans (divEven_mul (by decide) per))

/-! ## What a write of the shadows leaves -/

section
variable {n : Nat} {t : Nat} {d e : Dev} {s : State}

theorem legLatch_leg (hn : n < 48) : (d.legLatch n t).leg n = { d.leg n with
    latched := some ⟨d.wordAt (pLEG n) LEG.PERIOD_INT 0, d.wordAt (pLEG n) LEG.DUTY_INT 0,
      d.wordAt (pLEG n) LEG.PHASE_INT 0, t⟩,
    staleNew := false, staleOld := false, pairStale := false } := by
  rw [Dev.legLatch, leg_setLeg_same _ _ hn]
  simp only [Dev.wordAt, addr_first, LEG.PERIOD_INT, LEG.DUTY_INT, LEG.PHASE_INT]

/-- A frame of registers at the addresses given, legs aside. -/
abbrev Dev.ShadowFrame (n : Nat) (l : List Nat) (d e : Dev) : Prop := Dev.Frame (Dev.sansPeriod n) (regsIn l) d e

theorem legLatch_frame (l : List Nat) : d.ShadowFrame n l (d.legLatch n t) := setLeg_period_frame n _ _ d

theorem autoLatch_frame (l : List Nat) : d.ShadowFrame n l (d.autoLatch n t) :=
  .ite (fun _ => legLatch_frame l) (fun _ => .refl _ _ _)

theorem autoLatch_reg (a : Nat) : (d.autoLatch n t).reg a = d.reg a := (autoLatch_frame []).reg a rfl

theorem setReg_shadow_frame {a : Nat} {l : List Nat} (ha : a ∈ l) (w : Word) : d.ShadowFrame n l (d.setReg a w) :=
  (setReg_frame w d (decide_eq_true ha)).mono (fun _ => rfl) (fun _ h => h)

theorem putAt_shadow_frame {f : FieldSpec} {l : List Nat} (hf : f.addr (pLEG n) 0 ∈ l) (v : Nat) :
    d.ShadowFrame n l (d.putAt (pLEG n) f 0 v) := setReg_shadow_frame hf _

/-- What such a write leaves once it has landed. -/
theorem shadow_landed {l : List Nat} (h : (s.dev.begin t).ShadowFrame n l e) :
    (∀ m, m ≠ n → (s.land t e.regRound).dev.leg m = s.dev.leg m) ∧ s.regsBut l (s.land t e.regRound) ∧
      s.memSame (s.land t e.regRound) := by
  refine ⟨fun m hm => ?_, fun a ha ha' => ?_,
    land_regRound_memSame (h.field (fun x => x.wr) (fun _ => rfl)) (h.field (fun x => x.wipe) (fun _ => rfl))⟩
  · rw [land_regRound_leg, h.field (fun x => x.leg m) (fun x => leg_setLeg_ne .reset x hm)]
    rfl
  · rw [land_reg, regRound_reg _ ha', h.reg a (decide_eq_false ha)]
    rfl

/-- A write that changes registers alone leaves the power stage. -/
theorem autoLatch_off (h : d.getAt (pLEG n) LEG.CFG_COMMIT_MODE 0 ≠ 1) : d.autoLatch n t = d := by
  unfold Dev.autoLatch
  rw [if_neg (by rw [Dev.flag_eq]; simpa using h)]

theorem autoLatch_on (h : d.getAt (pLEG n) LEG.CFG_COMMIT_MODE 0 = 1) : d.autoLatch n t = d.legLatch n t := by
  unfold Dev.autoLatch
  rw [if_pos (by rw [Dev.flag_eq]; simpa using h)]

end

/-! ## The commands -/

section
variable (n : Fin 48) (port : Fin 24) (w : Word) (t : Nat) (s : State)

theorem exec_legCommit : exec (.legCommit n port t) s =
    .next (s.land t ((s.dev.begin t).ownedOr n port (fun d => d.legLatch n t)).regRound) := (rfl)

theorem exec_dutyFracWrite : exec (.dutyFracWrite n port w t) s =
    .next (s.land t ((s.dev.begin t).ownedOr n port (fun d => d.fracWrite n w t)).regRound) := (rfl)

theorem exec_dutyWrite (h : w.toNat < 2 ^ 21) : exec (.dutyWrite n port w t) s = .next (s.land t
    ((s.dev.begin t).ownedOr n port (fun d => (d.setReg (pLEG n * 0x1000 + 0x44) w).autoLatch n t)).regRound) := by
  show execDutyWrite n port w t s = _
  have hvalid : ¬2097152 ≤ w.toNat := Nat.not_le.mpr h
  simp [execDutyWrite, runRegF, runF, hvalid, Except.map]

theorem dutyWrite_reserved (h : 2 ^ 21 ≤ w.toNat) : exec (.dutyWrite n port w t) s = .fault .reservedBit := by
  show execDutyWrite n port w t s = _
  have hinvalid : 2097152 ≤ w.toNat := h
  simp [execDutyWrite, runRegF, runF, hinvalid, Except.map]

end

section
variable {n port : Nat} {d : Dev} {f : Dev → Dev}

theorem ownedOr_free (h : d.legOwner n = none) : d.ownedOr n port f = f d := by rw [Dev.ownedOr, h]; rfl

theorem ownedOr_owned {e : Nat} (h : d.legOwner n = some e) : d.ownedOr n port f = d.foreignWrite n port := by
  rw [Dev.ownedOr, h]; rfl

/-- What a foreign write changes: the count, the event and the report, and no shadow (R176). -/
theorem foreignWrite_counts :
    (d.foreignWrite n port).getAt (pLEG n) LEG.CNT_FOREIGN 0 = min 65535 (d.getAt (pLEG n) LEG.CNT_FOREIGN 0 + 1) ∧
      (d.foreignWrite n port).getAt (pLEG n) LEG.FAULT_CODE_CAUSE 0 = 3 ∧
      (d.foreignWrite n port).reg (LEG.DUTY_INT.addr (pLEG n) 0) = d.reg (LEG.DUTY_INT.addr (pLEG n) 0) := by
  simp only [Dev.foreignWrite, Dev.put_eq, Dev.raise_eq]
  refine ⟨?_, ?_, ?_⟩
  · rw [getAt_putAt_other _ _ (by decide), getAt_putAt_other _ _ (by decide), getAt_putAt_other _ _ (by decide),
      getAt_count _ (by decide)]
    rfl
  · rw [getAt_putAt_apart _ _ (by decide) (by decide), getAt_putAt_fits _ (by decide) (by decide)]
  · have hne (g : FieldSpec) (hg : g.off ≠ 0x044) : LEG.DUTY_INT.addr (pLEG n) 0 ≠ g.addr (pLEG n) 0 := by
      rw [addr_first, addr_first]; exact fun h => hg (Nat.add_left_cancel h).symm
    rw [reg_putAt_ne _ _ (hne _ (by decide)), reg_putAt_ne _ _ (hne _ (by decide)), reg_putAt_ne _ _ (hne _ (by decide)),
      Dev.count_eq, reg_putAt_ne _ _ (hne _ (by decide))]

end

/-! ## Writes on a leg that no running engine lists (R174, R175, R177) -/

/-- The address of the DUTY shadow. -/
theorem dutyInt_addr (n : Nat) : LEG.DUTY_INT.addr (pLEG n) 0 = pLEG n * 0x1000 + 0x44 := by
  simp only [addr_first, LEG.DUTY_INT]

section
variable {n : Nat} {d : Dev}

/-- A write of the DUTY shadow leaves every field of the leg's page in another word. -/
theorem setDuty_getAt {f : FieldSpec} (hf : f.off ≠ 0x44) (w : Word) :
    (d.setReg (pLEG n * 0x1000 + 0x44) w).getAt (pLEG n) f 0 = d.getAt (pLEG n) f 0 := by
  rw [Dev.getAt, addr_first, reg_setReg_ne _ _ (fun h => hf (Nat.add_left_cancel h)), Dev.getAt, addr_first]

theorem setDuty_wordAt {f : FieldSpec} (hf : f.off ≠ 0x44) (w : Word) :
    (d.setReg (pLEG n * 0x1000 + 0x44) w).wordAt (pLEG n) f 0 = d.wordAt (pLEG n) f 0 := by
  rw [Dev.wordAt, addr_first, reg_setReg_ne _ _ (fun h => hf (Nat.add_left_cancel h)), Dev.wordAt, addr_first]

theorem setDuty_same (w : Word) : (d.setReg (pLEG n * 0x1000 + 0x44) w).wordAt (pLEG n) LEG.DUTY_INT 0 = w := by
  rw [Dev.wordAt, dutyInt_addr, reg_setReg_same]

/-- The DUTY shadow takes a duty fraction's value (R177). -/
theorem fracWrite_some {w : Word} {t v : Nat} {cl : Bool} (h : fracDuty w (d.fracPeriod n) = some (v, cl)) :
    d.fracWrite n w t =
      (if cl then (d.setReg (pLEG n * 0x1000 + 0x44) (BitVec.ofNat 32 v)).putAt (pLEG n) LEG.IRQ_RAW_DUTY_CLAMP 0 1
       else d.setReg (pLEG n * 0x1000 + 0x44) (BitVec.ofNat 32 v)).autoLatch n t := by
  unfold Dev.fracWrite Dev.enterFrac
  rw [h]
  rfl

/-- A NaN is reported and writes nothing (R177). -/
theorem fracWrite_nan {w : Word} {t : Nat} (h : isNaN w = true) : d.fracWrite n w t =
    ((d.putAt (pLEG n) LEG.IRQ_RAW_NAN_DUTY 0 1).putAt (pLEG n) LEG.FAULT_CODE_CAUSE 0 2).putAt (pLEG n)
      LEG.FAULT_CODE_SOURCE 0 0 := by
  unfold Dev.fracWrite Dev.enterFrac
  rw [fracDuty_nan h]
  rfl

end

section
variable (n : Fin 48) (port : Fin 24) (w : Word) (t : Nat) (s : State)

theorem legCommit_latches (hfree : s.dev.legOwner n = none) :
    ∃ s', exec (.legCommit n port t) s = .next s' ∧ s'.dev.leg n = { s.dev.leg n with
        latched := some ⟨s.dev.wordAt (pLEG n) LEG.PERIOD_INT 0, s.dev.wordAt (pLEG n) LEG.DUTY_INT 0,
          s.dev.wordAt (pLEG n) LEG.PHASE_INT 0, t⟩, staleNew := false, staleOld := false, pairStale := false } ∧
      (∀ m, m ≠ n.val → s'.dev.leg m = s.dev.leg m) ∧ s.regsBut [] s' ∧ s.memSame s' := by
  have hfree' : (s.dev.begin t).legOwner n = none := hfree
  refine ⟨_, exec_legCommit n port t s, ?_⟩
  rw [ownedOr_free hfree', land_regRound_leg, legLatch_leg n.isLt]
  exact ⟨rfl, shadow_landed (legLatch_frame [])⟩

theorem dutyWrite_writes (hfree : s.dev.legOwner n = none) (hw : w.toNat < 2 ^ 21) :
    ∃ s', exec (.dutyWrite n port w t) s = .next s' ∧ s'.dev.wordAt (pLEG n) LEG.DUTY_INT 0 = w ∧
      (if s.dev.flag (pLEG n) LEG.CFG_COMMIT_MODE then
        (s'.dev.leg n).latched = some ⟨s.dev.wordAt (pLEG n) LEG.PERIOD_INT 0, w, s.dev.wordAt (pLEG n) LEG.PHASE_INT 0, t⟩
       else s'.dev.pw = s.dev.pw) ∧
      s.regsBut [LEG.DUTY_INT.addr (pLEG n) 0] s' ∧ s.memSame s' := by
  have hfree' : (s.dev.begin t).legOwner n = none := hfree
  have hframe : (s.dev.begin t).ShadowFrame n [LEG.DUTY_INT.addr (pLEG n) 0]
      (((s.dev.begin t).setReg (pLEG n * 0x1000 + 0x44) w).autoLatch n t) :=
    (setReg_shadow_frame (by rw [dutyInt_addr]; exact List.mem_singleton_self _) w).trans (autoLatch_frame _)
  have hword : (((s.dev.begin t).setReg (pLEG n * 0x1000 + 0x44) w).autoLatch n t).reg (LEG.DUTY_INT.addr (pLEG n) 0) = w := by
    rw [autoLatch_reg, dutyInt_addr, reg_setReg_same]
  obtain ⟨-, hregs, hmem⟩ := shadow_landed hframe
  refine ⟨_, exec_dutyWrite n port w t s hw, ?_⟩
  rw [ownedOr_free hfree', land_regRound_wordAt (by rw [dutyInt_addr]; omega)]
  refine ⟨hword, ?_, hregs, hmem⟩
  rw [Dev.flag_eq, land_regRound_leg, land_pw, regRound_pw]
  by_cases hauto : (s.dev.begin t).getAt (pLEG n) LEG.CFG_COMMIT_MODE 0 = 1
  · rw [if_pos (by simpa using hauto), autoLatch_on (by rw [setDuty_getAt (by decide)]; exact hauto), legLatch_leg n.isLt]
    simp only [setDuty_wordAt (f := LEG.PERIOD_INT) (by decide), setDuty_wordAt (f := LEG.PHASE_INT) (by decide),
      setDuty_same]
    rfl
  · rw [if_neg (by simpa using hauto), autoLatch_off (by rw [setDuty_getAt (by decide)]; exact hauto)]
    rfl

theorem dutyFracWrite_writes {v : Nat} {cl : Bool} (hfree : s.dev.legOwner n = none)
    (hv : fracDuty w (s.dev.fracPeriod n) = some (v, cl)) :
    ∃ s', exec (.dutyFracWrite n port w t) s = .next s' ∧ s'.dev.wordAt (pLEG n) LEG.DUTY_INT 0 = BitVec.ofNat 32 v ∧
      (cl = true → s'.dev.flag (pLEG n) LEG.IRQ_RAW_DUTY_CLAMP = true) ∧
      (s.dev.flag (pLEG n) LEG.CFG_COMMIT_MODE = false → s'.dev.pw = s.dev.pw) ∧
      s.regsBut [LEG.DUTY_INT.addr (pLEG n) 0, LEG.IRQ_RAW_DUTY_CLAMP.addr (pLEG n) 0] s' ∧ s.memSame s' := by
  have hfree' : (s.dev.begin t).legOwner n = none := hfree
  have hv' : fracDuty w ((s.dev.begin t).fracPeriod n) = some (v, cl) := hv
  have hset : (s.dev.begin t).ShadowFrame n [LEG.DUTY_INT.addr (pLEG n) 0, LEG.IRQ_RAW_DUTY_CLAMP.addr (pLEG n) 0]
      ((s.dev.begin t).setReg (pLEG n * 0x1000 + 0x44) (BitVec.ofNat 32 v)) :=
    setReg_shadow_frame (by rw [dutyInt_addr]; exact List.mem_cons_self) _
  have hclamp : LEG.DUTY_INT.addr (pLEG n) 0 ≠ LEG.IRQ_RAW_DUTY_CLAMP.addr (pLEG n) 0 := by
    simp only [addr_first, LEG.DUTY_INT, LEG.IRQ_RAW_DUTY_CLAMP]; omega
  refine ⟨_, exec_dutyFracWrite n port w t s, ?_⟩
  rw [ownedOr_free hfree', fracWrite_some hv', land_regRound_wordAt (by rw [dutyInt_addr]; omega), Dev.flag_eq, Dev.flag_eq,
    land_regRound_getAt (by decide), land_pw, regRound_pw, autoLatch_reg]
  cases cl with
  | false =>
    obtain ⟨-, hregs, hmem⟩ := shadow_landed (hset.trans (autoLatch_frame (t := t) _))
    refine ⟨setDuty_same _, fun h => absurd h Bool.false_ne_true, fun hmode => ?_, hregs, hmem⟩
    have hmode' : (s.dev.begin t).getAt (pLEG n) LEG.CFG_COMMIT_MODE 0 ≠ 1 := by simpa using hmode
    simp only [Bool.false_eq_true, if_false]
    rw [autoLatch_off (by rw [setDuty_getAt (by decide)]; exact hmode')]
    rfl
  | true =>
    obtain ⟨-, hregs, hmem⟩ := shadow_landed ((hset.trans (putAt_shadow_frame (f := LEG.IRQ_RAW_DUTY_CLAMP)
      (List.mem_cons_of_mem _ (List.mem_singleton_self _)) 1)).trans (autoLatch_frame (t := t) _))
    refine ⟨?_, fun _ => ?_, fun hmode => ?_, hregs, hmem⟩
    · exact (reg_putAt_ne _ _ hclamp).trans (setDuty_same _)
    · rw [Dev.getAt, autoLatch_reg]
      exact decide_eq_true (getAt_putAt_fits _ (by decide) (by decide))
    · have hmode' : (s.dev.begin t).getAt (pLEG n) LEG.CFG_COMMIT_MODE 0 ≠ 1 := by simpa using hmode
      simp only [if_true]
      rw [autoLatch_off (by rw [getAt_putAt_other _ _ (by decide), setDuty_getAt (by decide)]; exact hmode')]
      rfl

theorem dutyFracWrite_nan (hfree : s.dev.legOwner n = none) (hnan : isNaN w = true) :
    ∃ s', exec (.dutyFracWrite n port w t) s = .next s' ∧ s'.dev.flag (pLEG n) LEG.IRQ_RAW_NAN_DUTY = true ∧
      s'.dev.get (pLEG n) LEG.FAULT_CODE_CAUSE = 2 ∧ s'.dev.pw = s.dev.pw ∧
      s.regsBut [LEG.IRQ_RAW_NAN_DUTY.addr (pLEG n) 0, LEG.FAULT_CODE_CAUSE.addr (pLEG n) 0] s' ∧ s.memSame s' := by
  have hfree' : (s.dev.begin t).legOwner n = none := hfree
  obtain ⟨-, hregs, hmem⟩ := shadow_landed (n := n) (s := s) (t := t)
    (l := [LEG.IRQ_RAW_NAN_DUTY.addr (pLEG n) 0, LEG.FAULT_CODE_CAUSE.addr (pLEG n) 0])
    ((putAt_shadow_frame (f := LEG.IRQ_RAW_NAN_DUTY) (by simp) 1).trans
      ((putAt_shadow_frame (f := LEG.FAULT_CODE_CAUSE) (by simp) 2).trans (putAt_shadow_frame (f := LEG.FAULT_CODE_SOURCE) (by
        simp only [addr_first, LEG.FAULT_CODE_SOURCE, LEG.FAULT_CODE_CAUSE]; simp) 0)))
  refine ⟨_, exec_dutyFracWrite n port w t s, ?_⟩
  rw [ownedOr_free hfree', fracWrite_nan hnan, Dev.flag_eq, Dev.get_eq, land_regRound_getAt (by decide),
    land_regRound_getAt (by decide), land_pw, regRound_pw]
  refine ⟨?_, ?_, rfl, hregs, hmem⟩
  · rw [getAt_putAt_other _ _ (by decide), getAt_putAt_other _ _ (by decide), getAt_putAt_fits _ (by decide) (by decide)]
    rfl
  · rw [getAt_putAt_apart _ _ (by decide) (by decide), getAt_putAt_fits _ (by decide) (by decide)]

/-- On a leg that a running engine lists each write of its set is discarded and reported (R176). -/
theorem foreign_reported {e : Nat} {c : Instr} (howned : s.dev.legOwner n = some e) (hw : w.toNat < 2 ^ 21)
    (hc : c ∈ [Instr.legCommit n port t, .dutyWrite n port w t, .dutyFracWrite n port w t]) :
    exec c s = .next (s.land t ((s.dev.begin t).foreignWrite n port).regRound) := by
  have howned' : (s.dev.begin t).legOwner n = some e := howned
  simp only [List.mem_cons, List.not_mem_nil, or_false] at hc
  rcases hc with rfl | rfl | rfl
  · rw [exec_legCommit, ownedOr_owned howned']
  · rw [exec_dutyWrite n port w t s hw, ownedOr_owned howned']
  · rw [exec_dutyFracWrite, ownedOr_owned howned']

theorem foreign_leaves : let s' := s.land t ((s.dev.begin t).foreignWrite n port).regRound
    s'.dev.pw = s.dev.pw ∧ s'.dev.flag (pLEG n) LEG.IRQ_RAW_FOREIGN_WRITE = true ∧
      s'.dev.get (pLEG n) LEG.CNT_FOREIGN = min 65535 (s.dev.get (pLEG n) LEG.CNT_FOREIGN + 1) ∧
      s'.dev.get (pLEG n) LEG.FAULT_CODE_CAUSE = 3 ∧ s'.dev.get (pLEG n) LEG.FAULT_CODE_SOURCE = port ∧
      s'.dev.wordAt (pLEG n) LEG.DUTY_INT 0 = s.dev.wordAt (pLEG n) LEG.DUTY_INT 0 ∧ s.memSame s' := by
  have hframe := foreignWrite_regs n port (s.dev.begin t)
  obtain ⟨hirq, hsource⟩ := foreignWrite_reports (n := n) (port := port) (s.dev.begin t) (by omega)
  obtain ⟨hcount, hcause, hduty⟩ := foreignWrite_counts (n := n) (port := port) (d := s.dev.begin t)
  have hget {f : FieldSpec} (hf : f.off < 0x1000 ∧ f.off ≠ 0x1C) :=
    land_regRound_getAt (t := t) (e := (s.dev.begin t).foreignWrite n port) (s := s) (p := pLEG n) hf
  have hpw : ((s.dev.begin t).foreignWrite n port).pw = s.dev.pw := hframe.field (fun x => x.pw) (fun _ => rfl)
  refine ⟨((land_pw ..).trans (regRound_pw _)).trans hpw, ?_, (hget (by decide)).trans hcount, (hget (by decide)).trans hcause,
    (hget (by decide)).trans hsource, (land_regRound_wordAt (by rw [dutyInt_addr]; omega)).trans hduty,
    land_regRound_memSame (hframe.field (fun x => x.wr) (fun _ => rfl)) (hframe.field (fun x => x.wipe) (fun _ => rfl))⟩
  rw [Dev.flag_eq]
  exact decide_eq_true ((hget (by decide)).trans hirq)

end

/-- Settles O26. -/
theorem legSetsLatchByTheirOwner : Obligations.LegSetsLatchByTheirOwner := by
  unfold Obligations.LegSetsLatchByTheirOwner
  refine ⟨legCommit_latches, dutyWrite_writes, fun n port w t v cl s hfree hv => dutyFracWrite_writes n port w t s hfree hv,
    dutyFracWrite_nan,
    fun n port w t e c s howned hw hc => ⟨_, foreign_reported n port w t s howned hw hc, foreign_leaves n port t s⟩,
    dutyWrite_reserved, fun w per => ⟨fracDuty_nan, fracDuty_negative, fracDuty_above⟩,
    fun per => ⟨fracDuty_one per, fracDuty_zero per, fracDuty_negZero per, fracDuty_half per⟩⟩

end Sys2Proof.Machine
end

section
/-!
SUPPORT. What an edge looks ahead to does not depend on the clock of the command (R182, R195).
-/
namespace Sys2Proof.Machine

section
variable (n t : Nat) (d : Dev)

theorem setLeg_begin (x : Leg) : (d.begin t).setLeg n x = (d.setLeg n x).begin t := (rfl)
theorem setReg_begin (a : Nat) (w : Word) : (d.begin t).setReg a w = (d.setReg a w).begin t := (rfl)
theorem putAt_begin (p i v : Nat) (f : FieldSpec) : (d.begin t).putAt p f i v = (d.putAt p f i v).begin t := (rfl)
theorem begin_leg : (d.begin t).leg n = d.leg n := (rfl)

/-- A choice between acts that both leave what the beginning of a command sets. -/
theorem ite_begin (b : Bool) {f : Dev → Dev} (hf : f (d.begin t) = (f d).begin t) :
    (if b then f (d.begin t) else d.begin t) = (if b then f d else d).begin t := by
  cases b
  · rfl
  · exact hf

/-- The report of a clamped period (R173). -/
def Dev.periodClamped (n : Nat) (d : Dev) : Dev :=
  ((d.putAt (pLEG n) LEG.IRQ_RAW_PERIOD_CLAMP 0 1).putAt (pLEG n) LEG.FAULT_CODE_CAUSE 0 1).putAt (pLEG n)
    LEG.FAULT_CODE_SOURCE 0 0

/-- The report of a clamped duty (R177). -/
def Dev.dutyClamped (n : Nat) (d : Dev) : Dev := d.putAt (pLEG n) LEG.IRQ_RAW_DUTY_CLAMP 0 1

theorem periodClamped_begin : (d.begin t).periodClamped n = (d.periodClamped n).begin t := by
  simp only [Dev.periodClamped, putAt_begin]

theorem dutyClamped_begin : (d.begin t).dutyClamped n = (d.dutyClamped n).begin t := (rfl)

theorem staleStep_begin : (d.begin t).staleStep n = (d.staleStep n).begin t := by
  unfold Dev.staleStep
  rw [apply_ite (Dev.begin t)]
  rfl

theorem applySet_begin (x : LegSet) : (d.begin t).applySet n x = (d.applySet n x).begin t := by
  simp only [applySet_eq, setReg_begin, begin_leg, setLeg_begin, putAt_begin]

theorem takeGroup_begin (start : Nat) : (d.begin t).takeGroup n start = (d.takeGroup n start).begin t := by
  unfold Dev.takeGroup
  rw [show (d.begin t).legCounted n = d.legCounted n from rfl]
  cases d.legCounted n with
  | none => rfl
  | some g =>
    dsimp only
    rw [show (d.begin t).grp g = d.grp g from rfl]
    cases (d.grp g).latched with
    | none => rfl
    | some x =>
      dsimp only
      rw [apply_ite (Dev.begin t)]
      rfl

theorem each_begin {α : Type} {f : α → Dev → Dev} (hf : ∀ a x, f a (x.begin t) = (f a x).begin t) (l : List α) :
    (d.begin t).each f l = (d.each f l).begin t := by
  induction l generalizing d with
  | nil => rfl
  | cons a l ih =>
    show (f a (d.begin t)).each f l = _
    rw [hf, ih]
    rfl

theorem sdLinked_begin (start : Nat) : (d.begin t).sdLinked n start = (d.sdLinked n start).begin t := by
  refine each_begin t d (fun i x => ?_) _
  rw [apply_ite (Dev.begin t)]
  rfl

theorem setTaken_begin (start : Nat) : (d.begin t).setTaken n start = (d.setTaken n start).begin t := by
  unfold Dev.setTaken
  rw [show (d.begin t).takenSet n start = d.takenSet n start from rfl]
  cases d.takenSet n start with
  | none => rfl
  | some x => exact applySet_begin n t d x

theorem layEdges_begin (u start : Nat) : (d.begin t).layEdges n u start = (d.layEdges n u start).begin t := (rfl)

/-- What a period start makes of a leg after the set that it takes, if any (R172, R173). -/
def Dev.entered (n start : Nat) (took : Bool) (c : LegCfg) (d : Dev) : Dev :=
  let tg := d.legTarget n start
  let l := d.leg n
  let moves := decide (tg.1 ≠ l.per) || decide (tg.2.1 ≠ l.phi)
  let len := if moves then gridFrom (start + (tg.1 + 1) / 2) tg.2.1 tg.1 - start else tg.1
  let duty := d.dutyTaps n tg.2.2.2
  let full := decide (tg.1 < duty) || decide (len < duty)
  let e := if (took || moves) && tg.2.2.1 then d.periodClamped n else d
  let e := if (took || moves) && full then e.dutyClamped n else e
  let e := if decide (tg.1 ≠ l.per) then e.sdLinked n start else e
  let inv := if c.invert != l.invert && decide (l.invertAt + leadTaps ≤ start) then c.invert else l.invert
  let x := { e.leg n with per := tg.1, phi := tg.2.1, start := start, len := len, invert := inv,
                          duty := if full then len else duty }
  ((e.setLeg n x).setReg (pLEG n * 0x1000 + 0x5C) (BitVec.ofNat 32 (tg.2.1 / tg.2.2.2 % 2 ^ 21))).layEdges n tg.2.2.2 start

theorem enterPeriod_eq (start : Nat) : d.enterPeriod n start =
    (d.setTaken n start).entered n start (d.takenSet n start).isSome (d.legCfg n) := (rfl)

theorem entered_begin (start : Nat) (took : Bool) (c : LegCfg) :
    (d.begin t).entered n start took c = (d.entered n start took c).begin t := by
  unfold Dev.entered
  extract_lets TG L MOVES LEN DUTY FULL E₁ E₂ E₃ INV SRC X tg l moves len duty full e₁ e₂ e₃ inv src x
  have h₁ : E₁ = e₁.begin t := ite_begin t d ((took || moves) && tg.2.2.1) (periodClamped_begin n t d)
  have h₂ : E₂ = e₂.begin t := by
    unfold E₂
    rw [h₁]
    exact ite_begin t e₁ ((took || moves) && full) (dutyClamped_begin n t e₁)
  have h₃ : E₃ = e₃.begin t := by
    unfold E₃
    rw [h₂]
    exact ite_begin t e₂ (decide (tg.1 ≠ l.per)) (sdLinked_begin n t e₂ start)
  have htg : TG = tg := rfl
  have hx : X = x := by
    unfold X SRC
    rw [h₃]
    rfl
  rw [h₃, hx, htg, setLeg_begin, setReg_begin, layEdges_begin]

theorem enterPeriod_begin (start : Nat) : (d.begin t).enterPeriod n start = (d.enterPeriod n start).begin t := by
  rw [enterPeriod_eq, setTaken_begin, entered_begin, enterPeriod_eq]
  rfl

/-- What a peak makes of a leg that has taken the set x there (R172). -/
def Dev.peakLaid (n u pk : Nat) (x : LegSet) (l : Leg) (d : Dev) : Dev :=
  let e := if (d.spreadOf n).isNone && (periodTaps (setUnits x.period) u).2 then d.periodClamped n else d
  let want := e.dutyTaps n u
  let full := decide (l.per < want) || decide (l.len < want)
  let e := if full then e.dutyClamped n else e
  let duty := if full then l.len else want
  let fin := l.start + centreOff u l.len duty + duty
  let es : List (Nat × Bool) :=
    if fin ≤ pk then [(pk, false)] else if l.len ≤ duty then [(pk, true)] else [(pk, true), (fin, false)]
  let old := l.edges.filter (fun e => decide (e.1 < pk))
  e.setLeg n { e.leg n with duty := duty, edges := dedupe l.s (old ++ flipLevels l.invert es) }

theorem peakLaid_begin (u pk : Nat) (x : LegSet) (l : Leg) :
    (d.begin t).peakLaid n u pk x l = (d.peakLaid n u pk x l).begin t := by
  unfold Dev.peakLaid
  extract_lets E₁ WANT FULL E₂ DUTY FIN ES old SRC e₁ want full e₂ duty fin es src
  have h₁ : E₁ = e₁.begin t :=
    ite_begin t d ((d.spreadOf n).isNone && (periodTaps (setUnits x.period) u).2) (periodClamped_begin n t d)
  have h₂ : E₂ = e₂.begin t := by
    unfold E₂ FULL WANT
    rw [h₁]
    exact ite_begin t e₁ full (dutyClamped_begin n t e₁)
  unfold SRC ES FIN DUTY FULL WANT
  rw [h₂, h₁]
  rfl

theorem atPeak_eq : d.atPeak n = (let e := d.setLeg n { d.leg n with peakDone := true }
    if !(d.legCfg n).peakBoundary then e
    else match (d.leg n).latched with
      | some x =>
        if decide (x.at' + leadTaps ≤ (d.leg n).peak (d.unitOf n)) && !(e.staleStep n).setMoves n x then
          ((e.staleStep n).applySet n x).peakLaid n (d.unitOf n) ((d.leg n).peak (d.unitOf n)) x (d.leg n)
        else e.staleStep n
      | none => e.staleStep n) := (rfl)

theorem atPeak_begin : (d.begin t).atPeak n = (d.atPeak n).begin t := by
  rw [atPeak_eq, atPeak_eq]
  extract_lets SRC E src e
  rw [apply_ite (Dev.begin t)]
  refine if_congr Iff.rfl rfl ?_
  have hE : E.staleStep n = (e.staleStep n).begin t := staleStep_begin n t e
  rw [begin_leg, hE]
  cases (d.leg n).latched with
  | none => rfl
  | some x =>
    dsimp only
    rw [apply_ite (Dev.begin t), applySet_begin, ← peakLaid_begin]
    rfl

theorem nextLevel_begin (lvl : Bool) (es : List (Nat × Bool)) : (d.begin t).nextLevel n lvl es = d.nextLevel n lvl es := by
  unfold Dev.nextLevel
  extract_lets SRC E₁ E₂ s0 src e₁ e₂ s0'
  have h₂ : E₂ = e₂.begin t := by
    unfold E₂
    exact ite_begin t e₁ ((e₁.legCfg n).centre && !(e₁.leg n).peakDone) (atPeak_begin n t e₁)
  unfold s0
  rw [h₂, takeGroup_begin, enterPeriod_begin]
  rfl

theorem shortPulse_begin (up : Bool) (on : Nat) (rest : List (Nat × Bool)) :
    (d.begin t).shortPulse n up on rest = d.shortPulse n up on rest := by
  unfold Dev.shortPulse
  rw [nextLevel_begin]
  rfl

end

end Sys2Proof.Machine
end

section
/-!
SUPPORT. Edges, turn-ons and refresh of one leg (R181, R182, R187 to R189, R202), and O28.
-/
namespace Sys2Proof.Machine

/-! ## What turning a leg leaves -/

/-- The level of s and the edges laid. -/
def Leg.waveform (l : Leg) : Bool × List (Nat × Bool) := (l.s, l.edges)

section
variable (c : LegCfg) (high : Bool) (t : Nat) (l : Leg)

@[simp] theorem Leg.offBy_waveform : (l.offBy c high t).waveform = l.waveform := by unfold Leg.offBy; split <;> rfl

@[simp] theorem Leg.offHs_waveform : (l.offHs c t).waveform = l.waveform := by
  unfold Leg.offHs
  split
  · rw [Leg.offBy_waveform]; rfl
  · rfl

@[simp] theorem Leg.offLs_waveform : (l.offLs c t).waveform = l.waveform := by
  unfold Leg.offLs
  split
  · rw [Leg.offBy_waveform]; rfl
  · rfl

@[simp] theorem Leg.schedule_waveform : (l.schedule high t).waveform = l.waveform := by unfold Leg.schedule; split_ifs <;> rfl

@[simp] theorem Leg.offLs_hs_eq : (l.offLs c t).hs = l.hs := congrArg Prod.fst (Leg.offLs_switches c t l)

/-- A switch that is off and not scheduled is scheduled for its instant (R181). -/
theorem Leg.schedule_none (hoff : (if high then l.hs else l.ls) = false) (hnone : l.turnOn = none) :
    (l.schedule high t).turnOn = some ⟨high, t, false⟩ := by
  unfold Leg.schedule
  rw [if_neg (by simp [hoff]), if_neg (by simp [hnone])]

/-- An edge of s: the opposite switch off, its scheduled turn-on forgotten, the selected one scheduled (R181). -/
def Leg.turned (up : Bool) (off on : Nat) (l : Leg) : Leg :=
  let l := if up then l.offLs c off else l.offHs c off
  let l := if l.turnOn.any (fun x => x.high != up) then { l with turnOn := none } else l
  l.schedule up on

variable {c l}

theorem Leg.turned_fields (up : Bool) (off on : Nat) (hoff : (if up then l.hs else l.ls) = false) :
    (if up then (l.turned c up off on).ls else (l.turned c up off on).hs) = false ∧
      (if up then (l.turned c up off on).hs else (l.turned c up off on).ls) = false ∧
      (l.turned c up off on).turnOn.any (fun x => x.high == up) = true ∧
      (l.turnOn = none → (l.turned c up off on).turnOn = some ⟨up, on, false⟩) ∧
      (l.turned c up off on).waveform = l.waveform := by
  unfold Leg.turned
  extract_lets x y
  have hx : (if up then x.ls else x.hs) = false ∧ (if up then x.hs else x.ls) = false ∧ x.turnOn = l.turnOn ∧
      x.waveform = l.waveform := by
    unfold x
    cases up
    · exact ⟨Leg.offHs_hs _ _ _, (Leg.offHs_ls _ _ _).trans hoff, Leg.offHs_turnOn _ _ _, Leg.offHs_waveform _ _ _⟩
    · exact ⟨Leg.offLs_ls _ _ _, (Leg.offLs_hs_eq _ _ _).trans hoff, Leg.offLs_turnOn _ _ _, Leg.offLs_waveform _ _ _⟩
  obtain ⟨hopp, hown, hturn, hwave⟩ := hx
  have hy : y.hs = x.hs ∧ y.ls = x.ls ∧ (x.turnOn = none → y.turnOn = none) ∧ y.waveform = x.waveform := by
    unfold y
    split
    · exact ⟨rfl, rfl, fun _ => rfl, rfl⟩
    · exact ⟨rfl, rfl, id, rfl⟩
  obtain ⟨hhs, hls, hnone, hwave'⟩ := hy
  have hown' : (if up then y.hs else y.ls) = false := by rw [hhs, hls]; exact hown
  refine ⟨?_, ?_, Leg.schedule_any up on y hown', fun h => Leg.schedule_none up on y hown' (hnone (hturn.trans h)), ?_⟩
  · rw [Leg.schedule_ls, Leg.schedule_hs, hhs, hls]; exact hopp
  · rw [Leg.schedule_ls, Leg.schedule_hs]; exact hown'
  · rw [Leg.schedule_waveform, hwave', hwave]

end

/-! ## Edges (R181, R182) -/

/-- The leg's device once s has taken an edge. -/
abbrev Dev.risen (n : Nat) (up : Bool) (rest : List (Nat × Bool)) (d : Dev) : Dev :=
  d.setLeg n { d.leg n with s := up, edges := rest }

section
variable {n e t : Nat} {up : Bool} {rest : List (Nat × Bool)} {d : Dev}

/-- The computed instant of the turn-on of an edge at e (R181). -/
abbrev Dev.onAt (n e : Nat) (up : Bool) (d : Dev) : Nat := e + if up then (d.legCfg n).dtLH else (d.legCfg n).dtHL

/-- An edge of a released leg outside refresh, whose switch is off, drops its pulse or turns the leg. -/
theorem edge_eq (hn : n < 48) (hlive : (d.leg n).live = true) (hrefresh : (d.leg n).refresh = none)
    (hdrop : (d.leg n).dropping = false) (hoff : (if up then (d.leg n).hs else (d.leg n).ls) = false) :
    ((d.risen n up rest).shortPulse n up (d.onAt n e up) rest = true →
      d.edge n up e rest = (d.risen n up rest).dropPulse n) ∧
    ((d.risen n up rest).shortPulse n up (d.onAt n e up) rest = false →
      d.edge n up e rest = (d.risen n up rest).setLeg n
        (((d.risen n up rest).leg n).turned (d.legCfg n) up (floorTo (d.legCfg n).res e) (d.onAt n e up))) := by
  have hleg : (d.risen n up rest).leg n = { d.leg n with s := up, edges := rest } := leg_setLeg_same _ d hn
  have hlive' : ((d.risen n up rest).leg n).live = true := by rw [hleg]; exact hlive
  have hrefresh' : ((d.risen n up rest).leg n).refresh = none := by rw [hleg]; exact hrefresh
  have hdrop' : ((d.risen n up rest).leg n).dropping = false := by rw [hleg]; exact hdrop
  have hoff' : (if up then ((d.risen n up rest).leg n).hs else ((d.risen n up rest).leg n).ls) = false := by
    rw [hleg]; exact hoff
  unfold Dev.edge
  dsimp only
  rw [if_neg (by simp [hlive', hrefresh']), if_neg (by simp [hdrop']), if_neg (by simp [hoff'])]
  refine ⟨fun h => if_pos h, fun h => ?_⟩
  rw [if_neg (by rw [h]; exact Bool.false_ne_true)]
  rfl

theorem switchEdge_due (hhalt : d.pw.halted = false) (hedges : (d.leg n).edges = (e, up) :: rest) (hdue : e ≤ t) :
    d.switchEdge n up t = d.edge n up e rest := by
  unfold Dev.switchEdge
  rw [if_neg (by simp [hhalt]), hedges]
  exact if_pos (by simp [hdue])

theorem dropPulse_frame : d.LegFrame n (d.dropPulse n) :=
  ((Dev.LegFrame.setLeg _).trans (Dev.LegFrame.put _ _ _ _)).trans (Dev.LegFrame.put _ _ _ _)

theorem dropPulse_leg (hn : n < 48) : (d.dropPulse n).leg n = { d.leg n with dropping := true } := leg_setLeg_same _ d hn

theorem dropPulse_counts :
    (d.dropPulse n).getAt (pLEG n) LEG.CNT_DROPS 0 = min 65535 (d.getAt (pLEG n) LEG.CNT_DROPS 0 + 1) := by
  rw [Dev.dropPulse, Dev.raise_eq, getAt_putAt_other _ _ (by decide), getAt_count _ (by decide)]
  rfl

end

theorem land_leg (t n : Nat) (d : Dev) (s : State) : (s.land t d).dev.leg n = d.leg n := (rfl)

section
variable (n : Fin 48) (up : Bool) (t : Nat) (s : State)

theorem exec_switchEdge : exec (if up then .switchRise n t else .switchFall n t) s =
    .next (s.land t ((s.dev.begin t).switchEdge n up t)) := by
  cases up
  · rfl
  · rfl

/-- An edge that is due: s takes its level; its pulse is dropped where it would be short, and else the leg turns. -/
theorem edge_turns {e : Nat} {rest : List (Nat × Bool)} (hhalt : s.dev.pw.halted = false)
    (hedges : (s.dev.leg n).edges = (e, up) :: rest) (hdue : e ≤ t) (hlive : (s.dev.leg n).live = true)
    (hrefresh : (s.dev.leg n).refresh = none) (hdrop : (s.dev.leg n).dropping = false)
    (hoff : (if up then (s.dev.leg n).hs else (s.dev.leg n).ls) = false) :
    let c := s.dev.legCfg n
    let on := e + if up then c.dtLH else c.dtHL
    let short := (s.dev.setLeg n { s.dev.leg n with s := up, edges := rest }).shortPulse n up on rest
    ∃ s', exec (if up then .switchRise n t else .switchFall n t) s = .next s' ∧ (s'.dev.leg n).s = up ∧
      (s'.dev.leg n).edges = rest ∧
      (short = false → (if up then (s'.dev.leg n).ls else (s'.dev.leg n).hs) = false ∧
        (if up then (s'.dev.leg n).hs else (s'.dev.leg n).ls) = false ∧
        (s'.dev.leg n).turnOn.any (fun x => x.high == up) = true ∧
        ((s.dev.leg n).turnOn = none → (s'.dev.leg n).turnOn = some ⟨up, on, false⟩)) ∧
      (short = true → (s'.dev.leg n).hs = (s.dev.leg n).hs ∧ (s'.dev.leg n).ls = (s.dev.leg n).ls ∧
        (s'.dev.leg n).turnOn = (s.dev.leg n).turnOn ∧ (s'.dev.leg n).dropping = true ∧
        s'.dev.get (pLEG n) LEG.CNT_DROPS = min 65535 (s.dev.get (pLEG n) LEG.CNT_DROPS + 1)) ∧
      (∀ m, m ≠ n.val → s'.dev.leg m = s.dev.leg m) ∧ s.memSame s' := by
  intro c on short
  have hedge : (s.dev.begin t).switchEdge n up t = (s.dev.begin t).edge n up e rest := switchEdge_due hhalt hedges hdue
  have hleg : ((s.dev.begin t).risen n up rest).leg n = { s.dev.leg n with s := up, edges := rest } :=
    leg_setLeg_same _ (s.dev.begin t) n.isLt
  have hshort : ((s.dev.begin t).risen n up rest).shortPulse n up on rest = short :=
    shortPulse_begin n t (s.dev.risen n up rest) up on rest
  obtain ⟨hdrops, hturns⟩ := edge_eq (e := e) (rest := rest) (d := s.dev.begin t) n.isLt hlive hrefresh hdrop hoff
  refine ⟨_, exec_switchEdge n up t s, ?_⟩
  rw [hedge]
  cases hb : short with
  | false =>
    rw [hturns (hshort.trans hb)]
    obtain ⟨hother, -, hmem⟩ := Dev.LegFrame.landed (n := n) (s := s) (t := t) ((Dev.LegFrame.setLeg _).trans
      (Dev.LegFrame.setLeg (d := (s.dev.begin t).risen n up rest)
        ((((s.dev.begin t).risen n up rest).leg n).turned c up (floorTo c.res e) on)))
    rw [land_leg, leg_setLeg_same _ _ n.isLt]
    obtain ⟨hopp, hown, hany, hnone, hwave⟩ := Leg.turned_fields (c := c) (l := ((s.dev.begin t).risen n up rest).leg n) up
      (floorTo c.res e) on (by rw [hleg]; exact hoff)
    have hlevel : (((s.dev.begin t).risen n up rest).leg n).waveform = (up, rest) := by rw [hleg]; rfl
    have hwave' := hwave.trans hlevel
    exact ⟨congrArg Prod.fst hwave', congrArg Prod.snd hwave',
      fun _ => ⟨hopp, hown, hany, fun h => hnone (by rw [hleg]; exact h)⟩, fun h => absurd h Bool.false_ne_true, hother, hmem⟩
  | true =>
    rw [hdrops (hshort.trans hb)]
    obtain ⟨hother, -, hmem⟩ := Dev.LegFrame.landed (s := s) (t := t) ((Dev.LegFrame.setLeg _).trans
      (dropPulse_frame (n := n) (d := (s.dev.begin t).risen n up rest)))
    rw [land_leg, dropPulse_leg n.isLt, hleg]
    refine ⟨rfl, rfl, fun h => absurd h (by decide), fun _ => ⟨rfl, rfl, rfl, rfl, ?_⟩, hother, hmem⟩
    rw [Dev.get_eq, land_getAt, dropPulse_counts, setLeg_getAt]
    rfl

end

/-! ## Turn-ons (R202) -/

section
variable (n : Fin 48) (t : Nat) (s : State)

theorem exec_deadTimeEnd (hhalt : s.dev.pw.halted = false) :
    exec (.deadTimeEnd n t) s = .next (s.land t ((s.dev.begin t).placeTurnOn n t)) := by
  show Host.Outcome.next (s.land t (if (s.dev.begin t).pw.halted then s.dev.begin t else (s.dev.begin t).placeTurnOn n t)) = _
  rw [if_neg (by simp [hhalt])]

end

section
variable {n t : Nat} {d : Dev} {x : TurnOn}

/-- The instant of a turn-on that is due: its own where it did not wait, and else the first tick from t on (R202). -/
abbrev Dev.placedAt (n t : Nat) (x : TurnOn) (d : Dev) : Nat := if x.waiting then d.nextTick t else ceilTo (d.legCfg n).res x.due

/-- A turn-on turns its own switch on and leaves the other (R202). -/
theorem Leg.placed_switches (c : LegCfg) (high : Bool) (on : Nat) (l : Leg) :
    (if high then (l.placed c high on).hs else (l.placed c high on).ls) = true ∧
      (if high then (l.placed c high on).ls = l.ls else (l.placed c high on).hs = l.hs) := by
  obtain ⟨hhs, hls, -⟩ := Leg.placed_fields c high on l
  rw [hhs, hls]
  cases high
  · exact ⟨rfl, rfl⟩
  · exact ⟨rfl, rfl⟩

/-- A due turn-on whose opposite switch reads off is placed. -/
theorem placeTurnOn_places (hturn : (d.leg n).turnOn = some x) (hdue : ceilTo (d.legCfg n).res x.due ≤ t)
    (hopp : (if (d.leg n).turnsHigh x then (d.leg n).gsLs else (d.leg n).gsHs) = false) :
    d.placeTurnOn n t = d.setLeg n ((d.leg n).placed (d.legCfg n) ((d.leg n).turnsHigh x) (d.placedAt n t x)) := by
  rw [placeTurnOn_some hturn]
  dsimp only
  rw [if_neg (by omega), if_neg (c := (if (d.leg n).turnsHigh x then (d.leg n).gsLs else (d.leg n).gsHs) = true) (by simp [hopp])]

/-- A due turn-on whose opposite switch reads on waits. -/
theorem placeTurnOn_waits (hturn : (d.leg n).turnOn = some x) (hdue : ceilTo (d.legCfg n).res x.due ≤ t)
    (hopp : (if (d.leg n).turnsHigh x then (d.leg n).gsLs else (d.leg n).gsHs) = true) :
    d.placeTurnOn n t = if x.waiting then d
      else (d.setLeg n { d.leg n with turnOn := some { x with waiting := true } }).count (pLEG n) LEG.IL_DELAYS := by
  rw [placeTurnOn_some hturn]
  dsimp only
  rw [if_neg (by omega), if_pos hopp]

end

section
variable (n : Fin 48) (t : Nat) (s : State)

/-- A turn-on that is due happens while the opposite feedback is inactive, and waits otherwise. -/
theorem deadTimeEnd_turnsOn {x : TurnOn} (hhalt : s.dev.pw.halted = false) (hturn : (s.dev.leg n).turnOn = some x)
    (hdue : ceilTo (s.dev.legCfg n).res x.due ≤ t) :
    let high := if (s.dev.leg n).refresh = some .after then (s.dev.leg n).s else x.high
    let on := if x.waiting then s.dev.nextTick t else ceilTo (s.dev.legCfg n).res x.due
    ∃ s', exec (.deadTimeEnd n t) s = .next s' ∧
      ((if high then (s.dev.leg n).gsLs else (s.dev.leg n).gsHs) = false →
        (if high then (s'.dev.leg n).hs else (s'.dev.leg n).ls) = true ∧ (s'.dev.leg n).turnOn = none ∧
        (if high then (s'.dev.leg n).ls = (s.dev.leg n).ls else (s'.dev.leg n).hs = (s.dev.leg n).hs) ∧
        (s'.dev.leg n).blanks = (s.dev.leg n).blanks ++ [(on + 512, on + 512 + (s.dev.legCfg n).blank)] ∧
        ((s.dev.leg n).refresh = some .before → (s'.dev.leg n).refresh = some (.pulse (on + (s.dev.legCfg n).width))) ∧
        ((s.dev.leg n).refresh = some .after → (s'.dev.leg n).refresh = none)) ∧
      ((if high then (s.dev.leg n).gsLs else (s.dev.leg n).gsHs) = true →
        (s'.dev.leg n).hs = (s.dev.leg n).hs ∧ (s'.dev.leg n).ls = (s.dev.leg n).ls ∧
        (s'.dev.leg n).turnOn = some { x with waiting := true } ∧
        s'.dev.get (pLEG n) LEG.IL_DELAYS = (if x.waiting then s.dev.get (pLEG n) LEG.IL_DELAYS
          else min 65535 (s.dev.get (pLEG n) LEG.IL_DELAYS + 1))) ∧
      (∀ m, m ≠ n.val → s'.dev.leg m = s.dev.leg m) ∧ s.memSame s' := by
  intro high on
  refine ⟨_, exec_deadTimeEnd n t s hhalt, ?_⟩
  cases hopp : (if high then (s.dev.leg n).gsLs else (s.dev.leg n).gsHs) with
  | false =>
    rw [placeTurnOn_places (d := s.dev.begin t) hturn hdue hopp]
    obtain ⟨hother, -, hmem⟩ := Dev.LegFrame.landed (n := n) (s := s) (t := t)
      (Dev.LegFrame.setLeg ((s.dev.leg n).placed (s.dev.legCfg n) high on))
    obtain ⟨-, -, hnone, -, -, hblanks⟩ := Leg.placed_fields (s.dev.legCfg n) high on (s.dev.leg n)
    obtain ⟨hown, hother'⟩ := Leg.placed_switches (s.dev.legCfg n) high on (s.dev.leg n)
    have hrefresh := Leg.placed_refresh (s.dev.legCfg n) high on (s.dev.leg n)
    rw [land_leg, leg_setLeg_same _ _ n.isLt]
    exact ⟨fun _ => ⟨hown, hnone, hother', hblanks, fun h => hrefresh.trans (by rw [h]; rfl),
      fun h => hrefresh.trans (by rw [h]; rfl)⟩, fun h => absurd h Bool.false_ne_true, hother, hmem⟩
  | true =>
    rw [placeTurnOn_waits (d := s.dev.begin t) hturn hdue hopp]
    cases hw : x.waiting with
    | false =>
      obtain ⟨hother, -, hmem⟩ := Dev.LegFrame.landed (n := n) (s := s) (t := t) ((Dev.LegFrame.setLeg
        { s.dev.leg n with turnOn := some { x with waiting := true } }).trans
        (Dev.LegFrame.put (pLEG n) LEG.IL_DELAYS 0 (min LEG.IL_DELAYS.max (s.dev.get (pLEG n) LEG.IL_DELAYS + 1))))
      rw [if_neg Bool.false_ne_true, land_leg, Dev.count_eq, putAt_leg, leg_setLeg_same _ _ n.isLt, ← Dev.count_eq, Dev.get_eq,
        land_getAt, getAt_count _ (by decide), setLeg_getAt]
      exact ⟨fun h => absurd h (by decide), fun _ => ⟨rfl, rfl, rfl, rfl⟩, hother, hmem⟩
    | true =>
      have hsame : { x with waiting := true } = x := by cases x; cases hw; rfl
      obtain ⟨hother, -, hmem⟩ := Dev.LegFrame.landed (n := n) (s := s) (t := t) (.refl _ _ _)
      rw [if_pos rfl, land_leg, hsame]
      exact ⟨fun h => absurd h (by decide), fun _ => ⟨rfl, rfl, hturn, rfl⟩, hother, hmem⟩

end

/-! ## Refresh (R187, R189) -/

section
variable (n : Fin 48) (t : Nat) (s : State)

theorem exec_refresh : exec (.refresh n t) s = .next (s.land t ((s.dev.begin t).refresh n t)) := (rfl)
theorem exec_refreshPulseEnd : exec (.refreshPulseEnd n t) s = .next (s.land t ((s.dev.begin t).refreshEnd n t)) := (rfl)
theorem exec_bootUvFullDuty : exec (.bootUvFullDuty n t) s = .next (s.land t ((s.dev.begin t).bootUv n t)) := (rfl)

end

section
variable {n t r : Nat} {d : Dev}

/-- The leg at the start of a refresh: its high side off, its low side scheduled (R187). -/
def Leg.refreshed (c : LegCfg) (r : Nat) (l : Leg) : Leg :=
  ({ l.offHs c (floorTo c.res r) with refresh := some .before, dropping := false, turnOn := none } : Leg).schedule false (r + c.dtHL)

theorem Leg.refreshed_fields (c : LegCfg) (r : Nat) (l : Leg) : (l.refreshed c r).hs = false ∧ (l.refreshed c r).ls = l.ls ∧
    (l.refreshed c r).refresh = some .before ∧ (l.ls = false → (l.refreshed c r).turnOn = some ⟨false, r + c.dtHL, false⟩) := by
  unfold Leg.refreshed
  refine ⟨(Leg.schedule_hs ..).trans (Leg.offHs_hs ..), (Leg.schedule_ls ..).trans (Leg.offHs_ls ..), Leg.schedule_refresh ..,
    fun h => Leg.schedule_none _ _ _ ?_ rfl⟩
  exact (Leg.offHs_ls ..).trans h

/-- A refresh that is due (R187). -/
theorem refresh_due (hhalt : d.pw.halted = false) (hen : d.flag (pLEG n) LEG.CFG_REFRESH_EN = true)
    (hlive : (d.leg n).live = true) (hnone : (d.leg n).refresh = none) (hdue : d.refreshDue n = some r) (hr : r ≤ t) :
    d.refresh n t = ((d.setLeg n ((d.leg n).refreshed (d.legCfg n) r)).countWrap (pLEG n) LEG.REFRESH_CNT).raise (pLEG n)
      LEG.IRQ_RAW_REFRESH := by
  have hen' : (d.legCfg n).refreshEn = true := hen
  unfold Dev.refresh
  dsimp only
  rw [hdue]
  exact if_pos (by simp [hen', hlive, hhalt, hr, hnone])

/-- The end of a refresh pulse (R187). -/
theorem refreshEnd_due {f : Nat} (hhalt : d.pw.halted = false) (hpulse : (d.leg n).refresh = some (.pulse f))
    (hdue : floorTo (d.legCfg n).res f ≤ t) :
    d.refreshEnd n t = d.setLeg n { (d.leg n).offLs (d.legCfg n) (floorTo (d.legCfg n).res f) with
      refresh := some .after, turnOn := some ⟨(d.leg n).s, f + (d.legCfg n).dtLH, false⟩ } := by
  unfold Dev.refreshEnd
  dsimp only
  rw [hpulse]
  exact if_pos (by simp [hdue, hhalt])

/-- A high side that has been on for the interval without refresh trips the leg (R189). -/
theorem bootUv_due (hhalt : d.pw.halted = false) (hen : d.flag (pLEG n) LEG.CFG_REFRESH_EN = false)
    (hdue : d.refreshDue n = some r) (hr : r ≤ t) : d.bootUv n t = d.trip n 0x16 false r := by
  have hen' : (d.legCfg n).refreshEn = false := hen
  unfold Dev.bootUv
  rw [hdue]
  exact if_pos (by simp [hen', hhalt, hr])

end

section
variable (n : Fin 48) (s : State)

/-- A due refresh turns the high side off and schedules the low side. -/
theorem refresh_turns {t r : Nat} (hhalt : s.dev.pw.halted = false) (hen : s.dev.flag (pLEG n) LEG.CFG_REFRESH_EN = true)
    (hlive : (s.dev.leg n).live = true) (hnone : (s.dev.leg n).refresh = none) (hdue : s.dev.refreshDue n = some r) (hr : r ≤ t) :
    ∃ s', exec (.refresh n t) s = .next s' ∧ (s'.dev.leg n).hs = false ∧ (s'.dev.leg n).ls = (s.dev.leg n).ls ∧
      (s'.dev.leg n).refresh = some .before ∧ s'.dev.flag (pLEG n) LEG.IRQ_RAW_REFRESH = true ∧
      ((s.dev.leg n).ls = false → (s'.dev.leg n).turnOn = some ⟨false, r + (s.dev.legCfg n).dtHL, false⟩) ∧
      (∀ m, m ≠ n.val → s'.dev.leg m = s.dev.leg m) ∧ s.memSame s' := by
  refine ⟨_, exec_refresh n t s, ?_⟩
  rw [refresh_due (d := s.dev.begin t) hhalt hen hlive hnone hdue hr, Dev.countWrap_eq, Dev.raise_eq]
  obtain ⟨hother, -, hmem⟩ := Dev.LegFrame.landed (s := s) (t := t) (((Dev.LegFrame.setLeg (n := n) _).trans
    (Dev.LegFrame.put _ _ _ _)).trans (Dev.LegFrame.put _ _ _ _))
  obtain ⟨hhs, hls, hbefore, hturn⟩ := Leg.refreshed_fields (s.dev.legCfg n) r (s.dev.leg n)
  have hleg {v w : Nat} : (s.land t ((((s.dev.begin t).setLeg n ((s.dev.leg n).refreshed (s.dev.legCfg n) r)).putAt (pLEG n)
      LEG.REFRESH_CNT 0 v).putAt (pLEG n) LEG.IRQ_RAW_REFRESH 0 w)).dev.leg n =
      (s.dev.leg n).refreshed (s.dev.legCfg n) r := by
    rw [land_leg, putAt_leg, putAt_leg, leg_setLeg_same _ _ n.isLt]
  refine ⟨(congrArg Leg.hs hleg).trans hhs, (congrArg Leg.ls hleg).trans hls, (congrArg Leg.refresh hleg).trans hbefore, ?_,
    fun h => (congrArg Leg.turnOn hleg).trans (hturn h), hother, hmem⟩
  rw [Dev.flag_eq, land_getAt, getAt_putAt_fits _ (by decide) (by decide)]
  rfl

/-- The end of a refresh pulse turns the low side off and schedules the switch that s selects. -/
theorem refreshPulseEnd_turns {t f : Nat} (hhalt : s.dev.pw.halted = false) (hpulse : (s.dev.leg n).refresh = some (.pulse f))
    (hdue : floorTo (s.dev.legCfg n).res f ≤ t) :
    ∃ s', exec (.refreshPulseEnd n t) s = .next s' ∧ (s'.dev.leg n).ls = false ∧
      (s'.dev.leg n).hs = (s.dev.leg n).hs ∧ (s'.dev.leg n).refresh = some .after ∧
      (s'.dev.leg n).turnOn = some ⟨(s.dev.leg n).s, f + (s.dev.legCfg n).dtLH, false⟩ ∧
      s.regsBut [] s' ∧ (∀ m, m ≠ n.val → s'.dev.leg m = s.dev.leg m) ∧ s.memSame s' := by
  refine ⟨_, exec_refreshPulseEnd n t s, ?_⟩
  rw [refreshEnd_due (d := s.dev.begin t) hhalt hpulse hdue]
  obtain ⟨hother, -, hmem⟩ := Dev.LegFrame.landed (n := n) (s := s) (t := t) (Dev.LegFrame.setLeg
    { (s.dev.leg n).offLs (s.dev.legCfg n) (floorTo (s.dev.legCfg n).res f) with
      refresh := some .after, turnOn := some ⟨(s.dev.leg n).s, f + (s.dev.legCfg n).dtLH, false⟩ })
  rw [land_leg, leg_setLeg_same _ _ n.isLt]
  exact ⟨Leg.offLs_ls _ _ _, Leg.offLs_hs_eq _ _ _, rfl, rfl, fun _ _ _ => rfl, hother, hmem⟩

end

/-! ## The trip of a leg (R189, R213) -/

/-- The device without registers and power stage. -/
def Dev.sansStage (d : Dev) : Dev := { d with regs := [], pw := .reset }

/-- A frame of what a trip may change once it has settled. -/
abbrev Dev.StageFrame (d e : Dev) : Prop := Dev.Frame Dev.sansStage (onPages powerPage) d e

section
variable {n : Nat} (hn : n < 48) (cause : Nat) (high : Bool) (t : Nat) (d : Dev)
include hn

/-- A trip sets the leg's latch, and marks it for the refresh where a bootstrap undervoltage is its cause. -/
theorem tripCore_latch : ((d.tripCore n cause high t).tripOf n).set = true ∧ ((d.tripCore n cause high t).tripOf n).bootUv =
    ((d.tripOf n).bootUv || decide (cause = 0x16) || decide (cause = 0x17)) := by
  unfold Dev.tripCore
  extract_lets r held p x src e uv others e₁ e₂ e₃ e₄ e₅
  split
  · next h => rw [tripOf_setTrip_same _ _ hn]; exact ⟨h, rfl⟩
  · have hlatch (y : Dev) : (y.escalate n src).tripOf n = y.tripOf n :=
      (escalate_upper_frame y n src).field (fun z => z.tripOf n) (fun _ => rfl)
    have hcode : e₂.tripOf n = e₁.tripOf n := by
      unfold e₂
      split
      · rfl
      · rfl
    have hput (g : FieldSpec) (v : Nat) (y : Dev) : (y.putAt p g 0 v).tripOf n = y.tripOf n := rfl
    have htrip : (e₅.escalate n src).tripOf n = e₁.tripOf n :=
      (hlatch _).trans ((hput _ _ _).trans ((hput LEG.CNT_PROT_TRIPS _ _).trans ((hput _ _ _).trans hcode)))
    rw [htrip, tripOf_setTrip_same _ _ hn]
    exact ⟨rfl, rfl⟩

/-- An event bit that the cause has raised stays raised over the rest of the trip. -/
theorem tripCore_event {f : FieldSpec} (hoff : f.off = 0x010) (hapart : LEG.IRQ_RAW_TRIP.apart f = true) :
    (d.tripCore n cause high t).getAt (pLEG n) f 0 = (d.causeEvent n cause).getAt (pLEG n) f 0 := by
  unfold Dev.tripCore
  extract_lets r held p x src e uv others e₁ e₂ e₃ e₄ e₅
  split
  · rfl
  · have hother {g : FieldSpec} (v : Nat) (y : Dev) (hg : g.off ≠ 0x010) : (y.putAt p g 0 v).getAt p f 0 = y.getAt p f 0 :=
      getAt_putAt_other v y (by omega)
    have hcode : e₂.getAt p f 0 = e.getAt p f 0 := by
      unfold e₂
      split
      · rfl
      · exact (hother _ _ (by decide)).trans (hother _ _ (by decide))
    have hcount : e₄.getAt p f 0 = e.getAt p f 0 :=
      ((hother _ _ (by decide)).trans (hother _ _ (by decide))).trans hcode
    have hraise : e₅.getAt p f 0 = e₄.getAt p f 0 := getAt_putAt_apart _ _ (by decide) hapart
    rw [(escalate_upper_frame _ n src).getAt (by rw [protReg_leg hn (by omega), hoff]; rfl), hraise, hcount]

/-- A trip turns its leg off (R213). -/
theorem trip_unlit : ((d.trip n cause high t).leg n).unlit :=
  settle_unlit hn (.inl (tripCore_latch hn cause high t d).1)

theorem trip_stageFrame : d.StageFrame (d.trip n cause high t) :=
  ((tripCore_frame hn cause high t d).mono (fun _ => rfl) (fun _ ha => by rw [protReg, ha, Bool.false_and])).trans
    ((settle_frame _ _).mono (fun _ => rfl) (fun _ ha => ha))

end

/-- A high side that has been on for the interval without refresh trips its leg (R189). -/
theorem bootUvFullDuty_trips (n : Fin 48) (t r : Nat) (s : State) (hhalt : s.dev.pw.halted = false)
    (hen : s.dev.flag (pLEG n) LEG.CFG_REFRESH_EN = false) (hdue : s.dev.refreshDue n = some r) (hr : r ≤ t) :
    ∃ s', exec (.bootUvFullDuty n t) s = .next s' ∧ (s'.dev.tripOf n).set = true ∧ (s'.dev.tripOf n).bootUv = true ∧
      (s'.dev.leg n).hs = false ∧ (s'.dev.leg n).ls = false ∧
      s'.dev.flag (pLEG n) LEG.IRQ_RAW_BOOT_UV = true ∧ s'.dev.triad = s.dev.triad ∧ s.memSame s' := by
  refine ⟨_, exec_bootUvFullDuty n t s, ?_⟩
  rw [bootUv_due (d := s.dev.begin t) hhalt hen hdue hr]
  have hframe := trip_stageFrame n.isLt 0x16 false r (s.dev.begin t)
  have htrip : ((s.dev.begin t).trip n 0x16 false r).tripOf n = ((s.dev.begin t).tripCore n 0x16 false r).tripOf n :=
    (settle_settleFrame _ _).field (fun x => x.tripOf n) (fun _ => rfl)
  obtain ⟨hset, huv⟩ := tripCore_latch n.isLt 0x16 false r (s.dev.begin t)
  obtain ⟨hhs, hls, -⟩ := trip_unlit n.isLt 0x16 false r (s.dev.begin t)
  refine ⟨(congrArg TripLatch.set htrip).trans hset, (congrArg TripLatch.bootUv htrip).trans (huv.trans (by simp)), hhs, hls, ?_,
    hframe.field (fun x => x.triad) (fun _ => rfl),
    land_memSame (hframe.field (fun x => x.wr) (fun _ => rfl)) (hframe.field (fun x => x.wipe) (fun _ => rfl))⟩
  rw [Dev.flag_eq, land_getAt, Dev.trip, settle_legField n.isLt _ _ (by decide), tripCore_event n.isLt _ _ _ _ rfl (by decide),
    Dev.causeEvent, Dev.raise_eq, getAt_putAt_fits _ (by decide) (by decide)]
  rfl

/-- Settles O28: the five cases one by one. -/
theorem edgesDeadTimeAndRefresh : Obligations.EdgesDeadTimeAndRefresh := by
  unfold Obligations.EdgesDeadTimeAndRefresh
  exact ⟨fun n up _ t _ s => edge_turns n up t s, fun n t _ s => deadTimeEnd_turnsOn n t s, fun n _ _ s => refresh_turns n s,
    fun n _ _ s => refreshPulseEnd_turns n s, bootUvFullDuty_trips⟩

end Sys2Proof.Machine
end

section
/-!
SUPPORT. What the comparators and the feedback inputs record of a leg (R201, R206 to R208), and O33.
-/
namespace Sys2Proof.Machine

/-! ## The outputs of a comparator (R206) -/

section
variable {n : Nat} {hi pos was : Bool} {v : Int} {d : Dev}

/-- Beyond the threshold by its tolerance the output is active, and none is drawn. -/
theorem scOut_on (h : d.scTol n hi pos ≤ d.scDepth n hi pos was v) : d.scOut n hi pos was v = (true, d) := if_pos h

/-- Short of the level by the tolerance the output is inactive, and none is drawn. -/
theorem scOut_off (h : d.scDepth n hi pos was v < -d.scTol n hi pos) : d.scOut n hi pos was v = (false, d) := by
  have hpos : 0 ≤ d.scTol n hi pos := by unfold Dev.scTol; omega
  exact (if_neg (by omega)).trans (if_pos h)

/-- The hysteresis of an output that is active only adds to the depth. -/
theorem scDepth_mono : d.scDepth n hi pos false v ≤ d.scDepth n hi pos was v := by
  cases was
  · exact le_rfl
  · unfold Dev.scDepth
    extract_lets h x
    have hhyst : 0 ≤ h := by
      unfold h
      split
      all_goals decide
    have : (if false = true then h * 9375 else 0) ≤ (if true = true then h * 9375 else 0) := by
      simp only [Bool.false_eq_true, if_false, if_true]
      omega
    omega

/-- The output of one threshold of a comparator as it was last recorded. -/
def Leg.scWas (hi pos : Bool) (l : Leg) : Bool :=
  if hi then (if pos then l.scHiPos else l.scHiNeg) else (if pos then l.scLoPos else l.scLoNeg)

/-- The output of one threshold of a comparator that has seen a voltage. -/
abbrev seenOut (pos : Bool) (x : Bool × Bool × Dev) : Bool := if pos then x.1 else x.2.1

theorem scSee_eq (hi : Bool) (v : Int) (d : Dev) : d.scSee n hi v =
    (let a := d.scOut n hi true ((d.leg n).scWas hi true) v
     let b := a.2.scOut n hi false ((d.leg n).scWas hi false) v
     (a.1, b.1, b.2)) := by
  simp only [Dev.scSee, Leg.scWas, if_true, Bool.false_eq_true, if_false]

/-- What a comparator sees is the output of each threshold, up to what is drawn. -/
theorem scSee_out (hi pos : Bool) (v : Int) (d : Dev) :
    ∃ k, seenOut pos (d.scSee n hi v) = (({ d with free := k } : Dev).scOut n hi pos ((d.leg n).scWas hi pos) v).1 := by
  rw [scSee_eq]
  cases pos
  · obtain ⟨k, hk⟩ := scOut_draws (n := n) d hi true ((d.leg n).scWas hi true) v
    refine ⟨k, ?_⟩
    rw [← hk]
    exact if_neg Bool.false_ne_true
  · exact ⟨d.free, if_pos rfl⟩

theorem scSee_on (h : d.scTol n hi pos ≤ d.scDepth n hi pos false v) : seenOut pos (d.scSee n hi v) = true := by
  obtain ⟨k, hk⟩ := scSee_out (n := n) hi pos v d
  rw [hk, scOut_on (d := { d with free := k }) (le_trans h scDepth_mono)]

theorem scSee_off (h : d.scDepth n hi pos ((d.leg n).scWas hi pos) v < -d.scTol n hi pos) :
    seenOut pos (d.scSee n hi v) = false := by
  obtain ⟨k, hk⟩ := scSee_out (n := n) hi pos v d
  rw [hk, scOut_off (d := { d with free := k }) h]

end

/-! ## Recording them -/

/-- The leg with one output of a comparator set. -/
def Leg.setOut (hi pos level : Bool) (l : Leg) : Leg :=
  if hi then (if pos then { l with scHiPos := level } else { l with scHiNeg := level })
  else (if pos then { l with scLoPos := level } else { l with scLoNeg := level })

/-- The leg with both outputs of a comparator set. -/
def Leg.withSc (hi p q : Bool) (l : Leg) : Leg := (l.setOut hi true p).setOut hi false q

/-- The device once a comparator that has seen a voltage has recorded the outputs p and q. -/
abbrev Dev.scRecorded (n : Nat) (hi p q : Bool) (v : Int) (t : Nat) (d : Dev) : Dev :=
  ((d.scSee n hi v).2.2.setSc n hi true p t).setSc n hi false q t

/-- The device without leg n, its latch and the count of what was drawn. -/
def Dev.sansSc (n : Nat) (d : Dev) : Dev := { (d.setLeg n .reset).setTrip n .reset with free := 0 }

section
variable {n t : Nat} {hi p q : Bool} {v : Int} {d e : Dev}

theorem setTrip_leg (n m : Nat) (x : TripLatch) (d : Dev) : (d.setTrip n x).leg m = d.leg m := (rfl)

theorem Leg.withSc_switches (l : Leg) : (l.withSc hi p q).switches = l.switches := by cases hi <;> rfl
theorem Leg.withSc_blanks (l : Leg) : (l.withSc hi p q).blanks = l.blanks := by cases hi <;> rfl
theorem Leg.withSc_engOff (l : Leg) : (l.withSc hi p q).engOff = l.engOff := by cases hi <;> rfl

theorem Leg.withSc_was (pos : Bool) (l : Leg) : (l.withSc hi p q).scWas hi pos = if pos then p else q := by
  cases hi
  · cases pos <;> rfl
  · cases pos <;> rfl

theorem setSc_sansSc (pos level : Bool) : (d.setSc n hi pos level t).sansSc n = d.sansSc n := by
  unfold Dev.setSc Dev.sansSc Dev.setTrip Dev.setLeg
  simp only [Vector.setIfInBounds_setIfInBounds]

theorem scRecorded_sansSc : (d.scRecorded n hi p q v t).sansSc n = d.sansSc n := by
  obtain ⟨k, hk⟩ := scSee_draws (n := n) d hi v
  rw [Dev.scRecorded, setSc_sansSc, setSc_sansSc, hk]
  rfl

theorem setSc_leg (hn : n < 48) (pos level : Bool) : (d.setSc n hi pos level t).leg n = (d.leg n).setOut hi pos level :=
  (setTrip_leg _ _ _ _).trans (leg_setLeg_same _ d hn)

theorem setSc_tripSet (hn : n < 48) (pos level : Bool) : ((d.setSc n hi pos level t).tripOf n).set = (d.tripOf n).set := by
  unfold Dev.setSc
  extract_lets l l' x y
  rw [tripOf_setTrip_same _ _ hn]

theorem scRecorded_leg (hn : n < 48) : (d.scRecorded n hi p q v t).leg n = (d.leg n).withSc hi p q := by
  obtain ⟨k, hk⟩ := scSee_draws (n := n) d hi v
  have hdrawn : ({ d with free := k } : Dev).leg n = d.leg n := rfl
  rw [Dev.scRecorded, setSc_leg hn, setSc_leg hn, hk, hdrawn]
  rfl

theorem scRecorded_tripSet (hn : n < 48) : ((d.scRecorded n hi p q v t).tripOf n).set = (d.tripOf n).set := by
  obtain ⟨k, hk⟩ := scSee_draws (n := n) d hi v
  rw [Dev.scRecorded, setSc_tripSet hn, setSc_tripSet hn, hk]
  rfl

theorem leg_ofSansSc (h : e.sansSc n = d.sansSc n) {m : Nat} (hm : m ≠ n) : e.leg m = d.leg m := by
  have hleg (x : Dev) : (x.sansSc n).leg m = x.leg m := leg_setLeg_ne _ x hm
  rw [← hleg e, h, hleg]

theorem reg_ofSansSc (h : e.sansSc n = d.sansSc n) (a : Nat) : e.reg a = d.reg a := congrArg (fun x => x.reg a) h

theorem get_ofSansSc (h : e.sansSc n = d.sansSc n) (p : Nat) (f : FieldSpec) : e.get p f = d.get p f := by
  simp only [Dev.get, Dev.getAt, reg_ofSansSc h]

theorem flag_ofSansSc (h : e.sansSc n = d.sansSc n) (p : Nat) (f : FieldSpec) : e.flag p f = d.flag p f := by
  simp only [Dev.flag, get_ofSansSc h]

theorem legCfg_ofSansSc (h : e.sansSc n = d.sansSc n) : e.legCfg n = d.legCfg n := by
  have hboot : e.boot = d.boot := congrArg (fun x => x.boot) h
  have htaps : e.pw.tapsValid = d.pw.tapsValid := congrArg (fun x => x.pw.tapsValid) h
  have hres : e.edgeRes = d.edgeRes := by simp only [Dev.edgeRes, hboot, htaps]
  simp only [Dev.legCfg, Dev.wait, get_ofSansSc h, flag_ofSansSc h, hboot, hres]

theorem tickRes_ofSansSc (h : e.sansSc n = d.sansSc n) : e.tickRes = d.tickRes := congrArg (fun x => x.tickRes) h

/-- What a device that differs by the records of a leg leaves once it has landed. -/
theorem landed_ofSansSc {s : State} (h : e.sansSc n = (s.dev.begin t).sansSc n) :
    (∀ m, m ≠ n → (s.land t e).dev.leg m = s.dev.leg m) ∧ (s.land t e).dev.triad = s.dev.triad ∧
      s.regsSame (s.land t e) ∧ s.memSame (s.land t e) :=
  ⟨fun _ hm => leg_ofSansSc h hm, congrArg (fun x => x.triad) h, fun a => reg_ofSansSc (d := s.dev.begin t) h a,
    land_memSame (congrArg (fun x => x.wr) h) (congrArg (fun x => x.wipe) h)⟩

theorem forcedLow_ofSansSc (h : e.sansSc n = d.sansSc n) (hset : (e.tripOf n).set = (d.tripOf n).set)
    (heng : (e.leg n).engOff = (d.leg n).engOff) : e.forcedLow n = d.forcedLow n := by
  have hgroup : e.groupOf n = d.groupOf n := congrArg (fun x => x.groupOf n) h
  have hgrp (g : Nat) : e.grp g = d.grp g := congrArg (fun x => x.grp g) h
  have hdev : e.pw.dev = d.pw.dev := congrArg (fun x => x.pw.dev) h
  have htripped : e.legTripped n = d.legTripped n := by simp only [Dev.legTripped, hset, hgroup, hgrp, hdev]
  have hlegs (k : Nat) : e.engLegs k = d.engLegs k := congrArg (fun x => x.engLegs k) h
  have hheld : e.engHeld n = d.engHeld n := by simp only [Dev.engHeld, heng, flag_ofSansSc h, get_ofSansSc h, hlegs]
  have hseq : e.seqHeld n = d.seqHeld n := congrArg (fun x => x.seqHeld n) h
  have hforced : e.allForced = d.allForced := congrArg (fun x => x.allForced) h
  simp only [Dev.forcedLow, htripped, get_ofSansSc h, flag_ofSansSc h, hheld, hseq, hforced]

end

/-! ## Layer 1 (R208) -/

section
variable {n t : Nat} {pos high : Bool} {d : Dev}

/-- The leg once layer 1 has ended the interval of a switch. -/
def Leg.limited (c : LegCfg) (high : Bool) (off : Nat) (l : Leg) : Leg :=
  { if high then (l.offHs c off).schedule false (off + c.dtHL) else (l.offLs c off).schedule true (off + c.dtLH) with
    refresh := none, dropping := false, cbcPeriod := true }

theorem Leg.limited_fields (c : LegCfg) (off : Nat) (l : Leg) (hopp : (if high then l.ls else l.hs) = false) :
    (l.limited c high off).hs = false ∧ (l.limited c high off).ls = false ∧
      (l.limited c high off).turnOn.any (fun x => x.high == !high) = true ∧ (l.limited c high off).cbcPeriod = true := by
  cases high
  · have hhs : (l.offLs c off).hs = false := (Leg.offLs_hs_eq c off l).trans hopp
    exact ⟨(Leg.schedule_hs _ _ _).trans hhs, (Leg.schedule_ls _ _ _).trans (Leg.offLs_ls _ _ _),
      Leg.schedule_any true _ (l.offLs c off) hhs, rfl⟩
  · have hls : (l.offHs c off).ls = false := (Leg.offHs_ls c off l).trans hopp
    exact ⟨(Leg.schedule_hs _ _ _).trans (Leg.offHs_hs _ _ _), (Leg.schedule_ls _ _ _).trans hls,
      Leg.schedule_any false _ (l.offHs c off) hls, rfl⟩

theorem layer1_eq : d.layer1 n high t =
    (if (d.leg n).cbcPeriod then d.setLeg n ((d.leg n).limited (d.legCfg n) high (d.nextTick t))
      else (d.setLeg n ((d.leg n).limited (d.legCfg n) high (d.nextTick t))).count (pLEG n) LEG.CNT_PROT_CBC_COUNT).raise
      (pLEG n) LEG.IRQ_RAW_CBC := (rfl)

theorem layer1_frame : d.LegFrame n (d.layer1 n high t) := by
  rw [layer1_eq]
  exact Dev.Frame.trans (.ite (fun _ => Dev.LegFrame.setLeg _)
    (fun _ => (Dev.LegFrame.setLeg _).trans (Dev.LegFrame.put _ _ _ _))) (Dev.LegFrame.put _ _ _ _)

theorem layer1_leg (hn : n < 48) :
    (d.layer1 n high t).leg n = (d.leg n).limited (d.legCfg n) high (d.nextTick t) := by
  rw [layer1_eq, Dev.raise_eq, putAt_leg]
  split
  · exact leg_setLeg_same _ d hn
  · rw [Dev.count_eq, putAt_leg]
    exact leg_setLeg_same _ d hn

theorem layer1_reports : (d.layer1 n high t).getAt (pLEG n) LEG.IRQ_RAW_CBC 0 = 1 := by
  rw [layer1_eq, Dev.raise_eq, getAt_putAt_fits _ (by decide) (by decide)]

theorem scLo_blanked (h : d.blanked n t = true) : d.scLo n pos t = d := by
  unfold Dev.scLo
  exact if_pos h

/-- Outside blanking with layer 1 enabled, the conducting switch of an SC_LO is limited. -/
theorem scLo_limits (hblank : d.blanked n t = false) (hcbc : (d.legCfg n).cbc = true)
    (hon : (if pos then (d.leg n).hs else (d.leg n).ls) = true) (hlow : pos = false → d.forcedLow n = false) :
    d.scLo n pos t = d.layer1 n pos t := by
  unfold Dev.scLo
  cases pos
  · simp_all
  · simp_all

end

/-! ## SC_LO (R206 to R208) -/

section
variable {n : Fin 48} {t : Nat} {v : Int} {d : Dev}

/-- The recorded outputs of SC_LO under V_shunt = v. -/
abbrev Dev.scLoRecorded (n : Nat) (v : Int) (t : Nat) (d : Dev) : Dev :=
  d.scRecorded n false (d.scSee n false v).1 (d.scSee n false v).2.1 v t

theorem scLoSee_pos (hwas : (d.leg n).scLoPos = false) (h : d.scTol n false true ≤ d.scDepth n false true false v) :
    d.scLoSee n v t = (d.scLoRecorded n v t).scLo n true t := by
  have hsee : (d.scSee n false v).1 = true := scSee_on (pos := true) h
  exact if_pos (by simp [hsee, hwas])

theorem scLoSee_neg (hwas : (d.leg n).scLoNeg = false)
    (hpos : d.scDepth n false true (d.leg n).scLoPos v < -d.scTol n false true)
    (h : d.scTol n false false ≤ d.scDepth n false false false v) :
    d.scLoSee n v t = (d.scLoRecorded n v t).scLo n false t := by
  have hsee : (d.scSee n false v).2.1 = true := scSee_on (pos := false) h
  have hoff : (d.scSee n false v).1 = false := scSee_off (pos := true) hpos
  exact (if_neg (by simp [hoff])).trans (if_pos (by simp [hsee, hwas]))

theorem blanked_recorded {hi p q : Bool} : (d.scRecorded n hi p q v t).blanked n t = d.blanked n t := by
  simp only [Dev.blanked, Leg.blanked, scRecorded_leg n.isLt, Leg.withSc_blanks, tickRes_ofSansSc scRecorded_sansSc]

/-- Inside a blanking window SC_LO is recorded and does nothing more. -/
theorem scLoSee_blanked (h : d.blanked n t = true) : d.scLoSee n v t = d.scLoRecorded n v t := by
  have hrecorded : (d.scLoRecorded n v t).blanked n t = true := blanked_recorded.trans h
  have hnone (pos : Bool) : (d.scLoRecorded n v t).scLo n pos t = d.scLoRecorded n v t := scLo_blanked hrecorded
  unfold Dev.scLoSee
  dsimp only
  rw [hnone, hnone]
  split_ifs
  all_goals rfl

end

section
variable (n : Fin 48) (t : Nat) (v : Int) (s : State)

theorem exec_scLoActive : exec (.scLoActive n v t) s = .next (s.land t ((s.dev.begin t).scLoSee n v t)) := (rfl)
theorem exec_scRelease (hi : Bool) : exec (.scRelease n hi v t) s = .next (s.land t ((s.dev.begin t).scFall n hi v t)) := (rfl)
theorem exec_blankingEnd : exec (.blankingEnd n t) s = .next (s.land t ((s.dev.begin t).blankEnd n t)) := (rfl)

variable {n t v s}

/-- What an act on a leg leaves after a record of that leg, once it has landed. -/
theorem legFrame_landed {e f : Dev} (hsans : e.sansSc n = (s.dev.begin t).sansSc n) (hf : e.LegFrame n f) :
    (s.land t f).dev.tripOf n = e.tripOf n ∧ (∀ m, m ≠ n.val → (s.land t f).dev.leg m = s.dev.leg m) ∧
      (s.land t f).dev.triad = s.dev.triad ∧ s.memSame (s.land t f) :=
  ⟨hf.field (fun x => x.tripOf n) (fun _ => rfl),
    fun _ hm => (hf.leg_other hm).trans (leg_ofSansSc (d := s.dev.begin t) hsans hm),
    hf.triad.trans (congrArg (fun x => x.triad) hsans), land_memSame
      ((hf.field (fun x => x.wr) (fun _ => rfl)).trans (congrArg (fun x => x.wr) hsans))
      ((hf.field (fun x => x.wipe) (fun _ => rfl)).trans (congrArg (fun x => x.wipe) hsans))⟩

/-- What layer 1 does to a leg and leaves, once it has landed (R208). -/
theorem layer1_landed {e : Dev} {high : Bool} (hsans : e.sansSc n = (s.dev.begin t).sansSc n)
    (hopp : (if high then (e.leg n).ls else (e.leg n).hs) = false) {s' : State} (h : s.land t (e.layer1 n high t) = s') :
    (s'.dev.leg n).hs = false ∧ (s'.dev.leg n).ls = false ∧ (s'.dev.leg n).turnOn.any (fun x => x.high == !high) = true ∧
      (s'.dev.leg n).cbcPeriod = true ∧ s'.dev.flag (pLEG n) LEG.IRQ_RAW_CBC = true ∧ s'.dev.tripOf n = e.tripOf n ∧
      (∀ m, m ≠ n.val → s'.dev.leg m = s.dev.leg m) ∧ s'.dev.triad = s.dev.triad ∧ s.memSame s' := by
  subst h
  have hframe : e.LegFrame n (e.layer1 n high t) := layer1_frame
  obtain ⟨hhs, hls, hturn, hperiod⟩ := Leg.limited_fields (e.legCfg n) (e.nextTick t) (e.leg n) hopp
  obtain ⟨htrip, hother, htriad, hmem⟩ := legFrame_landed hsans hframe
  rw [land_leg, layer1_leg n.isLt]
  refine ⟨hhs, hls, hturn, hperiod, ?_, htrip, hother, htriad, hmem⟩
  rw [Dev.flag_eq, land_getAt, layer1_reports]
  rfl

/-- An SC_LO that layer 1 takes up turns its switch off and schedules the other (R208). -/
theorem scLoActive_limits (pos : Bool)
    (hsee : (s.dev.begin t).scLoSee n v t = ((s.dev.begin t).scLoRecorded n v t).scLo n pos t)
    (hblank : s.dev.blanked n t = false) (hcbc : (s.dev.legCfg n).cbc = true)
    (hon : (if pos then (s.dev.leg n).hs else (s.dev.leg n).ls) = true)
    (hopp : (if pos then (s.dev.leg n).ls else (s.dev.leg n).hs) = false) (hlow : pos = false → s.dev.forcedLow n = false) :
    ∃ s', exec (.scLoActive n v t) s = .next s' ∧ (s'.dev.leg n).hs = false ∧ (s'.dev.leg n).ls = false ∧
      (s'.dev.leg n).turnOn.any (fun x => x.high == !pos) = true ∧ (s'.dev.leg n).cbcPeriod = true ∧
      s'.dev.flag (pLEG n) LEG.IRQ_RAW_CBC = true ∧ (s'.dev.tripOf n).set = (s.dev.tripOf n).set ∧
      (∀ m, m ≠ n.val → s'.dev.leg m = s.dev.leg m) ∧ s'.dev.triad = s.dev.triad ∧ s.memSame s' := by
  obtain ⟨e, he⟩ : ∃ e, (s.dev.begin t).scLoRecorded n v t = e := ⟨_, rfl⟩
  have hsans : e.sansSc n = (s.dev.begin t).sansSc n := by rw [← he]; exact scRecorded_sansSc
  have hleg : ∃ p q, e.leg n = (s.dev.leg n).withSc false p q := ⟨_, _, by rw [← he]; exact scRecorded_leg n.isLt⟩
  have hset : (e.tripOf n).set = (s.dev.tripOf n).set := by rw [← he]; exact scRecorded_tripSet n.isLt
  have hblank' : e.blanked n t = false := by rw [← he]; exact blanked_recorded.trans hblank
  obtain ⟨p, q, hleg⟩ := hleg
  have hcbc' : (e.legCfg n).cbc = true := by rw [legCfg_ofSansSc hsans]; exact hcbc
  have hlow' (hb : pos = false) : e.forcedLow n = false :=
    (forcedLow_ofSansSc hsans hset ((congrArg Leg.engOff hleg).trans (Leg.withSc_engOff _))).trans (hlow hb)
  have hswitches := (congrArg Leg.switches hleg).trans (Leg.withSc_switches _)
  have hhs : (e.leg n).hs = (s.dev.leg n).hs := congrArg Prod.fst hswitches
  have hls : (e.leg n).ls = (s.dev.leg n).ls := congrArg (fun x => x.2.1) hswitches
  refine ⟨_, exec_scLoActive n t v s, ?_⟩
  rw [hsee, he, scLo_limits hblank' hcbc' (by rw [hhs, hls]; exact hon) hlow']
  obtain ⟨hhs', hls', hturn, hperiod, hcbcFlag, htrip, hrest⟩ :=
    layer1_landed (high := pos) hsans (by rw [hhs, hls]; exact hopp) rfl
  exact ⟨hhs', hls', hturn, hperiod, hcbcFlag, (congrArg TripLatch.set htrip).trans hset, hrest⟩

/-! ## Levels that are only recorded -/

/-- A comparator that is recorded leaves every switch, every register and memory (R206). -/
theorem landed_recorded {hi p q : Bool} {s' : State} (h : s.land t ((s.dev.begin t).scRecorded n hi p q v t) = s') :
    s'.dev.leg n = (s.dev.leg n).withSc hi p q ∧ (s'.dev.leg n).switches = (s.dev.leg n).switches ∧
      (s'.dev.tripOf n).set = (s.dev.tripOf n).set ∧ (∀ m, m ≠ n.val → s'.dev.leg m = s.dev.leg m) ∧ s.regsSame s' ∧
      s.memSame s' := by
  subst h
  obtain ⟨hother, -, hreg, hmem⟩ := landed_ofSansSc (s := s) (scRecorded_sansSc (n := n) (t := t) (hi := hi) (p := p)
    (q := q) (v := v) (d := s.dev.begin t))
  have hleg := scRecorded_leg (t := t) (hi := hi) (p := p) (q := q) (v := v) (d := s.dev.begin t) n.isLt
  have hset := scRecorded_tripSet (t := t) (hi := hi) (p := p) (q := q) (v := v) (d := s.dev.begin t) n.isLt
  exact ⟨hleg, (congrArg Leg.switches hleg).trans (Leg.withSc_switches _), hset, hother, hreg, hmem⟩

theorem scFall_eq (hi : Bool) (d : Dev) : d.scFall n hi v t = d.scRecorded n hi ((d.scSee n hi v).1 && (d.leg n).scWas hi true)
    ((d.scSee n hi v).2.1 && (d.leg n).scWas hi false) v t := by
  unfold Dev.scFall
  simp only [Leg.scWas, if_true, Bool.false_eq_true, if_false]

theorem seenOut_and (hi pos : Bool) (x : Bool × Bool × Dev) (l : Leg) :
    (if pos then x.1 && l.scWas hi true else x.2.1 && l.scWas hi false) = (seenOut pos x && l.scWas hi pos) := by
  cases pos <;> rfl

/-- V_shunt that has fallen back releases its output and activates none (R206). -/
theorem scRelease_releases (hi pos : Bool)
    (h : s.dev.scDepth n hi pos ((s.dev.leg n).scWas hi pos) v < -s.dev.scTol n hi pos) :
    ∃ s', exec (.scRelease n hi v t) s = .next s' ∧ (s'.dev.leg n).scWas hi pos = false ∧
      ((s'.dev.leg n).scWas hi (!pos) = true → (s.dev.leg n).scWas hi (!pos) = true) ∧
      (s'.dev.leg n).hs = (s.dev.leg n).hs ∧ (s'.dev.leg n).ls = (s.dev.leg n).ls ∧
      (s'.dev.tripOf n).set = (s.dev.tripOf n).set ∧ (∀ m, m ≠ n.val → s'.dev.leg m = s.dev.leg m) ∧
      s.regsSame s' ∧ s.memSame s' := by
  have hoff : seenOut pos ((s.dev.begin t).scSee n hi v) = false := scSee_off (d := s.dev.begin t) h
  refine ⟨_, exec_scRelease n t v s hi, ?_⟩
  generalize hs' : s.land t ((s.dev.begin t).scFall n hi v t) = s'
  rw [scFall_eq] at hs'
  obtain ⟨hleg, hswitches, hset, hother, hreg, hmem⟩ := landed_recorded hs'
  refine ⟨?_, ?_, congrArg Prod.fst hswitches, congrArg (fun y => y.2.1) hswitches, hset, hother, hreg, hmem⟩
  · rw [hleg, Leg.withSc_was, seenOut_and, hoff, Bool.false_and]
  · rw [hleg, Leg.withSc_was, seenOut_and]
    exact fun hx => (Bool.and_eq_true_iff.mp hx).2

/-- An SC_LO inside a blanking window is only recorded (R207, R208). -/
theorem scLoActive_blanked (pos : Bool) (hblank : s.dev.blanked n t = true)
    (h : s.dev.scTol n false pos ≤ s.dev.scDepth n false pos false v) :
    ∃ s', exec (.scLoActive n v t) s = .next s' ∧ (s'.dev.leg n).scWas false pos = true ∧
      (s'.dev.leg n).hs = (s.dev.leg n).hs ∧ (s'.dev.leg n).ls = (s.dev.leg n).ls ∧
      (s'.dev.leg n).turnOn = (s.dev.leg n).turnOn ∧
      (s'.dev.tripOf n).set = (s.dev.tripOf n).set ∧ (∀ m, m ≠ n.val → s'.dev.leg m = s.dev.leg m) ∧
      s.regsSame s' ∧ s.memSame s' := by
  have hon : seenOut pos ((s.dev.begin t).scSee n false v) = true := scSee_on (d := s.dev.begin t) h
  refine ⟨_, exec_scLoActive n t v s, ?_⟩
  generalize hs' : s.land t ((s.dev.begin t).scLoSee n v t) = s'
  rw [scLoSee_blanked (d := s.dev.begin t) hblank] at hs'
  obtain ⟨hleg, hswitches, hset, hother, hreg, hmem⟩ := landed_recorded hs'
  exact ⟨(congrArg (Leg.scWas false pos) hleg).trans ((Leg.withSc_was pos _).trans hon), congrArg Prod.fst hswitches,
    congrArg (fun y => y.2.1) hswitches, congrArg (fun y => y.2.2.1) hswitches, hset, hother, hreg, hmem⟩

/-- A blanking window that ends while SC_LO is inactive only ends (R208). -/
theorem blankingEnd_ends {w : Nat × Nat} {ws : List (Nat × Nat)} (hlive : liveBlanks s.dev.tickRes (s.dev.leg n).blanks = w :: ws)
    (hend : ceilTo s.dev.tickRes w.2 ≤ t) (hoff : (s.dev.leg n).scLo = false) :
    ∃ s', exec (.blankingEnd n t) s = .next s' ∧ s'.dev.leg n = { s.dev.leg n with blanks := ws } ∧
      (∀ m, m ≠ n.val → s'.dev.leg m = s.dev.leg m) ∧ s.regsSame s' ∧ s.memSame s' := by
  have hends : (s.dev.begin t).blankEnd n t = (s.dev.begin t).setLeg n { s.dev.leg n with blanks := ws } := by
    have hlive' : liveBlanks (s.dev.begin t).tickRes ((s.dev.begin t).leg n).blanks = w :: ws := hlive
    unfold Dev.blankEnd
    dsimp only
    rw [hlive']
    exact (if_pos hend).trans (if_neg (by rw [Bool.not_eq_true]; exact hoff))
  refine ⟨_, exec_blankingEnd n t s, ?_⟩
  rw [hends]
  obtain ⟨hother, -, hmem⟩ := Dev.LegFrame.landed (n := n) (s := s) (t := t) (Dev.LegFrame.setLeg { s.dev.leg n with blanks := ws })
  exact ⟨leg_setLeg_same _ (s.dev.begin t) n.isLt, hother, fun _ => rfl, hmem⟩

end

/-! ## Gate-state levels (R185, R201) -/

/-- The filtered levels of the feedback of a leg. -/
def Leg.gs (l : Leg) : Bool × Bool := (l.gsHs, l.gsLs)

/-- No leg's filtered feedback levels change. -/
abbrev Dev.KeepsGs (d e : Dev) : Prop := d.Legwise (Leg.gs ⁻¹'o (· = ·)) e

section
variable (c : LegCfg) (high : Bool) (t k : Nat) (l : Leg)

theorem Leg.offBy_gs : (l.offBy c high t).gs = l.gs := by unfold Leg.offBy; split <;> rfl

theorem Leg.offHs_gs : (l.offHs c t).gs = l.gs := by
  unfold Leg.offHs
  split
  · rw [Leg.offBy_gs]; rfl
  · rfl

theorem Leg.offLs_gs : (l.offLs c t).gs = l.gs := by
  unfold Leg.offLs
  split
  · rw [Leg.offBy_gs]; rfl
  · rfl

theorem Leg.bothOff_gs : (l.bothOff c t).gs = l.gs := (Leg.offLs_gs c t _).trans (Leg.offHs_gs c t l)

theorem Leg.schedule_gs : (l.schedule high t).gs = l.gs := by unfold Leg.schedule; split_ifs <;> rfl

theorem Leg.lowOn_gs : (l.lowOn c t k).gs = l.gs := by
  unfold Leg.lowOn
  extract_lets src x y
  have hx : x.gs = l.gs := Leg.offHs_gs c t l
  rw [Leg.schedule_gs]
  unfold y
  split
  · exact hx
  · exact hx

theorem Leg.placed_gs : (l.placed c high t).gs = l.gs := by
  have hon : (l.switchOn c high t).gs = l.gs := by unfold Leg.switchOn; split <;> rfl
  unfold Leg.placed Leg.refreshOn
  rw [← hon]
  split
  all_goals rfl

theorem Leg.Settles.gs {l x : Leg} (h : l.Settles x) : x.gs = l.gs := by
  cases h with
  | off => exact Leg.bothOff_gs _ _ l
  | low => exact Leg.lowOn_gs _ _ _ l
  | waits => exact Leg.bothOff_gs _ _ l
  | realigned => rfl

theorem Leg.Settled.gs {l x : Leg} (h : l.Settled x) : x.gs = l.gs := by
  induction h with
  | refl => rfl
  | tail _ h ih => exact h.gs.trans ih

end

section
variable {n : Nat} {t : Nat} {d : Dev}

theorem trip_keepsGs (hn : n < 48) (cause : Nat) (high : Bool) : d.KeepsGs (d.trip n cause high t) :=
  Dev.Legwise.trans (.ofLegs (tripCore_legs hn cause high t d)) ((settle_legs _ _).mono (fun _ _ h => (Leg.Settled.gs h).symm))

theorem gsChecks_cases (t : Nat) (d : Dev) : d.gsChecks n t = d ∨ ∃ cause, d.gsChecks n t = d.trip n cause false t := by
  unfold Dev.gsChecks
  dsimp only
  split_ifs
  · exact .inr ⟨_, rfl⟩
  · exact .inr ⟨_, rfl⟩
  · exact .inr ⟨_, rfl⟩
  · exact .inl rfl

theorem setLeg_stageFrame (m : Nat) (x : Leg) (d : Dev) : d.StageFrame (d.setLeg m x) := ⟨rfl, fun _ _ => rfl⟩

theorem setGs_stageFrame (hs ls : Bool) (t : Nat) (d : Dev) : d.StageFrame (d.setGs n hs ls t) := ⟨rfl, fun _ _ => rfl⟩

/-- A turn-on leaves the feedback levels, and everything outside the power stage. -/
theorem placeTurnOn_keepsGs (hn : n < 48) (t : Nat) (d : Dev) :
    d.KeepsGs (d.placeTurnOn n t) ∧ d.StageFrame (d.placeTurnOn n t) := by
  cases hturn : (d.leg n).turnOn with
  | none => rw [placeTurnOn_none hturn]; exact ⟨.refl d, .refl _ _ _⟩
  | some x =>
    rw [placeTurnOn_some hturn]
    dsimp only
    have hwait : d.StageFrame ((d.setLeg n { d.leg n with turnOn := some { x with waiting := true } }).count (pLEG n)
        LEG.IL_DELAYS) := by
      refine (setLeg_stageFrame n _ d).trans (putAt_frame _ _ ?_).ofRegs
      simpa only [onPages, addr_zero_page (f := LEG.IL_DELAYS) (by decide)] using powerPage_leg hn
    have hwaitGs : d.KeepsGs (d.setLeg n { d.leg n with turnOn := some { x with waiting := true } }) := .setLeg rfl
    refine ⟨.ite (fun _ => .refl d) (fun _ => .ite (fun _ => .ite (fun _ => .refl d) (fun _ => hwaitGs.then_put))
      (fun _ => .setLeg (Leg.placed_gs _ _ _ _).symm)), ?_⟩
    exact .ite (fun _ => .refl _ _ _) (fun _ => .ite (fun _ => .ite (fun _ => .refl _ _ _) (fun _ => hwait))
      (fun _ => setLeg_stageFrame n _ d))

/-- After a change of the levels, its checks and a turn-on that waited, the levels stand as changed. -/
theorem gsChange_keepsGs (hn : n < 48) (hs ls : Bool) (t : Nat) (d : Dev) :
    (d.setGs n hs ls t).KeepsGs (d.gsChange n hs ls t) ∧ d.StageFrame (d.gsChange n hs ls t) := by
  unfold Dev.gsChange
  generalize hx : d.setGs n hs ls t = x
  have hset : d.StageFrame x := hx ▸ setGs_stageFrame hs ls t d
  have hchecks : x.KeepsGs (x.gsChecks n t) ∧ d.StageFrame (x.gsChecks n t) := by
    obtain h | ⟨cause, h⟩ := gsChecks_cases (n := n) t x
    · rw [h]; exact ⟨.refl x, hset⟩
    · rw [h]; exact ⟨trip_keepsGs hn cause false, hset.trans (trip_stageFrame hn cause false t x)⟩
  obtain ⟨hgs, hframe⟩ := hchecks
  obtain ⟨hplaceGs, hplaceFrame⟩ := placeTurnOn_keepsGs hn t (x.gsChecks n t)
  dsimp only
  split
  · exact ⟨hgs.trans hplaceGs, hframe.trans hplaceFrame⟩
  · exact ⟨hgs, hframe⟩

theorem setGs_gs (hn : n < 48) (hs ls : Bool) (t : Nat) (d : Dev) : ((d.setGs n hs ls t).leg n).gs = (hs, ls) := by
  unfold Dev.setGs
  rw [setTrip_leg, leg_setLeg_same _ d hn]
  rfl

theorem setGs_other {m : Nat} (hm : m ≠ n) (hs ls : Bool) (t : Nat) (d : Dev) : (d.setGs n hs ls t).leg m = d.leg m :=
  (setTrip_leg _ _ _ _).trans (leg_setLeg_ne _ d hm)

/-- What a change of the levels of leg n leaves of the levels and of everything outside the power stage. -/
theorem gsChange_levels (hn : n < 48) {hs ls : Bool} {e : Dev} (h : d.gsChange n hs ls t = e) :
    (e.leg n).gs = (hs, ls) ∧ (∀ m, m ≠ n → (e.leg m).gs = (d.leg m).gs) ∧ d.StageFrame e := by
  subst h
  obtain ⟨hgs, hframe⟩ := gsChange_keepsGs hn hs ls t d
  exact ⟨(hgs n).symm.trans (setGs_gs hn hs ls t d),
    fun m hm => (hgs m).symm.trans (congrArg Leg.gs (setGs_other hm hs ls t d)), hframe⟩

/-- The levels of a leg once one of its pins has shown a level: the pins exchange under PIN_SWAP (R185). -/
theorem gsLevel_accepted {hsPin level : Bool} {since : Nat} (h : d.gsAccepts n since t = true) :
    d.gsLevel n hsPin level since t = d.gsChange n (if hsPin != (d.legCfg n).pinSwap then level else (d.leg n).gsHs)
      (if hsPin != (d.legCfg n).pinSwap then (d.leg n).gsLs else level) t := by
  unfold Dev.gsLevel
  dsimp only
  rw [if_neg (by simp [h])]
  split
  · rfl
  · rfl

theorem gsLevel_rejected {hsPin level : Bool} {since : Nat} (h : d.gsAccepts n since t = false) :
    d.gsLevel n hsPin level since t = d := by
  unfold Dev.gsLevel
  exact if_pos (by simp [h])

end

section
variable (n : Fin 48) (hsPin level : Bool) (since t : Nat) (s : State)

theorem exec_gsLevelAccepted :
    exec (.gsLevelAccepted n hsPin level since t) s = .next (s.land t ((s.dev.begin t).gsLevel n hsPin level since t)) := (rfl)

/-- An accepted level is recorded for the switch of its pin (R185, R201). -/
theorem gsLevelAccepted_records (h : s.dev.gsAccepts n since t = true) :
    ∃ s', exec (.gsLevelAccepted n hsPin level since t) s = .next s' ∧
      (if hsPin != (s.dev.legCfg n).pinSwap then
        (s'.dev.leg n).gsHs = level ∧ (s'.dev.leg n).gsLs = (s.dev.leg n).gsLs
       else (s'.dev.leg n).gsLs = level ∧ (s'.dev.leg n).gsHs = (s.dev.leg n).gsHs) ∧
      (∀ m, m ≠ n.val → (s'.dev.leg m).gsHs = (s.dev.leg m).gsHs ∧ (s'.dev.leg m).gsLs = (s.dev.leg m).gsLs) ∧
      s'.dev.triad = s.dev.triad ∧ s.memSame s' := by
  refine ⟨_, exec_gsLevelAccepted n hsPin level since t s, ?_⟩
  rw [gsLevel_accepted (d := s.dev.begin t) h]
  generalize he : (s.dev.begin t).gsChange n _ _ t = e
  obtain ⟨hown, hother, hframe⟩ := gsChange_levels n.isLt he
  refine ⟨?_, fun m hm => ⟨congrArg Prod.fst (hother m hm), congrArg Prod.snd (hother m hm)⟩,
    hframe.field (fun x => x.triad) (fun _ => rfl),
    land_memSame (hframe.field (fun x => x.wr) (fun _ => rfl)) (hframe.field (fun x => x.wipe) (fun _ => rfl))⟩
  have hhs := congrArg Prod.fst hown
  have hls := congrArg Prod.snd hown
  split
  · next hpin => exact ⟨hhs.trans (if_pos hpin), hls.trans (if_pos hpin)⟩
  · next hpin => exact ⟨hls.trans (if_neg hpin), hhs.trans (if_neg hpin)⟩

/-- A level that the filter has not accepted changes nothing (R201). -/
theorem gsLevelAccepted_waits (h : s.dev.gsAccepts n since t = false) :
    ∃ s', exec (.gsLevelAccepted n hsPin level since t) s = .next s' ∧ s'.dev.units = s.dev.units ∧ s.regsSame s' ∧
      s.memSame s' := by
  refine ⟨_, exec_gsLevelAccepted n hsPin level since t s, ?_⟩
  rw [gsLevel_rejected (d := s.dev.begin t) h]
  exact land_begin_same t t s

end

/-- Settles O33: each kind of level by its own lemma. -/
theorem levelsThatDoNotTrip : Obligations.LevelsThatDoNotTrip := by
  unfold Obligations.LevelsThatDoNotTrip
  refine ⟨fun n v t s hblank hcbc hhs hls hwas hdepth => ?_, fun n v t s hblank hcbc hls hhs hwas hlow hpos hdepth => ?_,
    fun n hi pos v t s => ?_, fun n pos v t s hblank hdepth => ?_, fun n t w ws s => blankingEnd_ends,
    fun n hsPin level since t s => gsLevelAccepted_records n hsPin level since t s,
    fun n hsPin level since t s => gsLevelAccepted_waits n hsPin level since t s⟩
  · have h := scLoActive_limits true (scLoSee_pos (d := s.dev.begin t) hwas hdepth) hblank hcbc hhs hls
      (fun hf => absurd hf Bool.true_eq_false_eq_False)
    simpa only [Bool.not_true, beq_false] using h
  · have h := scLoActive_limits false (scLoSee_neg (d := s.dev.begin t) hwas hpos hdepth) hblank hcbc hls hhs (fun _ => hlow)
    simpa only [Bool.not_false, beq_true] using h
  · exact scRelease_releases hi pos
  · exact scLoActive_blanked pos hblank hdepth

end Sys2Proof.Machine
end
